-- ==== Sys2Proof/Word.lean ====
section
/-! DEFINITION. The plainest types of the model: a byte, a 32-bit word of a Drevy core, a field of bytes.
Helpers that read or write them stand in Machine/Bytes.lean, where a repair may mend them. -/

namespace Sys2Proof

/-- One byte of memory, of a record or of a wire format. -/
abbrev Byte := BitVec 8

/-- One 32-bit word of a Drevy core. -/
abbrev W32 := BitVec 32

/-- A run of bytes, the one at the lowest address first. -/
abbrev Bytes := List Byte

end Sys2Proof
end

