-- ==== Sys2Proof/Wire.lean ====
section
/-! DEFINITION. The operand shapes that several commands share: a dictionary request, a ZT packet, a message of a
group or of a snapshot set, a TLP, a cipher request, an error pin, a firmware image. -/

namespace Sys2Proof

/-- A Steral request as it reaches the dictionary (R624 to R630).  `transport` is 0 for I3C, 1 for the management
port in a secured session, 2 for the management port outside one, 3 for the mailbox of function 0, 4 for the mailbox
of a virtual function, 5 for the ZX9's own firmware; `source` tells requesters of one transport apart. -/
structure ActReq where
  transport : Nat
  source : Nat
  version : Nat
  tag : Nat
  cabinet : Nat
  sub : Nat
  value : Bytes
  deriving DecidableEq, Repr

/-- One raised request at a shared resource (R31 to R35): its position at the arbiter, its class (0 urgent, 1 normal,
2 background), the length of its transfer in pre-emption granules, and whether it reached the arbiter in this very
handshake. -/
structure ArbRequest where
  position : Nat
  cls : Nat
  granules : Nat
  arrives : Bool
  deriving DecidableEq, Repr

/-- A value that a sender places in a crossing, and the unit it is addressed to (R27, R29). -/
structure CrossingValue where
  target : Nat
  value : Nat
  deriving DecidableEq, Repr

/-- A received ZT packet (R283 to R294): the connection its header names, its header fields, whether its tag verifies
under the key of its generation, and the plaintext of its type header and payload. -/
structure ZtIn where
  conn : Nat
  srcConn : Nat
  srcIp : Bytes
  version : Nat
  flags : Nat
  keyGen : Nat
  seqNo : BitVec 32
  attempt : Nat
  auth : Bool
  body : Bytes
  deriving DecidableEq, Repr, Inhabited

/-- A message of the collective channel (R353, R354) that a member has received whole and in order. -/
structure GroupIn where
  slot : Nat
  sender : Nat
  groupId : Nat
  epoch : Nat
  opSeq : Nat
  opcode : Nat
  level : Nat
  shard : Nat
  chunk : Nat
  shapeCheck : BitVec 32
  body : Bytes
  deriving DecidableEq, Repr

/-- A message of the snapshot channel (R393 to R395) that a member has received whole and in order. -/
structure SnapIn where
  slot : Nat
  sender : Nat
  epoch : Nat
  step : Nat
  arg : Nat
  body : Bytes
  deriving DecidableEq, Repr

/-- An inbound transaction-layer packet at an accelerator port (R479, R480).  `kind` is 0 memory write, 1 memory read,
2 FetchAdd, 3 Swap, 4 CAS; `addrType` is its AT field; `len` counts the bytes read, or those of an AtomicOp's operand. -/
structure Tlp where
  port : Nat
  kind : Nat
  addrType : Nat
  addr : Nat
  tag : Nat
  len : Nat
  data : Bytes
  poisoned : Bool
  ideStream : Nat
  ideOk : Bool
  deriving DecidableEq, Repr

/-- A cipher request as a stream presents it (R540, R541), with the started command it serves, if any. -/
structure CipherIn where
  stream : Nat
  cabinet : Nat
  slot : Nat
  op : Nat
  src : Nat
  dst : Nat
  len : Nat
  iv : Nat
  ctx : Option Nat
  deriving DecidableEq, Repr

/-- An error pin that rises (R595 to R600), with what its source captures. -/
structure ErrorIn where
  source : Nat
  severity : Nat
  address : Nat
  master : Nat
  access : Nat
  privilegedAccess : Bool
  causeCode : Nat
  deriving DecidableEq, Repr

/-- What a stored firmware image turns out to be when it is checked (R551, R553). -/
structure FlashIn where
  headerOk : Bool
  digestOk : Bool
  rsaOk : Bool
  slhOk : Bool
  release : Nat
  svn : Nat
  digest : Bytes
  deriving DecidableEq, Repr

/-- One record found in a namespace's journal when its backing connects (R498): its SEQ and SLBA, whether its DIGEST
verifies, and its ciphertext. -/
structure JournalRec where
  seqNo : Nat
  slba : Nat
  tagOk : Bool
  data : Bytes
  deriving DecidableEq, Repr

end Sys2Proof
end

