-- ==== Sys2Proof/Syntax.lean ====
section
/-! DEFINITION. The commands of the block: one constructor for each row of the table of operations and events
(spec/opcode_table.json), in the table's order.  The table gives its rows no operand fields, so the operands are the
model's own reading of the rule each row names (notes/assumptions/1.md). -/

namespace Sys2Proof

/-- One command sent to the ZX9, or one event that its rules describe as a step of their own. -/
inductive Instr where
  /-- MEASURED_RATE_UPDATE (R18). Every 10 µs each quadrant's rate monitor publishes the steps counted over the last 10 µs as its measured rate. -/
  | measuredRateUpdate (steps : List Nat)
  /-- MIN_RATE_UPDATE (R18). Every 1 ms the ZX9 publishes the minimum measured rate of each quadrant over the last 1 ms. -/
  | minRateUpdate
  /-- RATE_FLOOR (R17). A quadrant's measured rate has stayed below 1.45 G steps/s for 100 µs while R14's conditions hold, so a non-fatal RATE_FLOOR fault is reported. -/
  | rateFloor (quadrant : Nat)
  /-- COMMIT_WINDOW_BOUNDARY (R21). At the end of a commitment window the ZX9 sets each quadrant's new committed rate and applies any new window length. -/
  | commitWindowBoundary
  /-- CROSSING_TRANSFER (R27). A value placed in a crossing's holding register is delivered to the other timing domain and acknowledged, which frees the register for the next value. -/
  | crossingTransfer (crossing : Nat) (next : Option CrossingValue)
  /-- CROSSING_HANG (R30). A crossing acknowledge has not returned within 100 µs, so a crossing hang is reported and the reset ladder applies. -/
  | crossingHang (crossing : Nat)
  /-- ARBITER_GRANT (R31). An arbiter grants a shared resource to one waiting requester by class and rotating priority, resuming any pre-empted transfer at its kept progress count. -/
  | arbiterGrant (arbiter : Nat) (raised : List ArbRequest)
  /-- SQ_TAIL (R56). A doorbell write of SQ_TAIL records new ready records of a submission queue, or is ignored and counted when malformed. -/
  | sqTail (cabinet : Nat) (queue : Nat) (tail : Nat)
  /-- CQ_HEAD (R53). A doorbell write of CQ_HEAD frees completion slots, lets waiting completion records be written and retries held records under R673. -/
  | cqHead (cabinet : Nat) (queue : Nat) (head : Nat)
  /-- RESET (R82). A 1 written to the RESET bit of a submission queue's doorbell page starts a queue reset without completion-queue reset. -/
  | reset (cabinet : Nat) (queue : Nat)
  /-- RESUME (R78). A 1 written to the RESUME bit moves a HALTED submission queue back to RUNNING. -/
  | resume (cabinet : Nat) (queue : Nat)
  /-- SET (R64). A signal-page OP write of SET applies the requester's latched value to the latched sync object after its earlier posted writes are visible. -/
  | set (cabinet : Nat) (requester : Nat)
  /-- ADD (R64). A signal-page OP write of ADD adds the latched value to the sync object, modulo 2^64. -/
  | add (cabinet : Nat) (requester : Nat)
  /-- MAX (R64). A signal-page OP write of MAX sets the sync object to the unsigned maximum of its value and the latched value. -/
  | max (cabinet : Nat) (requester : Nat)
  /-- OR (R64). A signal-page OP write of OR ORs the latched value into the sync object. -/
  | or (cabinet : Nat) (requester : Nat)
  /-- SET_ERROR (R64). A signal-page OP write of SET_ERROR sets the sync object's error flag. -/
  | setError (cabinet : Nat) (requester : Nat)
  /-- CLEAR_ERROR (R64). A signal-page OP write of CLEAR_ERROR clears the sync object's error flag. -/
  | clearError (cabinet : Nat) (requester : Nat)
  /-- HEAD_RECORD_READ_FAILURE (R672). The read of the record at HEAD fails, so the queue halts without a completion record and LAST_STATUS names the cause. -/
  | headRecordReadFailure (queue : Nat)
  /-- COMMAND_ADMISSION (R574). At a ready event, a completion or a window start, the scheduler admits ready commands whose wait holds, whose class may start and whose charge fits the budget, and starts them. -/
  | commandAdmission (queue : Nat)
  /-- COMMAND_COMPLETION (R65). A started command finishes, applies its signal or sets its error flag, and writes its completion record unless it is QUIET with OK or its completion queue is full. -/
  | commandCompletion (ctx : Nat)
  /-- WAIT_DEADLINE (R72). A command's wait deadline expires, so it completes with WAIT_DEADLINE, its queue halts and context-level recovery releases its resources. -/
  | waitDeadline (queue : Nat)
  /-- NOP (R87). Control command that does nothing but its wait and signal. -/
  | nop (ctx : Nat)
  /-- SYNC_ONLY (R87). Control command that performs only its wait and signal. -/
  | syncOnly (ctx : Nat)
  /-- FLUSH (R80). Control command that completes once every earlier command of its queue, or of its cabinet, has completed or dropped out. -/
  | flush (ctx : Nat)
  /-- NEGOTIATE (R104). Control command that chooses the cabinet's contract version from the requested range. -/
  | negotiate (ctx : Nat)
  /-- QUEUE_CREATE (R90). Control command that allocates a submission or completion queue and returns its handle and doorbell page. -/
  | queueCreate (ctx : Nat)
  /-- QUEUE_DELETE (R84). Control command that moves a queue to DELETING, discarding its unfinished commands. -/
  | queueDelete (ctx : Nat)
  /-- QUEUE_RESET (R82). Control command that resets a submission queue, optionally with its completion queue, discarding unstarted commands. -/
  | queueReset (ctx : Nat)
  /-- QUEUE_RESUME (R78). Control command that resumes a HALTED queue. -/
  | queueResume (ctx : Nat)
  /-- QUEUE_QUERY (R91). Control command that writes a 16-byte entry for each configured queue of the cabinet into a buffer. -/
  | queueQuery (ctx : Nat)
  /-- SYNC_ALLOC (R87). Control command that allocates a sync object with an initial value and optional mirror address. -/
  | syncAlloc (ctx : Nat)
  /-- SYNC_FREE (R87). Control command that frees an unwaited sync object. -/
  | syncFree (ctx : Nat)
  /-- SYNC_SET (R87). Control command that sets a sync object's value and clears its error flag together. -/
  | syncSet (ctx : Nat)
  /-- QUEUE_RESET_COMPLETE (R82). Every command of a RESETTING queue has completed or been discarded, so the queue returns to RUNNING with HEAD and SQ_TAIL 0, or a deleting queue becomes UNCONFIGURED. -/
  | queueResetComplete (queue : Nat)
  /-- QUEUE_RESET_TIMEOUT (R83). A queue reset is still incomplete at 1 ms and escalates to the engine rung. -/
  | queueResetTimeout (queue : Nat)
  /-- CIRCLE_SCAN (R100). Every 100 ms firmware walks the wait graph and reports each circle it finds. -/
  | circleScan
  /-- HOST_LEASE_RENEW (R92). Act entry that arms or renews a function's host lease. -/
  | hostLeaseRenew (req : ActReq)
  /-- HOST_LEASE_RELEASE (R92). Act entry that releases an ARMED host lease and fences the function's host DMA. -/
  | hostLeaseRelease (req : ActReq)
  /-- ADOPT (R95). Act entry that lifts a host-lease fence, flushes shadow rings and held mirrors, and sends pending MSI-X messages. -/
  | adopt (req : ActReq)
  /-- HOST_LEASE_EXPIRY (R92). An ARMED lease reaches its expiry, so the lease becomes EXPIRED and the function's host DMA is fenced within 1 µs. -/
  | hostLeaseExpiry (cabinet : Nat)
  /-- QUANTIZE (R167). Transform command that decodes a source and encodes it into a narrow or BF16 destination with optional error feedback. -/
  | quantize (ctx : Nat)
  /-- DEQUANTIZE (R168). Transform command that decodes a source into BF16 or FP32. -/
  | dequantize (ctx : Nat)
  /-- ESCALATE (R169). Transform command that rewrites a ZN tensor at a wider base format. -/
  | escalate (ctx : Nat)
  /-- REDUCE (R170). Transform command that sums N sources in list order and encodes the result. -/
  | reduce (ctx : Nat)
  /-- SUM_SQUARES (R171). Transform command that computes the FP32 sum of squares of a tensor in fixed lanes. -/
  | sumSquares (ctx : Nat)
  /-- ADAMW (R175). Transform command that applies an AdamW update in place to weights and moments. -/
  | adamw (ctx : Nat)
  /-- LION (R175). Transform command that applies a Lion update in place. -/
  | lion (ctx : Nat)
  /-- SGD_MOMENTUM (R175). Transform command that applies an SGD with momentum update in place. -/
  | sgdMomentum (ctx : Nat)
  /-- FACTORED (R175). Transform command that applies a factored second-moment update in two passes. -/
  | factored (ctx : Nat)
  /-- BLOCK_SCORE (R182). Transform command that scores sequence blocks against a query and selects the top blocks. -/
  | blockScore (ctx : Nat)
  /-- ADAPTER_APPLY (R185). Transform command that forms tuned weights from base weights and a dense or low-rank adapter. -/
  | adapterApply (ctx : Nat)
  /-- KERNEL_LAUNCH (R187). Transform command that verifies a Urisk kernel image and runs its instances on the tiles. -/
  | kernelLaunch (ctx : Nat)
  /-- SELFCHECK_RUN (R191). Act entry that drains the Transform engine and reruns the numeric self-check on every tile. -/
  | selfcheckRun (req : ActReq)
  /-- SELFCHECK_COMPLETE (R190). The tiles finish the reference set, matching tiles go online and differing tiles go offline. -/
  | selfcheckComplete (matching : BitVec 64)
  /-- ACCUMULATION_OPEN (R154). An ordered accumulation obtains its order-share reservation and opens. -/
  | accumulationOpen (group : Nat) (opSeq : Nat) (shard : Nat) (chunk : Nat) (level : Nat)
  /-- WORD_ISSUE (R200). A Drevy core issues one instruction word, checking the distance rules and applying its moves at the end of the word. -/
  | wordIssue (core : Nat)
  /-- ADD_TRIGGER (R204). Integer ALU trigger ADD: RES := O0 + t. -/
  | addTrigger (core : Nat) (alu : Nat) (t : BitVec 32)
  /-- SUB (R204). Integer ALU trigger SUB: RES := O0 − t. -/
  | sub (core : Nat) (alu : Nat) (t : BitVec 32)
  /-- AND (R204). Integer ALU trigger AND. -/
  | and (core : Nat) (alu : Nat) (t : BitVec 32)
  /-- OR_TRIGGER (R204). Integer ALU trigger OR. -/
  | orTrigger (core : Nat) (alu : Nat) (t : BitVec 32)
  /-- XOR (R204). Integer ALU trigger XOR. -/
  | xor (core : Nat) (alu : Nat) (t : BitVec 32)
  /-- SHL (R204). Integer ALU trigger shift left. -/
  | shl (core : Nat) (alu : Nat) (t : BitVec 32)
  /-- SHR (R204). Integer ALU trigger logical shift right. -/
  | shr (core : Nat) (alu : Nat) (t : BitVec 32)
  /-- SAR (R204). Integer ALU trigger arithmetic shift right. -/
  | sar (core : Nat) (alu : Nat) (t : BitVec 32)
  /-- EQ (R204). Integer ALU trigger equality test. -/
  | eq (core : Nat) (alu : Nat) (t : BitVec 32)
  /-- NE (R204). Integer ALU trigger inequality test. -/
  | ne (core : Nat) (alu : Nat) (t : BitVec 32)
  /-- LTS (R204). Integer ALU trigger signed less-than test. -/
  | lts (core : Nat) (alu : Nat) (t : BitVec 32)
  /-- LTU (R204). Integer ALU trigger unsigned less-than test. -/
  | ltu (core : Nat) (alu : Nat) (t : BitVec 32)
  /-- MINS (R204). Integer ALU trigger signed minimum. -/
  | mins (core : Nat) (alu : Nat) (t : BitVec 32)
  /-- MAXS (R204). Integer ALU trigger signed maximum. -/
  | maxs (core : Nat) (alu : Nat) (t : BitVec 32)
  /-- CARRY (R204). Integer ALU trigger carry out of O0 + t. -/
  | carry (core : Nat) (alu : Nat) (t : BitVec 32)
  /-- PASS (R204). Integer ALU trigger that passes the trigger value to RES. -/
  | pass (core : Nat) (alu : Nat) (t : BitVec 32)
  /-- MULLO (R205). Multiply trigger giving the low 32 bits of the product. -/
  | mullo (core : Nat) (t : BitVec 32)
  /-- MULHS (R205). Multiply trigger giving the high 32 bits of the signed product. -/
  | mulhs (core : Nat) (t : BitVec 32)
  /-- MULHU (R205). Multiply trigger giving the high 32 bits of the unsigned product. -/
  | mulhu (core : Nat) (t : BitVec 32)
  /-- FADD (R206). FPU trigger FP32 add. -/
  | fadd (core : Nat) (t : BitVec 32)
  /-- FSUB (R206). FPU trigger FP32 subtract. -/
  | fsub (core : Nat) (t : BitVec 32)
  /-- FMUL (R206). FPU trigger FP32 multiply. -/
  | fmul (core : Nat) (t : BitVec 32)
  /-- FFMA (R206). FPU trigger fused multiply-add. -/
  | ffma (core : Nat) (t : BitVec 32)
  /-- FMIN (R206). FPU trigger FP32 minimum. -/
  | fmin (core : Nat) (t : BitVec 32)
  /-- FMAX (R206). FPU trigger FP32 maximum. -/
  | fmax (core : Nat) (t : BitVec 32)
  /-- FLT (R206). FPU trigger less-than comparison. -/
  | flt (core : Nat) (t : BitVec 32)
  /-- FEQ (R206). FPU trigger equality comparison. -/
  | feq (core : Nat) (t : BitVec 32)
  /-- I2F (R206). FPU trigger converting a signed integer to FP32. -/
  | i2f (core : Nat) (t : BitVec 32)
  /-- F2I (R206). FPU trigger converting FP32 to a saturating signed integer. -/
  | f2i (core : Nat) (t : BitVec 32)
  /-- F2BF (R206). FPU trigger converting FP32 to BF16. -/
  | f2bf (core : Nat) (t : BitVec 32)
  /-- BF2F (R206). FPU trigger widening BF16 to FP32. -/
  | bf2f (core : Nat) (t : BitVec 32)
  /-- FDIV (R206). FPU trigger FP32 division with latency 10. -/
  | fdiv (core : Nat) (t : BitVec 32)
  /-- FSQRT (R206). FPU trigger FP32 square root with latency 10. -/
  | fsqrt (core : Nat) (t : BitVec 32)
  /-- LD (R208). LX or LY trigger loading from a direct tile SRAM address. -/
  | ld (core : Nat) (bank : Nat) (t : BitVec 32)
  /-- ST (R208). LX or LY trigger storing to a direct tile SRAM address. -/
  | st (core : Nat) (bank : Nat) (t : BitVec 32)
  /-- LDPI (R208). LX or LY post-increment load. -/
  | ldpi (core : Nat) (bank : Nat) (t : BitVec 32)
  /-- STPI (R208). LX or LY post-increment store. -/
  | stpi (core : Nat) (bank : Nat) (t : BitVec 32)
  /-- LDPD (R208). LX or LY pre-decrement load. -/
  | ldpd (core : Nat) (bank : Nat) (t : BitVec 32)
  /-- STPD (R208). LX or LY pre-decrement store. -/
  | stpd (core : Nat) (bank : Nat) (t : BitVec 32)
  /-- LDX (R208). LX or LY scaled-index load. -/
  | ldx (core : Nat) (bank : Nat) (t : BitVec 32)
  /-- STX (R208). LX or LY scaled-index store. -/
  | stx (core : Nat) (bank : Nat) (t : BitVec 32)
  /-- MAC (R210). MAC trigger that fetches one word from each bank, advances the pointers and accumulates into ACCn. -/
  | mac (core : Nat) (t : BitVec 32)
  /-- VADD (R212). VEC trigger starting an asynchronous FP32 vector add. -/
  | vadd (core : Nat) (t : BitVec 32)
  /-- VMUL (R212). VEC trigger starting an asynchronous FP32 vector multiply. -/
  | vmul (core : Nat) (t : BitVec 32)
  /-- VMAX (R212). VEC trigger starting an asynchronous FP32 vector maximum. -/
  | vmax (core : Nat) (t : BitVec 32)
  /-- VFMA (R212). VEC trigger starting an asynchronous FP32 vector fused multiply-add. -/
  | vfma (core : Nat) (t : BitVec 32)
  /-- VWAIT (R212). VEC trigger that stalls the core until every VEC operation of the instance is done. -/
  | vwait (core : Nat) (t : BitVec 32)
  /-- VEC_OPERATION_DONE (R212). An outstanding VEC operation finishes and releases its slot, ending any stall that waits on it. -/
  | vecOperationDone (core : Nat)
  /-- DMA_GET (R213). DMA trigger starting a copy from cabinet memory into tile SRAM. -/
  | dmaGet (core : Nat) (t : BitVec 32)
  /-- DMA_PUT (R213). DMA trigger starting a copy from tile SRAM into cabinet memory. -/
  | dmaPut (core : Nat) (t : BitVec 32)
  /-- DMA_WAIT (R213). DMA trigger that stalls the core until every GET and PUT of the instance has completed. -/
  | dmaWait (core : Nat) (t : BitVec 32)
  /-- KERNEL_DMA_DONE (R214). An outstanding kernel GET or PUT completes, or faults, and releases its slot. -/
  | kernelDmaDone (core : Nat) (which : Nat)
  /-- JMP (R217). BR trigger jumping to a word index after two delay words. -/
  | jmp (core : Nat) (t : BitVec 32)
  /-- CALL (R217). BR trigger jumping after two delay words and setting LINK. -/
  | call (core : Nat) (t : BitVec 32)
  /-- RET (R217). BR trigger jumping to LINK after two delay words. -/
  | ret (core : Nat) (t : BitVec 32)
  /-- HALT (R217). BR trigger ending the instance once its outstanding DMA and VEC operations complete. -/
  | halt (core : Nat) (t : BitVec 32)
  /-- RFT (R224). PRIV trigger returning from a trap to component level. -/
  | rft (core : Nat) (t : BitVec 32)
  /-- SVC (R224). PRIV trigger by which a component traps to its monitor with cause SVC. -/
  | svc (core : Nat) (t : BitVec 32)
  /-- SYNC_SIGNAL (R225). SYNC trigger applying a signal operation to a sync object from a control core. -/
  | syncSignal (core : Nat) (t : BitVec 32)
  /-- READ_LO (R225). SYNC trigger placing the low half of a sync object's value in RES. -/
  | readLo (core : Nat) (t : BitVec 32)
  /-- READ_HI (R225). SYNC trigger placing the high half of a sync object's value in RES. -/
  | readHi (core : Nat) (t : BitVec 32)
  /-- READ_ERR (R225). SYNC trigger placing a sync object's error flag in RES. -/
  | readErr (core : Nat) (t : BitVec 32)
  /-- KERNEL_INSTANCE_START (R234). The ZX9 starts a kernel instance on a free tile, zeroing its windows and copying its data and parameters. -/
  | kernelInstanceStart (ctx : Nat) (tile : Nat)
  /-- BUDGET (R236). An instance has issued its step budget of words without halting and is stopped by a context reset. -/
  | budget (core : Nat)
  /-- IMAGE_CACHE_FLUSH (R232). Act entry that empties the kernel image cache. -/
  | imageCacheFlush (req : ActReq)
  /-- COPY (R257). Move command copying LEN bytes from SRC to DST. -/
  | copy (ctx : Nat)
  /-- COPY_LIST (R257). Move command running a list of copies in any order. -/
  | copyList (ctx : Nat)
  /-- FILL (R256). Move command writing a repeated 8-byte pattern. -/
  | fill (ctx : Nat)
  /-- INVALIDATE (R255). Move command that drops cached translation entries of a cabinet range and completes once accesses under replaced entries have drained. -/
  | invalidate (ctx : Nat)
  /-- PATROL_SCRUB (R244). Background patrol scrub reads GDDR7 and writes back units that on-die ECC corrected. -/
  | patrolScrub
  /-- CXL_SCRUB (R248). Background scrub reads every populated CXL line to surface latent errors. -/
  | cxlScrub (port : Nat)
  /-- GDDR7_REFRESH (R244). The GDDR7 controller issues refresh as the JEDEC standard requires. -/
  | gddr7Refresh
  /-- CXL_TIMEOUT (R247). A CXL request has no completion within CXL_TIMEOUT and is treated as uncorrectable. -/
  | cxlTimeout (ctx : Nat)
  /-- CXL_LINK_DOWN (R247). A CXL port's link goes down, making accesses to its range uncorrectable until it retrains. -/
  | cxlLinkDown (port : Nat)
  /-- SEQ_INIT (R261). Sequence command initialising an UNINIT sequence descriptor to UNLOCKED. -/
  | seqInit (ctx : Nat)
  /-- SEQ_ACQUIRE (R267). Sequence command taking the lease of a sequence, waiting when WAIT is 1 and it is LOCKED. -/
  | seqAcquire (ctx : Nat)
  /-- SEQ_RELEASE (R266). Sequence command returning the owner's lease and granting it to the oldest waiting acquirer. -/
  | seqRelease (ctx : Nat)
  /-- SEQ_LOAD (R269). Sequence command copying committed blocks, or slices of them, into a landing buffer. -/
  | seqLoad (ctx : Nat)
  /-- SEQ_APPEND (R270). Sequence command appending token records, writing full-block summaries and then the commit record. -/
  | seqAppend (ctx : Nat)
  /-- SHELF_PAGE_IN (R276). Sequence command writing landing images of shelf entries. -/
  | shelfPageIn (ctx : Nat)
  /-- SHELF_WRITE (R277). Sequence command replacing a shelf entry's tensor in place. -/
  | shelfWrite (ctx : Nat)
  /-- SEQ_PREFETCH (R278). Sequence command queuing sequence blocks to be read into run-ahead staging. -/
  | seqPrefetch (ctx : Nat)
  /-- SHELF_PREFETCH (R278). Sequence command queuing shelf entries to be read into run-ahead staging. -/
  | shelfPrefetch (ctx : Nat)
  /-- LEASE_BREAK (R264). A sequence lease expires, so the descriptor becomes UNLOCKED with BROKEN_LEASE set and a waiting acquirer may be granted. -/
  | leaseBreak (cabinet : Nat) (desc : Nat)
  /-- WRITE (R312). ZT work request sending a remote write message, optionally with a remote signal. -/
  | write (ctx : Nat)
  /-- READ (R312). ZT work request reading a remote region into local memory. -/
  | read (ctx : Nat)
  /-- FETCH_ADD (R316). ZT work request performing a remote 64-bit fetch-add on memory or a sync object. -/
  | fetchAdd (ctx : Nat)
  /-- CMP_SWAP (R316). ZT work request performing a remote compare-and-swap. -/
  | cmpSwap (ctx : Nat)
  /-- SIGNAL (R316). ZT work request applying a signal operation to a remote sync object. -/
  | signal (ctx : Nat)
  /-- WAIT (R309). ZT work request holding its queue until a local sync object reaches a value. -/
  | wait (ctx : Nat)
  /-- CONN_CREATE (R295). ZT work request creating a connection from a descriptor and, for an initiator, sending CONNECT. -/
  | connCreate (ctx : Nat)
  /-- CONN_CLOSE (R297). ZT work request moving an ESTABLISHED connection to CLOSING. -/
  | connClose (ctx : Nat)
  /-- CONN_DESTROY (R295). ZT work request returning a connection to FREE. -/
  | connDestroy (ctx : Nat)
  /-- CONN_REKEY (R293). ZT work request moving the sender to the next key generation. -/
  | connRekey (ctx : Nat)
  /-- REG (R322). ZT work request registering a memory or sync-object region and returning its RKEY. -/
  | reg (ctx : Nat)
  /-- REVOKE (R324). ZT work request marking a region CLOSING so later key checks refuse. -/
  | revoke (ctx : Nat)
  /-- REGION_DRAINED (R324). The in-flight counter of a CLOSING region reaches zero, so the region becomes FREE and REVOKE completes. -/
  | regionDrained (region : Nat)
  /-- WRITE_PACKET (R314). An authenticated ZT WRITE packet is taken in PSN order, key-checked and applied, ending the message on ABORT or applying its signal on LAST. -/
  | writePacket (p : ZtIn)
  /-- READ_REQ (R314). An authenticated READ_REQ packet is key-checked in PSN order and answered with READ_RESP packets or an ERROR_RESP. -/
  | readReq (p : ZtIn)
  /-- ATOMIC_REQ (R316). An authenticated ATOMIC_REQ packet is key-checked and applied to memory or a sync object, and answered. -/
  | atomicReq (p : ZtIn)
  /-- READ_RESP (R312). A READ_RESP packet lands read data locally and may complete the READ. -/
  | readResp (p : ZtIn)
  /-- ATOMIC_RESP (R312). An ATOMIC_RESP packet returns the old value and completes the atomic. -/
  | atomicResp (p : ZtIn)
  /-- ERROR_RESP (R325). An ERROR_RESP packet makes the requester complete the refused work request with the mapped status. -/
  | errorResp (p : ZtIn)
  /-- CONNECT (R296). A CONNECT packet at a LISTEN or ESTABLISHED connection chooses version and MTU and is answered with ACCEPT. -/
  | connect (p : ZtIn)
  /-- ACCEPT (R296). An ACCEPT packet moves a CONNECTING connection to ESTABLISHED. -/
  | accept (p : ZtIn)
  /-- CLOSE (R295). A CLOSE packet closes the connection and is answered with CLOSE_ACK. -/
  | close (p : ZtIn)
  /-- CLOSE_ACK (R295). A CLOSE_ACK packet moves a CLOSING connection to CLOSED. -/
  | closeAck (p : ZtIn)
  /-- ACK (R305). An ACK packet marks packets acknowledged, fast-resends gapped packets, adjusts CWND and may complete WRITEs. -/
  | ack (p : ZtIn)
  /-- UNMATCHED_DATAGRAM (R327). A datagram of a reserved type or failing the matching checks is dropped and counted. -/
  | unmatchedDatagram (reservedType : Bool)
  /-- RETRANSMISSION_TIMEOUT (R304). An unacknowledged packet's retransmission timeout passes, so it is resent with ATTEMPT + 1 and its timeout doubles. -/
  | retransmissionTimeout (conn : Nat) (psn : BitVec 32)
  /-- RETRY_EXHAUSTION (R305). A packet stays unacknowledged for RETRY_LIMIT, so the connection fails and its work requests complete with PEER_TIMEOUT. -/
  | retryExhaustion (conn : Nat) (psn : BitVec 32)
  /-- CONNECT_RESEND (R296). Every 1 ms without ACCEPT the initiator resends CONNECT, and at CONNECT_TIMEOUT the connection becomes FAILED. -/
  | connectResend (conn : Nat)
  /-- CLOSE_RESEND (R297). A CLOSING connection resends CLOSE every RTO_MAX and becomes FAILED 100 ms after its first CLOSE without CLOSE_ACK. -/
  | closeResend (conn : Nat)
  /-- ACK_DELAY (R307). ACK_DELAY passes after the first unacknowledged acceptance, so an ACK is sent. -/
  | ackDelay (conn : Nat)
  /-- CONTEXT_FETCH (R300). A connection context fetched into the cache arrives, releasing the packets and work requests that waited on it. -/
  | contextFetch (conn : Nat)
  /-- MISS_FETCH_LIMIT (R300). A miss-bench packet's context fetch has not completed within MISS_FETCH_LIMIT, so the packet is dropped. -/
  | missFetchLimit (conn : Nat)
  /-- GROUP_JOIN (R339). Collective command that checks a group descriptor, sets up group connections and sends JOIN to the steward. -/
  | groupJoin (ctx : Nat)
  /-- GROUP_LEAVE (R342). Collective command that leaves the group, sending LEAVE and freeing the slot. -/
  | groupLeave (ctx : Nat)
  /-- ALL_REDUCE (R346). Collective command reducing every shard along fixed trees and distributing the results. -/
  | allReduce (ctx : Nat)
  /-- REDUCE_SCATTER (R346). Collective command reducing every shard and keeping the member's own shard. -/
  | reduceScatter (ctx : Nat)
  /-- ALL_GATHER (R347). Collective command assembling every member's source into each destination. -/
  | allGather (ctx : Nat)
  /-- BROADCAST (R347). Collective command copying the root's source to every other member. -/
  | broadcast (ctx : Nat)
  /-- ALL_TO_ALL (R347). Collective command exchanging slices among the subgroup. -/
  | allToAll (ctx : Nat)
  /-- JOIN (R341). The steward receives a member's JOIN, refuses it or, when all have joined, sends VIEW epoch 1. -/
  | join (m : GroupIn)
  /-- VIEW (R341). A VIEW message activates the group and completes the member's GROUP_JOIN. -/
  | view (m : GroupIn)
  /-- REFUSE (R341). A REFUSE message completes the joiner's GROUP_JOIN with STATE_CONFLICT and frees the slot. -/
  | refuse (m : GroupIn)
  /-- NEW_VIEW (R365). A NEW_VIEW message maps the lost rank to a promoted spare, advances the epoch and starts a rollback round. -/
  | newView (m : GroupIn)
  /-- FAIL_VIEW (R367). A FAIL_VIEW message fails the group and completes its collectives with PEER_TIMEOUT. -/
  | failView (m : GroupIn)
  /-- CONTRIB (R345). A CONTRIB message delivers a wire shard to a combiner's ordered accumulation. -/
  | contrib (m : GroupIn)
  /-- RESULT (R346). A RESULT message delivers copied result containers to a member. -/
  | result (m : GroupIn)
  /-- REPORT (R363). A steward receives a loss report and confirms the loss on quorum, then sends NEW_VIEW and EXPEL or FAIL_VIEW. -/
  | report (m : GroupIn)
  /-- PROBE (R363). A PROBE from the steward is answered with PROBE_ACK. -/
  | probe (m : GroupIn)
  /-- PROBE_ACK (R363). A PROBE_ACK keeps the probed subject and treats the reporter as lost. -/
  | probeAck (m : GroupIn)
  /-- EXPEL (R365). An EXPEL message frees the member's slot and completes its collectives with PEER_TIMEOUT, reason EXPELLED. -/
  | expel (m : GroupIn)
  /-- ABANDON (R356). An ABANDON message completes the named operation with PEER_TIMEOUT, reason ABANDONED. -/
  | abandon (m : GroupIn)
  /-- LEAVE (R343). A LEAVE message counts as the sender rank's immediate loss. -/
  | leave (m : GroupIn)
  /-- FORM_TIMEOUT (R341). FORM_TIMEOUT passes before every member joins, so pending GROUP_JOINs complete with PEER_TIMEOUT. -/
  | formTimeout (slot : Nat)
  /-- COLL_HEARTBEAT (R357). A group connection has carried nothing for COLL_HEARTBEAT, so a ZT ACK is sent as heartbeat. -/
  | collHeartbeat (conn : Nat)
  /-- COLL_TIMEOUT (R358). A waited-on peer is silent for COLL_TIMEOUT, so it is declared lost, PEER_LOST is set and REPORTs go to the stewards. -/
  | collTimeout (slot : Nat) (peer : Nat)
  /-- PROBE_TIMEOUT (R363). A probed subject does not answer within COLL_TIMEOUT of the first report, so the steward confirms its loss. -/
  | probeTimeout (slot : Nat) (subject : Nat)
  /-- COLL_OP_LIMIT (R359). A collective runs for COLL_OP_LIMIT and completes with PEER_TIMEOUT, reason STALLED. -/
  | collOpLimit (slot : Nat)
  /-- COLL_ESCALATE (R366). A RECOVERING member has no view 5 × COLL_TIMEOUT after its report and reports the loss to the tray controller. -/
  | collEscalate (slot : Nat)
  /-- SNAP_ATTACH (R374). Snapshot command binding a snapshot set to a group slot. -/
  | snapAttach (ctx : Nat)
  /-- SNAP_DETACH (R377). Snapshot command detaching a set and freeing its generations. -/
  | snapDetach (ctx : Nat)
  /-- SNAP_CUT (R381). Snapshot command recording queue marks and sync values and starting a new generation. -/
  | snapCut (ctx : Nat)
  /-- SNAP_ROLLBACK (R406). Snapshot command restoring dirty granules of this member, or requesting a group rollback round. -/
  | snapRollback (ctx : Nat)
  /-- SNAP_RESTORE (R411). Snapshot command verifying pool manifests and filling the set's ranges from a chosen drained step. -/
  | snapRestore (ctx : Nat)
  /-- GRANULE_COPY (R383). A background copy of an image granule into the generation buffer completes, sending it to the buddy and making the generation COMPLETE after the last. -/
  | granuleCopy (slot : Nat) (granule : Nat)
  /-- COW_COPY (R384). An urgent copy of a granule into the fast reserve completes and releases the stalled writer. -/
  | cowCopy (slot : Nat) (granule : Nat)
  /-- MIRROR_DATA (R388). A MIRROR_DATA message lands image granules in the holder's mirror slot. -/
  | mirrorData (m : SnapIn)
  /-- MIRROR_DONE (R388). A MIRROR_DONE message delivers the cut record, and the holder acknowledges once all has landed. -/
  | mirrorDone (m : SnapIn)
  /-- MIRROR_ACK (R387). A MIRROR_ACK signals MIRROR_SYNC, releases a waiting cut and may start the glacier drain. -/
  | mirrorAck (m : SnapIn)
  /-- FRAGMENT (R390). A FRAGMENT message lands fragment bytes in the holder's stripe slot. -/
  | fragment (m : SnapIn)
  /-- FRAGMENT_DONE (R391). A FRAGMENT_DONE message makes the holder write the fragment to the pool. -/
  | fragmentDone (m : SnapIn)
  /-- FRAGMENT_DURABLE (R391). A FRAGMENT_DURABLE message is counted, and after K + 2 successes the rank writes its manifest and signals DURABLE_SYNC. -/
  | fragmentDurable (m : SnapIn)
  /-- VOTE (R400). The steward collects a VOTE and, with every vote in, computes the target and sends ROLLBACK. -/
  | vote (m : SnapIn)
  /-- ROLLBACK (R401). A ROLLBACK message rolls the member or promoted spare back to the target step, or fails the round for target 0. -/
  | rollback (m : SnapIn)
  /-- PULL (R402). A PULL message makes the mirror holder stream its mirror of the step to the spare. -/
  | pull (m : SnapIn)
  /-- ROLLBACK_REQ (R407). A ROLLBACK_REQ at the steward is relayed to every member to start a rollback round. -/
  | rollbackReq (m : SnapIn)
  /-- VERDICT (R409). The steward collects VERDICTs and sends RESTORE_STEP with the newest step every member can restore. -/
  | verdict (m : SnapIn)
  /-- RESTORE_STEP (R411). A RESTORE_STEP message makes each member fill its ranges from the chosen step or fail the restore. -/
  | restoreStep (m : SnapIn)
  /-- VOTE_WAIT (R399). A member sends no VOTE within VOTE_WAIT and is treated by the steward as lost. -/
  | voteWait (slot : Nat) (member : Nat)
  /-- FRAME_RECEIVE (R415). A frame arriving on EP0 to EP3 or loopback is parsed, classified under its tagged rule version, metered and queued or delivered. -/
  | frameReceive (port : Nat) (bytes : Bytes)
  /-- FRAG_WAIT_LIMIT (R430). A waiting non-first fragment's first fragment has not arrived within FRAG_WAIT_LIMIT, so it is handled under FRAG_MISS_ACTION. -/
  | fragWaitLimit (which : Nat)
  /-- FRAG_ENTRY_LIFETIME (R428). A fragment table entry ends after FRAG_ENTRY_LIFETIME without a fragment. -/
  | fragEntryLifetime (which : Nat)
  /-- PACKET_DELIVERY (R434). A packet for a packet receive queue is written into the next posted buffer and completes its record. -/
  | packetDelivery (queue : Nat)
  /-- FRAME_RECORD (R436). A packet transmit queue record sends a whole frame through the traffic manager. -/
  | frameRecord (ctx : Nat)
  /-- PORT_DEQUEUE (R442). A port takes the next packet from an eligible service queue by priority and deficit round-robin and debits its shapers. -/
  | portDequeue (port : Nat)
  /-- CALENDAR_SLOT_EXPIRY (R444). A calendar slot expires, refilling its shapers or moving coarse entries onto the fine wheel. -/
  | calendarSlotExpiry (port : Nat)
  /-- RULE_STAGE (R424). Act entry applying a rule batch to the shadow rule set wholly or not at all. -/
  | ruleStage (req : ActReq)
  /-- RULE_COMMIT (R426). Act entry making the shadow rule set the committed version. -/
  | ruleCommit (req : ActReq)
  /-- RULE_DISCARD (R427). Act entry reverting the shadow to the committed rule set. -/
  | ruleDiscard (req : ActReq)
  /-- VERSION_DRAINED (R427). No frame tagged with the previous rule version remains, so COMMIT_STATE leaves DRAINING. -/
  | versionDrained
  /-- TM_APPLY (R439). Act entry applying a batch of subscriber and service records wholly or not at all. -/
  | tmApply (req : ActReq)
  /-- CONFIGURATION_WRITE (R452). A PCIe configuration write to a function, including BAR sizing, VF Enable and Resizable BAR, takes effect as PCIe defines. -/
  | configurationWrite (function : Nat) (reg : Nat) (value : BitVec 32)
  /-- INITIATE_FUNCTION_LEVEL_RESET (R468). A write of Initiate Function Level Reset starts the FLR ladder of a function and its cabinet. -/
  | initiateFunctionLevelReset (function : Nat)
  /-- FLR_COMPLETE (R468). An FLR finishes within 10 ms, returning configuration space and the function block to reset values. -/
  | flrComplete (function : Nat)
  /-- BUS_MASTER_ENABLE (R467). A change of a function's Bus Master Enable stops or resumes its host requests and releases held completion records. -/
  | busMasterEnable (function : Nat) (enabled : Bool)
  /-- REGISTER_WRITE (R456). A BAR0 write to a register without a row of its own, such as the event registers, MSI-X and mailbox request bytes, or an ill-formed access that is dropped and counted. -/
  | registerWrite (function : Nat) (offset : Nat) (len : Nat) (value : Nat)
  /-- APERTURE_READ (R462). A host read of the GDDR7 aperture is served in completions of at most Max_Payload_Size. -/
  | apertureRead (offset : Nat) (len : Nat)
  /-- APERTURE_WRITE (R461). A host write through the GDDR7 aperture lands in GDDR7 through write tracking. -/
  | apertureWrite (offset : Nat) (data : Bytes)
  /-- COMPLETION_RECEIVED (R464). A completion TLP for an outstanding host or accelerator read is placed by its Lower Address and Byte Count, or discarded when unexpected. -/
  | completionReceived (link : Nat) (tag : Nat) (status : Nat) (poisoned : Bool) (byteCount : Nat) (lowerAddr : Nat) (data : Bytes)
  /-- COMPLETION_TIMEOUT (R466). A DMA request has no completion within its timeout, so its command completes with ACCESS_FAULT. -/
  | completionTimeout (link : Nat) (tag : Nat)
  /-- PEER_TLP (R479). An inbound accelerator TLP is translated through the active peer windows and served or refused. -/
  | peerTlp (tlp : Tlp)
  /-- WINDOW_GEN (R481). A write of WINDOW_GEN switches a port's shadow peer windows into the active set at one TLP boundary. -/
  | windowGen (req : ActReq)
  /-- IDE_KM (R470). An IDE_KM message over DOE sets up a Link or selective IDE stream. -/
  | ideKm (link : Nat) (message : Bytes)
  /-- LINK_TRAINED (R475). A PCIe link finishes training, setting LINK_DEGRADED when below its target speed or width. -/
  | linkTrained (link : Nat) (speed : Nat) (width : Nat)
  /-- LINK_DOWN (R477). An accelerator link drops, ending outstanding requests and refusing new ones until it is enumerated again. -/
  | linkDown (link : Nat)
  /-- CREATE_IO_SQ (R489). NVMe admin command creating an I/O submission queue. -/
  | createIoSq (cabinet : Nat)
  /-- CREATE_IO_CQ (R489). NVMe admin command creating an I/O completion queue. -/
  | createIoCq (cabinet : Nat)
  /-- DELETE_IO_SQ (R504). NVMe admin command deleting an I/O submission queue after its commands complete with SQ deletion status. -/
  | deleteIoSq (cabinet : Nat)
  /-- DELETE_IO_CQ (R490). NVMe admin command deleting an I/O completion queue. -/
  | deleteIoCq (cabinet : Nat)
  /-- GET_LOG_PAGE (R490). NVMe admin command returning the Error, SMART or Device Self-test log. -/
  | getLogPage (cabinet : Nat)
  /-- IDENTIFY (R490). NVMe admin command returning controller or namespace identification. -/
  | identify (cabinet : Nat)
  /-- ABORT (R503). NVMe admin command that always reports the named command as not aborted. -/
  | abort (cabinet : Nat)
  /-- SET_FEATURES (R490). NVMe admin command setting one of the supported features. -/
  | setFeatures (cabinet : Nat)
  /-- GET_FEATURES (R490). NVMe admin command returning one of the supported features. -/
  | getFeatures (cabinet : Nat)
  /-- ASYNCHRONOUS_EVENT_REQUEST (R490). NVMe admin command held until an asynchronous event occurs. -/
  | asynchronousEventRequest (cabinet : Nat)
  /-- DEVICE_SELF_TEST (R506). NVMe admin command starting or aborting a short or extended self-test. -/
  | deviceSelfTest (cabinet : Nat)
  /-- SELF_TEST_DONE (R506). A running device self-test finishes and records its result. -/
  | selfTestDone (cabinet : Nat) (result : Nat)
  /-- NVME_FLUSH (R499). NVMe I/O command completing once every earlier completed write is durable. -/
  | nvmeFlush (cabinet : Nat) (sqid : Nat)
  /-- NVME_WRITE (R497). NVMe I/O Write, encrypted and written directly or through the journal as power-fail atomic units. -/
  | nvmeWrite (cabinet : Nat) (sqid : Nat)
  /-- NVME_READ (R500). NVMe I/O Read served from the tier cache or the backing and decrypted. -/
  | nvmeRead (cabinet : Nat) (sqid : Nat)
  /-- WRITE_ZEROES (R496). NVMe I/O command writing zeros to a block range. -/
  | writeZeroes (cabinet : Nat) (sqid : Nat)
  /-- DATASET_MANAGEMENT (R490). NVMe I/O command deallocating block ranges. -/
  | datasetManagement (cabinet : Nat) (sqid : Nat)
  /-- NS_APPLY (R492). Act entry applying a namespace batch and writing the namespace table to both flash devices. -/
  | nsApply (req : ActReq)
  /-- BACKING_CONNECTED (R498). A namespace's backing connects, its journal is replayed and the namespace becomes READY. -/
  | backingConnected (cabinet : Nat) (nsid : Nat) (atomicBytes : Nat) (homeSeq : Nat) (journal : List JournalRec)
  /-- BACKING_CONNECTION_LOST (R495). A namespace's backing connection is lost and the namespace becomes UNREACHABLE. -/
  | backingConnectionLost (cabinet : Nat) (nsid : Nat)
  /-- BACKING_RECONNECT (R495). Once per second the ZX9 tries to reconnect an UNREACHABLE namespace. -/
  | backingReconnect (cabinet : Nat) (nsid : Nat)
  /-- BACKING_HOLD (R495). A command held for BACKING_HOLD completes with Transient Transport Error. -/
  | backingHold (cabinet : Nat) (sqid : Nat) (cid : Nat)
  /-- BACKING_RESPONSE (R493). An NVMe/TCP PDU or ZT completion from the backing target advances or completes a backing command. -/
  | backingResponse (cabinet : Nat) (nsid : Nat) (seqNo : Nat) (status : Nat) (data : Bytes)
  /-- KEEP_ALIVE (R493). A Keep Alive is sent to the NVMe/TCP target every third of KATO. -/
  | keepAlive (cabinet : Nat) (nsid : Nat)
  /-- SUPERBLOCK_WRITE (R497). Every 1 ms while home writes complete, the journal superblock is written with HOME_SEQ. -/
  | superblockWrite (cabinet : Nat) (nsid : Nat)
  /-- DESTAGE (R499). Dirty tier-cache lines are written to the backing in the background. -/
  | destage (cabinet : Nat) (nsid : Nat)
  /-- NVME_ENABLE (R505). A write of NVME_ENABLE enables the controller with its doorbell reservation, or resets it when 0. -/
  | nvmeEnable (req : ActReq)
  /-- NVME_SHUTDOWN (R487). A write of NVME_SHUTDOWN requests a controller shutdown as CC.SHN. -/
  | nvmeShutdown (req : ActReq)
  /-- ASSIGN (R519). Act entry assigning a FREE cabinet and advancing its KEY_GEN. -/
  | assign (req : ActReq)
  /-- RELEASE (R518). Act entry releasing a cabinet, discarding its work and zeroing its shares. -/
  | release (req : ActReq)
  /-- RELEASE_DONE (R518). A RELEASING cabinet finishes its release and becomes FREE. -/
  | releaseDone (cabinet : Nat)
  /-- SHARE (R514). A write of a cabinet's share of a pool, advancing SHARE_GEN and signalling RESIZE_SYNC. -/
  | share (req : ActReq)
  /-- FREEZE (R521). Act entry stopping command fetch of every queue of a cabinet. -/
  | freeze (req : ActReq)
  /-- FREEZE_DRAIN_DONE (R522). Every started command of a FREEZING cabinet has completed, so its queues are suspended and it becomes FROZEN. -/
  | freezeDrainDone (cabinet : Nat)
  /-- FREEZE_LIMIT (R522). FREEZE_LIMIT passes before the drain, so the cabinet returns to ASSIGNED. -/
  | freezeLimit (cabinet : Nat)
  /-- UNFREEZE (R528). Act entry returning a FROZEN cabinet's queues to their recorded states. -/
  | unfreeze (req : ActReq)
  /-- SAVE (R524). Act entry writing a FROZEN cabinet's authenticated state to SAVE_ADDR. -/
  | save (req : ActReq)
  /-- RESTORE (R527). Act entry verifying a saved state and recreating the cabinet's objects as FROZEN. -/
  | restore (req : ActReq)
  /-- LOG_SWAP (R530). Act entry making the other dirty-page bitmap active. -/
  | logSwap (req : ActReq)
  /-- ADMIN_ENABLE (R49). Act entry creating a cabinet's admin completion queue and admin queue. -/
  | adminEnable (req : ActReq)
  /-- MIGRATION_SECRET (R538). A write of MIGRATION_SECRET imports the migration key into a key slot, or is refused when no slot is free. -/
  | migrationSecret (req : ActReq)
  /-- CIPHER_REQUEST (R541). A cipher request from a stream runs on a pipe, or is refused when its slot belongs to another cabinet. -/
  | cipherRequest (r : CipherIn)
  /-- KEY_DERIVATION (R539). The key unit finishes deriving an uncached key, releasing the request that waited. -/
  | keyDerivation (slot : Nat)
  /-- CIPHER_LOCK_ACQUIRE (R545). A privileged requester asks for the cipher lock, which drains the engine or waits. -/
  | cipherLockAcquire (holder : Nat)
  /-- CIPHER_LOCK_RELEASE (R545). The lock holder releases the cipher lock, returning to queue service or granting a waiter. -/
  | cipherLockRelease (holder : Nat)
  /-- LOCK_LIMIT (R546). Holder 3 or 4 keeps the lock past LOCK_LIMIT, so the engine returns to QUEUE and counts an overrun. -/
  | lockLimit
  /-- CIPHER_KAT_PERIOD (R547). Each CIPHER_KAT_PERIOD a pipe is withdrawn and runs its known-answer tests. -/
  | cipherKatPeriod (pass : Bool)
  /-- CIPHER_KAT_RUN (R547). Act entry testing all 16 pipes under holder 3. -/
  | cipherKatRun (req : ActReq) (passing : BitVec 16)
  /-- SVN_COMMIT (R552). Act entry raising the SVN floor to RUNNING_SVN in both flash devices. -/
  | svnCommit (req : ActReq)
  /-- GET_CERTIFICATE (R556). SPDM request returning the RSA certificate chain. -/
  | getCertificate (transport : Nat) (offset : Nat) (len : Nat)
  /-- CHALLENGE (R556). SPDM challenge answered with a signed response. -/
  | challenge (transport : Nat) (nonce : Bytes)
  /-- GET_MEASUREMENTS (R558). SPDM request returning the measurement blocks. -/
  | getMeasurements (transport : Nat) (operation : Nat) (nonce : Bytes)
  /-- KEY_EXCHANGE (R556). SPDM request opening a secured session, refused with Busy above 16 sessions. -/
  | keyExchange (transport : Nat) (exchange : Bytes)
  /-- VENDOR_DEFINED_REQUEST (R557). SPDM vendor request returning an SLH-DSA-signed measurement transcript. -/
  | vendorDefinedRequest (transport : Nat) (request : Bytes)
  /-- POWER_LOOP (R560). Every 100 µs the power loop reads the regulators and moves the core rail set point. -/
  | powerLoop (readings : List Nat) (warning : Bool)
  /-- THERMAL_LOOP (R561). Every 1 ms the thermal loop reads the sensors and raises the snowline level. -/
  | thermalLoop (readings : List Int)
  /-- SNOWLINE_FALL (R566). A level's entry condition has been false for 10 ms, so the snowline falls one level. -/
  | snowlineFall
  /-- POWER_LIMITER (R562). Package power above 720 W, or above 600 W for 10 ms, makes the hardware limiter pace the core and raise level 3. -/
  | powerLimiter (packageMw : Nat)
  /-- THERMAL_TRIP (R563). A sensor reads 110 °C or more, latching THERMAL_TRIP and forcing the hardware safe state. -/
  | thermalTrip (sensor : Nat)
  /-- BUDGET_WINDOW (R573). A budget window starts, setting the new budget and admitting aged commands. -/
  | budgetWindow
  /-- POWER_STATE_REQ (R583). Act entry requesting RETAIN or DEEP, refused by any objecting refuser. -/
  | powerStateReq (req : ActReq)
  /-- ENTRY_COMPLETE (R583). Entry to RETAIN or DEEP completes once the rails are lowered. -/
  | entryComplete
  /-- WAKE_EVENT (R588). An enabled wake source, such as host or accelerator link activity, I3C, a wake frame or WAKE_N, starts the wake ladder. -/
  | wakeEvent (source : Nat)
  /-- RAIL_READY (R590). The core rail reports power good during a wake. -/
  | railReady
  /-- CLOCK_READY (R590). The PLLs lock during a wake. -/
  | clockReady
  /-- MEM_READY (R590). GDDR7 leaves self-refresh and is retrained during a wake. -/
  | memReady
  /-- LOGIC_READY (R590). Restoration completes, queues leave SUSPENDED and the chip is ACTIVE. -/
  | logicReady
  /-- WAKE_READY (R590). A wake ready signal misses its limit, raising a fatal error and a chip reset. -/
  | wakeReady (signal : Nat)
  /-- FW_ACTIVATE (R651). Act entry starting activation of the staged firmware image, deferred during emergencies. -/
  | fwActivate (req : ActReq)
  /-- ACTIVATION_DRAIN_DONE (R85). Every engine reaches a command boundary, the new image takes control and queues return to their prior states. -/
  | activationDrainDone
  /-- ACTIVATION_DEFER (R578). No emergency has been active for 100 ms, so a deferred activation starts. -/
  | activationDefer
  /-- ACTIVATION_ABANDONED (R651). The activation drain has not finished within 5 s, so the activation is abandoned. -/
  | activationAbandoned
  /-- ERROR_PIN (R595). A source's error pin rises and is latched into FAULT_STATUS with first-error capture, fencing the scope of a fatal error and opening or queuing an incident. -/
  | errorPin (e : ErrorIn)
  /-- ENGINE_HANG_LIMIT (R604). A started command makes no progress for ENGINE_HANG_LIMIT, so a HANG is reported and the context rung applied. -/
  | engineHangLimit (ctx : Nat)
  /-- MONITOR_WATCHDOG (R605). A control core's monitor watchdog expires, raising CONTROL_FAILURE. -/
  | monitorWatchdog (core : Nat)
  /-- COMPONENT_CHECKIN (R607). A firmware component misses its check-in, so the monitor dumps, fails its work and reloads it. -/
  | componentCheckin (core : Nat)
  /-- COMPONENT_RESTART (R607). A reloaded firmware component restarts and resumes its service. -/
  | componentRestart (core : Nat)
  /-- RUNG_COMPLETE (R610). A rung's domain has been reset and released, closing its incident and starting any queued incident. -/
  | rungComplete
  /-- RUNG_DEADLINE (R610). A rung misses its deadline, so the next rung starts. -/
  | rungDeadline
  /-- QUADRANT_RETEST (R614). The retest of a quadrant's tiles after its rung ends, returning matching tiles online. -/
  | quadrantRetest (quadrant : Nat) (matching : BitVec 16)
  /-- SAFE_STATE_EXIT (R603). Under SAFE_STATE_ACTION 1 the always-on island dumps and starts the chip rung, after cooling for a thermal trip. -/
  | safeStateExit
  /-- FAULT_CLEAR (R595). Act entry clearing latched fault bits and their first-error records. -/
  | faultClear (req : ActReq)
  /-- RESET_REQUEST (R610). Act entry opening an incident at the engine, partition or chip rung. -/
  | resetRequest (req : ActReq)
  /-- TRAY_NOTICE_ACK (R622). Act entry acknowledging the tray notice. -/
  | trayNoticeAck (req : ActReq)
  /-- DUMP_DISCARD (R619). Act entry freeing a dump slot. -/
  | dumpDiscard (req : ActReq)
  /-- STERAL_READ (R629). Steral READ request returning an entry's value. -/
  | steralRead (req : ActReq) (index : Nat) (sub : Nat)
  /-- STERAL_WRITE (R9). Steral WRITE request to an entry without a row of its own, checked for rights, state and range. -/
  | steralWrite (req : ActReq) (index : Nat) (sub : Nat)
  /-- DESCRIBE (R629). Steral DESCRIBE request returning an entry's type, access, rights, default and range. -/
  | describe (req : ActReq) (index : Nat) (sub : Nat)
  /-- ARP_REQUEST (R625). An ARP request for MGMT_IP is answered on the management port. -/
  | arpRequest (frame : Bytes)
  /-- NEIGHBOR_SOLICITATION (R625). An IPv6 Neighbor Solicitation for MGMT_IP is answered. -/
  | neighborSolicitation (frame : Bytes)
  /-- TELEMETRY_LATCH (R645). Act entry copying every telemetry counter into its read copy at one handshake. -/
  | telemetryLatch (req : ActReq)
  /-- IPFIX_ACTIVE_TIMEOUT (R648). A flow record with packets counted is exported when IPFIX_ACTIVE_TIMEOUT passes. -/
  | ipfixActiveTimeout (flow : Nat)
  /-- IPFIX_IDLE_TIMEOUT (R648). A flow record without packets is exported when IPFIX_IDLE_TIMEOUT passes. -/
  | ipfixIdleTimeout (flow : Nat)
  /-- IPFIX_TEMPLATE_REFRESH (R648). Template 256 is resent every IPFIX_TEMPLATE_REFRESH. -/
  | ipfixTemplateRefresh
  /-- REQUEST_UPDATE (R650). PLDM RequestUpdate entering firmware update mode, refused when another agent holds it. -/
  | requestUpdate (agent : Nat) (component : Nat) (size : Nat) (maxTransfer : Nat)
  /-- REQUEST_FIRMWARE_DATA (R650). A chunk of image data fetched by RequestFirmwareData arrives and is written to flash. -/
  | requestFirmwareData (data : Bytes)
  /-- VERIFY_COMPLETE (R650). A transferred component finishes verification and the result is reported. -/
  | verifyComplete (image : FlashIn)
  /-- ACTIVATE_FIRMWARE (R651). PLDM ActivateFirmware on the firmware component starts an activation. -/
  | activateFirmware (agent : Nat)
  /-- GET_SENSOR_READING (R649). PLDM GetSensorReading returning a numeric or state sensor. -/
  | getSensorReading (sensor : Nat)
  /-- STAGE_B1 (R553). The boot ROM has verified and started a firmware image, so the root of trust takes the lock and stage B1 begins with profile records applied. -/
  | stageB1 (passing : BitVec 16)
  /-- STAGE_B2 (R641). All GDDR7 channels are trained, so stage B2 begins, packet-path rules load, AP links are released and the self-check runs. -/
  | stageB2
  /-- STAGE_B3 (R643). Self-check passed, CXL enumerated and links settled, so stage B3 full service begins. -/
  | stageB3
  /-- B2_LIMIT (R644). GDDR7 training has not finished at the B2 limit, so the chip stays in B1 with STAGE_FAULT 1. -/
  | b2Limit
  /-- B3_LIMIT (R643). The B3 limit passes, so the chip enters B3 degraded with STAGE_FAULT 3. -/
  | b3Limit
  /-- AON_PWRGOOD_RISE (R669). AON_PWRGOOD rises, starting the always-on island and device time. -/
  | aonPwrgoodRise
  /-- AON_PWRGOOD_FALL (R658). AON_PWRGOOD falls, resetting the whole package including the always-on island. -/
  | aonPwrgoodFall
  /-- PWRGOOD_RISE (R662). PWRGOOD rises with every rail in window, starting the AP_REFCLK outputs. -/
  | pwrgoodRise
  /-- PWRGOOD_FALL (R669). PWRGOOD falls or a rail leaves its window, raising POWER_LOSS and the hardware safe state. -/
  | pwrgoodFall (rail : Option Nat)
  /-- RESET_N_ASSERT (R658). RESET_N low is an external chip rung resetting everything but the always-on island. -/
  | resetNAssert
  /-- RESET_N_RELEASE (R657). RESET_N rises, the straps are sampled, the PUF root is reconstructed and the boot ROM starts stage B0. -/
  | resetNRelease
  /-- PERST_N_ASSERT (R659). PERST0_N or PERST1_N low takes its host link down and resets its functions as an FLR. -/
  | perstNAssert (which : Nat)
  /-- PERST_N_RELEASE (R659). PERST0_N or PERST1_N rises and its link begins training within 20 ms. -/
  | perstNRelease (which : Nat)
  /-- PMB_ALERT_N (R655). A regulator alert starts an immediate poll of the regulators. -/
  | pmbAlertN (readings : List Nat) (warning : Bool)
  /-- DEVICE_WINDOW_LOAD_RETURN (R201). Data of a control core's LS load from the device window returns and ends the core's stall. -/
  | deviceWindowLoadReturn (core : Nat)
  /-- PREFETCH_TRANSFER_DONE (R274). A prefetch's staging read finishes, leaving its granules valid in staging and freeing its Sequence-engine transfer slot. -/
  | prefetchTransferDone (which : Nat)
  /-- CXL_LINK_RETRAINED (R247). A CXL port whose link went down retrains, and accesses to its range no longer fail as uncorrectable. -/
  | cxlLinkRetrained (port : Nat)
  /-- COMPARATOR_REARM (R563). A latched thermal comparator re-arms when its sensor reads below 110 °C, so a new rise can latch again. -/
  | comparatorRearm (sensor : Nat)
  /-- LIMITER_PACING_END (R562). The hardware power limiter stops pacing the core once package power is back within its limit, which can end an emergency. -/
  | limiterPacingEnd
  /-- TAG_REUSE_TIMEOUT (R466). After a completion timeout, the same timeout passes again and the tag of the failed request may be reused. -/
  | tagReuseTimeout (link : Nat) (tag : Nat)
  /-- IN_PROGRESS_RESPONSE (R631). An act still running 1 s after it was accepted is answered with IN_PROGRESS. -/
  | inProgressResponse (transport : Nat) (source : Nat) (tag : Nat)
  /-- RAIL_BACK_IN_WINDOW (R665). A rail that its internal monitor found outside its window returns within it, which ends the reset the ZX9 held itself in. -/
  | railBackInWindow (rail : Nat)
  /-- NEGOTIATE_ALGORITHMS (R556). An SPDM NEGOTIATE_ALGORITHMS request selects RSA-3072, SHA-384, secp384r1 and AES-256-GCM. -/
  | negotiateAlgorithms (transport : Nat)
  /-- END_SESSION (R556). An SPDM END_SESSION request closes a secured session and frees one of the 16 session places. -/
  | endSession (session : Nat)
  /-- RESPOND_IF_READY (R557). An SPDM RESPOND_IF_READY request after ResponseNotReady returns the signed transcript once it is ready. -/
  | respondIfReady (transport : Nat)
  /-- PME_TURN_OFF (R582). A PME_Turn_Off message received on HP is acknowledged, which lets DEEP entry pass refuser 8. -/
  | pmeTurnOff
  deriving DecidableEq, Repr

end Sys2Proof
end

