-- ==== Sys2Proof/Decode.lean ====
section
/-! DEFINITION. The commands that a word of the table spells.  The table of operations and events gives its rows no bits,
so no word spells a command. -/

namespace Sys2Proof

/-- The command that a word spells by the table's bits: the table gives none of its rows any bits. -/
def decodeTableWord (_nbits _w : Nat) : Option Instr := none

end Sys2Proof
end

