-- ==== Sys2Proof/Config.lean ====
section
/-! DEFINITION. What the spec leaves open, as constants with no body: free values, and the primitives that outside
standards define (SHA-384, HMAC, AES, signatures), whose result no claim of this model may rest on. -/

namespace Sys2Proof

/-- The n-th free value: a value the spec leaves open, drawn by a step that advances State.fresh
(notes/assumptions/5.md). -/
opaque Config.freeNat : Nat → Nat

/-- What a read of a byte whose contents are undefined gives: draw number, address. -/
opaque Config.freeByte : Nat → Nat → BitVec 8

/-- The sign that LION takes of a NaN, as FP32 bits: R175 gives it for numbers only (notes/assumptions/51.md). -/
opaque Config.signOfNan : BitVec 32

/-- SHA-384 (FIPS 180-4), 48 bytes. -/
opaque Config.sha384 : List (BitVec 8) → List (BitVec 8)

/-- HMAC and key derivation of the key unit: secret, label (R535, R537). -/
opaque Config.derive : List (BitVec 8) → List (BitVec 8) → List (BitVec 8)

/-- The image-signature check of R230 and R551: an RSA-3072 or SLH-DSA signature over a digest verifies. -/
opaque Config.signatureOk : List (BitVec 8) → List (BitVec 8) → Bool

/-- HMAC-SHA-384 (FIPS 198-1): key, message; 48 bytes. -/
opaque Config.hmac384 : List (BitVec 8) → List (BitVec 8) → List (BitVec 8)

/-- What the fabric memory pool holds: draw number, offset in the pool region.  The pool lies outside the ZX9. -/
opaque Config.poolByte : Nat → Nat → BitVec 8

/-- AES-CMAC (NIST SP 800-38B) under a 256-bit key: key, message; 16 bytes. -/
opaque Config.cmac : List (BitVec 8) → List (BitVec 8) → List (BitVec 8)

/-- Fields of the frames the ZX9 builds that the spec gives no value for: 0 the TTL and hop limit, 1 the IPv6 flow label, 2 the
IPv4 identification, 3 the IPv4 flags word of an overlay. -/
opaque Config.frameField : Nat → Nat

/-- A hash whose form the spec leaves open: the UDP source port of a ZT connection (R283) or of an overlay, from two
numbers. -/
opaque Config.portHash : Nat → Nat → Nat

/-- AES-256-GCM sealing: key, nonce, additional data, plaintext; ciphertext and tag. -/
opaque Config.gcmSeal : List (BitVec 8) → List (BitVec 8) → List (BitVec 8) → List (BitVec 8) → List (BitVec 8)

/-- AES-256-GCM opening: key, nonce, additional data, ciphertext and tag; none when the tag fails. -/
opaque Config.gcmOpen :
  List (BitVec 8) → List (BitVec 8) → List (BitVec 8) → List (BitVec 8) → Option (List (BitVec 8))

/-- XTS-AES-256 encryption: key, tweak, data. -/
opaque Config.xtsEncrypt : List (BitVec 8) → Nat → List (BitVec 8) → List (BitVec 8)

/-- XTS-AES-256 decryption: key, tweak, data. -/
opaque Config.xtsDecrypt : List (BitVec 8) → Nat → List (BitVec 8) → List (BitVec 8)

/-- The device's signature over a message: key name, message (R556, R557). -/
opaque Config.sign : Nat → List (BitVec 8) → List (BitVec 8)

/-- Bytes drawn from the DRBG (R536): draw number, length. -/
opaque Config.random : Nat → Nat → List (BitVec 8)

/-- The RSA certificate chain of the certificate bundle in flash (R549, R556). -/
opaque Config.certChain : List (BitVec 8)

/-- Identity values fixed at manufacture (DEVICE_ID, serials, MAC addresses): entry key. -/
opaque Config.identity : Nat → Nat

/-- The bytes of a command's estimate through a tier or port, where R571 does not tabulate them: term, record. -/
opaque Config.estimateBytes : Nat → List (BitVec 8) → Nat

/-- The operations of a command's estimate under a coefficient, where R571 does not tabulate them. -/
opaque Config.estimateOps : Nat → List (BitVec 8) → Nat

end Sys2Proof
end

