-- ==== Sys2Proof/Machine/Parts.lean ====
section
/-! DEFINITION. The parts of the state: every queue, table, buffer, counter, mode and pin that the chapters of spec/
give the ZX9, grouped by chapter.  Dictionary entries are not repeated here: they stand in State.dict.  Every field
cites the rule that names it. -/

namespace Sys2Proof.Machine

/-- One crossing between the self-timed core and a clocked island. -/
structure Crossing where
  /-- 0 PCIe/CXL, 1 Ethernet, 2 GDDR7 PHY, 3 management MAC, 4 always-on (01 R25) -/
  island : Nat
  /-- 1 bit, direction (01 R26) -/
  intoCore : Bool
  /-- one multi-bit value, none when the holding register is free (01 R27) -/
  holding : Option Nat
  /-- TIME64, when the sender raised its flag (01 R30) -/
  raisedAt : Nat
  /-- unit the value is addressed to (MASTER form of R601) (01 R29) -/
  target : Nat
  /-- 1 bit, the unit addressed is being reset (01 R29) -/
  fenced : Bool
  /-- values the receiver has taken, newest first (01 R27) -/
  delivered : List Nat
  deriving DecidableEq, Repr, Inhabited

/-- The kept progress count of a pre-empted transfer. -/
structure Preempted where
  /-- arbiter number (01 R35) -/
  resource : Nat
  /-- requester position (01 R33) -/
  position : Nat
  /-- progress count in granules (01 R35) -/
  granulesDone : Nat
  /-- length in granules (01 R35) -/
  granulesTotal : Nat
  /-- class: 0 urgent, 1 normal, 2 background (01 R34) -/
  cls : Nat
  deriving DecidableEq, Repr, Inhabited

/-- Self-timed core: rates, windows, crossings and arbiters. -/
structure Fabric where
  /-- 4 x U32, minimum measured rate of the running 1 ms (01 R18) -/
  minSoFar : List Nat
  /-- 4 x TIME64, since when the measured rate is below the floor (01 R17) -/
  belowSince : List (Option Nat)
  /-- TIME64, commitment-window length in force (01 R21, 0x2003:00) -/
  windowLength : Nat
  /-- the ten crossings: into and out of the core at each of five islands (01 R27) -/
  crossings : List Crossing
  /-- rotating priority pointer of each arbiter (absent: 0) (01 R33) -/
  arbPointers : List (Nat × Nat)
  /-- the transfer that holds each arbiter's resource (01 R31) -/
  holders : List Preempted
  /-- progress counts kept (01 R35) -/
  preempted : List Preempted
  deriving DecidableEq, Repr, Inhabited

/-- A completion record that waits: a full ring (R53, R673) or a shadow ring (R94). -/
structure HeldRec where
  /-- 64 B (02 R61) -/
  bytes : List (BitVec 8)
  /-- 1 bit, INTERRUPT of the command (02 R58) -/
  interrupt : Bool
  deriving DecidableEq, Repr, Inhabited

/-- One queue of the chip's pool of 16,384. -/
structure Queue where
  /-- 14 bits (02 R62) -/
  index : Nat
  /-- 12 bits (02 R62) -/
  cabinet : Nat
  /-- 8 bits, 0 completion, 1 submission (02 R87) -/
  kind : Nat
  /-- 8 bits, engine byte of R90, 0x0F for an admin queue (02 R90, R91) -/
  engine : Nat
  /-- 48-bit cabinet address (02 R49) -/
  ringBase : Nat
  /-- 8 bits, the ring holds 2^n records (02 R49) -/
  n : Nat
  /-- 2 bits (02 R52) -/
  priority : Nat
  /-- 14-bit index of its completion queue (02 R87) -/
  cq : Nat
  /-- 16 bits, MSI-X vector (02 R87) -/
  vector : Nat
  /-- doorbell page (02 R55) -/
  page : Nat
  /-- 4 bits, STATE code (02 R55) -/
  state : Nat
  /-- 4 bits, state recorded before SUSPENDED (02 R77) -/
  recorded : Nat
  /-- 1 bit, suspension cause (02 R77) -/
  causeActivation : Bool
  /-- 1 bit, suspension cause (02 R77) -/
  causeFreeze : Bool
  /-- 1 bit, suspension cause (02 R77) -/
  causePower : Bool
  /-- 16 bits, HEAD (02 R55) -/
  head : Nat
  /-- 16 bits, recorded SQ_TAIL, or recorded CQ_HEAD (02 R55) -/
  tail : Nat
  /-- 1 bit, phase of the next record (02 R54) -/
  phase : Bool
  /-- 16 bits, LAST_STATUS (02 R55) -/
  lastStatus : Nat
  /-- completion records that wait (02 R53, R94, R673) -/
  held : List HeldRec
  /-- 1 bit, R673's report has been made (02 R673) -/
  faultReported : Bool
  /-- 1 bit, RESET written while SUSPENDED (02 R77) -/
  resetRecorded : Bool
  /-- 1 bit, the running reset includes the completion queue (02 R82) -/
  resetWithCq : Bool
  /-- TIME64 (02 R83) -/
  resetStart : Nat
  /-- 16 bits, SQ_TAIL recorded when the reset started (02 R82) -/
  resetTail : Nat
  /-- U32, reset epoch (06 R263) -/
  epoch : Nat
  /-- TIME64, when the command at HEAD became eligible (02 R72) -/
  eligibleAt : Option Nat
  /-- ns left of the wait deadline, kept while SUSPENDED or HALTED (02 R72) -/
  deadlineLeft : Option Nat
  /-- 1 bit, an error flag was seen before the condition held (02 R71) -/
  upstreamError : Bool
  /-- TIME64, when the command at HEAD became ready for admission (15 R576) -/
  readyAt : Option Nat
  /-- commands started in the present round (13 R515) -/
  served : Nat
  /-- 1 bit, the command at HEAD has been counted in ADMIT_HOLDS (15 R574) -/
  holdCounted : Bool
  deriving DecidableEq, Repr, Inhabited

/-- One allocated sync object. -/
structure SyncObj where
  /-- 18 bits (02 R62) -/
  index : Nat
  /-- 12 bits (02 R62) -/
  cabinet : Nat
  /-- U64 (02 R64) -/
  value : BitVec 64
  /-- 1 bit, error flag (02 R64) -/
  err : Bool
  /-- 48-bit cabinet address, 0 for none (02 R87) -/
  mirror : Nat
  /-- 1 bit, a mirror write to fenced host memory is held (02 R94) -/
  mirrorHeld : Bool
  /-- 1 bit, a signal page or a ZT atomic has signalled it (02 R101) -/
  external : Bool
  deriving DecidableEq, Repr, Inhabited

/-- One started command, work request or queue record (a context of R1). -/
structure Ctx where
  /-- context number (00 R1) -/
  id : Nat
  /-- queue index (00 R1) -/
  queue : Nat
  /-- 12 bits (02 R63) -/
  cabinet : Nat
  /-- 64 B command record or work request (02 R57, 07 R308) -/
  record : List (BitVec 8)
  /-- up to 7 continuation records of 64 B (02 R59) -/
  conts : List (List (BitVec 8))
  /-- 16 bits, ring index of the record (02 R50) -/
  slot : Nat
  /-- 1 bit, the operation has ended and awaits COMMAND_COMPLETION (02 R65) -/
  finished : Bool
  /-- 16 bits (02 R102) -/
  status : Nat
  /-- 64 bits (02 R61) -/
  detail : Nat
  /-- 32 B, ENGINE_AREA (02 R61) -/
  area : List (BitVec 8)
  /-- 2 bits, quadrant of the engine instance (02 R47) -/
  instNo : Nat
  /-- TIME64 (08 R359) -/
  startTime : Nat
  /-- TIME64, last progress (16 R604) -/
  lastProgress : Nat
  /-- 1 bit, DETERMINISTIC_MODE when the command started (01 R42) -/
  detMode : Bool
  /-- operation block and descriptors read at the start (cabinet address, bytes) (04 R160) -/
  captured : List (Nat × List (BitVec 8))
  /-- the seven values of 0x2200:00 to 0x2200:06 when it started (03 R142) -/
  policy : List Nat
  /-- FLUSH: (queue, records placed and not started) of the queues it waits for (02 R80) -/
  flushMarks : List (Nat × Nat)
  /-- FLUSH: started commands it waits for (02 R80) -/
  flushWaits : List Nat
  /-- 1 bit, a SEQ_ACQUIRE or FLUSH that waits (02 R81, 06 R267) -/
  waiting : Bool
  /-- TIME64, expiry of that wait (02 R72, 06 R267) -/
  waitDeadline : Option Nat
  /-- fJ per window (15 R571) -/
  charge : Nat
  /-- bytes, packets, shards or instances done (02 R82, 05 R187, 07 R312, 08 R346) -/
  progress : Nat
  /-- 16 bits, REASON of a received ERROR_RESP (07 R312) -/
  errorReason : Nat
  /-- U32 (07 R312) -/
  retransmits : Nat
  /-- kernel launch: (instance number, status, DETAIL) of each trap or stop (05 R238) -/
  traps : List (Nat × Nat × Nat)
  /-- kernel launch: instances started (05 R187) -/
  launched : Nat
  /-- 1 bit, a ZT request has entered its connection's stream (07 R310) -/
  issued : Bool
  /-- PSN of its first packet (07 R312) -/
  firstPsn : Option Nat
  /-- PSN of its last packet (07 R312) -/
  lastPsn : Option Nat
  /-- RESP_NEXT of the ACK that covered its last packet (07 R312) -/
  respBound : Option Nat
  /-- DMA reads not yet requested (source and destination cabinet address, bytes) (11 R464) -/
  unread : List (Nat × Nat × Nat)
  deriving DecidableEq, Repr, Inhabited

/-- VALUE and HANDLE latched for one requester at one signal page. -/
structure SignalLatch where
  /-- 12 bits (02 R67) -/
  cabinet : Nat
  /-- 16 bits, PCIe requester ID (02 R67) -/
  requester : Nat
  /-- U64 (02 R67) -/
  value : BitVec 64
  /-- 32 bits (02 R67) -/
  handle : Nat
  deriving DecidableEq, Repr, Inhabited

/-- Queues, commands, sync objects, leases and the firmware activation. -/
structure Contract where
  /-- the queues not UNCONFIGURED, of 16,384 (02 R49) -/
  queues : List Queue
  /-- the ALLOCATED objects, of 262,144 (02 R64) -/
  syncs : List SyncObj
  /-- started commands not completed (00 R1) -/
  ctxs : List Ctx
  /-- number of the next context (00 R1) -/
  nextCtx : Nat
  /-- operands latched per requester (02 R67) -/
  latches : List SignalLatch
  /-- (cabinet, contract version 2 to 4) of each cabinet that has negotiated (02 R104) -/
  negotiated : List (Nat × Nat)
  /-- 0 none, 1 draining, 2 pending (deferred) (02 R85, 15 R578) -/
  activation : Nat
  /-- TIME64, start of the drain (17 R651) -/
  activationStart : Nat
  /-- 1 bit, a drain has begun whose end has not been settled (02 R85) -/
  draining : Bool
  /-- (cabinet, TIME64) of host leases EXPIRED or RELEASED (02 R92) -/
  fencedAt : List (Nat × Nat)
  /-- round-robin position per (cabinet, engine, priority), queue served last (02 R52) -/
  rrPointers : List (Nat × Nat)
  deriving DecidableEq, Repr, Inhabited

/-- One open ordered accumulation. -/
structure OrderedAcc where
  /-- 6 bits, group slot (04 R151, 08 R345) -/
  group : Nat
  /-- U64 (08 R353) -/
  opSeq : Nat
  /-- U32 (08 R353) -/
  shard : Nat
  /-- U32 (08 R355) -/
  chunk : Nat
  /-- 8 bits, tree level (08 R344) -/
  level : Nat
  /-- N contributions (04 R153) -/
  total : Nat
  /-- NEXT (04 R153) -/
  nextIdx : Nat
  /-- FP32 accumulator per element (04 R153) -/
  acc : List (BitVec 32)
  /-- contributions above NEXT (04 R153) -/
  held : List (Nat × List (BitVec 32))
  /-- 1 bit, deterministic mode for the group (04 R156) -/
  inOrder : Bool
  /-- 1 bit, the reservation has been obtained (04 R154) -/
  isOpen : Bool
  deriving DecidableEq, Repr, Inhabited

/-- Transform engine: tiles, self-check and the bench. -/
structure Transform where
  /-- 8 bits, 0 none, 1 stage B2, 2 SELFCHECK_RUN waits for the drain or runs (04 R190, R191) -/
  selfcheckBy : Nat
  /-- TIME64 (04 R190) -/
  selfcheckStart : Nat
  /-- quadrants under retest (16 R614) -/
  quadrantRetest : List Nat
  /-- U32, order share in force (04 R152) -/
  benchOrder : Nat
  /-- U32, transport share in force (04 R152) -/
  benchTransport : Nat
  /-- U32, staging share in force (04 R152) -/
  benchStaging : Nat
  /-- ordered accumulations, open or waiting to open (04 R154) -/
  accs : List OrderedAcc
  deriving DecidableEq, Repr, Inhabited

/-- A trigger whose latency has not elapsed. -/
structure InFlight where
  /-- 5 bits (05 R201) -/
  unitId : Nat
  /-- result port id (05 R203) -/
  port : Nat
  /-- 32 bits (05 R203) -/
  value : BitVec 32
  /-- word number from which it is readable (05 R201) -/
  readyAt : Nat
  deriving DecidableEq, Repr, Inhabited

/-- One protection region of a control core. -/
structure Region where
  /-- bits [31:12], first 4 KiB page (05 R222) -/
  base : BitVec 20
  /-- bits [31:12], last 4 KiB page (05 R222) -/
  limit : BitVec 20
  /-- 1 bit, commits the region's RWL fields until chip reset (05 R222) -/
  lock : Bool
  /-- 1 bit, execute (05 R222) -/
  x : Bool
  /-- 1 bit, write (05 R222) -/
  w : Bool
  /-- 1 bit, read (05 R222) -/
  r : Bool
  deriving DecidableEq, Repr, Inhabited

/-- An outstanding VEC operation. -/
structure VecOp where
  /-- trigger 16 to 19 (05 R212) -/
  op : Nat
  /-- tile offset (05 R212) -/
  srcA : Nat
  /-- tile offset (05 R212) -/
  srcB : Nat
  /-- tile offset (05 R212) -/
  dst : Nat
  /-- elements, 256 to 65,536 (05 R212) -/
  count : Nat
  deriving DecidableEq, Repr, Inhabited

/-- An outstanding kernel DMA transfer. -/
structure DmaOp where
  /-- 1 bit, PUT (else GET) (05 R213) -/
  put : Bool
  /-- bytes, 4 to 65,536 (05 R213) -/
  len : Nat
  /-- cabinet address (05 R213) -/
  remote : Nat
  /-- tile offset (05 R213) -/
  offset : Nat
  deriving DecidableEq, Repr, Inhabited

/-- The window and budget of the kernel instance on a tile. -/
structure KernelWin where
  /-- context of the KERNEL_LAUNCH (05 R234) -/
  ctx : Nat
  /-- 16 bits, instance number (05 R187) -/
  instNum : Nat
  /-- 17 bits, INSTANCES (05 R218) -/
  instances : Nat
  /-- X_LEN (05 R233) -/
  xLen : Nat
  /-- Y_LEN (05 R233) -/
  yLen : Nat
  /-- CODE_LEN (05 R233) -/
  codeLen : Nat
  /-- DATA_LEN (05 R233) -/
  dataLen : Nat
  /-- BSS_LEN (05 R233) -/
  bssLen : Nat
  /-- STACK_LEN (05 R233) -/
  stackLen : Nat
  /-- PARAMS_LEN (05 R228) -/
  paramsLen : Nat
  /-- words allowed (05 R236) -/
  budget : Nat
  /-- 1 bit, NONDET (05 R237) -/
  nondet : Bool
  deriving DecidableEq, Repr, Inhabited

/-- One Drevy core: tiles 0 to 63, control cores 64 to 71. -/
structure Core where
  /-- core number (05 R194) -/
  id : Nat
  /-- 1 bit, an instance runs (tile) or the core runs (control) (05 R217) -/
  running : Bool
  /-- 32 x 32 bits, GA.0 to GA.31 (05 R201) -/
  ga : List (BitVec 32)
  /-- 32 x 32 bits, GB.0 to GB.31 (05 R201) -/
  gb : List (BitVec 32)
  /-- 8 x 1 bit, B0 (reads 1) to B7 (05 R201) -/
  grd : List Bool
  /-- operand, state and result ports of the units, absent reads 0 (05 R203, R228) -/
  ports : List (Nat × BitVec 32)
  /-- result ports whose ready mark is clear (05 R221) -/
  notReady : List Nat
  /-- results on their way (05 R203) -/
  inFlight : List InFlight
  /-- (unit, first word at which it may be triggered again) (05 R219) -/
  lastTrigger : List (Nat × Nat)
  /-- word index (05 R217) -/
  pc : Nat
  /-- words issued (05 R236) -/
  words : Nat
  /-- target word index and delay words still to issue (05 R217) -/
  jump : Option (Nat × Nat)
  /-- 0 none, 1 VWAIT, 2 DMA WAIT, 3 VEC full, 4 DMA full, 5 HALT (05 R201, R212, R213, R217) -/
  stall : Nat
  /-- 1 bit, a load from the device window waits for its data (05 R201) -/
  loadWait : Bool
  /-- TIME_HI latched by a read of TIME_LO (05 R218) -/
  timeHi : BitVec 32
  /-- up to 4 outstanding (05 R212) -/
  vecOps : List VecOp
  /-- up to 16 outstanding (05 R213) -/
  dmaOps : List DmaOp
  /-- 16 protection regions (control cores) (05 R222) -/
  regions : List Region
  /-- MODE bit (05 R222) -/
  monitor : Bool
  /-- 8 bits, CAUSE (05 R222) -/
  cause : Nat
  /-- TRAP_WORD (05 R222) -/
  trapWord : BitVec 32
  /-- TRAP_VALUE (05 R222) -/
  trapValue : BitVec 32
  /-- VECTOR (05 R222) -/
  vector : BitVec 32
  /-- 4 bits (05 R222) -/
  regionSel : Nat
  /-- WIN_BASE_HI and WIN_BASE_LO (05 R222) -/
  winBase : BitVec 64
  /-- 1 bit, the pending jump is RFT's (05 R224) -/
  returning : Bool
  /-- the instance's window (05 R233) -/
  kernel : Option KernelWin
  deriving DecidableEq, Repr, Inhabited

/-- Drevy cores and the image cache. -/
structure Cores where
  /-- 64 tile cores and 8 control cores (05 R194) -/
  cores : List Core
  /-- digests of accepted images, most recently used first, at most 64 (05 R232) -/
  imageCache : List (List (BitVec 8))
  deriving DecidableEq, Repr, Inhabited

/-- The resident copy of a LOCKED sequence descriptor. -/
structure SeqDesc where
  /-- 12 bits (06 R262) -/
  cabinet : Nat
  /-- 48-bit cabinet address of the descriptor (06 R260) -/
  addr : Nat
  /-- 64 B, the resident descriptor (06 R260) -/
  bytes : List (BitVec 8)
  /-- LEASE_MS of the acquire (06 R268) -/
  leaseMs : Nat
  /-- contexts of waiting SEQ_ACQUIREs, oldest first (06 R267) -/
  waiters : List Nat
  /-- 1 bit, the lease has broken by an epoch advance and LEASE_BREAK has not yet run (06 R264) -/
  leasePending : Bool
  deriving DecidableEq, Repr, Inhabited

/-- One 64 KiB granule of run-ahead staging. -/
structure Staged where
  /-- 12 bits (06 R280) -/
  cabinet : Nat
  /-- device address of the granule staged (06 R280) -/
  source : Nat
  /-- 1 bit (06 R280) -/
  valid : Bool
  deriving DecidableEq, Repr, Inhabited

/-- A queued or running prefetch. -/
structure Prefetch where
  /-- 12 bits (06 R278) -/
  cabinet : Nat
  /-- device addresses of the granules to read (06 R278) -/
  granules : List Nat
  /-- 1 bit, holds a transfer slot (06 R274) -/
  started : Bool
  deriving DecidableEq, Repr, Inhabited

/-- GDDR7, CXL tier, translation, sequences and run-ahead. -/
structure Tiers where
  /-- 4 x U64, capacity of each attached CXL device (06 R246, 0x2501:01-04) -/
  cxlBytes : List Nat
  /-- 4 x 1 bit, link state (06 R247) -/
  cxlUp : List Bool
  /-- 1 bit, the ports have enumerated (17 R643) -/
  cxlEnumerated : Bool
  /-- 2 bits, CXL_INTERLEAVE in force (06 R246) -/
  interleave : Nat
  /-- 64-byte units whose reads are uncorrectable (06 R251) -/
  badUnits : List Nat
  /-- 64-byte units of GDDR7 that on-die ECC corrects at a read (06 R243) -/
  correctable : List Nat
  /-- next GDDR7 unit of patrol scrub (06 R244) -/
  scrubNext : Nat
  /-- next CXL line of the scrub of each port (06 R248) -/
  cxlScrubNext : List Nat
  /-- refresh commands issued (06 R244) -/
  refreshes : Nat
  /-- 1 bit, GDDR7 in self-refresh (15 R585, 16 R602) -/
  selfRefresh : Bool
  /-- bytes of run-ahead staging reserved (06 R279) -/
  runaheadGranted : Nat
  /-- bytes of the tier cache (12 R501) -/
  tierCacheGranted : Nat
  /-- device address of the tier cache (12 R500) -/
  tierCacheBase : Nat
  /-- 1 bit, BACKING_LOCATION in force is 0 (07 R299) -/
  backingInGddr : Bool
  /-- bytes, PKT_BUFFER_BYTES in force (10 R449) -/
  pktBuffer : Nat
  /-- 1 bit, TIER_CACHE_LOCATION in force is 0 (12 R500) -/
  cacheInGddr : Bool
  /-- resident LOCKED descriptors, at most 65,536 (06 R262) -/
  resident : List SeqDesc
  /-- granules of run-ahead staging (06 R278) -/
  staged : List Staged
  /-- prefetches queued or running (06 R274) -/
  prefetches : List Prefetch
  deriving DecidableEq, Repr, Inhabited

/-- One data packet sent and not acknowledged. -/
structure TxPacket where
  /-- PSN (07 R285) -/
  psn : BitVec 32
  /-- 8 bits, TYPE (07 R286) -/
  ty : Nat
  /-- 8 bits, FLAGS (07 R285) -/
  flags : Nat
  /-- 8 bits, ATTEMPT (07 R285) -/
  attempt : Nat
  /-- TIME64, first transmission (07 R305) -/
  firstSent : Nat
  /-- TIME64, last transmission (07 R304) -/
  sentAt : Nat
  /-- ns, its timeout (07 R304) -/
  rto : Nat
  /-- 1 bit (07 R305) -/
  acked : Bool
  /-- 1 bit (07 R305) -/
  fastResent : Bool
  /-- plaintext of its headers and payload when first sent (07 R287) -/
  body : List (BitVec 8)
  /-- cabinet address the payload is read from again, 0 for none (07 R311) -/
  source : Nat
  /-- bytes read from the source (07 R311) -/
  payloadLen : Nat
  /-- work request it belongs to (07 R312) -/
  ctx : Option Nat
  /-- pool write it belongs to (09 R391) -/
  job : Option Nat
  deriving DecidableEq, Repr, Inhabited

/-- One data packet held by the reorder stage. -/
structure RxPacket where
  /-- PSN (07 R306) -/
  psn : BitVec 32
  /-- 8 bits, TYPE (07 R306) -/
  ty : Nat
  /-- 8 bits, FLAGS (07 R306) -/
  flags : Nat
  /-- plaintext (07 R306) -/
  body : List (BitVec 8)
  /-- region whose key check it has passed while its landing stalls (07 R324) -/
  checked : Option Nat
  deriving DecidableEq, Repr, Inhabited

/-- One ZT connection context not FREE. -/
structure Conn where
  /-- 22 bits (07 R285) -/
  index : Nat
  /-- 12 bits (07 R295) -/
  cabinet : Nat
  /-- 3 bits, state code (07 R295) -/
  state : Nat
  /-- 0 initiator, 1 responder (07 R295) -/
  role : Nat
  /-- 8 bits (07 R295) -/
  verMin : Nat
  /-- 8 bits (07 R295) -/
  verMax : Nat
  /-- 8 bits, version in force (07 R296) -/
  version : Nat
  /-- 1 bit (07 R295) -/
  ipv6 : Bool
  /-- 16 bits, payload MTU (07 R288) -/
  mtu : Nat
  /-- 16 bits, UDP source port (07 R283) -/
  srcPort : Nat
  /-- 16 bits (07 R295) -/
  subscriber : Nat
  /-- 3 bits (07 R295) -/
  service : Nat
  /-- 16 B (07 R295) -/
  localIp : List (BitVec 8)
  /-- 16 B (07 R295) -/
  peerIp : List (BitVec 8)
  /-- 32 bits (07 R295) -/
  peerConn : Nat
  /-- 32 B, held wrapped (07 R291) -/
  secret : List (BitVec 8)
  /-- TIME64 of the CONN_CREATE (07 R296) -/
  createdAt : Nat
  /-- TIME64 of the last CONNECT or CLOSE sent (07 R296, R297) -/
  lastConnect : Nat
  /-- ns, CONNECT_TIMEOUT when its timer started (07 R296) -/
  connectLimit : Nat
  /-- ns, RTO_MAX when the timer of the last CLOSE started (07 R297) -/
  closeEvery : Nat
  /-- ns, ACK_DELAY when its timer started (07 R307) -/
  ackLimit : Nat
  /-- TIME64 of the first CLOSE (07 R297) -/
  firstClose : Option Nat
  /-- next PSN to send (07 R305) -/
  nxt : BitVec 32
  /-- oldest PSN unacknowledged (07 R305) -/
  una : BitVec 32
  /-- CWND, 16 to WINDOW (07 R303) -/
  cwnd : Nat
  /-- TIME64 CWND last moved (07 R303) -/
  cwndAt : Nat
  /-- ns (07 R304) -/
  srtt : Nat
  /-- ns (07 R304) -/
  rttvar : Nat
  /-- unacknowledged packets (07 R305) -/
  tx : List TxPacket
  /-- packets ready and not yet sent, with no PSN (07 R303) -/
  sendQueue : List TxPacket
  /-- next CSN to send (07 R296) -/
  csnTx : BitVec 32
  /-- highest CSN accepted (07 R306) -/
  csnRx : Option (BitVec 32)
  /-- RESP_NEXT of the last ACK (07 R312) -/
  peerRespNext : BitVec 32
  /-- U32, sender's key generation (07 R293) -/
  genTx : Nat
  /-- U32, highest generation authenticated (07 R293) -/
  genRx : Nat
  /-- packets sent under genTx (07 R293) -/
  pktsUnderGen : Nat
  /-- next PSN expected (07 R306) -/
  expected : BitVec 32
  /-- held packets (07 R306) -/
  reorder : List RxPacket
  /-- packets accepted since the last ACK (07 R306) -/
  unacked : Nat
  /-- TIME64 of the first unacknowledged acceptance (07 R307) -/
  firstUnackedAt : Option Nat
  /-- TIME64 of the last authenticated packet (08 R358) -/
  lastRx : Nat
  /-- TIME64 of the last packet sent (08 R357) -/
  lastTx : Nat
  /-- packets accepted and not yet applied, in PSN order (07 R306) -/
  accepted : List RxPacket
  /-- 1 bit, its context is being fetched (07 R300) -/
  fetching : Bool
  /-- 1 bit, the rest of a refused WRITE message is discarded (07 R325) -/
  discarding : Bool
  /-- payload bytes of the message so far (07 R353) -/
  msgBytes : Nat
  /-- group message received so far (08 R353) -/
  msgBuf : List (BitVec 8)
  /-- 1 bit, its context is in the cache (07 R299) -/
  cached : Bool
  /-- order of last use, for replacement (07 R299) -/
  lastUse : Nat
  deriving DecidableEq, Repr, Inhabited

/-- A packet in the miss bench. -/
structure MissPkt where
  /-- connection index (07 R300) -/
  conn : Nat
  /-- TIME64 (07 R300) -/
  arrived : Nat
  /-- 8 bits, TYPE (07 R301) -/
  ty : Nat
  /-- the packet (07 R301) -/
  p : ZtIn
  deriving DecidableEq, Repr, Inhabited

/-- One region not FREE. -/
structure ZtRegion where
  /-- 18 bits (07 R321) -/
  index : Nat
  /-- 14 bits (07 R321) -/
  tag : Nat
  /-- 12 bits (07 R323) -/
  cabinet : Nat
  /-- 1 bit, CLOSING (else OPEN) (07 R324) -/
  isClosing : Bool
  /-- cabinet address, or first sync-object index (07 R322) -/
  base : Nat
  /-- bytes, or objects (07 R322) -/
  len : Nat
  /-- 4 bits (07 R322) -/
  rights : Nat
  /-- bound connection (07 R309) -/
  bound : Option Nat
  /-- in-flight counter (07 R324) -/
  inFlight : Nat
  /-- the REVOKE that waits (07 R324) -/
  revokeCtx : Option Nat
  deriving DecidableEq, Repr, Inhabited

/-- One ZT packet handed to the packet path. -/
structure SentFrame where
  /-- connection index (07 R283) -/
  conn : Nat
  /-- 8 bits, TYPE (07 R286) -/
  ty : Nat
  /-- 8 bits (07 R285) -/
  flags : Nat
  /-- 8 bits, KEY_GEN (07 R285) -/
  gen : Nat
  /-- PSN or CSN (07 R285) -/
  seqNo : BitVec 32
  /-- 8 bits (07 R285) -/
  attempt : Nat
  /-- plaintext (07 R287) -/
  body : List (BitVec 8)
  /-- header, ciphertext and tag (07 R285) -/
  datagram : List (BitVec 8)
  deriving DecidableEq, Repr, Inhabited

/-- One write of the Snapshot engine into the pool. -/
structure PoolJob where
  /-- number of the write (09 R391) -/
  id : Nat
  /-- pool connection (09 R391) -/
  conn : Nat
  /-- 0 manifest header zeroed, 1 a fragment held, 2 the manifest (09 R391) -/
  kind : Nat
  /-- 6 bits, group slot (09 R391) -/
  slot : Nat
  /-- U64 (09 R391) -/
  step : Nat
  /-- rank whose area is written (09 R391) -/
  rank : Nat
  /-- fragment index (09 R391) -/
  fragment : Nat
  /-- PSN of its first packet (07 R312) -/
  firstPsn : Option Nat
  /-- PSN of its last packet sent (07 R312) -/
  lastPsn : Option Nat
  /-- RESP_NEXT of the ACK that covered it (07 R312) -/
  respBound : Option Nat
  /-- 1 bit, refused or unreadable (09 R392) -/
  failed : Bool
  deriving DecidableEq, Repr, Inhabited

/-- ZT reliable transport. -/
structure Zt where
  /-- 16 bits, ZT_UDP_PORT in force (07 R283) -/
  udpPort : Nat
  /-- connections not FREE, of 4,194,304 (07 R295) -/
  conns : List Conn
  /-- packets that wait for a context, at most 4,096 (07 R301) -/
  missBench : List MissPkt
  /-- regions not FREE, of 262,144 (07 R324) -/
  regions : List ZtRegion
  /-- TAG last used of each region index (absent: 0) (07 R321) -/
  tags : List (Nat × Nat)
  /-- order of context use (07 R299) -/
  useClock : Nat
  /-- packets sent, newest first (07 R283) -/
  sent : List SentFrame
  /-- pool writes of the Snapshot engine under way (09 R391) -/
  jobs : List PoolJob
  /-- number of the next pool write (09 R391) -/
  nextJob : Nat
  /-- (connection, channel, message) handed to the Collective and Snapshot engines, newest first (08 R353) -/
  handed : List (Nat × Nat × List (BitVec 8))
  deriving DecidableEq, Repr, Inhabited

/-- One member of a group. -/
structure Member where
  /-- 16 B (08 R332) -/
  deviceId : List (BitVec 8)
  /-- 4 bits (08 R332) -/
  epMask : Nat
  /-- 1 bit (08 R332) -/
  ipv6 : Bool
  /-- 64 B, ADDR0 to ADDR3 (08 R332) -/
  addrs : List (BitVec 8)
  /-- 1 bit, JOIN received (steward) (08 R341) -/
  joined : Bool
  /-- 1 bit, declared lost by this member (08 R358) -/
  isLost : Bool
  /-- 1 bit, loss confirmed by the steward (08 R363) -/
  confirmed : Bool
  /-- 1 bit, a spare already promoted (08 R364) -/
  promoted : Bool
  deriving DecidableEq, Repr, Inhabited

/-- A loss report held by the steward. -/
structure Report where
  /-- member index (08 R363) -/
  subject : Nat
  /-- member index (08 R363) -/
  reporter : Nat
  /-- TIME64 received (08 R363) -/
  time : Nat
  deriving DecidableEq, Repr, Inhabited

/-- A PROBE that has no answer yet. -/
structure Probe where
  /-- member index (08 R363) -/
  subject : Nat
  /-- TIME64 of the first report (08 R363) -/
  since : Nat
  deriving DecidableEq, Repr, Inhabited

/-- A collective or snapshot message sent to a member. -/
structure GroupMsg where
  /-- 6 bits, slot (08 R353) -/
  group : Nat
  /-- member index (08 R353) -/
  member : Nat
  /-- 0 collective, 1 snapshot (08 R353) -/
  channel : Nat
  /-- 8 bits, MSG_TYPE or SMSG (08 R354, 09 R395) -/
  ty : Nat
  /-- U32 (08 R353) -/
  epoch : Nat
  /-- U64, OP_SEQ or STEP (08 R353) -/
  opSeq : Nat
  /-- 16 bits (08 R353) -/
  opcode : Nat
  /-- 8 bits (08 R353) -/
  level : Nat
  /-- U32 (08 R353) -/
  shard : Nat
  /-- U32 (08 R353) -/
  chunk : Nat
  /-- U32 (08 R353) -/
  shapeCheck : BitVec 32
  /-- 64 bits, STEP of a snapshot message is opSeq, ARG is this (09 R394) -/
  arg : Nat
  /-- message body (08 R354) -/
  body : List (BitVec 8)
  deriving DecidableEq, Repr, Inhabited

/-- The collective a group runs. -/
structure CollOp where
  /-- its context (08 R337) -/
  ctx : Nat
  /-- U64 (08 R353) -/
  opSeq : Nat
  /-- contributions combined or held (shard, chunk, level, k) (08 R345) -/
  received : List (Nat × Nat × Nat × Nat)
  /-- result of its own shard, by chunk (08 R346) -/
  rootVals : List (Nat × List (BitVec 32))
  /-- (part, chunk, containers in wire form) until the whole DST can be written (08 R347) -/
  gathered : List (Nat × Nat × List (BitVec 8))
  /-- the six counts of its record (08 R371) -/
  counts : List Nat
  /-- 1 bit, its DST is written (08 R346) -/
  dstDone : Bool
  /-- 1 bit, held for the rollback under RECOVERY 1 (08 R367) -/
  held : Bool
  /-- ns of COLL_OP_LIMIT left (08 R359) -/
  limitLeft : Nat
  /-- TIME64 the limit runs from, none while RECOVERING (08 R359) -/
  limitFrom : Option Nat
  deriving DecidableEq, Repr, Inhabited

/-- A rollback round that the steward runs. -/
structure VoteRound where
  /-- TIME64 (09 R399) -/
  start : Nat
  /-- ns, VOTE_WAIT when the round started (09 R399) -/
  limit : Nat
  /-- (member, its four steps) (09 R400) -/
  votes : List (Nat × List Nat)
  deriving DecidableEq, Repr, Inhabited

/-- One group slot not FREE. -/
structure Group where
  /-- 6 bits (08 R331) -/
  slot : Nat
  /-- 12 bits (08 R340) -/
  cabinet : Nat
  /-- the queue that issued GROUP_JOIN (08 R337) -/
  queue : Nat
  /-- the GROUP_JOIN that waits (08 R341) -/
  joinCtx : Option Nat
  /-- 32 bits, GROUP_SYNC (08 R342) -/
  syncHandle : Nat
  /-- 3 bits, state code (08 R342) -/
  state : Nat
  /-- U64 (08 R331) -/
  groupId : Nat
  /-- 1 to 6 (08 R331) -/
  axes : Nat
  /-- 2 to 64 (08 R331) -/
  fanin : Nat
  /-- 1 bit (08 R331) -/
  mode : Nat
  /-- 1 bit (08 R331) -/
  recovery : Nat
  /-- 1 to 8 (08 R331) -/
  quorum : Nat
  /-- 0 to 1,024 (08 R331) -/
  spares : Nat
  /-- 6 x U16 (08 R331) -/
  sizes : List Nat
  /-- 3 x U16 (08 R331) -/
  stewards : List Nat
  /-- 16 bits (08 R331) -/
  subscriber : Nat
  /-- 3 bits (08 R331) -/
  service : Nat
  /-- 16 bits (08 R331) -/
  mtu : Nat
  /-- 32 B, GROUP_SECRET (08 R333) -/
  secret : List (BitVec 8)
  /-- N + SPARES (08 R332) -/
  members : List Member
  /-- this device's member index (08 R332) -/
  self : Nat
  /-- member index of each rank (08 R365) -/
  rankMap : List Nat
  /-- U32 (08 R342) -/
  epoch : Nat
  /-- U64, operations issued (08 R353) -/
  opSeq : Nat
  /-- (OP_SEQ, sender rank) of the last 64 abandoned operations (08 R356) -/
  abandoned : List (Nat × Nat)
  /-- reports held by the steward (08 R363) -/
  reports : List Report
  /-- probes unanswered (08 R363) -/
  probes : List Probe
  /-- TIME64 (08 R341) -/
  joinStart : Nat
  /-- TIME64 of the REPORT of a RECOVERING member (08 R366) -/
  reportAt : Option Nat
  /-- 1 bit, R366 reported (08 R366) -/
  escalated : Bool
  /-- the running collective (08 R337) -/
  op : Option CollOp
  /-- ns, FORM_TIMEOUT when the join started (08 R341) -/
  formLimit : Nat
  /-- 48 B, SHA-384 of the descriptor and table (08 R354) -/
  digest : List (BitVec 8)
  /-- cabinet address of the descriptor (08 R333) -/
  descAddr : Nat
  /-- 16 bits, the rank whose loss failed the group (08 R367) -/
  failRank : Nat
  /-- the rollback round open at the steward (09 R399) -/
  round : Option VoteRound
  /-- ranks promoted since the last rollback (09 R400) -/
  unrolled : List Nat
  /-- 1 bit, a VOTE held back by a firmware activation (09 R413) -/
  voteOwed : Bool
  /-- (member, (step, missing)) collected by the steward (09 R409) -/
  verdicts : List (Nat × List (Nat × Nat))
  deriving DecidableEq, Repr, Inhabited

/-- Collective engine. -/
structure Coll where
  /-- slots not FREE, of 64 (08 R342) -/
  groups : List Group
  /-- group messages sent, newest first (08 R353) -/
  outbox : List GroupMsg
  deriving DecidableEq, Repr, Inhabited

/-- One range of a snapshot set. -/
structure SnapRange where
  /-- cabinet address (09 R373) -/
  base : Nat
  /-- bytes (09 R373) -/
  len : Nat
  /-- 0 to 3 (09 R373) -/
  kind : Nat
  /-- 8 bits (09 R373) -/
  shardAxes : Nat
  /-- 8 bits (09 R373) -/
  elemBytes : Nat
  /-- U32 (09 R373) -/
  regionId : Nat
  /-- U64, LOGICAL_ELEMENTS (09 R373) -/
  logical : Nat
  /-- kind 3: the 64 B of its tensor descriptor (09 R373) -/
  tdesc : List (BitVec 8)
  deriving DecidableEq, Repr, Inhabited

/-- One generation buffer. -/
structure Generation where
  /-- 0 FREE, 1 COPYING, 2 COMPLETE, 3 DAMAGED (09 R386) -/
  state : Nat
  /-- U64 (09 R380) -/
  step : Nat
  /-- image granules in the buffer (09 R383) -/
  copied : List Nat
  /-- (reserve granule, image granule) held in the fast reserve (09 R384) -/
  reserve : List (Nat × Nat)
  /-- granules written since the cut (09 R386) -/
  dirty : List Nat
  /-- 1 bit, MIRROR_ACK received (09 R387) -/
  mirrorAcked : Bool
  /-- recorded value and error flag of each listed object (09 R381) -/
  syncVals : List (BitVec 64 × Bool)
  /-- (queue index, HEAD at the cut) (09 R381) -/
  marks : List (Nat × Nat)
  /-- OP_SEQ of the group at the cut (08 R368) -/
  opMark : Nat
  /-- 1 bit, its drain has started or been skipped (09 R391) -/
  drained : Bool
  deriving DecidableEq, Repr, Inhabited

/-- One mirror slot kept for the ward. -/
structure MirrorSlot where
  /-- U64, 0 for none (09 R388) -/
  step : Nat
  /-- granules landed (09 R388) -/
  granules : List Nat
  /-- image bytes announced by MIRROR_DONE, 0 before it (09 R388) -/
  total : Nat
  /-- 1 bit (09 R388) -/
  complete : Bool
  /-- cut record (09 R388) -/
  syncVals : List (BitVec 64 × Bool)
  deriving DecidableEq, Repr, Inhabited

/-- A fragment held for another rank. -/
structure StripeSlot where
  /-- owner rank (09 R390) -/
  rank : Nat
  /-- fragment index (09 R390) -/
  fragment : Nat
  /-- U64 (09 R390) -/
  step : Nat
  /-- bytes landed (09 R390) -/
  landed : Nat
  /-- 1 bit, being written to the pool (09 R391) -/
  writing : Bool
  deriving DecidableEq, Repr, Inhabited

/-- A writer stalled on an uncopied granule. -/
structure Stall where
  /-- the writing command (09 R384) -/
  ctx : Option Nat
  /-- image granule (09 R384) -/
  granule : Nat
  /-- 1 bit, counted in RESERVE_STALLS (09 R385) -/
  starved : Bool
  deriving DecidableEq, Repr, Inhabited

/-- A drain of a step under way. -/
structure DrainRun where
  /-- U64 (09 R391) -/
  step : Nat
  /-- generation buffer (09 R391) -/
  buffer : Nat
  /-- 0 header being zeroed, 1 fragments out, 2 manifest being written (09 R391) -/
  stage : Nat
  /-- fragments reported written (09 R391) -/
  durable : List Nat
  /-- manifest without WRITTEN and tag (09 R396) -/
  manifest : List (BitVec 8)
  deriving DecidableEq, Repr, Inhabited

/-- The snapshot set of a group slot. -/
structure SnapSet where
  /-- 6 bits (09 R372) -/
  slot : Nat
  /-- 12 bits (09 R372) -/
  cabinet : Nat
  /-- 3 bits, state code (09 R379) -/
  state : Nat
  /-- U64 (09 R372) -/
  jobId : Nat
  /-- 0, 4 to 16 (09 R372) -/
  k : Nat
  /-- 16 bits (09 R372) -/
  buddyStride : Nat
  /-- 16 bits (09 R372) -/
  stripeStride : Nat
  /-- 16 bits (09 R372) -/
  poolSlots : Nat
  /-- U32 (09 R372) -/
  drainEvery : Nat
  /-- U64 (09 R372) -/
  imageMax : Nat
  /-- U64 (09 R372) -/
  rankArea : Nat
  /-- U64 (09 R372) -/
  poolOffset : Nat
  /-- 32 B, CHECKPOINT_SECRET, kept in a key slot (09 R398) -/
  secret : List (BitVec 8)
  /-- 1 to 64 (09 R373) -/
  ranges : List SnapRange
  /-- handles (09 R372) -/
  syncList : List Nat
  /-- handles (09 R372) -/
  queueList : List Nat
  /-- 32 bits (09 R372) -/
  poolConn : Nat
  /-- 32 bits (09 R372) -/
  poolRkey : Nat
  /-- cabinet address (09 R372) -/
  firnBase : Nat
  /-- bytes (09 R372) -/
  firnLen : Nat
  /-- cabinet address (09 R372) -/
  mirrorBase : Nat
  /-- bytes (09 R372) -/
  mirrorLen : Nat
  /-- cabinet address (09 R372) -/
  stripeBase : Nat
  /-- bytes (09 R372) -/
  stripeLen : Nat
  /-- cabinet address (09 R372) -/
  reserveBase : Nat
  /-- bytes (09 R372) -/
  reserveLen : Nat
  /-- 32 bits (09 R372) -/
  copySync : Nat
  /-- 32 bits (09 R372) -/
  mirrorSync : Nat
  /-- 32 bits (09 R372) -/
  durableSync : Nat
  /-- 32 bits (09 R372) -/
  rollbackSync : Nat
  /-- U64 (09 R375) -/
  imageBytes : Nat
  /-- cabinet address and padded bytes of each part of the image (09 R375) -/
  parts : List (Nat × Nat)
  /-- 1 bit, a listed queue was reset or deleted (09 R413) -/
  marksVoid : Bool
  /-- two buffers (09 R380) -/
  gens : List Generation
  /-- buffer of the newest generation (09 R382) -/
  newest : Nat
  /-- a SNAP_CUT that waits for MIRROR_ACK (09 R382) -/
  cutCtx : Option Nat
  /-- two mirror slots (09 R388) -/
  mirrors : List MirrorSlot
  /-- fragments held for others (09 R390) -/
  stripes : List StripeSlot
  /-- drains under way (09 R391) -/
  drains : List DrainRun
  /-- U64, MIRRORED_STEP (09 0x2812) -/
  mirroredStep : Nat
  /-- U64, DURABLE_STEP (09 0x2813) -/
  durableStep : Nat
  /-- 16 bits, slot of the manifest key (14 R537) -/
  keySlot : Nat
  /-- stalled writers (09 R384) -/
  stalls : List Stall
  /-- (queue index, ring index, target step) of the recorded SCOPE 1 request (09 R407) -/
  rollbackCtx : Option (Nat × Nat × Option Nat)
  /-- 1 bit, rollback refused until the next cut (09 R404) -/
  rollbackRefused : Bool
  /-- 1 bit, a promoted spare that loads a mirror (09 R402) -/
  isSpare : Bool
  /-- the SNAP_RESTORE that runs (09 R409) -/
  restoreCtx : Option Nat
  /-- 64 B, its restore block (09 R408) -/
  restoreBlock : List (BitVec 8)
  /-- number of the draw its pool contents come from (09 R409) -/
  restoreDraw : Nat
  /-- distinct steps it examined (09 R410) -/
  restoreSteps : Nat
  deriving DecidableEq, Repr, Inhabited

/-- Snapshot engine. -/
structure Snap where
  /-- attached sets, at most one per slot (09 R372) -/
  sets : List SnapSet
  deriving DecidableEq, Repr, Inhabited

/-- The 24-byte action of a rule. -/
structure Action where
  /-- ACTION (10 R422) -/
  act : Nat
  /-- AFLAGS (10 R422) -/
  aflags : Nat
  /-- CONSUMER (10 R422) -/
  consumer : Nat
  /-- EXC_CLASS (10 R422) -/
  excClass : Nat
  /-- SUBSCRIBER (10 R422) -/
  subscriber : Nat
  /-- SERVICE (10 R422) -/
  service : Nat
  /-- TM_PORT (10 R422) -/
  tmPort : Nat
  /-- QUEUE handle (10 R422) -/
  queue : Nat
  /-- MIRROR_PORT (10 R422) -/
  mirrorPort : Nat
  /-- EXACT_CLASS (10 R422) -/
  exactClass : Nat
  /-- COLOUR (10 R422) -/
  colour : Nat
  /-- FLOW_ID (10 R422) -/
  flowId : Nat
  deriving DecidableEq, Repr, Inhabited

/-- One ternary entry in use. -/
structure Ternary where
  /-- 14 bits (10 R419) -/
  index : Nat
  /-- 64 B, VALUE (10 R419) -/
  value : List (BitVec 8)
  /-- 64 B, MASK (10 R419) -/
  mask : List (BitVec 8)
  /-- 16 bits, RC_A (10 R419) -/
  rcA : Nat
  /-- 16 bits, RC_B (10 R419) -/
  rcB : Nat
  /-- 24 B (10 R419) -/
  action : Action
  deriving DecidableEq, Repr, Inhabited

/-- One exact entry. -/
structure Exact where
  /-- 4 bits, class (10 R420) -/
  cls : Nat
  /-- 64 B, masked key (10 R420) -/
  key : List (BitVec 8)
  /-- 24 B (10 R420) -/
  action : Action
  deriving DecidableEq, Repr, Inhabited

/-- One range comparator. -/
structure RangeCmp where
  /-- 9 bits (10 R418) -/
  index : Nat
  /-- byte offset (10 R418) -/
  field : Nat
  /-- 16 bits (10 R418) -/
  lo : Nat
  /-- 16 bits (10 R418) -/
  hi : Nat
  deriving DecidableEq, Repr, Inhabited

/-- A whole rule set. -/
structure RuleSet where
  /-- at most 16,384, by rising index (10 R419) -/
  ternary : List Ternary
  /-- at most 1,048,576 (10 R420) -/
  exact : List Exact
  /-- 16 class masks of 64 B (10 R420) -/
  masks : List (List (BitVec 8))
  /-- at most 512 (10 R418) -/
  ranges : List RangeCmp
  /-- 24 B (10 R419) -/
  ternaryDefault : Action
  /-- 16 x 24 B (10 R420) -/
  classDefaults : List Action
  deriving DecidableEq, Repr, Inhabited

/-- One fragment-table entry. -/
structure FragEntry where
  /-- SRC_IP, DST_IP, IP_PROTO, FRAG_ID, IN_PORT (10 R428) -/
  key : List (BitVec 8)
  /-- resolved action (10 R428) -/
  action : Action
  /-- TIME64 (10 R428) -/
  lastSeen : Nat
  /-- byte ranges passed (10 R428) -/
  covered : List (Nat × Nat)
  /-- end of the fragment with More Fragments clear (10 R428) -/
  endAt : Option Nat
  deriving DecidableEq, Repr, Inhabited

/-- A frame in the packet path. -/
structure Frame where
  /-- TM port (10 R416) -/
  inPort : Nat
  /-- the frame, destination MAC through FCS (10 R415) -/
  bytes : List (BitVec 8)
  /-- 16-bit version tag (10 R426) -/
  version : Nat
  /-- TIME64, MAC receive time (10 R434) -/
  arrived : Nat
  /-- the packet's action (10 R421) -/
  action : Action
  /-- the record or work request it was sent by (10 R436) -/
  fromCtx : Option Nat
  /-- 8 bits, PFLAGS (10 R434) -/
  pflags : Nat
  /-- 8 bits, L3 offset (10 R434) -/
  l3 : Nat
  /-- 8 bits, L4 offset (10 R434) -/
  l4 : Nat
  deriving DecidableEq, Repr, Inhabited

/-- One subscriber record. -/
structure Subscriber where
  /-- 14 bits (10 R437) -/
  id : Nat
  /-- 12 bits (10 R437) -/
  cabinet : Nat
  /-- 14 bits (10 R437) -/
  portMask : Nat
  /-- 1 bit (10 R437) -/
  enabled : Bool
  /-- 2 bits (10 R437) -/
  overlay : Nat
  /-- 8 bits (10 R437) -/
  weight : Nat
  /-- I8 (10 R437) -/
  overhead : Int
  /-- 16 bits (10 R437) -/
  vlanTci : Nat
  /-- U64 bit/s (10 R437) -/
  rate : Nat
  /-- U32 bytes (10 R437) -/
  burst : Nat
  /-- 24 bits (10 R437) -/
  vni : Nat
  /-- 16 B (10 R437) -/
  outerSrc : List (BitVec 8)
  /-- 16 B (10 R437) -/
  outerDst : List (BitVec 8)
  /-- 6 B (10 R437) -/
  innerMac : List (BitVec 8)
  /-- 8 bits (10 R437) -/
  oflags : Nat
  deriving DecidableEq, Repr, Inhabited

/-- One service record. -/
structure Service where
  /-- 14 bits (10 R438) -/
  subscriber : Nat
  /-- 3 bits (10 R438) -/
  id : Nat
  /-- 6 bits (10 R438) -/
  dscp : Nat
  /-- 8 bits (10 R438) -/
  weight : Nat
  /-- 0 to 4 (10 R438) -/
  meter : Nat
  /-- 0 to 2 (10 R438) -/
  yellowAction : Nat
  /-- U64 bit/s (10 R438) -/
  rate : Nat
  /-- U32 (10 R438) -/
  burst : Nat
  /-- U32 bytes (10 R438) -/
  queueLimit : Nat
  /-- U64 bytes/s (10 R438) -/
  cir : Nat
  /-- U32 (10 R438) -/
  cbs : Nat
  /-- U32 (10 R438) -/
  ebsPbs : Nat
  /-- U64 (10 R438) -/
  pir : Nat
  /-- 6 bits (10 R438) -/
  yellowDscp : Nat
  /-- committed bucket, in units of 1e-9 byte (10 R441) -/
  tokC : Nat
  /-- excess or peak bucket, in units of 1e-9 byte (10 R441) -/
  tokE : Nat
  /-- TIME64 of the last meter update (10 R441) -/
  metered : Nat
  deriving DecidableEq, Repr, Inhabited

/-- One shaper: a (port, subscriber) or a (port, subscriber, service). -/
structure Shaper where
  /-- TM port (10 R442) -/
  port : Nat
  /-- 14 bits (10 R442) -/
  subscriber : Nat
  /-- none for the subscriber shaper (10 R442) -/
  service : Option Nat
  /-- in units of 1/8 of a nano-byte (8e9 units a byte) (10 R443) -/
  tokens : Int
  /-- TIME64 (10 R443) -/
  lastRefill : Nat
  /-- rate in force until the next refill (10 R445) -/
  rate : Nat
  /-- depth in force until the next refill (10 R445) -/
  burst : Nat
  /-- TIME64, the next expiry of its calendar slot, none when not on the calendar (10 R444) -/
  slotAt : Option Nat
  /-- 1 bit, it waits on the coarse wheel (10 R444) -/
  coarse : Bool
  /-- TIME64, first fine slot at or after its eligible time (10 R444) -/
  eligibleAt : Nat
  deriving DecidableEq, Repr, Inhabited

/-- One service queue. -/
structure SvcQueue where
  /-- TM port (10 R442) -/
  port : Nat
  /-- 14 bits (10 R442) -/
  subscriber : Nat
  /-- 3 bits (10 R442) -/
  service : Nat
  /-- FIFO (10 R447) -/
  frames : List Frame
  /-- DRR deficit in bytes (10 R442) -/
  deficit : Nat
  /-- 1 bit, its quantum of this visit has been added (10 R442) -/
  credited : Bool
  deriving DecidableEq, Repr, Inhabited

/-- A subscriber's place in a port's round. -/
structure Turn where
  /-- TM port (10 R442) -/
  port : Nat
  /-- 14 bits (10 R442) -/
  subscriber : Nat
  /-- DRR deficit in bytes (10 R442) -/
  deficit : Nat
  /-- 1 bit, its quantum of this visit has been added (10 R442) -/
  credited : Bool
  deriving DecidableEq, Repr, Inhabited

/-- One IPFIX flow record. -/
structure FlowRec where
  /-- 16 bits, FLOW_ID (17 R647) -/
  id : Nat
  /-- U64 delta (17 R647) -/
  packets : Nat
  /-- U64 delta (17 R647) -/
  octets : Nat
  /-- TIME64 (17 R647) -/
  first : Nat
  /-- TIME64 (17 R647) -/
  last : Nat
  /-- IN_PORT of the last packet (17 R648) -/
  inPort : Nat
  /-- TIME64 (17 R648) -/
  lastExport : Nat
  deriving DecidableEq, Repr, Inhabited

/-- Parser, classifier and traffic manager. -/
structure Packet where
  /-- the committed rule set (10 R426) -/
  committed : RuleSet
  /-- the shadow rule set (10 R423) -/
  shadow : RuleSet
  /-- the version that drains (10 R427) -/
  previous : Option RuleSet
  /-- fragment table, at most 8,192 (10 R428) -/
  frags : List FragEntry
  /-- fragment wait pool, at most 2,048, in arrival order (10 R429) -/
  fragWait : List Frame
  /-- exception queue, at most 4,096 (10 R432) -/
  excQueue : List Frame
  /-- (tokens in 1e-9 packet, last refill) of the eight classes (absent: full) (10 R432) -/
  excTokens : List (Nat × Nat)
  /-- of 16,384 (10 R437) -/
  subscribers : List Subscriber
  /-- records written (10 R438) -/
  services : List Service
  /-- shapers in use (10 R443) -/
  shapers : List Shaper
  /-- service queues in use (10 R442) -/
  queues : List SvcQueue
  /-- the port rounds, each port's next subscriber first (10 R442) -/
  drrPort : List Turn
  /-- frames sent on LOOPBACK that have not re-entered, oldest first (10 R414) -/
  loopback : List (List (BitVec 8))
  /-- 1 bit, a batch was staged while DRAINING (10 R427) -/
  stagedMeanwhile : Bool
  /-- (receive queue, frame) held for delivery (10 R435) -/
  rxWaiting : List (Nat × Frame)
  /-- frames delivered to the ZT, NVMe/TCP and PTP consumers, newest first (10 R422) -/
  ctrlDelivered : List Frame
  /-- (port, bytes) of frames sent, newest first (10 R442) -/
  txLog : List (Nat × List (BitVec 8))
  /-- flow records in use, of 65,535 (17 R647) -/
  flows : List FlowRec
  /-- TIME64 the template was last sent (17 R648) -/
  templateAt : Nat
  /-- U32, data records exported (17 R648) -/
  ipfixSeq : Nat
  /-- IPFIX messages sent, newest first (17 R648) -/
  ipfixOut : List (List (BitVec 8))
  deriving DecidableEq, Repr, Inhabited

/-- One PCIe function that exists at the host. -/
structure Function where
  /-- cabinet it serves (11 R451) -/
  cabinet : Nat
  /-- Bus Master Enable (11 R467) -/
  bme : Bool
  /-- Memory Space Enable (11 R452) -/
  mse : Bool
  /-- BAR0/1 base (11 R453) -/
  bar0 : Nat
  /-- D-state 0 or 3 (11 R452) -/
  dstate : Nat
  /-- TIME64 an FLR began (11 R468) -/
  flr : Option Nat
  /-- 1 bit, its ladder waits for LOGIC_READY (15 R594) -/
  flrDue : Bool
  /-- 4 bits, event status (11 R457) -/
  evStatus : Nat
  /-- 4 bits, EVENT_ENABLE (11 R457) -/
  evEnable : Nat
  /-- 11 bits, EVENT_VECTOR (11 R457) -/
  evVector : Nat
  /-- mailbox REQUEST, 4,080 B (11 R459) -/
  request : List (BitVec 8)
  /-- 13 bits, REQ_LEN (11 R459) -/
  reqLen : Nat
  /-- GO (11 R459) -/
  go : Bool
  /-- mailbox RESPONSE, 4,080 B (11 R459) -/
  response : List (BitVec 8)
  /-- 13 bits, RESP_LEN (11 R459) -/
  respLen : Nat
  /-- MSI-X table entries written (absent: 0 with the mask bit set) (11 R454) -/
  msixTable : List (Nat × BitVec 128)
  /-- MSI-X Enable (11 R452) -/
  msixEnable : Bool
  /-- MSI-X Function Mask (11 R452) -/
  msixAllMasked : Bool
  /-- pending vectors (11 R454, 02 R94) -/
  pba : List Nat
  /-- AtomicOp Requester Enable (11 R452) -/
  atomicEnable : Bool
  /-- other configuration registers written (11 R452) -/
  config : List (Nat × BitVec 32)
  /-- AER Uncorrectable Error Status (11 R452, 16 R602) -/
  aerStatus : BitVec 32
  deriving DecidableEq, Repr, Inhabited

/-- An outstanding non-posted request. -/
structure Request where
  /-- 14 bits (11 R464) -/
  tag : Nat
  /-- 0 HP, 1 HP1, 2 + n APn (11 R464) -/
  link : Nat
  /-- the command it serves (11 R465) -/
  ctx : Option Nat
  /-- cabinet it is made for (11 R463) -/
  cabinet : Nat
  /-- host or bus address (11 R464) -/
  addr : Nat
  /-- cabinet address of the first byte read (11 R465) -/
  source : Nat
  /-- bytes asked for (11 R464) -/
  len : Nat
  /-- bytes not yet received (11 R464) -/
  left : Nat
  /-- cabinet address the data is placed at (11 R464) -/
  dest : Nat
  /-- TIME64 (11 R466) -/
  issuedAt : Nat
  /-- ns (11 R466) -/
  timeout : Nat
  deriving DecidableEq, Repr, Inhabited

/-- One peer window. -/
structure PeerWin where
  /-- BASE (11 R478) -/
  base : Nat
  /-- LOG2_SIZE (11 R478) -/
  log2Size : Nat
  /-- KIND (11 R478) -/
  kind : Nat
  /-- RIGHTS (11 R478) -/
  rights : Nat
  /-- PEER_PORT (11 R478) -/
  peerPort : Nat
  /-- CABINET (11 R478) -/
  cabinet : Nat
  /-- TARGET (11 R478) -/
  target : Nat
  deriving DecidableEq, Repr, Inhabited

/-- One IDE stream. -/
structure IdeStream where
  /-- link (11 R470) -/
  link : Nat
  /-- 0 Link IDE, 1 to 4 selective (11 R470) -/
  stream : Nat
  /-- 0 unset, 1 key programmed, 2 Secure, 3 Insecure (11 R470, R471) -/
  state : Nat
  deriving DecidableEq, Repr, Inhabited

/-- Host and accelerator ports. -/
structure Ports where
  /-- HP_MODE sampled (11 R451) -/
  hostSplit : Bool
  /-- SR-IOV VF Enable (11 R452) -/
  vfEnable : Bool
  /-- NumVFs (11 R452) -/
  numVfs : Nat
  /-- VF BAR0/1 base (11 R453) -/
  vfBar0 : Nat
  /-- PF BAR2/3 base (11 R453) -/
  bar2 : Nat
  /-- log2 of the BAR2 size (11 R453) -/
  bar2Log2 : Nat
  /-- Max_Payload_Size of the PF in bytes (11 R462) -/
  maxPayload : Nat
  /-- Max_Read_Request_Size of the PF in bytes (11 R464) -/
  maxReadReq : Nat
  /-- Read Completion Boundary (11 R462) -/
  rcb : Nat
  /-- completion timeout field of Device Control 2 (11 R466) -/
  devCtl2 : Nat
  /-- PF, VFs and the second-host function once written to (11 R451) -/
  functions : List Function
  /-- outstanding non-posted requests, at most 1,024 a link (11 R464) -/
  requests : List Request
  /-- (link, tag, TIME64 free again) (11 R466) -/
  retiredTags : List (Nat × Nat × Nat)
  /-- (link, speed, width) trained (absent: down) (11 R474) -/
  linkState : List (Nat × Nat × Nat)
  /-- populated bytes of each accelerator window (11 R476) -/
  apBytes : List Nat
  /-- IDE streams (11 R470) -/
  ide : List IdeStream
  /-- (cabinet, vector) of MSI-X messages sent, newest first (11 R458) -/
  msixSent : List (Nat × Nat)
  /-- (link, status, data) of completions sent, newest first (11 R462, R480) -/
  completionsOut : List (Nat × Nat × List (BitVec 8))
  /-- posted writes issued to the host (11 R463) -/
  hostWrites : Nat
  /-- PME_Turn_Off acknowledged on HP (15 R582) -/
  pmeAcked : Bool
  /-- PME signalled on HP (15 R593) -/
  pmeSignalled : Bool
  deriving DecidableEq, Repr, Inhabited

/-- One NVMe I/O queue, submission or completion. -/
structure IoPair where
  /-- 16 bits (12 R489) -/
  qid : Nat
  /-- completion queue (12 R489) -/
  isCq : Bool
  /-- cabinet address (12 R487) -/
  base : Nat
  /-- entries (12 R489) -/
  size : Nat
  /-- 16 bits (12 R489) -/
  head : Nat
  /-- 16 bits (12 R489) -/
  tail : Nat
  /-- phase (completion queues) (12 R489) -/
  phase : Bool
  /-- completion queue of a submission queue (12 R489) -/
  cqid : Nat
  /-- MSI-X vector (12 R490) -/
  vector : Nat
  /-- interrupts enabled (12 R490) -/
  irq : Bool
  /-- TIME64, when the entry at the head became ready for admission (15 R576) -/
  readyAt : Option Nat
  /-- 1 bit, the entry at the head has been counted in ADMIT_HOLDS (15 R574) -/
  holdCounted : Bool
  deriving DecidableEq, Repr, Inhabited

/-- A started NVMe command. -/
structure NvmeCmd where
  /-- 16 bits (12 R490) -/
  sqid : Nat
  /-- 16 bits, command identifier (12 R490) -/
  cid : Nat
  /-- 64 B submission entry (12 R490) -/
  bytes : List (BitVec 8)
  /-- 1 to 16 (12 R491) -/
  nsid : Nat
  /-- TIME64 held for an UNREACHABLE namespace (12 R495) -/
  heldSince : Option Nat
  /-- atomic units not yet issued: (LBA, ciphertext) of each block (12 R497) -/
  units : List (List (Nat × List (BitVec 8)))
  /-- atomic units not yet durable (12 R497) -/
  unitsLeft : Nat
  /-- Flush: order of the last write that it waits for (12 R499) -/
  flushMark : Nat
  /-- fJ per window (15 R571) -/
  charge : Nat
  deriving DecidableEq, Repr, Inhabited

/-- The NVMe controller of a cabinet. -/
structure NvmeCtrl where
  /-- 12 bits (12 R486) -/
  cabinet : Nat
  /-- CC.EN (12 R505) -/
  enabled : Bool
  /-- CC.SHN (12 R487) -/
  shutdown : Nat
  /-- S' of R488 (12 R488) -/
  granted : Nat
  /-- queue-pair share in force at the last enable (13 R513) -/
  shareAt : Nat
  /-- AQA in force (12 R487) -/
  aqa : Nat
  /-- the admin submission and completion queues (12 R487) -/
  admin : List IoPair
  /-- 5 x U32: 01h, 06h, 07h, 08h, 0Bh (12 R490, 13 R526) -/
  features : List Nat
  /-- I/O queues (12 R489) -/
  pairs : List IoPair
  /-- started commands (12 R505) -/
  started : List NvmeCmd
  /-- command identifiers of outstanding Asynchronous Event Requests, at most 4 (12 R490) -/
  aers : List Nat
  /-- Dword 0 of the asynchronous events not yet reported (12 R490) -/
  events : List Nat
  /-- 0 none, 1 short, 2 extended (12 R506) -/
  selfTest : Nat
  /-- (code, result, TIME64), newest first (12 R506) -/
  selfTestLog : List (Nat × Nat × Nat)
  /-- at most 64 error entries, newest first (12 R490) -/
  errorLog : List (List (BitVec 8))
  /-- U64 (12 R490) -/
  errorCount : Nat
  /-- completion entries not yet written (queue, entry, interrupt) (12 R507) -/
  heldCqes : List (Nat × List (BitVec 8) × Bool)
  deriving DecidableEq, Repr, Inhabited

/-- A backing command. -/
structure BackOp where
  /-- its number on the connection (12 R493) -/
  id : Nat
  /-- 0 read, 1 journal record, 2 home write, 3 superblock (12 R493, R497) -/
  kind : Nat
  /-- first LBA read (12 R493) -/
  lba : Nat
  /-- blocks read (12 R493) -/
  count : Nat
  /-- (LBA, ciphertext) of the blocks written (12 R497) -/
  blocks : List (Nat × List (BitVec 8))
  /-- (submission queue, command identifier) it serves (12 R497) -/
  cmd : Option (Nat × Nat)
  /-- U64, SEQ of the journal record, or HOME_SEQ of the superblock (12 R497) -/
  journalSeq : Option Nat
  /-- (LBA, order) of the dirty blocks it destages (12 R499) -/
  cleans : List (Nat × Nat)
  /-- 1 bit, its WRITE has ended and its 8-byte READ is outstanding (ZT) (12 R494) -/
  reading : Bool
  deriving DecidableEq, Repr, Inhabited

/-- A record that holds journal space. -/
structure JournalUse where
  /-- U64, SEQ (12 R498) -/
  seqNo : Nat
  /-- bytes of the ring (12 R497) -/
  bytes : Nat
  /-- (LBA, ciphertext) (12 R498) -/
  blocks : List (Nat × List (BitVec 8))
  /-- the record is durable (12 R499) -/
  durable : Bool
  /-- its home write has been issued (12 R497) -/
  issued : Bool
  /-- its blocks are at home (12 R497) -/
  home : Bool
  deriving DecidableEq, Repr, Inhabited

/-- One namespace not ABSENT. -/
structure Namespace where
  /-- 12 bits (12 R491) -/
  cabinet : Nat
  /-- 1 to 16 (12 R491) -/
  nsid : Nat
  /-- 384 B record (12 R491) -/
  record : List (BitVec 8)
  /-- 1 ATTACHING, 2 READY, 3 UNREACHABLE, 4 DELETING (12 R491) -/
  state : Nat
  /-- the backing is connected (12 R491) -/
  up : Bool
  /-- slot of its key (14 R537) -/
  keySlot : Nat
  /-- U64, SEQ of the next journal record (12 R498) -/
  seq : Nat
  /-- U64, HOME_SEQ (12 R497) -/
  homeSeq : Nat
  /-- U64, HOME_SEQ of the last durable superblock (12 R497) -/
  superSeq : Nat
  /-- bytes that the target's NAWUPF and NABSPF cover (12 R497) -/
  atomicBytes : Nat
  /-- records that hold ring space (12 R497) -/
  journal : List JournalUse
  /-- TIME64 the connection was lost (12 R495) -/
  lostAt : Nat
  /-- TIME64 of the last attempt (12 R495) -/
  lastReconnect : Nat
  /-- TIME64 (12 R493) -/
  lastKeepAlive : Nat
  /-- TIME64 of the last superblock write (12 R497) -/
  lastSuper : Nat
  /-- outstanding backing commands (12 R493) -/
  ops : List BackOp
  /-- number of the next backing command (12 R493) -/
  nextOp : Nat
  deriving DecidableEq, Repr, Inhabited

/-- One 64 KiB line of the tier cache. -/
structure CacheLine where
  /-- 12 bits (12 R500) -/
  cabinet : Nat
  /-- 1 to 16 (12 R500) -/
  nsid : Nat
  /-- 64 KiB unit of the namespace (12 R500) -/
  line : Nat
  /-- place of the line in the tier cache (12 R500) -/
  slot : Nat
  /-- LBAs whose ciphertext the line holds (12 R500) -/
  valid : List Nat
  /-- (LBA, order of the write) not yet durable (12 R499) -/
  dirty : List (Nat × Nat)
  /-- dirty LBAs whose ciphertext cannot be read (12 R500) -/
  lost : List Nat
  deriving DecidableEq, Repr, Inhabited

/-- What the ZX9 has sent to a backing. -/
structure BackOut where
  /-- 12 bits (12 R493) -/
  cabinet : Nat
  /-- 1 to 16 (12 R493) -/
  nsid : Nat
  /-- as of a backing command; 5 8-byte READ, 6 Connect, 7 Keep Alive (12 R493, R494) -/
  kind : Nat
  /-- byte offset at the target (12 R491, R494) -/
  offset : Nat
  /-- what it writes (12 R497) -/
  bytes : List (BitVec 8)
  deriving DecidableEq, Repr, Inhabited

/-- Storage front end. -/
structure Storage where
  /-- controllers that have been enabled (12 R486) -/
  ctrls : List NvmeCtrl
  /-- namespaces not ABSENT, at most 65,536 (12 R491) -/
  namespaces : List Namespace
  /-- the namespace table in both flash devices (12 R492) -/
  flashTable : List (List (BitVec 8))
  /-- tier cache (12 R500) -/
  cache : List CacheLine
  /-- order of cached writes (12 R499) -/
  cacheSeq : Nat
  /-- what was sent to the backings, newest first (12 R493) -/
  backingOut : List BackOut
  deriving DecidableEq, Repr, Inhabited

/-- A cabinet that has left FREE, or cabinet 0. -/
structure Cabinet where
  /-- 12 bits (13 R508) -/
  id : Nat
  /-- CAB_STATE (13 R516) -/
  state : Nat
  /-- TIME64 (13 R522) -/
  freezeStart : Nat
  /-- a SAVE has run since the last change (13 R524) -/
  saved : Bool
  /-- TIME64 (13 R518) -/
  releaseStart : Nat
  /-- an expiry was deferred by freeze, activation or sleep (13 R520) -/
  leaseDeferred : Bool
  deriving DecidableEq, Repr, Inhabited

/-- Cabinets. -/
structure Cabs where
  /-- cabinets not FREE (13 R516) -/
  cabs : List Cabinet
  /-- 32 B, MIGRATION_SECRET (empty: all 0) (13 R525) -/
  migrationSecret : List (BitVec 8)
  deriving DecidableEq, Repr, Inhabited

/-- One assigned key slot from 0 to 65,535. -/
structure KeySlot where
  /-- 16 bits (14 R537) -/
  slot : Nat
  /-- holder, 4,096 for firmware (14 R537) -/
  cabinet : Nat
  /-- derivation label (14 R537) -/
  label : List (BitVec 8)
  /-- imported secret, wrapped; empty for a ladder key (14 R537) -/
  secret : List (BitVec 8)
  deriving DecidableEq, Repr, Inhabited

/-- One cipher request. -/
structure CipherReq where
  /-- 0 ZT, 1 storage, 2 control cores (14 R541) -/
  stream : Nat
  /-- place in its stream (14 R541) -/
  order : Nat
  /-- requester's cabinet, 4,096 for firmware (14 R542) -/
  cabinet : Nat
  /-- 16 bits (14 R541) -/
  slot : Nat
  /-- 0 GCM seal, 1 GCM open, 2 XTS encrypt, 3 XTS decrypt (14 R540) -/
  op : Nat
  /-- device address (14 R541) -/
  src : Nat
  /-- device address (14 R541) -/
  dst : Nat
  /-- bytes (14 R541) -/
  len : Nat
  /-- IV or tweak (14 R541) -/
  iv : Nat
  /-- command it serves (14 R542) -/
  ctx : Option Nat
  /-- it has ended and its result waits for its turn in the stream (14 R541) -/
  ended : Bool
  /-- it has failed (14 R546) -/
  failed : Bool
  /-- waits for a derivation (14 R539) -/
  waitingKey : Bool
  deriving DecidableEq, Repr, Inhabited

/-- What one flash device holds. -/
structure FlashImage where
  /-- readable (14 R553) -/
  present : Bool
  /-- header well formed (14 R553) -/
  headerOk : Bool
  /-- payload digest matches (14 R553) -/
  digestOk : Bool
  /-- RSA signature verifies (14 R553) -/
  rsaOk : Bool
  /-- SLH-DSA signature verifies (14 R553) -/
  slhOk : Bool
  /-- U32, RELEASE (14 R551) -/
  release : Nat
  /-- U32, SVN (14 R551) -/
  svn : Nat
  /-- 48 B, PAYLOAD_DIGEST (14 R551) -/
  digest : List (BitVec 8)
  deriving DecidableEq, Repr, Inhabited

/-- One SPDM session. -/
structure SpdmSession where
  /-- session number (14 R556) -/
  id : Nat
  /-- 0 I3C, 1 management port, 2 DOE (14 R556) -/
  transport : Nat
  deriving DecidableEq, Repr, Inhabited

/-- Root of trust, keys and the cipher engine. -/
structure Trust where
  /-- the PUF root is in the key unit (14 R533) -/
  rootReady : Bool
  /-- reconstruction succeeds with the helper data of device 0, 1 (14 R533) -/
  pufOk : List Bool
  /-- assigned slots from 64 upward (14 R537) -/
  slots : List KeySlot
  /-- slots whose key is cached, most recent first, at most 1,024 (14 R539) -/
  keyCache : List Nat
  /-- holders that wait for the lock (14 R545) -/
  lockWaiters : List Nat
  /-- holder being granted while DRAINING (14 R543) -/
  lockNext : Nat
  /-- TIME64 LOCKED was reached (14 R546) -/
  lockedSince : Nat
  /-- requests not started (14 R541) -/
  waitingReqs : List CipherReq
  /-- requests that run (14 R541) -/
  startedReqs : List CipherReq
  /-- (stream, order, failed) results returned, newest first (14 R541) -/
  doneReqs : List (Nat × Nat × Bool)
  /-- pipe tested next (14 R547) -/
  katPipe : Nat
  /-- pipes that pass the CIPHER_KAT_RUN that waits for the lock (its outcome) (14 R547) -/
  katPassing : Option Nat
  /-- place of the next cipher request (14 R541) -/
  nextReq : Nat
  /-- flash device that holds the running image (17 R650) -/
  runningSlot : Nat
  /-- 48 B, PAYLOAD_DIGEST of the running firmware (14 R558) -/
  runningDigest : List (BitVec 8)
  /-- images A and B (14 R553) -/
  flash : List FlashImage
  /-- U32, SVN floor record in flash (14 R552) -/
  floor : Nat
  /-- the floor record's tag verifies (14 R552) -/
  floorTagOk : Bool
  /-- the certificate bundle verified at the last boot (14 R554) -/
  bundleOk : Bool
  /-- the certificate bundle in flash verifies (17 R650) -/
  bundleStored : Bool
  /-- payload of the profile that the boot selected and verified (14 R554) -/
  appliedProfile : List (BitVec 8)
  /-- the I/O die keys match their certificates (14 R550) -/
  dieOk : List Bool
  /-- (verifies, payload) of profiles 0 to 3 (14 R554, 17 R636) -/
  profiles : List (Bool × List (BitVec 8))
  /-- open sessions, at most 16 (14 R556) -/
  sessions : List SpdmSession
  /-- transports on which NEGOTIATE_ALGORITHMS has run (14 R556) -/
  negotiatedAlgs : List Nat
  /-- (transport, TIME64 requested, request) of signed transcripts in preparation (14 R557) -/
  transcripts : List (Nat × Nat × List (BitVec 8))
  /-- (transport, response code, payload) sent, newest first (14 R556) -/
  spdmOut : List (Nat × Nat × List (BitVec 8))
  /-- requests since the DRBG was seeded (14 R536) -/
  drbgRequests : Nat
  /-- activations since chip reset, measurement 8 (14 R558) -/
  meas : Nat
  deriving DecidableEq, Repr, Inhabited

/-- Energy budget, scheduling and power states. -/
structure Energy where
  /-- mW, sum of the regulators at the last poll (15 R560) -/
  regulatorMw : Nat
  /-- 24 sensors in units of 1/65536 degree C: 16 core, 4 + 4 I/O dies (15 R561) -/
  temps : List Int
  /-- comparators latched and not re-armed (15 R563) -/
  latchedComp : List Nat
  /-- the limiter paces the core (15 R562) -/
  pacing : Bool
  /-- TIME64 (15 R562) -/
  over600Since : Option Nat
  /-- the 10 ms condition of R562 holds (15 R562) -/
  limiterL3 : Bool
  /-- a regulator reports an over-current or over-temperature warning (15 R566) -/
  regulatorWarn : Bool
  /-- 0 to 3 (15 R566) -/
  measuredLevel : Nat
  /-- 3 x TIME64 since when each row's condition has been false with its margin (15 R566) -/
  clearSince : List (Option Nat)
  /-- W, POWER_CAP in force in the window (15 R573) -/
  capW : Nat
  /-- consecutive windows above POWER_CAP (15 R566) -/
  overCapWindows : Nat
  /-- TIME64 the power loop started (15 R564) -/
  powerStart : Option Nat
  /-- power-loop iterations completed (15 R564) -/
  powerDone : Nat
  /-- the power loop is more than 10 periods behind (15 R564) -/
  powerBehind : Bool
  /-- TIME64 the thermal loop started (15 R564) -/
  thermalStart : Option Nat
  /-- thermal-loop iterations completed (15 R564) -/
  thermalDone : Nat
  /-- the thermal loop is more than 10 periods behind (15 R564) -/
  thermalBehind : Bool
  /-- pJ, package energy measured in the window (15 R573) -/
  windowEnergy : Nat
  /-- TIME64 the regulators were last read (15 R560) -/
  polledAt : Nat
  /-- mV, set point that a sleep has left (15 R590) -/
  railBefore : Nat
  /-- TIME64 of the budget window (15 R573) -/
  windowStart : Nat
  /-- ns, BUDGET_WINDOW in force (15 R571) -/
  windowLen : Nat
  /-- fJ, remaining budget (15 R574) -/
  remaining : Int
  /-- fJ debited in the window (15 R573) -/
  debited : Nat
  /-- an aged admission made the remainder negative (15 R576) -/
  negativeOnly : Bool
  /-- 2 RETAIN, 3 DEEP while ENTERING (15 R583) -/
  enteringTarget : Nat
  /-- TIME64 the wake event was latched (15 R590) -/
  wakeAt : Nat
  /-- 2 or 3, state left (15 R590) -/
  wakeFrom : Nat
  /-- source bit (15 R588) -/
  wakeSource : Nat
  /-- 0 none, 1 RAIL, 2 CLOCK, 3 MEM, 4 LOGIC ready (15 R590) -/
  wakeStep : Nat
  /-- the save area holds a verified image (15 R592) -/
  saveAreaOk : Bool
  /-- contents of tile SRAM, bench and control-core memory in the save area (15 R583) -/
  savedSram : List (Nat × BitVec 8)
  /-- TIME64 the last emergency ended (15 R578) -/
  emergencyEndedAt : Nat
  /-- signal-page writes (cabinet, requester, VALUE, HANDLE, OP) that wait for LOGIC_READY (15 R594) -/
  pendingSignals : List (Nat × Nat × BitVec 64 × Nat × Nat)
  deriving DecidableEq, Repr, Inhabited

/-- One incident. -/
structure Incident where
  /-- U32 (16 R618) -/
  number : Nat
  /-- 8 bits (16 R618) -/
  firstSource : Nat
  /-- 8 bits (16 R618) -/
  severity : Nat
  /-- 8 bits (16 R618) -/
  scope : Nat
  /-- 8 bits (16 R618) -/
  rungReached : Nat
  /-- TIME64 (16 R618) -/
  openTime : Nat
  /-- TIME64 (16 R618) -/
  closeTime : Nat
  /-- 16 bits, MASTER form (16 R618) -/
  target : Nat
  /-- U32 (16 R618) -/
  merged : Nat
  /-- U32 (16 R618) -/
  caught : Nat
  /-- 5 x U32 (16 R618) -/
  rungStart : List Nat
  /-- the command of a context rung (16 R610) -/
  ctx : Option Nat
  /-- rung it calls for (16 R596) -/
  firstRung : Nat
  /-- its dump has been written (16 R619) -/
  dumped : Bool
  deriving DecidableEq, Repr, Inhabited

/-- The first-error record of a source. -/
structure FirstErr where
  /-- 5 bits (16 R599) -/
  source : Nat
  /-- U64 (16 R599) -/
  address : Nat
  /-- 16 bits (16 R599) -/
  master : Nat
  /-- 8 bits (16 R599) -/
  access : Nat
  /-- 8 bits (16 R599) -/
  severity : Nat
  /-- 16 bits (16 R599) -/
  count : Nat
  /-- FLAGS [0] (16 R599) -/
  overflow : Bool
  /-- FLAGS [1] (16 R599) -/
  privilegedAccess : Bool
  /-- FLAGS [2] (16 R599) -/
  mergedFlag : Bool
  /-- 8 bits (16 R599) -/
  causeCode : Nat
  /-- TIME64 (16 R599) -/
  time : Nat
  deriving DecidableEq, Repr, Inhabited

/-- One dump. -/
structure Dump where
  /-- 0 to 3 (16 R619) -/
  slot : Nat
  /-- age (16 R619) -/
  order : Nat
  deriving DecidableEq, Repr, Inhabited

/-- The firmware component of a control core. -/
structure Component where
  /-- 0 to 7 (16 R606) -/
  core : Nat
  /-- TIME64 (16 R607) -/
  lastCheckin : Nat
  /-- TIME64 of its traps and missed check-ins, newest first (16 R608) -/
  trapTimes : List Nat
  /-- it is being reloaded (16 R607) -/
  restarting : Bool
  /-- TIME64 the restart began (16 R607) -/
  restartAt : Nat
  deriving DecidableEq, Repr, Inhabited

/-- Fault collector and reset ladder. -/
structure Faults where
  /-- first-error records (16 R599) -/
  firstErrors : List FirstErr
  /-- sources whose next record takes MERGED_INTO_INCIDENT (16 R617) -/
  pendingMerged : List Nat
  /-- the open incident (16 R616) -/
  openInc : Option Incident
  /-- queued incidents, at most 64 (16 R616) -/
  queuedInc : List Incident
  /-- the last one closed (16 R618) -/
  lastInc : Option Incident
  /-- TIME64 of the running rung (16 R610) -/
  rungStartedAt : Nat
  /-- the hardware safe state holds (16 R602) -/
  safe : Bool
  /-- cause that forced it (16 R603) -/
  safeCause : Nat
  /-- the dump of the safe state has been written (16 R603) -/
  safeDumped : Bool
  /-- dumps in always-on SRAM (16 R619) -/
  dumps : List Dump
  /-- age of the next dump (16 R619) -/
  dumpOrder : Nat
  /-- a tray notice is unacknowledged (16 R622) -/
  noticeUnacked : Bool
  /-- the eight components (16 R606) -/
  components : List Component
  /-- TIME64 each monitor last restarted its watchdog (16 R605) -/
  watchdogs : List Nat
  /-- quadrants held by a partition rung (16 R612) -/
  fencedQuads : List Nat
  /-- engine instances held by an engine rung (5 x quadrant + engine) (16 R612) -/
  fencedInsts : List Nat
  /-- engine-level units held by an engine rung (16 R612) -/
  fencedUnits : List Nat
  /-- (context, granules) at the time of the fence (16 R620) -/
  granulesDone : List (Nat × Nat)
  deriving DecidableEq, Repr, Inhabited

/-- One Steral request outstanding. -/
structure StReq where
  /-- 0 I3C, 1 management port in a session, 2 outside one, 3 PF mailbox, 4 VF mailbox (17 R624) -/
  transport : Nat
  /-- I3C target, source address or function (17 R632) -/
  source : Nat
  /-- TIME64 (17 R631) -/
  accepted : Nat
  /-- 16 bits (17 R628) -/
  tag : Nat
  /-- an act that runs (17 R631) -/
  isAct : Bool
  /-- 16 bits (17 R628) -/
  index : Nat
  /-- 8 bits (17 R628) -/
  sub : Nat
  /-- 8 bits (17 R634) -/
  version : Nat
  /-- 16 bits (17 R628) -/
  cabinet : Nat
  deriving DecidableEq, Repr, Inhabited

/-- One Steral response. -/
structure StResp where
  /-- as in StReq (17 R629) -/
  transport : Nat
  /-- as in StReq (17 R629) -/
  source : Nat
  /-- header and payload (17 R629) -/
  bytes : List (BitVec 8)
  deriving DecidableEq, Repr, Inhabited

/-- A PLDM firmware update. -/
structure Update where
  /-- the agent that holds update mode (17 R650) -/
  agent : Nat
  /-- 1 firmware, 2 profile, 3 bundle (17 R650) -/
  component : Nat
  /-- bytes of the image (17 R650) -/
  size : Nat
  /-- bytes received (17 R650) -/
  received : List (BitVec 8)
  /-- the agent's maximum transfer size (17 R650) -/
  maxTransfer : Nat
  /-- verification has passed (17 R650) -/
  verified : Bool
  deriving DecidableEq, Repr, Inhabited

/-- Dictionary server, profiles and PLDM. -/
structure Steral where
  /-- requests outstanding (17 R632) -/
  outstanding : List StReq
  /-- requests held across a firmware activation (op, index, sub, request) (17 R633) -/
  heldReqs : List (Nat × Nat × Nat × ActReq)
  /-- responses sent, newest first (17 R629) -/
  responses : List StResp
  /-- (index, sub, value) read copies of the telemetry counters (17 R645) -/
  latchedCounters : List (Nat × Nat × Nat)
  /-- the update in progress (17 R650) -/
  update : Option Update
  /-- (completion code, data) of PLDM answers, newest first (17 R649) -/
  pldmOut : List (Nat × List (BitVec 8))
  /-- ARP and Neighbor Advertisement answers, newest first (17 R625) -/
  mgmtOut : List (List (BitVec 8))
  /-- 16 bits, MGMT_UDP_PORT in force (17 R635) -/
  mgmtUdpPort : Nat
  /-- 8 bits, MGMT_EID in force (17 R627) -/
  mgmtEid : Nat
  deriving DecidableEq, Repr, Inhabited

/-- Package pins. -/
structure Pins where
  /-- AON_PWRGOOD (18 R655) -/
  aonPwrgood : Bool
  /-- PWRGOOD (18 R655) -/
  pwrgood : Bool
  /-- RESET_N, low while the straps settle (18 R655) -/
  resetN : Bool
  /-- PERST0_N, PERST1_N (18 R655) -/
  perstN : List Bool
  /-- HOST_SPLIT pin (18 R655) -/
  hostSplit : Bool
  /-- PROFILE_SEL[1:0] pins (18 R655) -/
  profileSel : Nat
  /-- I3C_ADDR_SEL[1:0] pins (18 R655) -/
  i3cSel : Nat
  /-- I3C static address, 0x50 + I3C_ADDR_SEL as sampled (18 R655) -/
  i3cAddr : Nat
  /-- WAKE_N (18 R655) -/
  wakeN : Bool
  /-- FAULT_N output (true: released) (18 R655, 16 R597) -/
  faultN : Bool
  /-- THERMTRIP_N output (true: released) (18 R661) -/
  thermtripN : Bool
  /-- AP_REFCLK outputs run, with both power goods high (18 R662) -/
  apRefclk : Bool
  /-- AP_PERST_N[7:0] (18 R662) -/
  apPerstN : List Bool
  /-- mandatory data bytes of In-Band Interrupts sent, newest first (16 R622) -/
  i3cIbi : List Nat
  /-- rails outside their window (18 R665) -/
  railsOut : List Nat
  /-- the ZX9 holds itself in reset for a rail (18 R665) -/
  selfReset : Bool
  /-- the always-on island runs (18 R658) -/
  powered : Bool
  deriving DecidableEq, Repr, Inhabited

/-- The ten crossings: number 2 × island leads into the island, 2 × island + 1 into the core. -/
def resetCrossings : List Crossing :=
  (List.range 10).map fun i => { (default : Crossing) with island := i / 2, intoCore := i % 2 == 1 }

/-- A Drevy core at reset: no register holds a value the spec gives (B0 reads 1); a control core starts in monitor level at
word 0 (05, Control profile). -/
def resetCore (i : Nat) : Core :=
  { (default : Core) with
    id := i
    ga := List.replicate 32 0
    gb := List.replicate 32 0
    grd := [true, false, false, false, false, false, false, false]
    running := decide (64 ≤ i)
    regions := if i < 64 then [] else List.replicate 16 default
    monitor := decide (64 ≤ i) }

/-- The 64 tile cores and the 8 control cores at reset. -/
def resetCores : List Core := (List.range 72).map resetCore

/-- A rule set with no rule in it. -/
def emptyRules : RuleSet :=
  { (default : RuleSet) with
    masks := List.replicate 16 (List.replicate 64 0)
    classDefaults := List.replicate 16 default }

/-- The PCIe functions at reset: function 0. -/
def resetFunctions : List Function := [default]

/-- The cabinets at reset: cabinet 0 is ASSIGNED. -/
def resetCabinets : List Cabinet := [{ (default : Cabinet) with id := 0, state := 1 }]

/-- What the two flash devices hold. -/
def resetFlash : List FlashImage :=
  List.replicate 2
    { present := true, headerOk := true, digestOk := true, rsaOk := true, slhOk := true, release := 1, svn := 0, digest := List.replicate 48 0 }

/-- The n bytes of a field of a profile, little-endian. -/
def profileField : Nat → Nat → List (BitVec 8)
  | 0, _ => []
  | n + 1, v => BitVec.ofNat 8 v :: profileField n (v / 256)

/-- One record of a profile payload (R636): index, subindex, length, value; STAGE_B2 clear. -/
def profileRecord (r : Nat × Nat × Nat × Nat) : List (BitVec 8) :=
  profileField 2 r.1 ++ profileField 1 r.2.1 ++ profileField 1 0 ++ profileField 2 0 ++ profileField 2 r.2.2.1
    ++ profileField r.2.2.1 r.2.2.2 ++ List.replicate ((8 - r.2.2.1 % 8) % 8) 0

/-- A profile payload (R636). -/
def profilePayload (id : Nat) (rs : List (Nat × Nat × Nat × Nat)) : List (BitVec 8) :=
  profileField 4 id ++ profileField 4 rs.length ++ List.replicate 8 0 ++ rs.flatMap profileRecord

/-- The settings with which the four profiles ship (R640): (index, subindex, bytes, value). -/
def shippedSettings : List (List (Nat × Nat × Nat × Nat)) :=
  [[(0x2010, 0, 1, 1), (0x2601, 3, 1, 0), (0x2501, 5, 1, 2)],
   [(0x2301, 0, 4, 25165824), (0x2301, 1, 4, 41943040), (0x2301, 2, 4, 33554432), (0x2504, 1, 8, 8589934592)],
   [(0x2B02, 0, 8, 1099511627776), (0x2B02, 1, 1, 1), (0x2908, 0, 8, 1073741824)],
   [(0x2F05, 1, 1, 0), (0x2302, 0, 1, 0), (0x2D03, 2, 8, 3600000000000), (0x2500, 1, 8, 3600000000000),
    (0x2501, 7, 8, 3600000000000)]]

/-- The four stored profiles, as shipped. -/
def resetProfiles : List (Bool × List (BitVec 8)) :=
  (List.range 4).map fun i => (true, profilePayload i (shippedSettings.getD i []))

/-- The 24 temperature sensors. -/
def resetTemps : List Int := List.replicate 24 1638400

/-- The eight firmware components. -/
def resetComponents : List Component :=
  (List.range 8).map fun i => { (default : Component) with core := i }

/-- Self-timed core: rates, windows, crossings and arbiters, at reset. -/
def Fabric.reset : Fabric where
  minSoFar := [2300, 2300, 2300, 2300]
  belowSince := [none, none, none, none]
  windowLength := 100000000
  crossings := resetCrossings
  arbPointers := []
  holders := []
  preempted := []

/-- Queues, commands, sync objects, leases and the firmware activation, at reset. -/
def Contract.reset : Contract where
  queues := []
  syncs := []
  ctxs := []
  nextCtx := 0
  latches := []
  negotiated := []
  activation := 0
  activationStart := 0
  draining := false
  fencedAt := []
  rrPointers := []

/-- Transform engine: tiles, self-check and the bench, at reset. -/
def Transform.reset : Transform where
  selfcheckBy := 0
  selfcheckStart := 0
  quadrantRetest := []
  benchOrder := 58720256
  benchTransport := 25165824
  benchStaging := 16777216
  accs := []

/-- Drevy cores and the image cache, at reset. -/
def Cores.reset : Cores where
  cores := resetCores
  imageCache := []

/-- GDDR7, CXL tier, translation, sequences and run-ahead, at reset. -/
def Tiers.reset : Tiers where
  cxlBytes := [0, 0, 0, 0]
  cxlUp := [true, true, true, true]
  cxlEnumerated := false
  interleave := 2
  badUnits := []
  correctable := []
  scrubNext := 0
  cxlScrubNext := [0, 0, 0, 0]
  refreshes := 0
  selfRefresh := false
  runaheadGranted := 4294967296
  tierCacheGranted := 0
  tierCacheBase := 0
  backingInGddr := true
  pktBuffer := 268435456
  cacheInGddr := false
  resident := []
  staged := []
  prefetches := []

/-- ZT reliable transport, at reset. -/
def Zt.reset : Zt where
  udpPort := 20058
  conns := []
  missBench := []
  regions := []
  tags := []
  useClock := 0
  sent := []
  jobs := []
  nextJob := 0
  handed := []

/-- Collective engine, at reset. -/
def Coll.reset : Coll where
  groups := []
  outbox := []

/-- Snapshot engine, at reset. -/
def Snap.reset : Snap where
  sets := []

/-- Parser, classifier and traffic manager, at reset. -/
def Packet.reset : Packet where
  committed := emptyRules
  shadow := emptyRules
  previous := none
  frags := []
  fragWait := []
  excQueue := []
  excTokens := []
  subscribers := []
  services := []
  shapers := []
  queues := []
  drrPort := []
  loopback := []
  stagedMeanwhile := false
  rxWaiting := []
  ctrlDelivered := []
  txLog := []
  flows := []
  templateAt := 0
  ipfixSeq := 0
  ipfixOut := []

/-- Host and accelerator ports, at reset. -/
def Ports.reset : Ports where
  hostSplit := false
  vfEnable := false
  numVfs := 0
  vfBar0 := 0
  bar2 := 0
  bar2Log2 := 28
  maxPayload := 128
  maxReadReq := 512
  rcb := 64
  devCtl2 := 0
  functions := resetFunctions
  requests := []
  retiredTags := []
  linkState := []
  apBytes := [0, 0, 0, 0, 0, 0, 0, 0]
  ide := []
  msixSent := []
  completionsOut := []
  hostWrites := 0
  pmeAcked := false
  pmeSignalled := false

/-- Storage front end, at reset. -/
def Storage.reset : Storage where
  ctrls := []
  namespaces := []
  flashTable := []
  cache := []
  cacheSeq := 0
  backingOut := []

/-- Cabinets, at reset. -/
def Cabs.reset : Cabs where
  cabs := resetCabinets
  migrationSecret := []

/-- Root of trust, keys and the cipher engine, at reset. -/
def Trust.reset : Trust where
  rootReady := false
  pufOk := [true, true]
  slots := []
  keyCache := []
  lockWaiters := []
  lockNext := 0
  lockedSince := 0
  waitingReqs := []
  startedReqs := []
  doneReqs := []
  katPipe := 0
  katPassing := none
  nextReq := 0
  runningSlot := 0
  runningDigest := []
  flash := resetFlash
  floor := 0
  floorTagOk := true
  bundleOk := true
  bundleStored := true
  appliedProfile := []
  dieOk := [true, true]
  profiles := resetProfiles
  sessions := []
  negotiatedAlgs := []
  transcripts := []
  spdmOut := []
  drbgRequests := 0
  meas := 0

/-- Energy budget, scheduling and power states, at reset. -/
def Energy.reset : Energy where
  regulatorMw := 0
  temps := resetTemps
  latchedComp := []
  pacing := false
  over600Since := none
  limiterL3 := false
  regulatorWarn := false
  measuredLevel := 0
  clearSince := [none, none, none]
  capW := 600
  overCapWindows := 0
  powerStart := none
  powerDone := 0
  powerBehind := false
  thermalStart := none
  thermalDone := 0
  thermalBehind := false
  windowEnergy := 0
  polledAt := 0
  railBefore := 0
  windowStart := 0
  windowLen := 1000000
  remaining := 0
  debited := 0
  negativeOnly := false
  enteringTarget := 0
  wakeAt := 0
  wakeFrom := 0
  wakeSource := 0
  wakeStep := 0
  saveAreaOk := false
  savedSram := []
  emergencyEndedAt := 0
  pendingSignals := []

/-- Fault collector and reset ladder, at reset. -/
def Faults.reset : Faults where
  firstErrors := []
  pendingMerged := []
  openInc := none
  queuedInc := []
  lastInc := none
  rungStartedAt := 0
  safe := false
  safeCause := 0
  safeDumped := false
  dumps := []
  dumpOrder := 0
  noticeUnacked := false
  components := resetComponents
  watchdogs := [0, 0, 0, 0, 0, 0, 0, 0]
  fencedQuads := []
  fencedInsts := []
  fencedUnits := []
  granulesDone := []

/-- Dictionary server, profiles and PLDM, at reset. -/
def Steral.reset : Steral where
  outstanding := []
  heldReqs := []
  responses := []
  latchedCounters := []
  update := none
  pldmOut := []
  mgmtOut := []
  mgmtUdpPort := 20059
  mgmtEid := 16

/-- Package pins, at reset. -/
def Pins.reset : Pins where
  aonPwrgood := true
  pwrgood := true
  resetN := false
  perstN := [true, true]
  hostSplit := false
  profileSel := 0
  i3cSel := 0
  i3cAddr := 80
  wakeN := true
  faultN := true
  thermtripN := true
  apRefclk := true
  apPerstN := [false, false, false, false, false, false, false, false]
  i3cIbi := []
  railsOut := []
  selfReset := false
  powered := true

end Sys2Proof.Machine
end

