-- ==== Sys2Proof/Machine/State.lean ====
section
/-! DEFINITION. The state of the block, the reasons a step can stop, and the state after reset. -/

namespace Sys2Proof.Machine

/-- Why a command stops the model: the command names something that the spec says does not exist. -/
inductive Fault where
  /-- Raised by a command that names a unit the ZX9 does not have (a quadrant above 3, a core above 71, a CXL port
  above 3, an accelerator port above 7).  Safe: the hardware has no such event. -/
  | noSuchUnit
  deriving DecidableEq, Repr

/-- Why a command has no meaning in the model. -/
inductive Refusal where
  /-- Raised by an arm of exec whose command has no meaning yet.  Safe: the model stops. -/
  | notModelled (mnemonic : String)
  deriving DecidableEq, Repr

/-- The whole state of the ZX9. -/
structure State where
  /-- The commands that wait, first in, first out: the model's own field, the interface of the block. -/
  pending : List Instr
  /-- Device time, TIME64 (00, Units and numbers). -/
  now : Nat
  /-- How many free values have been drawn: the model's own field, not the spec's. -/
  fresh : Nat
  /-- Every dictionary entry whose value differs from its default: (key, value) with rising keys, where the key of
  cabinet c, index i and subindex j is c * 2^24 + i * 2^8 + j and a byte field is held little-endian (R9 to R12). -/
  dict : List (Nat × Nat)
  /-- The bytes of device memory that are not zero, by rising address (R241). -/
  mem : List Host.Cell
  /-- Self-timed core: rates, windows, crossings and arbiters. -/
  fabric : Fabric
  /-- Queues, commands, sync objects, leases and the firmware activation. -/
  contract : Contract
  /-- Transform engine: tiles, self-check and the bench. -/
  transform : Transform
  /-- Drevy cores and the image cache. -/
  cores : Cores
  /-- GDDR7, CXL tier, translation, sequences and run-ahead. -/
  tiers : Tiers
  /-- ZT reliable transport. -/
  zt : Zt
  /-- Collective engine. -/
  coll : Coll
  /-- Snapshot engine. -/
  snap : Snap
  /-- Parser, classifier and traffic manager. -/
  packet : Packet
  /-- Host and accelerator ports. -/
  ports : Ports
  /-- Storage front end. -/
  storage : Storage
  /-- Cabinets. -/
  cabs : Cabs
  /-- Root of trust, keys and the cipher engine. -/
  trust : Trust
  /-- Energy budget, scheduling and power states. -/
  energy : Energy
  /-- Fault collector and reset ladder. -/
  faults : Faults
  /-- Dictionary server, profiles and PLDM. -/
  steral : Steral
  /-- Package pins. -/
  pins : Pins
  deriving DecidableEq, Repr, Inhabited

/-- The machine right after reset: the always-on island has just started device time and every other part is at the
value the spec gives for reset, or at the value notes/assumptions names. -/
def State.reset : State where
  pending := []
  now := 0
  fresh := 0
  dict := []
  mem := []
  fabric := Fabric.reset
  contract := Contract.reset
  transform := Transform.reset
  cores := Cores.reset
  tiers := Tiers.reset
  zt := Zt.reset
  coll := Coll.reset
  snap := Snap.reset
  packet := Packet.reset
  ports := Ports.reset
  storage := Storage.reset
  cabs := Cabs.reset
  trust := Trust.reset
  energy := Energy.reset
  faults := Faults.reset
  steral := Steral.reset
  pins := Pins.reset

end Sys2Proof.Machine
end

