-- ==== Sys2Proof/Machine/Bytes.lean ====
section
/-! DEFINITION. Bit fields, byte order and runs of bytes: every multi-byte value is little-endian unless an outside
standard says otherwise (R5). -/

namespace Sys2Proof.Machine

/-- Bits [hi:lo] of a value. -/
def bits (v hi lo : Nat) : Nat := (v / 2 ^ lo) % 2 ^ (hi + 1 - lo)

/-- Bit i of a value. -/
def bit (v i : Nat) : Bool := (v / 2 ^ i) % 2 == 1

/-- The value with bit i set. -/
def setBit (v i : Nat) : Nat := if bit v i then v else v + 2 ^ i

/-- The value with bit i clear. -/
def clearBit (v i : Nat) : Nat := if bit v i then v - 2 ^ i else v

/-- The two's-complement reading of a w-bit value. -/
def signed (w v : Nat) : Int := if v < 2 ^ (w - 1) then (v : Int) else (v : Int) - (2 : Int) ^ w

/-- The w-bit two's-complement form of an integer. -/
def unsigned (w : Nat) (i : Int) : Nat := (i % (2 : Int) ^ w).toNat

/-- A truth value as 0 or 1. -/
def b2n (b : Bool) : Nat := if b then 1 else 0

/-- The smallest multiple of m that is not below v. -/
def alignUp (v m : Nat) : Nat := (v + (m - 1)) / m * m

/-- Division that rounds up. -/
def ceilDiv (a b : Nat) : Nat := (a + (b - 1)) / b

/-- A value read little-endian (R5). -/
def leNat : Bytes → Nat
  | [] => 0
  | b :: r => b.toNat + 256 * leNat r

/-- The n bytes of a value, little-endian. -/
def toLe : Nat → Nat → Bytes
  | 0, _ => []
  | n + 1, v => BitVec.ofNat 8 v :: toLe n (v / 256)

/-- A value read in network byte order. -/
def beNat (bs : Bytes) : Nat := leNat bs.reverse

/-- The n bytes of a value in network byte order. -/
def toBe (n v : Nat) : Bytes := (toLe n v).reverse

/-- The bytes off to off + len − 1. -/
def slice (bs : Bytes) (off len : Nat) : Bytes := (bs.drop off).take len

/-- The little-endian field of len bytes at off. -/
def field (bs : Bytes) (off len : Nat) : Nat := leNat (slice bs off len)

/-- The network-order field of len bytes at off. -/
def fieldBe (bs : Bytes) (off len : Nat) : Nat := beNat (slice bs off len)

/-- n zero bytes. -/
def zeros (n : Nat) : Bytes := List.replicate n 0

/-- A run of exactly n bytes: cut, or padded with zeros. -/
def fit (n : Nat) (bs : Bytes) : Bytes := bs.take n ++ zeros (n - bs.length)

/-- The run with the bytes from off on replaced. -/
def putBytes (bs : Bytes) (off : Nat) (new : Bytes) : Bytes :=
  bs.take off ++ new ++ bs.drop (off + new.length)

/-- All bytes are zero. -/
def allZero (bs : Bytes) : Bool := bs.all (· == 0)

/-- The list with f applied to the elements that p holds of. -/
def updWhere {α : Type} (p : α → Bool) (f : α → α) (l : List α) : List α :=
  l.map fun x => if p x then f x else x

/-- The list with the element at index i replaced by f of it. -/
def updAt {α : Type} (i : Nat) (f : α → α) (l : List α) : List α :=
  match l[i]? with
  | none => l
  | some x => l.set i (f x)

/-- The value of a key in a list of pairs. -/
def lookupD {β : Type} (l : List (Nat × β)) (k : Nat) (d : β) : β :=
  match l.find? (fun p => p.1 == k) with
  | none => d
  | some p => p.2

/-- The list of pairs with one key's value replaced, or added at the end. -/
def putKey {β : Type} (l : List (Nat × β)) (k : Nat) (v : β) : List (Nat × β) :=
  if l.any (fun p => p.1 == k) then l.map fun p => if p.1 == k then (k, v) else p else l ++ [(k, v)]

/-- The list of pairs without a key. -/
def dropKey {β : Type} (l : List (Nat × β)) (k : Nat) : List (Nat × β) := l.filter fun p => p.1 != k

/-- The lowest number from lo on, below hi, that is not in use. -/
def lowestFree (used : List Nat) (lo hi : Nat) : Option Nat :=
  -- the answer is at most lo + the number in use, so that many candidates suffice
  ((List.range (used.length + 1)).map (· + lo)).find? fun i => i < hi && !used.contains i

/-- Sum of a list. -/
def sumNat (l : List Nat) : Nat := l.foldl (· + ·) 0

/-- The smallest of a list, or d for an empty list. -/
def minNat (l : List Nat) (d : Nat) : Nat :=
  match l with
  | [] => d
  | x :: r => r.foldl min x

/-- A number placed in an ascending list. -/
def insertNat (n : Nat) : List Nat → List Nat
  | [] => [n]
  | x :: r => if n < x then n :: x :: r else if n = x then x :: r else x :: insertNat n r

/-- The distinct numbers of a list in ascending order. -/
def sortNat (l : List Nat) : List Nat := l.foldl (fun acc n => insertNat n acc) []

/-- Whether two half-open ranges share an address. -/
def overlaps (a la b lb : Nat) : Bool := a < b + lb && b < a + la && la != 0 && lb != 0

end Sys2Proof.Machine
end

