-- ==== Sys2Proof/Machine/Dictionary.lean ====
section
/-! DEFINITION. The dictionary: the table of every entry that the chapters of spec/ define (index, subindices, type,
access, classes that may write, default, range), transcribed from their entry tables, and the look-up in it (R9 to
R12). -/

namespace Sys2Proof.Machine

/-- The type of an entry (00, Dictionary conventions; type codes of R629). -/
inductive EntryType where
  | bool | u8 | u16 | u32 | u64 | fix | time64 | handle
  | bytes (n : Nat)
  | str (n : Nat)
  deriving DecidableEq, Repr

/-- The access of an entry (00, Dictionary conventions). -/
inductive Access where
  | ro | rw | wo | act
  deriving DecidableEq, Repr

/-- The values an entry accepts (R9).  `special k` names a range that depends on the state. -/
inductive ValueRange where
  | any
  | between (lo hi : Nat)
  | multiple (m lo hi : Nat)
  | zeroOr (lo hi : Nat)
  | orValue (lo hi v : Nat)
  | mask (m : Nat)
  | special (k : Nat)
  deriving DecidableEq, Repr

/-- One row of an entry table: indices, subindices, type, access, the classes that may write
([0] manager, [1] tray, [2] tenant, [3] host, as in R629), default and range. -/
structure EntryRow where
  idxLo : Nat
  idxHi : Nat
  subLo : Nat
  subHi : Nat
  ty : EntryType
  access : Access
  writers : Nat
  dflt : Nat
  range : ValueRange
  deriving DecidableEq, Repr

/-- Entries of 01 Rate and fabric entries. -/
def fabricEntries : List EntryRow := [
  ⟨0x2000, 0x2000, 1, 4, .u32, .ro, 0, 0, (.between 0 2300)⟩ /- MEASURED_RATE_Q0 to Q3 -/,
  ⟨0x2001, 0x2001, 1, 4, .u32, .ro, 0, 0, (.between 0 2300)⟩ /- MIN_RATE_1MS_Q0 to Q3 -/,
  ⟨0x2002, 0x2002, 1, 1, .u32, .ro, 0, 1450, .any⟩ /- RATE_FLOOR -/,
  ⟨0x2002, 0x2002, 2, 2, .u32, .ro, 0, 2000, .any⟩ /- RATE_NOMINAL -/,
  ⟨0x2002, 0x2002, 3, 3, .u32, .ro, 0, 2300, .any⟩ /- RATE_LIMIT -/,
  ⟨0x2003, 0x2003, 0, 0, .time64, .rw, 3, 100000000, (.between 10000000 1000000000)⟩ /- COMMIT_WINDOW -/,
  ⟨0x2003, 0x2003, 1, 4, .u32, .ro, 0, 0, (.between 0 2300)⟩ /- COMMITTED_RATE_Q0 to Q3 -/,
  ⟨0x2003, 0x2003, 5, 5, .time64, .ro, 0, 0, .any⟩ /- COMMIT_WINDOW_END -/,
  ⟨0x2004, 0x2004, 0, 0, .bool, .rw, 9, 0, (.between 0 1)⟩ /- RATE_TRACKING -/,
  ⟨0x2004, 0x2004, 1, 1, .handle, .rw, 9, 0, (.special 3)⟩ /- RATE_EVENT_SYNC -/,
  ⟨0x2004, 0x2004, 2, 2, .u64, .ro, 0, 0, .any⟩ /- RATE_EVENT_COUNT -/,
  ⟨0x2010, 0x2010, 0, 0, .bool, .rw, 1, 1, (.between 0 1)⟩ /- DETERMINISTIC_MODE -/,
  ⟨0x2010, 0x2010, 1, 1, .u64, .ro, 0, 0, .any⟩ /- ARRIVAL_ORDER_COMMANDS -/,
  ⟨0x2011, 0x2011, 0, 0, .u64, .ro, 0, 0, .any⟩ /- ARB_PREEMPT_COUNT -/,
  ⟨0x2011, 0x2011, 1, 1, .u32, .ro, 0, 0, .any⟩ /- CROSSING_HANG_COUNT -/]

/-- Entries of 02 Contract entries. -/
def contractEntries : List EntryRow := [
  ⟨0x2100, 0x2100, 0, 0, .u8, .ro, 0, 4, .any⟩ /- CONTRACT_VERSION -/,
  ⟨0x2100, 0x2100, 1, 1, .u8, .ro, 0, 2, .any⟩ /- CONTRACT_MIN -/,
  ⟨0x2101, 0x2101, 0, 0, .time64, .rw, 1, 10000000000, (.between 1000000 600000000000)⟩ /- WAIT_DEADLINE_DEFAULT -/,
  ⟨0x2102, 0x2102, 0, 0, .time64, .rw, 9, 2000000000, (.between 100000000 60000000000)⟩ /- HOST_LEASE_PERIOD -/,
  ⟨0x2102, 0x2102, 1, 1, .bool, .act, 8, 0, (.between 0 1)⟩ /- HOST_LEASE_RENEW -/,
  ⟨0x2102, 0x2102, 2, 2, .u8, .ro, 0, 0, (.between 0 3)⟩ /- HOST_LEASE_STATE -/,
  ⟨0x2102, 0x2102, 3, 3, .time64, .ro, 0, 0, .any⟩ /- HOST_LEASE_EXPIRY -/,
  ⟨0x2102, 0x2102, 4, 4, .bool, .act, 8, 0, (.between 0 1)⟩ /- HOST_LEASE_RELEASE -/,
  ⟨0x2102, 0x2102, 5, 5, .bool, .act, 8, 0, (.between 0 1)⟩ /- ADOPT -/,
  ⟨0x2102, 0x2102, 6, 6, .u32, .ro, 0, 0, .any⟩ /- HOST_LEASE_LOSS_COUNT -/,
  ⟨0x2103, 0x2103, 0, 0, .time64, .ro, 0, 100000000, .any⟩ /- CIRCLE_SCAN_PERIOD -/,
  ⟨0x2103, 0x2103, 1, 1, .u32, .ro, 0, 0, .any⟩ /- CIRCLE_COUNT -/,
  ⟨0x2103, 0x2103, 2, 2, (.bytes 140), .ro, 0, 0, .any⟩ /- LAST_CIRCLE -/,
  ⟨0x2104, 0x2104, 0, 0, .u16, .ro, 0, 16384, .any⟩ /- QUEUES_TOTAL -/,
  ⟨0x2104, 0x2104, 1, 1, .u16, .ro, 0, 0, (.between 0 16384)⟩ /- QUEUES_FREE -/,
  ⟨0x2104, 0x2104, 2, 2, .u32, .ro, 0, 262144, .any⟩ /- SYNC_TOTAL -/,
  ⟨0x2104, 0x2104, 3, 3, .u32, .ro, 0, 0, (.between 0 262144)⟩ /- SYNC_FREE -/,
  ⟨0x2105, 0x2105, 0, 0, .u64, .ro, 0, 0, .any⟩ /- HALT_COUNT -/,
  ⟨0x2105, 0x2105, 1, 1, .u64, .ro, 0, 0, .any⟩ /- BAD_DOORBELL_COUNT -/]

/-- Entries of 03 Policy entries. -/
def policyEntries : List EntryRow := [
  ⟨0x2200, 0x2200, 0, 0, .fix, .rw, 3, 131072, (.between 65536 16777216)⟩ /- OUTLIER_RATIO -/,
  ⟨0x2200, 0x2200, 1, 1, .u8, .rw, 3, 4, (.between 0 4)⟩ /- MAX_FORMAT -/,
  ⟨0x2200, 0x2200, 2, 2, .u8, .rw, 3, 0, (.between 0 1)⟩ /- LIMIT_ACTION -/,
  ⟨0x2200, 0x2200, 3, 3, .fix, .rw, 3, 0, (.between 0 65536)⟩ /- ERR_THRESHOLD -/,
  ⟨0x2200, 0x2200, 4, 4, .u8, .rw, 3, 1, (.between 0 1)⟩ /- INF_POLICY -/,
  ⟨0x2200, 0x2200, 5, 5, .u8, .rw, 3, 0, (.between 0 1)⟩ /- ROUNDING_DEFAULT -/,
  ⟨0x2200, 0x2200, 6, 6, .u8, .rw, 3, 2, (.between 0 100)⟩ /- HEAP_PERCENT -/,
  ⟨0x2201, 0x2201, 0, 0, .u32, .ro, 0, 0, .any⟩ /- POLICY_GENERATION -/,
  ⟨0x2201, 0x2201, 1, 1, .u64, .ro, 0, 0, .any⟩ /- MALFORMED_BLOCKS -/,
  ⟨0x2201, 0x2201, 2, 2, .u64, .ro, 0, 0, .any⟩ /- ESCALATION_LIMIT_COUNT -/]

/-- Entries of 04 and 05 entries. -/
def transformEntries : List EntryRow := [
  ⟨0x2300, 0x2300, 0, 0, .u8, .ro, 0, 64, .any⟩ /- TILES_TOTAL -/,
  ⟨0x2300, 0x2300, 1, 1, .u64, .ro, 0, 0, .any⟩ /- TILES_ONLINE -/,
  ⟨0x2300, 0x2300, 2, 2, .u8, .ro, 0, 0, (.between 0 3)⟩ /- SELFCHECK_STATE -/,
  ⟨0x2300, 0x2300, 3, 3, .bool, .act, 3, 0, (.between 0 1)⟩ /- SELFCHECK_RUN -/,
  ⟨0x2300, 0x2300, 4, 4, .time64, .ro, 0, 0, .any⟩ /- SELFCHECK_LAST -/,
  ⟨0x2301, 0x2301, 0, 0, .u32, .rw, 3, 58720256, (.multiple 65536 4194304 92274688)⟩ /- BENCH_ORDER_BYTES -/,
  ⟨0x2301, 0x2301, 1, 1, .u32, .rw, 3, 25165824, (.multiple 65536 4194304 92274688)⟩ /- BENCH_TRANSPORT_BYTES -/,
  ⟨0x2301, 0x2301, 2, 2, .u32, .rw, 3, 16777216, (.multiple 65536 4194304 92274688)⟩ /- BENCH_STAGING_BYTES -/,
  ⟨0x2301, 0x2301, 3, 3, .u32, .ro, 0, 0, .any⟩ /- BENCH_ORDER_HELD_PEAK -/,
  ⟨0x2301, 0x2301, 4, 4, .u64, .ro, 0, 0, .any⟩ /- BENCH_BACKPRESSURE_COUNT -/,
  ⟨0x2302, 0x2302, 0, 0, .bool, .rw, 1, 1, (.between 0 1)⟩ /- KERNELS_ENABLED -/,
  ⟨0x2302, 0x2302, 1, 1, .u32, .rw, 1, 1048576, (.between 1 16777216)⟩ /- KERNEL_BUDGET_DEFAULT -/,
  ⟨0x2303, 0x2303, 0, 0, .u64, .ro, 0, 0, .any⟩ /- COMMANDS_COMPLETED -/,
  ⟨0x2303, 0x2303, 1, 1, .u64, .ro, 0, 0, .any⟩ /- OPT_ELEMENTS_UPDATED -/,
  ⟨0x2303, 0x2303, 2, 2, .u64, .ro, 0, 0, .any⟩ /- OPT_STEPS_SKIPPED -/,
  ⟨0x2400, 0x2400, 0, 0, .u8, .ro, 0, 2, .any⟩ /- IMAGE_VERSION -/,
  ⟨0x2400, 0x2400, 1, 1, .u8, .ro, 0, 64, .any⟩ /- TILE_CORES -/,
  ⟨0x2400, 0x2400, 2, 2, .u8, .ro, 0, 8, .any⟩ /- CONTROL_CORES -/,
  ⟨0x2401, 0x2401, 0, 0, .u16, .ro, 0, 64, .any⟩ /- IMAGE_CACHE_ENTRIES -/,
  ⟨0x2401, 0x2401, 1, 1, .bool, .act, 1, 0, (.between 0 1)⟩ /- IMAGE_CACHE_FLUSH -/,
  ⟨0x2401, 0x2401, 2, 2, .u64, .ro, 0, 0, .any⟩ /- IMAGES_ACCEPTED -/,
  ⟨0x2401, 0x2401, 3, 3, .u64, .ro, 0, 0, .any⟩ /- IMAGES_REJECTED -/,
  ⟨0x2401, 0x2401, 4, 4, (.bytes 16), .ro, 0, 0, .any⟩ /- LAST_REJECT -/,
  ⟨0x2402, 0x2402, 0, 0, .bool, .rw, 1, 0, (.between 0 1)⟩ /- NONDET_ALLOWED -/,
  ⟨0x2402, 0x2402, 1, 1, .u64, .ro, 0, 0, .any⟩ /- KERNEL_TRAPS -/,
  ⟨0x2402, 0x2402, 2, 2, .u64, .ro, 0, 0, .any⟩ /- KERNEL_BUDGET_STOPS -/,
  ⟨0x2403, 0x2403, 0, 0, .u64, .ro, 0, 0, .any⟩ /- CONTROL_TRAPS -/]

/-- Entries of 06 Tier entries. -/
def tierEntries : List EntryRow := [
  ⟨0x2500, 0x2500, 0, 0, .u64, .ro, 0, 68719476736, .any⟩ /- GDDR7_BYTES -/,
  ⟨0x2500, 0x2500, 1, 1, .time64, .rw, 3, 86400000000000, (.between 3600000000000 604800000000000)⟩ /- GDDR7_SCRUB_PERIOD -/,
  ⟨0x2500, 0x2500, 2, 2, .u64, .ro, 0, 0, .any⟩ /- GDDR7_CORRECTED -/,
  ⟨0x2500, 0x2500, 3, 3, .u64, .ro, 0, 0, .any⟩ /- GDDR7_LINK_REPLAYS -/,
  ⟨0x2500, 0x2500, 4, 4, .u64, .ro, 0, 0, .any⟩ /- GDDR7_UNCORRECTABLE -/,
  ⟨0x2501, 0x2501, 1, 4, .u64, .ro, 0, 0, (.between 0 8796093022208)⟩ /- CXL_BYTES_CP0 to CP3 -/,
  ⟨0x2501, 0x2501, 5, 5, .u8, .rw, 3, 2, (.between 0 2)⟩ /- CXL_INTERLEAVE -/,
  ⟨0x2501, 0x2501, 6, 6, .time64, .rw, 3, 10000000, (.between 1000000 100000000)⟩ /- CXL_TIMEOUT -/,
  ⟨0x2501, 0x2501, 7, 7, .time64, .rw, 3, 86400000000000, (.between 3600000000000 604800000000000)⟩ /- CXL_SCRUB_PERIOD -/,
  ⟨0x2501, 0x2501, 8, 8, .u64, .ro, 0, 0, .any⟩ /- CXL_UNCORRECTABLE -/,
  ⟨0x2501, 0x2501, 9, 9, .u64, .ro, 0, 0, .any⟩ /- CXL_UNUSED_BYTES -/,
  ⟨0x2502, 0x2502, 0, 0, (.bytes 2048), .ro, 0, 0, .any⟩ /- UE_LIST -/,
  ⟨0x2502, 0x2502, 1, 1, .u16, .ro, 0, 0, (.between 0 256)⟩ /- UE_LIST_COUNT -/,
  ⟨0x2503, 0x2503, 0, 0, .u32, .ro, 0, 65536, .any⟩ /- SEQ_RESIDENT_MAX -/,
  ⟨0x2503, 0x2503, 1, 1, .u8, .ro, 0, 16, .any⟩ /- SEQ_MOVING_MAX -/,
  ⟨0x2503, 0x2503, 2, 2, .u32, .ro, 0, 0, (.between 0 65536)⟩ /- SEQ_LOCKED -/,
  ⟨0x2503, 0x2503, 3, 3, .u64, .ro, 0, 0, .any⟩ /- LEASE_BREAKS -/,
  ⟨0x2503, 0x2503, 4, 4, .u64, .ro, 0, 0, .any⟩ /- SEQ_COMMITS -/,
  ⟨0x2504, 0x2504, 0, 0, .bool, .rw, 1, 1, (.between 0 1)⟩ /- RUNAHEAD_ENABLED -/,
  ⟨0x2504, 0x2504, 1, 1, .u64, .rw, 3, 4294967296, (.multiple 65536 0 17179869184)⟩ /- RUNAHEAD_STAGING_BYTES -/,
  ⟨0x2504, 0x2504, 2, 2, .u64, .ro, 0, 0, .any⟩ /- STAGING_HITS -/,
  ⟨0x2504, 0x2504, 3, 3, .u64, .ro, 0, 0, .any⟩ /- RUNAHEAD_CANCELLED -/,
  ⟨0x2504, 0x2504, 4, 4, .u64, .ro, 0, 0, (.between 0 68719476736)⟩ /- GDDR7_RESERVED_BYTES -/,
  ⟨0x2504, 0x2504, 5, 5, .u64, .ro, 0, 0, (.between 0 17179869184)⟩ /- RUNAHEAD_STAGING_GRANTED -/]

/-- Entries of 07 ZT entries. -/
def ztEntries : List EntryRow := [
  ⟨0x2600, 0x2600, 0, 0, .u8, .ro, 0, 2, .any⟩ /- ZT_VERSION -/,
  ⟨0x2600, 0x2600, 1, 1, .u8, .ro, 0, 1, .any⟩ /- ZT_MIN -/,
  ⟨0x2600, 0x2600, 2, 2, .u16, .rw, 3, 20058, (.between 1024 65535)⟩ /- ZT_UDP_PORT -/,
  ⟨0x2601, 0x2601, 0, 0, .u32, .ro, 0, 4194304, .any⟩ /- CONTEXTS_TOTAL -/,
  ⟨0x2601, 0x2601, 1, 1, .u32, .ro, 0, 65536, .any⟩ /- CONTEXT_CACHE_ENTRIES -/,
  ⟨0x2601, 0x2601, 2, 2, .u32, .ro, 0, 0, (.between 0 4194304)⟩ /- CONTEXTS_IN_USE -/,
  ⟨0x2601, 0x2601, 3, 3, .u8, .rw, 1, 0, (.between 0 1)⟩ /- BACKING_LOCATION -/,
  ⟨0x2601, 0x2601, 4, 4, .u64, .rw, 9, 0, (.multiple 2097152 0 18446744073707454464)⟩ /- BACKING_HOST_ADDR -/,
  ⟨0x2601, 0x2601, 5, 5, .u64, .ro, 0, 0, .any⟩ /- CONTEXT_MISSES -/,
  ⟨0x2601, 0x2601, 6, 6, .u64, .ro, 0, 0, .any⟩ /- MISS_DROPS -/,
  ⟨0x2601, 0x2601, 7, 7, .time64, .ro, 0, 100000, .any⟩ /- MISS_FETCH_LIMIT -/,
  ⟨0x2602, 0x2602, 0, 0, .u16, .ro, 0, 256, .any⟩ /- WINDOW -/,
  ⟨0x2602, 0x2602, 1, 1, .time64, .rw, 3, 50000, (.between 10000 1000000)⟩ /- RTO_MIN -/,
  ⟨0x2602, 0x2602, 2, 2, .time64, .rw, 3, 10000000, (.between 1000000 20000000)⟩ /- RTO_MAX -/,
  ⟨0x2602, 0x2602, 3, 3, .time64, .ro, 0, 100000000, .any⟩ /- RETRY_LIMIT -/,
  ⟨0x2602, 0x2602, 4, 4, .time64, .rw, 3, 2000, (.between 0 50000)⟩ /- ACK_DELAY -/,
  ⟨0x2602, 0x2602, 5, 5, .time64, .rw, 3, 1000000000, (.between 10000000 60000000000)⟩ /- CONNECT_TIMEOUT -/,
  ⟨0x2603, 0x2603, 0, 0, .u64, .rw, 3, 1073741824, (.between 1048576 2147483648)⟩ /- REKEY_PACKETS -/,
  ⟨0x2603, 0x2603, 1, 1, .u64, .ro, 0, 0, .any⟩ /- AUTH_FAILURES -/,
  ⟨0x2603, 0x2603, 2, 2, .u64, .ro, 0, 0, .any⟩ /- REKEYS -/,
  ⟨0x2603, 0x2603, 3, 3, .u64, .ro, 0, 0, .any⟩ /- STALE_GEN -/,
  ⟨0x2604, 0x2604, 0, 0, .u32, .ro, 0, 262144, .any⟩ /- REGIONS_TOTAL -/,
  ⟨0x2604, 0x2604, 1, 1, .u32, .ro, 0, 0, (.between 0 262144)⟩ /- REGIONS_IN_USE -/,
  ⟨0x2604, 0x2604, 2, 2, .time64, .ro, 0, 50000, .any⟩ /- REVOKE_BOUND -/,
  ⟨0x2605, 0x2605, 0, 0, .u64, .ro, 0, 0, .any⟩ /- PACKETS_SENT -/,
  ⟨0x2605, 0x2605, 1, 1, .u64, .ro, 0, 0, .any⟩ /- RETRANSMITS -/,
  ⟨0x2605, 0x2605, 2, 2, .u64, .ro, 0, 0, .any⟩ /- REORDER_DROPS -/,
  ⟨0x2605, 0x2605, 3, 3, .u64, .ro, 0, 0, .any⟩ /- ERRORS_SENT -/,
  ⟨0x2605, 0x2605, 4, 4, .u64, .ro, 0, 0, .any⟩ /- ERRORS_RECEIVED -/,
  ⟨0x2605, 0x2605, 5, 5, .u64, .ro, 0, 0, .any⟩ /- CONN_FAILURES -/,
  ⟨0x2605, 0x2605, 6, 6, .u64, .ro, 0, 0, .any⟩ /- VERSION_REFUSALS -/,
  ⟨0x2605, 0x2605, 7, 7, .u64, .ro, 0, 0, .any⟩ /- DROPPED_UNMATCHED -/]

/-- Entries of 08 and 09 entries. -/
def groupEntries : List EntryRow := [
  ⟨0x2700, 0x2700, 0, 0, .u8, .ro, 0, 64, .any⟩ /- GROUP_SLOTS -/,
  ⟨0x2700, 0x2700, 1, 1, .u8, .ro, 0, 0, (.between 0 64)⟩ /- GROUPS_IN_USE -/,
  ⟨0x2700, 0x2700, 2, 2, .time64, .ro, 0, 20000000, .any⟩ /- COLL_TIMEOUT -/,
  ⟨0x2700, 0x2700, 3, 3, .time64, .ro, 0, 1000000, .any⟩ /- COLL_HEARTBEAT -/,
  ⟨0x2700, 0x2700, 4, 4, .time64, .ro, 0, 100000000, .any⟩ /- COLL_ESCALATE -/,
  ⟨0x2701, 0x2701, 0, 0, .time64, .rw, 3, 60000000000, (.between 1000000000 600000000000)⟩ /- FORM_TIMEOUT -/,
  ⟨0x2701, 0x2701, 1, 1, .time64, .rw, 3, 10000000000, (.between 100000000 600000000000)⟩ /- COLL_OP_LIMIT -/,
  ⟨0x2710, 0x2710, 0, 63, .u8, .ro, 0, 0, (.between 0 4)⟩ /- GROUP_STATE -/,
  ⟨0x2711, 0x2711, 0, 63, .u32, .ro, 0, 0, .any⟩ /- GROUP_EPOCH -/,
  ⟨0x2712, 0x2712, 0, 63, .u16, .ro, 0, 65535, .any⟩ /- GROUP_RANK -/,
  ⟨0x2713, 0x2713, 0, 63, .u16, .ro, 0, 0, (.between 0 1024)⟩ /- GROUP_SPARES_LEFT -/,
  ⟨0x2720, 0x2720, 0, 0, .u64, .ro, 0, 0, .any⟩ /- COLL_COMMANDS -/,
  ⟨0x2720, 0x2720, 1, 1, .u64, .ro, 0, 0, .any⟩ /- PEER_LOST_REPORTS -/,
  ⟨0x2720, 0x2720, 2, 2, .u64, .ro, 0, 0, .any⟩ /- PROMOTIONS -/,
  ⟨0x2720, 0x2720, 3, 3, .u64, .ro, 0, 0, .any⟩ /- ESCALATIONS -/,
  ⟨0x2720, 0x2720, 4, 4, .u64, .ro, 0, 0, .any⟩ /- ABANDONED_OPS -/,
  ⟨0x2720, 0x2720, 5, 5, .u64, .ro, 0, 0, .any⟩ /- JOIN_REFUSALS -/,
  ⟨0x2720, 0x2720, 6, 6, .u64, .ro, 0, 0, .any⟩ /- STALE_EPOCH_DROPS -/,
  ⟨0x2800, 0x2800, 0, 0, .u8, .ro, 0, 3, .any⟩ /- MANIFEST_VERSION -/,
  ⟨0x2800, 0x2800, 1, 1, .u32, .ro, 0, 65536, .any⟩ /- SNAP_GRANULE -/,
  ⟨0x2800, 0x2800, 2, 2, .u8, .ro, 0, 2, .any⟩ /- FIRN_GENERATIONS -/,
  ⟨0x2801, 0x2801, 0, 0, .time64, .rw, 3, 1000000000, (.between 100000000 5000000000)⟩ /- VOTE_WAIT -/,
  ⟨0x2810, 0x2810, 0, 63, .u8, .ro, 0, 0, (.between 0 4)⟩ /- SET_STATE -/,
  ⟨0x2811, 0x2811, 0, 63, .u64, .ro, 0, 0, .any⟩ /- NEWEST_STEP -/,
  ⟨0x2812, 0x2812, 0, 63, .u64, .ro, 0, 0, .any⟩ /- MIRRORED_STEP -/,
  ⟨0x2813, 0x2813, 0, 63, .u64, .ro, 0, 0, .any⟩ /- DURABLE_STEP -/,
  ⟨0x2814, 0x2814, 0, 63, .u64, .ro, 0, 0, .any⟩ /- IMAGE_BYTES -/,
  ⟨0x2820, 0x2820, 0, 0, .u64, .ro, 0, 0, .any⟩ /- GRANULES_COPIED -/,
  ⟨0x2820, 0x2820, 1, 1, .u64, .ro, 0, 0, .any⟩ /- COW_STALLS -/,
  ⟨0x2820, 0x2820, 2, 2, .u64, .ro, 0, 0, .any⟩ /- RESERVE_STALLS -/,
  ⟨0x2820, 0x2820, 3, 3, .u64, .ro, 0, 0, .any⟩ /- CUT_WAITS -/,
  ⟨0x2820, 0x2820, 4, 4, .u64, .ro, 0, 0, .any⟩ /- DRAINS_SKIPPED -/,
  ⟨0x2820, 0x2820, 5, 5, .u64, .ro, 0, 0, .any⟩ /- ROLLBACKS -/,
  ⟨0x2820, 0x2820, 6, 6, .u64, .ro, 0, 0, .any⟩ /- RESTORES -/,
  ⟨0x2820, 0x2820, 7, 7, .u64, .ro, 0, 0, .any⟩ /- RESTORE_FAILURES -/,
  ⟨0x2820, 0x2820, 8, 8, .u64, .ro, 0, 0, .any⟩ /- RESLICE_ZEROED -/,
  ⟨0x2820, 0x2820, 9, 9, .u64, .ro, 0, 0, .any⟩ /- FRAGMENTS_REBUILT -/,
  ⟨0x2820, 0x2820, 10, 10, .u64, .ro, 0, 0, .any⟩ /- DAMAGED_GENERATIONS -/]

/-- Entries of 10 Packet entries, part 1. -/
def packetEntries1 : List EntryRow := [
  ⟨0x2900, 0x2900, 0, 0, .u16, .ro, 0, 256, .any⟩ /- PARSE_DEPTH -/,
  ⟨0x2900, 0x2900, 1, 1, .u16, .rw, 3, 4789, (.between 1 65535)⟩ /- VXLAN_UDP_PORT -/,
  ⟨0x2900, 0x2900, 2, 2, .u16, .rw, 3, 6081, (.between 1 65535)⟩ /- GENEVE_UDP_PORT -/,
  ⟨0x2900, 0x2900, 3, 3, .u16, .ro, 0, 9216, .any⟩ /- MAX_FRAME -/,
  ⟨0x2901, 0x2901, 0, 0, .u16, .ro, 0, 0, .any⟩ /- RULE_VERSION -/,
  ⟨0x2901, 0x2901, 1, 1, .u64, .rw, 1, 0, (.multiple 64 0 281474976710592)⟩ /- RULE_BATCH_ADDR -/,
  ⟨0x2901, 0x2901, 2, 2, .u32, .rw, 1, 0, (.between 0 65536)⟩ /- RULE_BATCH_COUNT -/,
  ⟨0x2901, 0x2901, 3, 3, .bool, .act, 1, 0, (.between 0 1)⟩ /- RULE_STAGE -/,
  ⟨0x2901, 0x2901, 4, 4, .bool, .act, 1, 0, (.between 0 1)⟩ /- RULE_COMMIT -/,
  ⟨0x2901, 0x2901, 5, 5, .bool, .act, 1, 0, (.between 0 1)⟩ /- RULE_DISCARD -/,
  ⟨0x2901, 0x2901, 6, 6, (.bytes 8), .ro, 0, 0, .any⟩ /- RULE_STAGE_RESULT -/,
  ⟨0x2901, 0x2901, 7, 7, .u8, .ro, 0, 0, (.between 0 2)⟩ /- COMMIT_STATE -/,
  ⟨0x2901, 0x2901, 8, 8, .u32, .ro, 0, 0, (.between 0 1048576)⟩ /- EXACT_IN_USE -/,
  ⟨0x2902, 0x2902, 0, 0, .time64, .rw, 3, 1000000, (.between 10000 100000000)⟩ /- FRAG_WAIT_LIMIT -/,
  ⟨0x2902, 0x2902, 1, 1, .time64, .rw, 3, 10000000, (.between 1000000 1000000000)⟩ /- FRAG_ENTRY_LIFETIME -/,
  ⟨0x2902, 0x2902, 2, 2, .u8, .rw, 3, 0, (.between 0 1)⟩ /- FRAG_MISS_ACTION -/,
  ⟨0x2902, 0x2902, 3, 3, .u16, .ro, 0, 0, (.between 0 8192)⟩ /- FRAG_IN_USE -/,
  ⟨0x2902, 0x2902, 4, 4, .u64, .ro, 0, 0, .any⟩ /- FRAG_TABLE_FULL -/,
  ⟨0x2902, 0x2902, 5, 5, .u64, .ro, 0, 0, .any⟩ /- FRAG_TIMEOUTS -/,
  ⟨0x2903, 0x2903, 0, 7, .u32, .rw, 3, 100000, (.between 0 10000000)⟩ /- EXC_RATE -/,
  ⟨0x2904, 0x2904, 0, 7, .u32, .rw, 3, 1024, (.between 1 65536)⟩ /- EXC_BURST -/,
  ⟨0x2905, 0x2905, 0, 7, .u64, .ro, 0, 0, .any⟩ /- EXC_DROPS -/,
  ⟨0x2906, 0x2906, 0, 0, .u16, .rw, 1, 0, (.between 0 16383)⟩ /- MIRROR_SUBSCRIBER -/,
  ⟨0x2906, 0x2906, 1, 1, .u16, .rw, 1, 0, (.zeroOr 64 9216)⟩ /- MIRROR_TRUNCATE -/,
  ⟨0x2906, 0x2906, 2, 2, .u64, .ro, 0, 0, .any⟩ /- MIRROR_COPIES -/,
  ⟨0x2907, 0x2907, 0, 0, .u64, .rw, 1, 0, (.multiple 128 0 281474976710528)⟩ /- TM_BATCH_ADDR -/,
  ⟨0x2907, 0x2907, 1, 1, .u32, .rw, 1, 0, (.between 0 65536)⟩ /- TM_BATCH_COUNT -/,
  ⟨0x2907, 0x2907, 2, 2, .bool, .act, 1, 0, (.between 0 1)⟩ /- TM_APPLY -/,
  ⟨0x2907, 0x2907, 3, 3, (.bytes 8), .ro, 0, 0, .any⟩ /- TM_APPLY_RESULT -/,
  ⟨0x2908, 0x2908, 0, 0, .u64, .rw, 3, 268435456, (.multiple 65536 67108864 4294967296)⟩ /- PKT_BUFFER_BYTES -/,
  ⟨0x2908, 0x2908, 1, 1, .u32, .ro, 0, 32, .any⟩ /- FINE_SLOT_NS -/,
  ⟨0x2908, 0x2908, 2, 2, .u32, .ro, 0, 65536, .any⟩ /- FINE_SLOTS -/,
  ⟨0x2908, 0x2908, 3, 3, .u32, .ro, 0, 4096, .any⟩ /- COARSE_SLOTS -/,
  ⟨0x2909, 0x2909, 0, 13, .u64, .ro, 0, 0, .any⟩ /- PORT_TX_BYTES -/,
  ⟨0x290A, 0x290A, 0, 13, .u64, .ro, 0, 0, .any⟩ /- QUEUE_DROPS -/,
  ⟨0x290B, 0x290B, 0, 0, .u64, .ro, 0, 0, .any⟩ /- PARSE_ERRORS -/,
  ⟨0x290B, 0x290B, 1, 1, .u64, .ro, 0, 0, .any⟩ /- RULE_DROPS -/,
  ⟨0x290B, 0x290B, 2, 2, .u64, .ro, 0, 0, .any⟩ /- METER_RED -/,
  ⟨0x290B, 0x290B, 3, 3, .u64, .ro, 0, 0, .any⟩ /- METER_YELLOW -/,
  ⟨0x290B, 0x290B, 4, 4, .u64, .ro, 0, 0, .any⟩ /- RING_DROPS -/]

/-- Entries of 10 Packet entries, part 2. -/
def packetEntries2 : List EntryRow := [
  ⟨0x290C, 0x290C, 0, 3, (.bytes 6), .ro, 0, 0, .any⟩ /- PORT_MAC -/,
  ⟨0x290D, 0x290D, 0, 3, (.bytes 6), .rw, 3, 0, .any⟩ /- NEXT_HOP_MAC -/]

/-- Entries of 10 Packet entries. -/
def packetEntries : List EntryRow := packetEntries1 ++ packetEntries2

/-- Entries of 11 Port entries. -/
def portEntries : List EntryRow := [
  ⟨0x2A00, 0x2A00, 0, 0, .u8, .ro, 0, 0, (.between 0 1)⟩ /- HP_MODE -/,
  ⟨0x2A00, 0x2A00, 1, 1, .u8, .ro, 0, 0, (.between 0 7)⟩ /- HP_SPEED -/,
  ⟨0x2A00, 0x2A00, 2, 2, .u8, .ro, 0, 0, (.between 0 16)⟩ /- HP_WIDTH -/,
  ⟨0x2A00, 0x2A00, 3, 3, .u8, .ro, 0, 0, (.between 0 7)⟩ /- HP1_SPEED -/,
  ⟨0x2A00, 0x2A00, 4, 4, .u8, .ro, 0, 0, (.between 0 8)⟩ /- HP1_WIDTH -/,
  ⟨0x2A00, 0x2A00, 5, 5, .u16, .ro, 0, 0, .any⟩ /- TOTAL_VFS -/,
  ⟨0x2A01, 0x2A01, 0, 0, .u64, .rw, 1, 0, (.special 5)⟩ /- APERTURE_OFFSET -/,
  ⟨0x2A02, 0x2A02, 0, 7, .u8, .rw, 3, 7, (.between 1 7)⟩ /- AP_TARGET_SPEED -/,
  ⟨0x2A03, 0x2A03, 0, 7, .u8, .ro, 0, 0, (.between 0 7)⟩ /- AP_SPEED -/,
  ⟨0x2A04, 0x2A04, 0, 7, .u8, .ro, 0, 0, (.between 0 16)⟩ /- AP_WIDTH -/,
  ⟨0x2A05, 0x2A05, 0, 0, .time64, .rw, 3, 10000000, (.between 1000000 250000000)⟩ /- AP_CPL_TIMEOUT -/,
  ⟨0x2A05, 0x2A05, 1, 1, .bool, .rw, 3, 0, (.between 0 1)⟩ /- AP_IDE_REQUIRED -/,
  ⟨0x2A06, 0x2A06, 0, 0, .u64, .ro, 0, 0, .any⟩ /- CPL_TIMEOUTS -/,
  ⟨0x2A06, 0x2A06, 1, 1, .u64, .ro, 0, 0, .any⟩ /- UNEXPECTED_CPLS -/,
  ⟨0x2A06, 0x2A06, 2, 2, .u64, .ro, 0, 0, .any⟩ /- POISON_RECEIVED -/,
  ⟨0x2A06, 0x2A06, 3, 3, .u64, .ro, 0, 0, .any⟩ /- CA_SENT -/,
  ⟨0x2A06, 0x2A06, 4, 4, .u64, .ro, 0, 0, .any⟩ /- PEER_UR -/,
  ⟨0x2A06, 0x2A06, 5, 5, .u64, .ro, 0, 0, .any⟩ /- IDE_FAILURES -/,
  ⟨0x2A06, 0x2A06, 6, 6, .u64, .ro, 0, 0, .any⟩ /- FLRS -/,
  ⟨0x2A40, 0x2A47, 0, 63, (.bytes 32), .rw, 3, 0, (.special 6)⟩ /- PEER_WINDOW_SHADOW -/,
  ⟨0x2A48, 0x2A4F, 0, 63, (.bytes 32), .ro, 0, 0, .any⟩ /- PEER_WINDOW_ACTIVE -/,
  ⟨0x2A50, 0x2A50, 0, 7, .u16, .rw, 3, 0, (.special 7)⟩ /- WINDOW_GEN -/]

/-- Entries of 12 Storage entries and 13 chip-wide cabinet entries. -/
def storageEntries : List EntryRow := [
  ⟨0x2B00, 0x2B00, 0, 0, .u16, .ro, 0, 4096, .any⟩ /- NVME_CONTROLLERS -/,
  ⟨0x2B00, 0x2B00, 1, 1, .u32, .ro, 0, 65536, .any⟩ /- NVME_QPAIRS_TOTAL -/,
  ⟨0x2B00, 0x2B00, 2, 2, .u32, .ro, 0, 65536, (.between 0 65536)⟩ /- NVME_QPAIRS_FREE -/,
  ⟨0x2B00, 0x2B00, 3, 3, .u32, .ro, 0, 262144, .any⟩ /- ATOMIC_WRITE_BYTES -/,
  ⟨0x2B00, 0x2B00, 4, 4, .u64, .ro, 0, 0, .any⟩ /- NVME_CAP -/,
  ⟨0x2B01, 0x2B01, 0, 0, .u64, .rw, 1, 0, (.multiple 64 0 281474976710592)⟩ /- NS_BATCH_ADDR -/,
  ⟨0x2B01, 0x2B01, 1, 1, .u32, .rw, 1, 0, (.between 0 4096)⟩ /- NS_BATCH_COUNT -/,
  ⟨0x2B01, 0x2B01, 2, 2, .bool, .act, 1, 0, (.between 0 1)⟩ /- NS_APPLY -/,
  ⟨0x2B01, 0x2B01, 3, 3, (.bytes 8), .ro, 0, 0, .any⟩ /- NS_APPLY_RESULT -/,
  ⟨0x2B01, 0x2B01, 4, 4, .u32, .ro, 0, 0, (.between 0 65536)⟩ /- NAMESPACES_IN_USE -/,
  ⟨0x2B02, 0x2B02, 0, 0, .u64, .rw, 3, 4294967296, (.multiple 65536 0 1099511627776)⟩ /- TIER_CACHE_BYTES -/,
  ⟨0x2B02, 0x2B02, 1, 1, .u8, .rw, 3, 1, (.between 0 1)⟩ /- TIER_CACHE_LOCATION -/,
  ⟨0x2B02, 0x2B02, 2, 2, .time64, .rw, 3, 30000000000, (.between 1000000000 600000000000)⟩ /- BACKING_HOLD -/,
  ⟨0x2B02, 0x2B02, 3, 3, (.str 224), .rw, 1, 6131754956522506740465378283262370620226808127250451787297632186734, .any⟩ /- HOST_NQN -/,
  ⟨0x2B02, 0x2B02, 4, 4, .u64, .ro, 0, 0, (.between 0 1099511627776)⟩ /- TIER_CACHE_GRANTED -/,
  ⟨0x2B03, 0x2B03, 0, 0, .u64, .ro, 0, 0, .any⟩ /- JOURNAL_REPLAYS -/,
  ⟨0x2B03, 0x2B03, 1, 1, .u64, .ro, 0, 0, .any⟩ /- DIRECT_ATOMIC_WRITES -/,
  ⟨0x2B03, 0x2B03, 2, 2, .u64, .ro, 0, 0, .any⟩ /- JOURNALED_WRITES -/,
  ⟨0x2B03, 0x2B03, 3, 3, .u64, .ro, 0, 0, .any⟩ /- ABORTS_REFUSED -/,
  ⟨0x2B03, 0x2B03, 4, 4, .u64, .ro, 0, 0, .any⟩ /- CACHE_HITS -/,
  ⟨0x2B03, 0x2B03, 5, 5, .u64, .ro, 0, 0, .any⟩ /- BACKING_RECONNECTS -/,
  ⟨0x2B03, 0x2B03, 6, 6, .u64, .ro, 0, 0, .any⟩ /- SELFTESTS_RUN -/,
  ⟨0x2C00, 0x2C00, 0, 0, .u16, .ro, 0, 4096, .any⟩ /- CABINETS_TOTAL -/,
  ⟨0x2C00, 0x2C00, 1, 1, .u16, .ro, 0, 1, (.between 1 4096)⟩ /- CABINETS_ASSIGNED -/,
  ⟨0x2C01, 0x2C01, 0, 0, (.bytes 32), .wo, 3, 0, .any⟩ /- MIGRATION_SECRET -/,
  ⟨0x2C01, 0x2C01, 1, 1, .time64, .rw, 1, 1000000000, (.between 10000000 60000000000)⟩ /- FREEZE_LIMIT -/]

/-- Entries of 14 Trust entries. -/
def trustEntries : List EntryRow := [
  ⟨0x2D00, 0x2D00, 0, 0, .u8, .ro, 0, 0, (.between 0 2)⟩ /- TRUST_STATE -/,
  ⟨0x2D01, 0x2D01, 0, 0, .u8, .ro, 0, 0, (.between 0 1)⟩ /- BOOT_SLOT -/,
  ⟨0x2D01, 0x2D01, 1, 1, .u8, .rw, 3, 0, (.between 0 2)⟩ /- BOOT_PREFERENCE -/,
  ⟨0x2D01, 0x2D01, 2, 2, .u8, .ro, 0, 0, (.between 0 8)⟩ /- IMAGE_A_STATUS -/,
  ⟨0x2D01, 0x2D01, 3, 3, .u8, .ro, 0, 0, (.between 0 8)⟩ /- IMAGE_B_STATUS -/,
  ⟨0x2D01, 0x2D01, 4, 4, .u32, .ro, 0, 0, .any⟩ /- IMAGE_A_RELEASE -/,
  ⟨0x2D01, 0x2D01, 5, 5, .u32, .ro, 0, 0, .any⟩ /- IMAGE_B_RELEASE -/,
  ⟨0x2D01, 0x2D01, 6, 6, .u32, .ro, 0, 0, .any⟩ /- RUNNING_SVN -/,
  ⟨0x2D01, 0x2D01, 7, 7, .u32, .ro, 0, 0, .any⟩ /- SVN_FLOOR -/,
  ⟨0x2D01, 0x2D01, 8, 8, .bool, .act, 3, 0, (.between 0 1)⟩ /- SVN_COMMIT -/,
  ⟨0x2D01, 0x2D01, 9, 9, .u8, .ro, 0, 0, (.between 0 1)⟩ /- PROFILE_STATUS -/,
  ⟨0x2D02, 0x2D02, 0, 0, .u32, .ro, 0, 65536, .any⟩ /- KEY_SLOTS_TOTAL -/,
  ⟨0x2D02, 0x2D02, 1, 1, .u32, .ro, 0, 0, (.between 0 61376)⟩ /- KEY_SLOTS_FREE -/,
  ⟨0x2D02, 0x2D02, 2, 2, .u64, .ro, 0, 0, .any⟩ /- KEY_CACHE_MISSES -/,
  ⟨0x2D03, 0x2D03, 0, 0, .u16, .ro, 0, 65535, .any⟩ /- CIPHER_PIPES_ONLINE -/,
  ⟨0x2D03, 0x2D03, 1, 1, .u32, .ro, 0, 65792, .any⟩ /- CIPHER_LOCK -/,
  ⟨0x2D03, 0x2D03, 2, 2, .time64, .rw, 3, 86400000000000, (.between 3600000000000 604800000000000)⟩ /- CIPHER_KAT_PERIOD -/,
  ⟨0x2D03, 0x2D03, 3, 3, .bool, .act, 3, 0, (.between 0 1)⟩ /- CIPHER_KAT_RUN -/,
  ⟨0x2D03, 0x2D03, 4, 4, .u32, .ro, 0, 0, .any⟩ /- KAT_FAILURES -/,
  ⟨0x2D03, 0x2D03, 5, 5, .time64, .ro, 0, 1000000, .any⟩ /- LOCK_LIMIT -/,
  ⟨0x2D03, 0x2D03, 6, 6, .u32, .ro, 0, 0, .any⟩ /- LOCK_OVERRUNS -/,
  ⟨0x2D04, 0x2D04, 0, 0, .u8, .ro, 0, 19, .any⟩ /- SPDM_VERSION -/,
  ⟨0x2D04, 0x2D04, 1, 1, .u8, .ro, 0, 0, (.between 0 16)⟩ /- SPDM_SESSIONS -/,
  ⟨0x2D04, 0x2D04, 2, 2, .u8, .ro, 0, 0, (.between 0 3)⟩ /- DIE_CHECK -/,
  ⟨0x2D04, 0x2D04, 3, 3, .u32, .ro, 0, 0, .any⟩ /- MEAS_CHANGES -/]

/-- Entries of 15 Energy entries. -/
def energyEntries : List EntryRow := [
  ⟨0x2E00, 0x2E00, 0, 0, .u8, .ro, 0, 0, (.between 0 3)⟩ /- SNOWLINE -/,
  ⟨0x2E00, 0x2E00, 1, 1, .u8, .rw, 3, 0, (.between 0 2)⟩ /- SNOWLINE_MIN -/,
  ⟨0x2E00, 0x2E00, 2, 2, .bool, .ro, 0, 0, (.between 0 1)⟩ /- EMERGENCY_ACTIVE -/,
  ⟨0x2E00, 0x2E00, 3, 3, .u64, .ro, 0, 0, .any⟩ /- LEVEL_CHANGES -/,
  ⟨0x2E00, 0x2E00, 4, 4, .fix, .rw, 3, 6225920, (.between 4587520 6553600)⟩ /- THRESH_WARM -/,
  ⟨0x2E00, 0x2E00, 5, 5, .fix, .rw, 3, 6553600, (.special 11)⟩ /- THRESH_SHED -/,
  ⟨0x2E01, 0x2E01, 0, 0, .u32, .rw, 3, 600, (.between 200 600)⟩ /- POWER_CAP -/,
  ⟨0x2E01, 0x2E01, 1, 1, .time64, .rw, 3, 1000000, (.between 100000 10000000)⟩ /- BUDGET_WINDOW -/,
  ⟨0x2E01, 0x2E01, 2, 2, .time64, .rw, 3, 5000000, (.between 1000000 100000000)⟩ /- ADMIT_MAX_HOLD -/,
  ⟨0x2E01, 0x2E01, 3, 3, .u32, .ro, 0, 0, .any⟩ /- PACKAGE_POWER -/,
  ⟨0x2E01, 0x2E01, 4, 4, .u32, .ro, 0, 0, .any⟩ /- FIXED_POWER -/,
  ⟨0x2E01, 0x2E01, 5, 5, .u16, .ro, 0, 0, (.between 550 850)⟩ /- CORE_RAIL_MV -/,
  ⟨0x2E02, 0x2E02, 1, 1, .u32, .rw, 3, 10000000, (.between 1 4000000000)⟩ /- ENERGY_COEF -/,
  ⟨0x2E02, 0x2E02, 2, 2, .u32, .rw, 3, 35000, (.between 1 4000000000)⟩ /- ENERGY_COEF -/,
  ⟨0x2E02, 0x2E02, 3, 3, .u32, .rw, 3, 25000, (.between 1 4000000000)⟩ /- ENERGY_COEF -/,
  ⟨0x2E02, 0x2E02, 4, 4, .u32, .rw, 3, 20000, (.between 1 4000000000)⟩ /- ENERGY_COEF -/,
  ⟨0x2E02, 0x2E02, 5, 5, .u32, .rw, 3, 15000, (.between 1 4000000000)⟩ /- ENERGY_COEF -/,
  ⟨0x2E02, 0x2E02, 6, 6, .u32, .rw, 3, 140, (.between 1 4000000000)⟩ /- ENERGY_COEF -/,
  ⟨0x2E02, 0x2E02, 7, 7, .u32, .rw, 3, 290, (.between 1 4000000000)⟩ /- ENERGY_COEF -/,
  ⟨0x2E02, 0x2E02, 8, 8, .u32, .rw, 3, 570, (.between 1 4000000000)⟩ /- ENERGY_COEF -/,
  ⟨0x2E02, 0x2E02, 9, 9, .u32, .rw, 3, 1140, (.between 1 4000000000)⟩ /- ENERGY_COEF -/,
  ⟨0x2E02, 0x2E02, 10, 10, .u32, .rw, 3, 4600, (.between 1 4000000000)⟩ /- ENERGY_COEF -/,
  ⟨0x2E02, 0x2E02, 11, 11, .u32, .rw, 3, 2000, (.between 1 4000000000)⟩ /- ENERGY_COEF -/,
  ⟨0x2E02, 0x2E02, 12, 12, .u32, .rw, 3, 20000, (.between 1 4000000000)⟩ /- ENERGY_COEF -/,
  ⟨0x2E03, 0x2E03, 1, 4, .fix, .ro, 0, 0, .any⟩ /- TEMP_Q0 to Q3 -/,
  ⟨0x2E03, 0x2E03, 5, 6, .fix, .ro, 0, 0, .any⟩ /- TEMP_IOD0, IOD1 -/,
  ⟨0x2E04, 0x2E04, 1, 11, .u64, .ro, 0, 0, .any⟩ /- ADMIT_HOLDS -/,
  ⟨0x2E04, 0x2E04, 12, 12, .u64, .ro, 0, 0, .any⟩ /- ADMIT_AGED -/,
  ⟨0x2E04, 0x2E04, 13, 13, .u64, .ro, 0, 0, .any⟩ /- LOOP_OVERRUNS -/,
  ⟨0x2E05, 0x2E05, 0, 0, .u8, .ro, 0, 0, (.between 0 4)⟩ /- POWER_STATE -/,
  ⟨0x2E05, 0x2E05, 1, 1, .u8, .act, 3, 0, (.between 2 3)⟩ /- POWER_STATE_REQ -/,
  ⟨0x2E05, 0x2E05, 2, 2, .u8, .rw, 3, 45, (.between 0 63)⟩ /- WAKE_ENABLE -/,
  ⟨0x2E05, 0x2E05, 3, 3, (.bytes 4), .wo, 3, 0, .any⟩ /- WAKE_TOKEN -/,
  ⟨0x2E05, 0x2E05, 4, 4, (.bytes 16), .ro, 0, 0, .any⟩ /- LAST_WAKE -/,
  ⟨0x2E05, 0x2E05, 5, 5, .u64, .ro, 0, 0, .any⟩ /- WAKE_FRAMES_IGNORED -/,
  ⟨0x2E06, 0x2E06, 1, 8, .u64, .ro, 0, 0, .any⟩ /- REFUSALS -/,
  ⟨0x2E06, 0x2E06, 9, 9, (.bytes 16), .ro, 0, 0, .any⟩ /- LAST_REFUSAL -/,
  ⟨0x2E07, 0x2E07, 0, 0, .u8, .ro, 0, 0, (.between 0 2)⟩ /- ACTIVATION_DEFER -/,
  ⟨0x2E07, 0x2E07, 1, 1, .u32, .ro, 0, 0, .any⟩ /- ACTIVATION_DEFERRALS -/]

/-- Entries of 16 Fault entries. -/
def faultEntries : List EntryRow := [
  ⟨0x2F00, 0x2F00, 0, 0, .u64, .ro, 0, 0, .any⟩ /- FAULT_STATUS -/,
  ⟨0x2F00, 0x2F00, 1, 1, .u64, .act, 3, 0, (.mask 288230371923853311)⟩ /- FAULT_CLEAR -/,
  ⟨0x2F00, 0x2F00, 2, 2, .u64, .rw, 3, 0, (.mask 67108863)⟩ /- FAULT_MASK -/,
  ⟨0x2F00, 0x2F00, 3, 3, .u8, .ro, 0, 255, .any⟩ /- FIRST_SOURCE -/,
  ⟨0x2F01, 0x2F01, 0, 31, (.bytes 32), .ro, 0, 0, .any⟩ /- FIRST_ERROR -/,
  ⟨0x2F02, 0x2F02, 0, 0, (.bytes 64), .ro, 0, 0, .any⟩ /- INCIDENT -/,
  ⟨0x2F02, 0x2F02, 1, 1, .u32, .ro, 0, 0, .any⟩ /- INCIDENTS -/,
  ⟨0x2F02, 0x2F02, 2, 2, .u64, .ro, 0, 0, .any⟩ /- MERGE_OVERFLOWS -/,
  ⟨0x2F03, 0x2F03, 0, 0, .u8, .ro, 0, 0, (.between 0 5)⟩ /- LADDER_STATE -/,
  ⟨0x2F03, 0x2F03, 1, 1, .time64, .ro, 0, 1000000, .any⟩ /- RUNG_DEADLINE -/,
  ⟨0x2F03, 0x2F03, 2, 2, .time64, .ro, 0, 5000000, .any⟩ /- RUNG_DEADLINE -/,
  ⟨0x2F03, 0x2F03, 3, 3, .time64, .ro, 0, 50000000, .any⟩ /- RUNG_DEADLINE -/,
  ⟨0x2F03, 0x2F03, 4, 4, .time64, .ro, 0, 2000000000, .any⟩ /- RUNG_DEADLINE -/,
  ⟨0x2F03, 0x2F03, 5, 5, .time64, .ro, 0, 30000000000, .any⟩ /- RUNG_DEADLINE -/,
  ⟨0x2F03, 0x2F03, 6, 10, .u32, .ro, 0, 0, .any⟩ /- RUNG_COUNT -/,
  ⟨0x2F03, 0x2F03, 11, 11, .u32, .act, 3, 0, (.special 12)⟩ /- RESET_REQUEST -/,
  ⟨0x2F04, 0x2F04, 0, 0, .time64, .rw, 3, 100000000, (.between 10000000 10000000000)⟩ /- ENGINE_HANG_LIMIT -/,
  ⟨0x2F04, 0x2F04, 1, 1, .time64, .ro, 0, 10000000, .any⟩ /- COMPONENT_CHECKIN -/,
  ⟨0x2F04, 0x2F04, 2, 2, .time64, .ro, 0, 100000000, .any⟩ /- MONITOR_WATCHDOG -/,
  ⟨0x2F04, 0x2F04, 3, 3, .u64, .ro, 0, 0, .any⟩ /- HANGS_DETECTED -/,
  ⟨0x2F04, 0x2F04, 4, 11, .u32, .ro, 0, 0, .any⟩ /- COMPONENT_RESTARTS -/,
  ⟨0x2F05, 0x2F05, 0, 0, .bool, .ro, 0, 0, (.between 0 1)⟩ /- SAFE_STATE -/,
  ⟨0x2F05, 0x2F05, 1, 1, .u8, .rw, 3, 1, (.between 0 1)⟩ /- SAFE_STATE_ACTION -/,
  ⟨0x2F05, 0x2F05, 2, 2, .u32, .ro, 0, 0, .any⟩ /- SAFE_STATE_COUNT -/,
  ⟨0x2F06, 0x2F06, 0, 0, (.bytes 16), .ro, 0, 0, .any⟩ /- TRAY_NOTICE -/,
  ⟨0x2F06, 0x2F06, 1, 1, .bool, .act, 2, 0, (.between 0 1)⟩ /- TRAY_NOTICE_ACK -/,
  ⟨0x2F07, 0x2F07, 0, 0, .u8, .ro, 0, 0, (.between 0 4)⟩ /- DUMPS_HELD -/,
  ⟨0x2F07, 0x2F07, 1, 1, .u8, .rw, 3, 0, (.between 0 3)⟩ /- DUMP_SELECT -/,
  ⟨0x2F07, 0x2F07, 2, 2, .u16, .rw, 3, 0, (.multiple 1024 0 7168)⟩ /- DUMP_OFFSET -/,
  ⟨0x2F07, 0x2F07, 3, 3, (.bytes 1024), .ro, 0, 0, .any⟩ /- DUMP_CHUNK -/,
  ⟨0x2F07, 0x2F07, 4, 4, .u8, .rw, 3, 0, (.between 0 15)⟩ /- DUMP_HOLD -/,
  ⟨0x2F07, 0x2F07, 5, 5, .u8, .act, 3, 0, (.between 0 3)⟩ /- DUMP_DISCARD -/,
  ⟨0x2F07, 0x2F07, 6, 6, .u32, .ro, 0, 0, .any⟩ /- DUMPS_LOST -/]

/-- Entries of 17, R635. -/
def identityEntries : List EntryRow := [
  ⟨0x1000, 0x1000, 0, 0, (.str 16), .ro, 0, 30809906633208386, .any⟩ /- VENDOR -/,
  ⟨0x1000, 0x1000, 1, 1, (.str 16), .ro, 0, 3758170, .any⟩ /- PART -/,
  ⟨0x1000, 0x1000, 2, 2, (.str 16), .ro, 0, 0, .any⟩ /- ORDERING_CODE -/,
  ⟨0x1000, 0x1000, 3, 3, .u8, .ro, 0, 162, .any⟩ /- STEPPING -/,
  ⟨0x1000, 0x1000, 4, 4, (.bytes 16), .ro, 0, 0, .any⟩ /- DEVICE_ID -/,
  ⟨0x1000, 0x1000, 5, 6, (.bytes 16), .ro, 0, 0, .any⟩ /- SERIAL_IOD0, IOD1 -/,
  ⟨0x1001, 0x1001, 0, 0, .u32, .ro, 0, 0, .any⟩ /- FW_RELEASE -/,
  ⟨0x1001, 0x1001, 1, 1, .u32, .ro, 0, 0, .any⟩ /- FW_STAGED_RELEASE -/,
  ⟨0x1002, 0x1002, 1, 1, .u16, .ro, 0, 1026, .any⟩ /- IF_CONTRACT -/,
  ⟨0x1002, 0x1002, 2, 2, .u16, .ro, 0, 513, .any⟩ /- IF_ZT -/,
  ⟨0x1002, 0x1002, 3, 3, .u16, .ro, 0, 5136, .any⟩ /- IF_STERAL -/,
  ⟨0x1002, 0x1002, 4, 4, .u16, .ro, 0, 771, .any⟩ /- IF_MANIFEST -/,
  ⟨0x1002, 0x1002, 5, 5, .u16, .ro, 0, 514, .any⟩ /- IF_URISK_IMAGE -/,
  ⟨0x1003, 0x1003, 0, 0, .u8, .ro, 0, 0, (.between 0 3)⟩ /- BRINGUP_STAGE -/,
  ⟨0x1003, 0x1003, 1, 1, (.bytes 32), .ro, 0, 0, .any⟩ /- STAGE_TIMES -/,
  ⟨0x1003, 0x1003, 2, 2, .u8, .ro, 0, 0, (.between 0 3)⟩ /- STAGE_FAULT -/,
  ⟨0x1004, 0x1004, 0, 0, .u8, .ro, 0, 0, (.between 0 3)⟩ /- PROFILE_SEL_PINS -/,
  ⟨0x1004, 0x1004, 1, 1, .u8, .ro, 0, 0, .any⟩ /- PROFILE_APPLIED -/,
  ⟨0x1004, 0x1004, 2, 2, .u8, .rw, 3, 255, (.orValue 0 3 255)⟩ /- PROFILE_OVERRIDE -/,
  ⟨0x1004, 0x1004, 3, 3, .u32, .ro, 0, 0, .any⟩ /- PROFILE_RECORDS_APPLIED -/,
  ⟨0x1004, 0x1004, 4, 4, .u32, .ro, 0, 0, .any⟩ /- PROFILE_RECORDS_REFUSED -/,
  ⟨0x1004, 0x1004, 5, 5, (.bytes 8), .ro, 0, 0, .any⟩ /- PROFILE_FIRST_REFUSED -/,
  ⟨0x1005, 0x1005, 0, 0, .bool, .act, 3, 0, (.between 0 1)⟩ /- FW_ACTIVATE -/,
  ⟨0x1005, 0x1005, 1, 1, .u32, .ro, 0, 0, .any⟩ /- ACTIVATIONS -/,
  ⟨0x1006, 0x1006, 0, 0, (.bytes 16), .rw, 3, 0, .any⟩ /- MGMT_IP -/,
  ⟨0x1006, 0x1006, 1, 1, .u16, .rw, 3, 20059, (.between 1024 65535)⟩ /- MGMT_UDP_PORT -/,
  ⟨0x1006, 0x1006, 2, 2, .u64, .ro, 0, 0, .any⟩ /- STERAL_REQUESTS -/,
  ⟨0x1006, 0x1006, 3, 3, .u64, .ro, 0, 0, .any⟩ /- STERAL_REFUSALS -/,
  ⟨0x1006, 0x1006, 4, 4, (.bytes 6), .ro, 0, 0, .any⟩ /- MGMT_MAC -/,
  ⟨0x1006, 0x1006, 5, 5, .u8, .rw, 3, 16, (.between 8 254)⟩ /- MGMT_EID -/]

/-- Entries of 17 Telemetry entries. -/
def telemetryEntries : List EntryRow := [
  ⟨0x3000, 0x3000, 0, 0, .bool, .act, 3, 0, (.between 0 1)⟩ /- TELEMETRY_LATCH -/,
  ⟨0x3000, 0x3000, 1, 1, .time64, .ro, 0, 0, .any⟩ /- LATCH_TIME -/,
  ⟨0x3010, 0x3010, 0, 3, .u64, .ro, 0, 0, .any⟩ /- EP_RX_FRAMES -/,
  ⟨0x3011, 0x3011, 0, 3, .u64, .ro, 0, 0, .any⟩ /- EP_RX_BYTES -/,
  ⟨0x3012, 0x3012, 0, 3, .u64, .ro, 0, 0, .any⟩ /- EP_TX_FRAMES -/,
  ⟨0x3013, 0x3013, 0, 3, .u64, .ro, 0, 0, .any⟩ /- EP_TX_BYTES -/,
  ⟨0x3014, 0x3014, 0, 3, .u64, .ro, 0, 0, .any⟩ /- EP_FCS_ERRORS -/,
  ⟨0x3015, 0x3015, 0, 3, .u64, .ro, 0, 0, .any⟩ /- EP_FEC_CORRECTED -/,
  ⟨0x3016, 0x3016, 0, 3, .u64, .ro, 0, 0, .any⟩ /- EP_FEC_UNCORRECTED -/,
  ⟨0x3020, 0x3020, 0, 3, .u64, .ro, 0, 0, .any⟩ /- QUADRANT_BUSY_STEPS -/,
  ⟨0x3030, 0x3030, 1, 6, .u32, .ro, 0, 0, (.between 0 1000000)⟩ /- BG_SHARE_PPM -/,
  ⟨0x3100, 0x3100, 0, 0, .bool, .rw, 3, 0, (.between 0 1)⟩ /- IPFIX_ENABLE -/,
  ⟨0x3100, 0x3100, 1, 1, (.bytes 16), .rw, 3, 0, .any⟩ /- IPFIX_COLLECTOR -/,
  ⟨0x3100, 0x3100, 2, 2, .u16, .rw, 3, 4739, (.between 1 65535)⟩ /- IPFIX_COLLECTOR_PORT -/,
  ⟨0x3100, 0x3100, 3, 3, .u32, .rw, 3, 0, .any⟩ /- IPFIX_DOMAIN -/,
  ⟨0x3100, 0x3100, 4, 4, .time64, .rw, 3, 60000000000, (.between 1000000000 3600000000000)⟩ /- IPFIX_ACTIVE_TIMEOUT -/,
  ⟨0x3100, 0x3100, 5, 5, .time64, .rw, 3, 15000000000, (.between 1000000000 600000000000)⟩ /- IPFIX_IDLE_TIMEOUT -/,
  ⟨0x3100, 0x3100, 6, 6, .time64, .rw, 3, 600000000000, (.between 10000000000 3600000000000)⟩ /- IPFIX_TEMPLATE_REFRESH -/,
  ⟨0x3100, 0x3100, 7, 7, .u64, .ro, 0, 0, .any⟩ /- IPFIX_EXPORT_DROPS -/]

/-- Entries of 13 per-cabinet entries, part 1. -/
def cabinetEntries1 : List EntryRow := [
  ⟨0x4000, 0x4000, 0, 0, .u8, .ro, 0, 0, (.between 0 4)⟩ /- CAB_STATE -/,
  ⟨0x4000, 0x4000, 1, 1, .bool, .act, 1, 0, (.between 0 1)⟩ /- ASSIGN -/,
  ⟨0x4000, 0x4000, 2, 2, .bool, .act, 1, 0, (.between 0 1)⟩ /- RELEASE -/,
  ⟨0x4000, 0x4000, 3, 3, .u32, .ro, 0, 0, .any⟩ /- KEY_GEN -/,
  ⟨0x4000, 0x4000, 4, 4, .u32, .ro, 0, 0, .any⟩ /- SHARE_GEN -/,
  ⟨0x4000, 0x4000, 5, 5, .handle, .rw, 5, 0, (.special 4)⟩ /- RESIZE_SYNC -/,
  ⟨0x4001, 0x4001, 1, 8, .u32, .rw, 1, 0, (.special 2)⟩ /- SHARE -/,
  ⟨0x4002, 0x4002, 1, 8, .u32, .ro, 0, 0, .any⟩ /- IN_USE -/,
  ⟨0x4003, 0x4003, 1, 1, .u8, .rw, 1, 16, (.between 1 255)⟩ /- WEIGHT -/,
  ⟨0x4003, 0x4003, 2, 2, .u8, .rw, 1, 0, (.between 0 3)⟩ /- RIGHTS -/,
  ⟨0x4003, 0x4003, 3, 3, .u64, .rw, 1, 0, (.special 1)⟩ /- TRANS_ROOT -/,
  ⟨0x4003, 0x4003, 4, 4, .u64, .rw, 5, 0, (.multiple 4096 0 281474976706560)⟩ /- ADMIN_SQ_BASE -/,
  ⟨0x4003, 0x4003, 5, 5, .u8, .rw, 5, 6, (.between 4 16)⟩ /- ADMIN_SQ_N -/,
  ⟨0x4003, 0x4003, 6, 6, .u64, .rw, 5, 0, (.multiple 4096 0 281474976706560)⟩ /- ADMIN_CQ_BASE -/,
  ⟨0x4003, 0x4003, 7, 7, .u8, .rw, 5, 6, (.between 4 16)⟩ /- ADMIN_CQ_N -/,
  ⟨0x4003, 0x4003, 8, 8, .u16, .rw, 5, 0, (.special 8)⟩ /- ADMIN_VECTOR -/,
  ⟨0x4003, 0x4003, 9, 9, .bool, .act, 5, 0, (.between 0 1)⟩ /- ADMIN_ENABLE -/,
  ⟨0x4004, 0x4004, 0, 0, .time64, .rw, 5, 2000000000, (.between 100000000 60000000000)⟩ /- LEASE_PERIOD -/,
  ⟨0x4004, 0x4004, 1, 1, .bool, .act, 4, 0, (.between 0 1)⟩ /- LEASE_RENEW -/,
  ⟨0x4004, 0x4004, 2, 2, .u8, .ro, 0, 0, (.between 0 3)⟩ /- LEASE_STATE -/,
  ⟨0x4004, 0x4004, 3, 3, .time64, .ro, 0, 0, .any⟩ /- LEASE_EXPIRY -/,
  ⟨0x4004, 0x4004, 4, 4, .bool, .act, 4, 0, (.between 0 1)⟩ /- LEASE_RELEASE -/,
  ⟨0x4004, 0x4004, 5, 5, .bool, .act, 4, 0, (.between 0 1)⟩ /- ADOPT -/,
  ⟨0x4004, 0x4004, 6, 6, .u32, .ro, 0, 0, .any⟩ /- LEASE_LOSS_COUNT -/,
  ⟨0x4005, 0x4005, 0, 0, (.bytes 16), .rw, 4, 0, (.special 9)⟩ /- NVME_AQ_BASES -/,
  ⟨0x4005, 0x4005, 1, 1, .u32, .rw, 4, 0, (.special 10)⟩ /- NVME_AQA -/,
  ⟨0x4005, 0x4005, 2, 2, .bool, .rw, 4, 0, (.between 0 1)⟩ /- NVME_ENABLE -/,
  ⟨0x4005, 0x4005, 3, 3, .u8, .rw, 4, 0, (.between 0 2)⟩ /- NVME_SHUTDOWN -/,
  ⟨0x4005, 0x4005, 4, 4, .u32, .ro, 0, 0, .any⟩ /- NVME_STATUS -/,
  ⟨0x4007, 0x4007, 0, 0, .bool, .act, 1, 0, (.between 0 1)⟩ /- FREEZE -/,
  ⟨0x4007, 0x4007, 1, 1, .bool, .act, 1, 0, (.between 0 1)⟩ /- UNFREEZE -/,
  ⟨0x4007, 0x4007, 2, 2, .u8, .ro, 0, 0, (.between 0 2)⟩ /- FREEZE_RESULT -/,
  ⟨0x4007, 0x4007, 3, 3, .u64, .rw, 1, 0, (.multiple 64 0 281474976710592)⟩ /- SAVE_ADDR -/,
  ⟨0x4007, 0x4007, 4, 4, .u32, .rw, 1, 0, (.between 0 67108864)⟩ /- SAVE_LEN -/,
  ⟨0x4007, 0x4007, 5, 5, .bool, .act, 1, 0, (.between 0 1)⟩ /- SAVE -/,
  ⟨0x4007, 0x4007, 6, 6, .u64, .ro, 0, 0, .any⟩ /- SAVE_RESULT -/,
  ⟨0x4007, 0x4007, 7, 7, .bool, .ro, 0, 0, (.between 0 1)⟩ /- CHANGED_AFTER_SAVE -/,
  ⟨0x4007, 0x4007, 8, 8, .u64, .rw, 1, 0, (.multiple 64 0 281474976710592)⟩ /- RESTORE_ADDR -/,
  ⟨0x4007, 0x4007, 9, 9, .u32, .rw, 1, 0, (.between 0 67108864)⟩ /- RESTORE_LEN -/,
  ⟨0x4007, 0x4007, 10, 10, .bool, .act, 1, 0, (.between 0 1)⟩ /- RESTORE -/]

/-- Entries of 13 per-cabinet entries, part 2. -/
def cabinetEntries2 : List EntryRow := [
  ⟨0x4008, 0x4008, 0, 0, .bool, .rw, 1, 0, (.between 0 1)⟩ /- LOG_ENABLE -/,
  ⟨0x4008, 0x4008, 1, 1, .u64, .rw, 1, 0, (.multiple 65536 0 281474976645120)⟩ /- LOG_BASE -/,
  ⟨0x4008, 0x4008, 2, 2, .u64, .rw, 1, 0, (.multiple 65536 0 281474976710656)⟩ /- LOG_LEN -/,
  ⟨0x4008, 0x4008, 3, 3, .u64, .rw, 1, 0, (.multiple 64 0 281474976710592)⟩ /- LOG_BITMAP_A -/,
  ⟨0x4008, 0x4008, 4, 4, .u64, .rw, 1, 0, (.multiple 64 0 281474976710592)⟩ /- LOG_BITMAP_B -/,
  ⟨0x4008, 0x4008, 5, 5, .bool, .act, 1, 0, (.between 0 1)⟩ /- LOG_SWAP -/,
  ⟨0x4008, 0x4008, 6, 6, .u8, .ro, 0, 0, (.between 0 1)⟩ /- LOG_ACTIVE -/]

/-- Entries of 13 per-cabinet entries. -/
def cabinetEntries : List EntryRow := cabinetEntries1 ++ cabinetEntries2

/-- The entries of the chapter that owns an index (R11). -/
def chapterEntries (idx : Nat) : List EntryRow :=
  if idx < 0x1000 then [] else if idx < 0x2000 then identityEntries
  else if idx < 0x2100 then fabricEntries else if idx < 0x2200 then contractEntries
  else if idx < 0x2300 then policyEntries else if idx < 0x2500 then transformEntries
  else if idx < 0x2600 then tierEntries else if idx < 0x2700 then ztEntries
  else if idx < 0x2900 then groupEntries else if idx < 0x2A00 then packetEntries
  else if idx < 0x2B00 then portEntries else if idx < 0x2D00 then storageEntries
  else if idx < 0x2E00 then trustEntries else if idx < 0x2F00 then energyEntries
  else if idx < 0x3000 then faultEntries else if idx < 0x4000 then telemetryEntries
  else if idx < 0x5000 then cabinetEntries else []

/-- The row of an entry, or none for an index or subindex that no chapter defines (R12). -/
def entryRow (idx sub : Nat) : Option EntryRow :=
  (chapterEntries idx).find? fun r => r.idxLo ≤ idx && idx ≤ r.idxHi && r.subLo ≤ sub && sub ≤ r.subHi

/-- The size in bytes of a value of an entry's type (00, Dictionary conventions). -/
def EntryType.size : EntryType → Nat
  | .bool => 1 | .u8 => 1 | .u16 => 2 | .u32 => 4 | .u64 => 8 | .fix => 4 | .time64 => 8 | .handle => 4
  | .bytes n => n
  | .str n => n

/-- The type code of DESCRIBE (R629). -/
def EntryType.code : EntryType → Nat
  | .bool => 1 | .u8 => 2 | .u16 => 3 | .u32 => 4 | .u64 => 5 | .fix => 8 | .time64 => 9 | .handle => 10
  | .bytes _ => 11
  | .str _ => 12

/-- The access code of DESCRIBE (R629). -/
def Access.code : Access → Nat
  | .ro => 0 | .rw => 1 | .wo => 2 | .act => 3

/-- The store's key of an entry: cabinet, index and subindex. -/
def entryKey (cab idx sub : Nat) : Nat := cab * 16777216 + idx * 256 + sub

/-- The default of an entry that depends on the cabinet: cabinet 0 holds every pool in full (R510) and both rights,
the lease entries of cabinet 0 are those of the contract, and every other entry has its table's default. -/
def entryDefault (cab idx sub : Nat) : Nat :=
  match entryRow idx sub with
  | none => 0
  | some r =>
    if idx = 0x4001 then
      (if cab = 0 then ([16384, 262144, 4194304, 262144, 16384, 65536, 64, 65536].getD (sub - 1) 0) else 0)
    else if idx = 0x4003 && sub = 2 then (if cab = 0 then 3 else 0)
    else r.dflt

end Sys2Proof.Machine
end

