-- ==== Sys2Proof/Machine/Ops.lean ====
section
/-! DEFINITION. The named operations over the dictionary, device memory and the tables of the state, that every
meaning uses: entries and counters, bytes of memory in canonical form, the device address map (R241), free values,
and how a command's result is answered. -/

namespace Sys2Proof.Machine

/-- What a command answers. -/
abbrev Result := Host.Outcome State Fault Refusal

/-! ### Memory: rising addresses, no zero byte listed -/

/-- The byte at an address; an unlisted address reads 0 (notes/assumptions/2.md). -/
def Memory.get : List Host.Cell → Nat → Byte
  | [], _ => 0
  | (a, b) :: r, k => if a = k then b else Memory.get r k

/-- Memory with one byte written, in canonical form. -/
def Memory.put : List Host.Cell → Nat → Byte → List Host.Cell
  | [], k, v => if v = 0 then [] else [(k, v)]
  | (a, b) :: r, k, v =>
    if k < a then (if v = 0 then (a, b) :: r else (k, v) :: (a, b) :: r)
    else if k = a then (if v = 0 then r else (k, v) :: r)
    else (a, b) :: Memory.put r k v

/-- The canonical form: addresses strictly rising, no zero byte listed. -/
def Memory.wf : List Host.Cell → Bool
  | [] => true
  | [(_, b)] => b != 0
  | (a, b) :: (a', b') :: r => b != 0 && a < a' && Memory.wf ((a', b') :: r)

/-- The canonical list of the same bytes (the list itself when it is canonical). -/
def Memory.canon (m : List Host.Cell) : List Host.Cell := m.foldr (fun c acc => Memory.put acc c.1 c.2) []

/-- The n bytes from an address on. -/
def Memory.read (m : List Host.Cell) (a : Nat) : Nat → Bytes
  | 0 => []
  | n + 1 => Memory.get m a :: Memory.read m (a + 1) n

/-- Memory with a run of bytes written from an address on. -/
def Memory.write (m : List Host.Cell) (a : Nat) : Bytes → List Host.Cell
  | [] => m
  | b :: r => Memory.write (Memory.put m a b) (a + 1) r

/-! ### Answers -/

/-- The state t that a command leaves of s: its stores in canonical form; the queue of waiting commands is the block's
interface and stays as it is. -/
def State.stored (s t : State) : State := { t with mem := Memory.canon t.mem, pending := s.pending }

/-- The state t that a command leaves of s when it stores nothing in device memory. -/
def State.unstored (s t : State) : State := { t with mem := s.mem, pending := s.pending }

/-- The result of a command that may store in device memory. -/
def State.commit (s t : State) : Result := .next (s.stored t)

/-- The result of a command that stores nothing in device memory. -/
def State.quiet (s t : State) : Result := .next (s.unstored t)

/-- Nothing happens: the event's condition does not hold in this state (notes/assumptions/6.md). -/
def State.idle (s : State) : Result := .next s

/-! ### Free values -/

/-- A value that the spec leaves open: nothing is known of it, and the next draw is another (notes/assumptions/5.md). -/
def State.freeValue (s : State) : Nat := Config.freeNat s.fresh

/-- The state after a free value has been drawn. -/
def State.drawn (s : State) : State := { s with fresh := s.fresh + 1 }

/-- One of the numbers from lo on, below hi, that are not in use: which of them, the spec leaves open. -/
def pickFree (free : Nat) (used : List Nat) (lo hi : Nat) : Option Nat :=
  match lowestFree used (lo + free % max (hi - lo) 1) hi with
  | some i => some i
  | none => lowestFree used lo hi

/-- n bytes whose contents the spec leaves undefined. -/
def State.undefinedBytes (s : State) (n : Nat) : Bytes := (List.range n).map fun i => Config.freeByte s.fresh i

/-! ### Dictionary entries -/

/-- The lease entries of the contract (0x2102) are those of cabinet 0 (0x4004) under another index. -/
def canonEntry (cab idx sub : Nat) : Nat :=
  if idx = 0x2102 then entryKey 0 0x4004 sub else entryKey cab idx sub

/-- The stored value of a key, when it differs from the entry's default. -/
def kvGet : List (Nat × Nat) → Nat → Option Nat
  | [], _ => none
  | (a, b) :: r, k => if a = k then some b else kvGet r k

/-- A store with a pair placed before the first greater key. -/
def kvInsert : List (Nat × Nat) → Nat → Nat → List (Nat × Nat)
  | [], k, x => [(k, x)]
  | (a, b) :: r, k, x => if k < a then (k, x) :: (a, b) :: r else (a, b) :: kvInsert r k x

/-- The store with one key's value set or removed, keys rising. -/
def kvPut (l : List (Nat × Nat)) (k : Nat) (v : Option Nat) : List (Nat × Nat) :=
  match v with
  | none => dropKey l k
  | some x => kvInsert (dropKey l k) k x

/-- NVME_CAP (R487): MQES 65,535, CQR 1, round robin only, DSTRD 4, the NVM command set, no CMB; what the spec does not state of
CAP is unknown. -/
def nvmeCap : Nat :=
  let x := Config.identity (entryKey 0 0x2B00 4)
  65535 + 2 ^ 16 + x % 256 * 2 ^ 24 + 4 * 2 ^ 32 + x / 256 % 2 * 2 ^ 36 + 2 ^ 37 + x / 512 % 4096 * 2 ^ 45 + x / 2097152 % 64 * 2 ^ 58

/-- The default of an entry, with what is fixed at manufacture (device identity, serials, MAC addresses)
unknown, and the readings that the spec gives no reset value (notes/assumptions/3.md): the core rail at its nominal 0.78 V, every
temperature at 25 °C; TOTAL_VFS as in mode 0 (R452). -/
def entryReset (cab idx sub : Nat) : Nat :=
  if (idx = 0x1000 && (sub = 2 || sub = 4 || sub = 5 || sub = 6)) || (idx = 0x1006 && sub = 4) || idx = 0x290C
      || (idx = 0x2B02 && sub = 3) then
    Config.identity (entryKey cab idx sub)
  else if idx = 0x2A00 && sub = 5 then 4095
  else if idx = 0x2B00 && sub = 4 then nvmeCap
  else if idx = 0x2E01 && sub = 5 then 780
  else if idx = 0x2E03 && sub != 0 then 1638400
  else entryDefault cab idx sub

/-- The value of an entry in a store of entries. -/
def entIn (d : List (Nat × Nat)) (cab idx sub : Nat) : Nat :=
  match kvGet d (canonEntry cab idx sub) with
  | some v => v
  | none => entryReset cab idx sub

/-- The present value of an entry. -/
def State.ent (s : State) (cab idx sub : Nat) : Nat := entIn s.dict cab idx sub

/-- The present value of a chip-wide entry. -/
abbrev State.e (s : State) (idx sub : Nat) : Nat := s.ent 0 idx sub

/-- The size in bytes of an entry's value. -/
def entrySize (idx sub : Nat) : Nat :=
  match entryRow idx sub with
  | some r => r.ty.size
  | none => 8

/-- The state with an entry's value replaced; a value keeps the width of the entry's type. -/
def State.putEnt (s : State) (cab idx sub v : Nat) : State :=
  let v := v % 2 ^ (8 * entrySize idx sub)
  { s with dict := kvPut s.dict (canonEntry cab idx sub) (if v = entryReset cab idx sub then none else some v) }

/-- The state with a chip-wide entry's value replaced. -/
abbrev State.put (s : State) (idx sub v : Nat) : State := s.putEnt 0 idx sub v

/-- A counter advances by n; at its width it wraps (notes/assumptions/7.md). -/
def State.bumpEnt (s : State) (cab idx sub n : Nat) : State :=
  if n = 0 then s else s.putEnt cab idx sub (s.ent cab idx sub + n)

/-- A chip-wide counter advances by n. -/
abbrev State.bump (s : State) (idx sub n : Nat) : State := s.bumpEnt 0 idx sub n

/-! ### Device address map (R241) -/

/-- Base of GDDR7. -/
def gddrBase : Nat := 0x10000000000
/-- Base of the CXL tier window. -/
def cxlBase : Nat := 0x100000000000
/-- Base of the host window. -/
def hostBase : Nat := 0x10000000000000
/-- Base of the accelerator windows. -/
def accelBase : Nat := 0x20000000000000
/-- Size of one accelerator window. -/
def accelSize : Nat := 0x1000000000000
/-- Base of the bench. -/
def benchBase : Nat := 0x4000000
/-- Base of control-core local memory. -/
def controlBase : Nat := 0xA000000
/-- Base of always-on SRAM. -/
def aonBase : Nat := 0xA200000
/-- Base of the dump area (R619). -/
def dumpBase : Nat := 0xA238000

/-- Whether an address lies in a range of given base and size. -/
def within (a base size : Nat) : Bool := base ≤ a && a < base + size

/-- Populated bytes of GDDR7. -/
def State.gddrBytes (s : State) : Nat := s.e 0x2500 0

/-- Whether an address lies in populated GDDR7. -/
def State.inGddr (s : State) (a : Nat) : Bool := within a gddrBase s.gddrBytes

/-- Whether an address lies in the host window. -/
def inHost (a : Nat) : Bool := within a hostBase 0x10000000000000

/-- The accelerator window an address lies in. -/
def accelOf (a : Nat) : Option Nat :=
  if within a accelBase (8 * accelSize) then some ((a - accelBase) / accelSize) else none

/-- The capacity of a CXL port's device. -/
def State.cxlCap (s : State) (p : Nat) : Nat := s.tiers.cxlBytes.getD p 0

/-- The CXL port that serves an address of the tier window, when the address is populated (R246). -/
def State.cxlPort (s : State) (a : Nat) : Option Nat :=
  if a < cxlBase then none else
  let o := a - cxlBase
  if s.tiers.interleave = 0 then
    let p := o / 0x80000000000
    if p < 4 && o % 0x80000000000 < s.cxlCap p then some p else none
  else if s.tiers.interleave = 1 then
    let pair := if o < 0x100000000000 then 0 else 1
    let o' := o - pair * 0x100000000000
    if o' < 2 * min (s.cxlCap (2 * pair)) (s.cxlCap (2 * pair + 1)) then
      some (2 * pair + (o' / 4096) % 2) else none
  else if o < 4 * min (min (s.cxlCap 0) (s.cxlCap 1)) (min (s.cxlCap 2) (s.cxlCap 3)) then
    some ((o / 4096) % 4)
  else none

/-- Whether a device address lies in a populated range (R241). -/
def State.populated (s : State) (a : Nat) : Bool :=
  a < 0xA240000 || s.inGddr a || (s.cxlPort a).isSome || inHost a ||
  (match accelOf a with
   | some n => decide ((a - accelBase) % accelSize < s.ports.apBytes.getD n 0)
   | none => false)

/-- The 64-byte units of a run of bytes. -/
def units64 (a n : Nat) : List Nat :=
  if n = 0 then [] else (List.range ((a + n - 1) / 64 - a / 64 + 1)).map fun i => (a / 64 + i) * 64

/-- The 64 KiB granules of a run of bytes. -/
def granules64k (a n : Nat) : List Nat :=
  if n = 0 then [] else (List.range ((a + n - 1) / 65536 - a / 65536 + 1)).map fun i => (a / 65536 + i) * 65536

/-- A run of bytes cut at 64 KiB boundaries: (address, length) pieces. -/
def piecesOf (a n : Nat) : List (Nat × Nat) :=
  (granules64k a n).map fun g => (max a g, min (a + n) (g + 65536) - max a g)

/-- The first 64-byte unit of a run whose read is uncorrectable: a failed unit (R243, R251), or a unit behind a CXL
link that is down (R247). -/
def State.badUnit (s : State) (a n : Nat) : Option Nat :=
  (units64 a n).find? fun u =>
    s.tiers.badUnits.contains u ||
    (match s.cxlPort u with
     | some p => !(s.tiers.cxlUp.getD p true)
     | none => false)

/-- The n bytes at a device address. -/
def State.readDev (s : State) (a n : Nat) : Bytes := Memory.read s.mem a n

/-- The little-endian value of n bytes at a device address. -/
def State.readNat (s : State) (a n : Nat) : Nat := leNat (s.readDev a n)

/-- Bytes land at a device address: a GDDR7 unit written whole reads correctly again (R251), and a staged copy of a
granule written to is invalidated in the same handshake (R280). -/
def State.storeRaw (s : State) (a : Nat) (bs : Bytes) : State :=
  { s with
    mem := Memory.write s.mem a bs
    tiers := { s.tiers with
      badUnits := s.tiers.badUnits.filter fun u => !(a ≤ u && u + 64 ≤ a + bs.length && s.inGddr u)
      correctable := s.tiers.correctable.filter fun u => !(a ≤ u && u + 64 ≤ a + bs.length)
      staged := s.tiers.staged.map fun g =>
        if overlaps g.source 65536 a bs.length then { g with valid := false } else g } }

/-! ### Tables -/

/-- A queue by index. -/
def State.queue? (s : State) (i : Nat) : Option Queue := s.contract.queues.find? fun q => q.index == i

/-- The state with the queue at an index replaced. -/
def State.updQueue (s : State) (i : Nat) (f : Queue → Queue) : State :=
  { s with contract := { s.contract with queues := updWhere (fun q => q.index == i) f s.contract.queues } }

/-- A started command by its context number. -/
def State.ctx? (s : State) (i : Nat) : Option Ctx := s.contract.ctxs.find? fun c => c.id == i

/-- The state with a context replaced. -/
def State.updCtx (s : State) (i : Nat) (f : Ctx → Ctx) : State :=
  { s with contract := { s.contract with ctxs := updWhere (fun c => c.id == i) f s.contract.ctxs } }

/-- The state without a context. -/
def State.dropCtx (s : State) (i : Nat) : State :=
  { s with contract := { s.contract with ctxs := s.contract.ctxs.filter fun c => c.id != i } }

/-- A sync object of a cabinet by index. -/
def State.sync? (s : State) (cab i : Nat) : Option SyncObj :=
  s.contract.syncs.find? fun o => o.index == i && o.cabinet == cab

/-- The state with a sync object replaced. -/
def State.updSync (s : State) (i : Nat) (f : SyncObj → SyncObj) : State :=
  { s with contract := { s.contract with syncs := updWhere (fun o => o.index == i) f s.contract.syncs } }

/-- A cabinet that is not FREE. -/
def State.cabinet? (s : State) (c : Nat) : Option Cabinet := s.cabs.cabs.find? fun x => x.id == c

/-- The state with a cabinet replaced. -/
def State.updCabinet (s : State) (c : Nat) (f : Cabinet → Cabinet) : State :=
  { s with cabs := { s.cabs with cabs := updWhere (fun x => x.id == c) f s.cabs.cabs } }

/-- The PCIe function that serves a cabinet. -/
def State.function? (s : State) (c : Nat) : Option Function := s.ports.functions.find? fun f => f.cabinet == c

/-- The state with a function replaced. -/
def State.updFunction (s : State) (c : Nat) (g : Function → Function) : State :=
  { s with ports := { s.ports with functions := updWhere (fun f => f.cabinet == c) g s.ports.functions } }

/-- A change to a cabinet's queues or sync objects since its SAVE started (R524). -/
def State.noteChange (s : State) (c : Nat) : State :=
  match s.cabinet? c with
  | none => s
  | some x => if x.saved then s.putEnt c 0x4007 7 1 else s

/-- The share of a pool that a cabinet holds (R510). -/
def State.share (s : State) (cab pool : Nat) : Nat := s.ent cab 0x4001 pool

end Sys2Proof.Machine
end

