-- ==== Sys2Proof/Machine/Flags.lean ====
section
/-! DEFINITION. The flags that events raise: the fault collector's status word and first-error records (R595 to
R601, R617), the event registers and MSI-X messages of a function (R454, R457, R458, R94, R467), the tray notice and
FAULT_N (R597, R622). -/

namespace Sys2Proof.Machine

/-! ### Functions and their interrupts -/

/-- The function that serves a cabinet, at its reset values while nothing has touched it. -/
def State.fn (s : State) (cab : Nat) : Function :=
  match s.function? cab with
  | some f => f
  | none => { (default : Function) with cabinet := cab }

/-- The state with the function of a cabinet replaced. -/
def State.setFn (s : State) (cab : Nat) (g : Function → Function) : State :=
  match s.function? cab with
  | some _ => s.updFunction cab g
  | none =>
    { s with ports := { s.ports with
        functions := s.ports.functions ++ [g { (default : Function) with cabinet := cab }] } }

/-- Whether a cabinet's function is enabled (R463). -/
def State.fnEnabled (s : State) (cab : Nat) : Bool :=
  cab == 0 || (s.ports.hostSplit && cab == 4095) ||
  (s.ports.vfEnable && cab ≤ s.ports.numVfs && !(s.ports.hostSplit && cab == 4095))

/-- Whether the host DMA of a cabinet's function is fenced by its lease: EXPIRED or RELEASED (R92, R520). -/
def State.leaseFenced (s : State) (cab : Nat) : Bool :=
  let st := s.ent cab 0x4004 2
  st == 2 || st == 3

/-- Whether messages and writes of a cabinet's function to the host are held back (R94, R467). -/
def State.hostClosed (s : State) (cab : Nat) : Bool := s.leaseFenced cab || !(s.fn cab).bme

/-- The MSI-X table entry of a vector; at reset it is zero with its mask bit set (R454). -/
def Function.msixEntry (f : Function) (v : Nat) : BitVec 128 :=
  match f.msixTable.find? fun p => p.1 == v with
  | some p => p.2
  | none => BitVec.ofNat 128 (2 ^ 96)

/-- Whether a vector is masked, by its entry or by Function Mask. -/
def Function.msixMasked (f : Function) (v : Nat) : Bool := f.msixAllMasked || (f.msixEntry v).getLsbD 96

/-- The function with a vector marked pending. -/
def Function.markPending (f : Function) (v : Nat) : Function :=
  if f.pba.contains v then f else { f with pba := f.pba ++ [v] }

/-- A vector's message falls due (R458, R58): it is sent, or marked pending while the vector is masked or the
function's host access is held back, and in the hardware safe state no message leaves (R602). -/
def State.sendMsix (s : State) (cab v : Nat) : State :=
  if s.faults.safe then s
  else if s.hostClosed cab || (s.fn cab).msixMasked v then s.setFn cab (·.markPending v)
  else if (s.fn cab).msixEnable then { s with ports := { s.ports with msixSent := (cab, v) :: s.ports.msixSent } }
  else s

/-- A bit of a function's event status is set, and the event message is sent when an enabled status becomes nonzero
(R457, R458). -/
def State.raiseEvent (s : State) (cab b : Nat) : State :=
  let f := s.fn cab
  let s1 := s.setFn cab fun f => { f with evStatus := setBit f.evStatus b }
  if f.evStatus &&& f.evEnable == 0 && setBit f.evStatus b &&& f.evEnable != 0 then s1.sendMsix cab f.evVector else s1

/-! ### Fault collector -/

/-- The severity of a cause code (R596). -/
def causeSeverity (c : Nat) : Nat := if 0x10 ≤ c && c ≤ 0x19 then 2 else 1

/-- The scope of a cause code (R596): 0 none, 1 tile, 2 quadrant, 3 chip. -/
def causeScope (c : Nat) : Nat :=
  if c = 0x10 then 1 else if c = 0x11 then 2 else if 0x12 ≤ c && c ≤ 0x19 then 3 else 0

/-- The rung that a cause code calls for (R596), 0 for none. -/
def causeRung (c : Nat) : Nat :=
  if c = 0x04 then 1 else if c = 0x05 then 4 else if c = 0x10 then 1 else if c = 0x11 then 3
  else if c = 0x17 then 0 else if 0x12 ≤ c && c ≤ 0x19 then 4 else 0

/-- A source of R595 that exists. -/
def sourceDefined (src : Nat) : Bool := src < 26

/-- Sources that handle the errors of the others (R595). -/
def sourcePrivileged (src : Nat) : Bool := 20 ≤ src && src ≤ 23

/-- The quadrant a MASTER value lies in, under R601 and R610. -/
def masterQuadrant (m : Nat) : Option Nat :=
  let k := m / 4096
  let i := m % 4096
  if k = 0 then some (i / 5) else if k = 1 then some (i / 16) else if k = 6 then some i else none

/-- Whether an error is raised by a unit inside the domain of the running rung (R610, R617). -/
def insideDomain (rung target : Nat) (e : ErrorIn) : Bool :=
  if rung = 4 then e.source != 23
  else if rung = 3 then
    e.source == target % 4096 && e.source < 4 || masterQuadrant e.master == some (target % 4096)
  else if rung = 2 then
    if target / 4096 = 0 then
      e.master == target ||
      (target % 4096 % 5 == 1 && e.master / 4096 == 1 && masterQuadrant e.master == some (target % 4096 / 5))
    else e.master == target
  else false

/-- Whether an error is merged into the open incident (R617), or into the safe state that already holds (R623). -/
def State.merges (s : State) (e : ErrorIn) : Bool :=
  match s.faults.openInc with
  | some inc =>
    insideDomain (s.e 0x2F03 0) inc.target e || ((s.faults.safe || s.e 0x2F03 0 == 4) && causeScope e.causeCode == 3)
  | none => false

/-- The first-error record that an error writes (R599, R600). -/
def firstRecord (now : Nat) (merged : Bool) (e : ErrorIn) : FirstErr :=
  if sourcePrivileged e.source then
    { (default : FirstErr) with
      source := e.source, severity := e.severity, privilegedAccess := true, causeCode := e.causeCode }
  else
    { source := e.source, address := e.address, master := e.master, access := e.access, severity := e.severity
      count := 1, overflow := false, privilegedAccess := e.privilegedAccess, mergedFlag := merged
      causeCode := e.causeCode, time := now }

/-- A later error of a source that has its record (R599, R600). -/
def laterRecord (r : FirstErr) : FirstErr :=
  if sourcePrivileged r.source then { r with overflow := true }
  else if r.count < 0xFFFF then { r with count := r.count + 1 }
  else { r with overflow := true }

/-- First-error capture of an error that is not merged (R599). -/
def State.capture (s : State) (e : ErrorIn) : State :=
  let f := s.faults
  if f.firstErrors.any (fun r => r.source == e.source) then
    { s with faults := { f with firstErrors := updWhere (fun r => r.source == e.source) laterRecord f.firstErrors } }
  else
    { s with faults := { f with
        firstErrors := f.firstErrors ++ [firstRecord s.now (f.pendingMerged.contains e.source) e]
        pendingMerged := f.pendingMerged.filter (· != e.source) } }

/-- MERGED of the open incident advances and stops at its width (R617). -/
def State.countMerged (s : State) : State :=
  match s.faults.openInc with
  | some inc =>
    if inc.merged < 0xFFFFFFFF then
      { s with faults := { s.faults with openInc := some { inc with merged := inc.merged + 1 } } }
    else s.bump 0x2F02 2 1
  | none => s

/-- The source's record carries MERGED_INTO_INCIDENT, now or when it is first written (R617); the record of a privileged
source does not hold it (R600). -/
def State.markMerged (s : State) (src : Nat) : State :=
  if sourcePrivileged src then s
  else if s.faults.firstErrors.any (fun r => r.source == src) then
    { s with faults := { s.faults with
        firstErrors := updWhere (fun r => r.source == src) (fun r => { r with mergedFlag := true }) s.faults.firstErrors } }
  else if s.faults.pendingMerged.contains src then s
  else { s with faults := { s.faults with pendingMerged := s.faults.pendingMerged ++ [src] } }

/-- A merged error is counted and marks its source's record (R617). -/
def State.mergeError (s : State) (e : ErrorIn) : State := s.countMerged.markMerged e.source

/-- FAULT_N is asserted while a fatal bit is set or a tray notice is unacknowledged (R597). -/
def State.refreshFaultN (s : State) : State :=
  { s with pins := { s.pins with
      faultN := s.e 0x2F00 0 < 2 ^ 32 && !s.faults.noticeUnacked } }

/-- The bit of FAULT_STATUS that an error sets (R595). -/
def faultBit (e : ErrorIn) : Nat := if e.severity = 2 then 32 + e.source else e.source

/-- An error's bit of FAULT_STATUS is set, and FIRST_SOURCE when the word was zero (R595). -/
def State.latchBit (s : State) (e : ErrorIn) : State :=
  let s1 := s.put 0x2F00 0 (setBit (s.e 0x2F00 0) (faultBit e))
  if s.e 0x2F00 0 == 0 then s1.put 0x2F00 3 e.source else s1

/-- The first-error record or the merge count of an error (R599, R617). -/
def State.latchRecord (s : State) (merged : Bool) (e : ErrorIn) : State :=
  if merged then s.mergeError e else s.capture e

/-- FAULT_NOTICE of a bit that has just been set, unless the bit is masked (R597). -/
def State.latchNotice (s : State) (old b : Nat) : State :=
  if !bit old b && !(b < 32 && bit (s.e 0x2F00 2) b) then s.raiseEvent 0 1 else s

/-- An error is latched (R595): its bit, FIRST_SOURCE, the first-error record or the merge count, FAULT_NOTICE and
FAULT_N.  Reserved sources have no pins. -/
def State.latchError (s : State) (e : ErrorIn) : State :=
  if !sourceDefined e.source then s
  else (((s.latchBit e).latchRecord (s.merges e) e).latchNotice (s.e 0x2F00 0) (faultBit e)).refreshFaultN

/-- A non-fatal error of a source with its cause, address and master. -/
def nonFatal (src cause addr master access : Nat) : ErrorIn :=
  { source := src, severity := 1, address := addr, master := master, access := access, privilegedAccess := false
    causeCode := cause }

/-- MASTER of an error that names none (R601). -/
def masterNone : Nat := 0xF000

/-- MASTER of a cabinet's function (R601). -/
def masterFn (cab : Nat) : Nat := 0x3000 + cab

/-- A non-fatal error whose action is none is latched (R596). -/
def State.note (s : State) (src cause addr master access : Nat) : State :=
  s.latchError (nonFatal src cause addr master access)

/-! ### Tray notice -/

/-- The 16 bytes of a tray notice. -/
def noticeBytes (now code src detail : Nat) : Nat :=
  leNat (toLe 8 now ++ toLe 1 code ++ toLe 1 src ++ [0, 0] ++ toLe 4 detail)

/-- A tray notice waits for its acknowledgement, and an In-Band Interrupt carries its code (R622). -/
def State.callTray (s : State) (code : Nat) : State :=
  { s with
    faults := { s.faults with noticeUnacked := true }
    pins := { s.pins with i3cIbi := code :: s.pins.i3cIbi } }

/-- A tray notice takes the place of the one before (R622). -/
def State.setNotice (s : State) (code src detail : Nat) : State :=
  (s.put 0x2F06 0 (noticeBytes s.now code src detail)).callTray code

/-- A tray notice: it replaces an unacknowledged one of the same or lower code (R622). -/
def State.trayNotice (s : State) (code src detail : Nat) : State :=
  if s.faults.noticeUnacked && code < bits (s.e 0x2F06 0) 71 64 then s
  else (s.setNotice code src detail).refreshFaultN

/-! ### Uncorrectable reads -/

/-- The source that reports for a device address (R595). -/
def sourceOf (a : Nat) : Nat :=
  if a < benchBase then a / 0x1000000 else if a < controlBase then 4 else if a < aonBase then 16
  else if a < 0xA240000 then 23 else if a < cxlBase then 5 else if a < hostBase then 6
  else if a < accelBase then 12 else 13

/-- UE_LIST with n addresses after one more: it holds the last 256, oldest first. -/
def ueListWith (l n a : Nat) : Nat := if n < 256 then l + a * 2 ^ (64 * n) else l / 2 ^ 64 + a * 2 ^ (64 * 255)

/-- An address joins UE_LIST. -/
def State.appendUe (s : State) (a : Nat) : State :=
  (s.put 0x2502 0 (ueListWith (s.e 0x2502 0) (s.e 0x2502 1) a)).put 0x2502 1 (min 256 (s.e 0x2502 1 + 1))

/-- An uncorrectable read of GDDR7 or of the CXL tier is counted (R250). -/
def State.countUe (s : State) (a : Nat) : State :=
  if s.inGddr a then s.bump 0x2500 4 1
  else if (cxlBase ≤ a && a < hostBase : Bool) then s.bump 0x2501 8 1 else s

/-- An uncorrectable read is reported to the fault collector and to UE_LIST, and counted (R250). -/
def State.reportUe (s : State) (a master : Nat) : State := ((s.appendUe a).note (sourceOf a) 0x01 a master 0).countUe a

end Sys2Proof.Machine
end

