-- ==== Sys2Proof/Machine/Operands.lean ====
section
/-! DEFINITION. Operand forms: the fields of a command record (R57, R58), handles (R62), the status codes (R102), the
detail forms of refused commands (R57, R79, R102), and the completion record (R61). -/

namespace Sys2Proof.Machine

/-! ### Status codes (R102) -/

def stOk : Nat := 0x0000
def stOkCounts : Nat := 0x0001
def stBadOpcode : Nat := 0x0101
def stBadHandle : Nat := 0x0102
def stBadRange : Nat := 0x0103
def stBadAlignment : Nat := 0x0104
def stBadField : Nat := 0x0105
def stBadChain : Nat := 0x0106
def stStateConflict : Nat := 0x0201
def stUpstreamFailed : Nat := 0x0202
def stNoResource : Nat := 0x0301
def stAccessFault : Nat := 0x0401
def stBusMasterOff : Nat := 0x0402
def stAccessRevoked : Nat := 0x0403
def stHostLeaseLost : Nat := 0x0404
def stDigestMismatch : Nat := 0x0501
def stEccUncorrectable : Nat := 0x0502
def stEscalationLimit : Nat := 0x0503
def stWaitDeadline : Nat := 0x0601
def stPeerTimeout : Nat := 0x0602
def stDiscardedReset : Nat := 0x0701
def stDiscardedFlr : Nat := 0x0702
def stSecurityRefused : Nat := 0x0801
def stFirmwareFault : Nat := 0x0F01

/-- Whether a status halts the queue (R102). -/
def statusHalts (st : Nat) : Bool :=
  !(st == stOk || st == stOkCounts || st == stDiscardedReset || st == stDiscardedFlr)

/-- Whether a status is a success that applies the signal (R65). -/
def statusOk (st : Nat) : Bool := st == stOk || st == stOkCounts

/-! ### Command record (R57, R58) -/

def recOpcode (r : Bytes) : Nat := field r 0 2
def recFlags (r : Bytes) : Nat := field r 2 2
def recId (r : Bytes) : Nat := field r 4 4
def recWaitHandle (r : Bytes) : Nat := field r 8 4
def recSignalHandle (r : Bytes) : Nat := field r 12 4
def recWaitValue (r : Bytes) : Nat := field r 16 8
def recSignalValue (r : Bytes) : Nat := field r 24 8
def recWaitOp (r : Bytes) : Nat := field r 32 1
def recSignalOp (r : Bytes) : Nat := field r 33 1
def recDeadline (r : Bytes) : Nat := field r 36 4

/-- The field of len bytes at offset off of ARGS. -/
def arg (r : Bytes) (off len : Nat) : Nat := field r (40 + off) len

/-- The engine of an opcode (R46). -/
def recEngine (r : Bytes) : Nat := bits (recOpcode r) 15 12

def recFence (r : Bytes) : Bool := bit (recFlags r) 0
def recQuiet (r : Bytes) : Bool := bit (recFlags r) 1
def recInterrupt (r : Bytes) : Bool := bit (recFlags r) 2
def recChain (r : Bytes) : Nat := bits (recFlags r) 5 3

/-! ### The common part of a record -/

/-- What every queue's record says of its command in the same terms: command record (R57), work request (R308),
packet buffer (R434) and frame record (R436). -/
structure Form where
  cmdId : Nat
  fence : Bool
  quiet : Bool
  interrupt : Bool
  chain : Nat
  waitOp : Nat
  waitHandle : Nat
  waitValue : Nat
  deadlineMs : Nat
  signalOp : Nat
  signalHandle : Nat
  signalValue : Nat
  deriving DecidableEq, Repr, Inhabited

/-- The common part of a record in a queue of an engine byte.  A ZT WAIT waits with GE on its SIGNAL_HANDLE and
applies no signal (R309). -/
def formOf (engine : Nat) (r : Bytes) : Form :=
  if engine = 6 then
    let f := field r 1 1
    let isWait := field r 0 1 == 0x06
    { cmdId := field r 4 4, fence := bit f 0, quiet := bit f 1, interrupt := bit f 2, chain := 0
      waitOp := if isWait then 1 else 0
      waitHandle := if isWait then field r 12 4 else 0
      waitValue := field r 48 8, deadlineMs := 0
      signalOp := if isWait then 0 else field r 2 1
      signalHandle := if isWait then 0 else field r 12 4
      signalValue := field r 16 4 }
  else if engine = 7 || engine = 8 then
    { (default : Form) with cmdId := field r 12 4 }
  else
    { cmdId := recId r, fence := recFence r, quiet := recQuiet r, interrupt := recInterrupt r, chain := recChain r
      waitOp := recWaitOp r, waitHandle := recWaitHandle r, waitValue := recWaitValue r, deadlineMs := recDeadline r
      signalOp := recSignalOp r, signalHandle := recSignalHandle r, signalValue := recSignalValue r }

/-! ### Handles (R62) -/

def handleKind (h : Nat) : Nat := bits h 31 30
def handleCabinet (h : Nat) : Nat := bits h 29 18
def handleIndex (h : Nat) : Nat := bits h 17 0

/-- A sync-object handle. -/
def syncHandle (cab i : Nat) : Nat := 0x40000000 + cab * 2 ^ 18 + i
/-- A queue handle. -/
def queueHandle (cab i : Nat) : Nat := 0x80000000 + cab * 2 ^ 18 + i

/-! ### Refusals of a command -/

/-- Why an operation stops: its status and DETAIL; the device address of an uncorrectable read to report, or of an access
outside the populated ranges. -/
structure Err where
  status : Nat
  detail : Nat
  bad : Option Nat := none
  outside : Option Nat := none
  deriving DecidableEq, Repr, Inhabited

/-- BAD_RANGE naming an ARGS offset (R102). -/
def errRange (off : Nat) : Err := { status := stBadRange, detail := off }
/-- BAD_ALIGNMENT naming an ARGS offset (R57). -/
def errAlign (off : Nat) : Err := { status := stBadAlignment, detail := off }
/-- BAD_FIELD naming an ARGS offset (R57). -/
def errField (off : Nat) : Err := { status := stBadField, detail := off }
/-- STATE_CONFLICT naming an object kind and the state required (R79). -/
def errState (kind required : Nat) : Err := { status := stStateConflict, detail := kind * 256 + required }
/-- An error whose DETAIL is 0. -/
def errPlain (st : Nat) : Err := { status := st, detail := 0 }

/-- The first check of a list that fails. -/
def firstErr : List (Bool × Err) → Option Err
  | [] => none
  | (bad, e) :: r => if bad then some e else firstErr r

/-- The first nonzero ARGS byte that an operation does not name, as BAD_FIELD (R57, R87); named fields are (offset,
length). -/
def reservedErr (r : Bytes) (named : List (Nat × Nat)) : Option Err :=
  ((List.range 24).find? fun i =>
    arg r i 1 != 0 && !(named.any fun f => f.1 ≤ i && i < f.1 + f.2)).map errField

/-- The first error of a reserved-byte check followed by checks. -/
def argsErr (r : Bytes) (named : List (Nat × Nat)) (checks : List (Bool × Err)) : Option Err :=
  match reservedErr r named with
  | some e => some e
  | none => firstErr checks

/-! ### Completion record (R61) -/

/-- The 64 bytes of a completion record. -/
def completionRecord (cmdId status head queue : Nat) (errSet phase : Bool) (detail time : Nat) (area : Bytes) : Bytes :=
  toLe 4 cmdId ++ toLe 2 status ++ toLe 2 head ++ toLe 4 queue ++ toLe 2 (2 * b2n errSet + b2n phase) ++ [0, 0]
    ++ toLe 8 detail ++ toLe 8 time ++ fit 32 area

end Sys2Proof.Machine
end

