-- ==== Sys2Proof/Machine/Access.lean ====
section
/-! DEFINITION. Access to memory: per-cabinet translation (R252 to R255), what a page may map (R254), the fences of
host memory (R92, R463, R467), uncorrectable reads (R250), the snapshot write tracking (R384 to R386) and the dirty
log (R529). -/

namespace Sys2Proof.Machine

/-! ### Translation -/

/-- Whether an entry of the walk is in use with its reserved bits zero (R253). -/
def entryValid (e : Nat) : Bool := bit e 0 && bits e 63 56 == 0 && bits e 7 4 == 0

/-- The device address that an entry holds. -/
def entryAddr (e : Nat) : Nat := bits e 55 8 * 256

/-- Base and size of the bench's staging share (R151). -/
def State.stagingShare (s : State) : Nat × Nat :=
  (benchBase + s.transform.benchOrder + s.transform.benchTransport, s.transform.benchStaging)

/-- Whether a page of given size may be mapped into a cabinet (R254, R279, R500). -/
def State.pageAllowed (s : State) (a size : Nat) : Bool :=
  let inRange (base n : Nat) : Bool := base ≤ a && a + size ≤ base + n
  let (sb, sn) := s.stagingShare
  inRange gddrBase (s.gddrBytes - s.e 0x2504 4) || inRange sb sn || inHost a || (accelOf a).isSome ||
  ((s.cxlPort a).isSome && (s.cxlPort (a + size - 1)).isSome &&
    !(!s.tiers.cacheInGddr && overlaps a size s.tiers.tierCacheBase s.tiers.tierCacheGranted))

/-- What an access needs of the leaf entry. -/
inductive Need where
  | read | write | atomic | any
  deriving DecidableEq, Repr

/-- Whether a leaf entry grants an access (R254). -/
def Need.granted (n : Need) (e : Nat) : Bool :=
  match n with
  | .read => bit e 2
  | .write => bit e 3
  | .atomic => bit e 2 && bit e 3
  | .any => true

/-- An entry of a table, which lies in GDDR7 at the alignment of its level (R252, R254). -/
def State.tableEntry (s : State) (table algn i : Nat) : Option Nat :=
  if s.inGddr table && table % algn == 0 && s.inGddr (table + i * 8 + 7) then
    let e := s.readNat (table + i * 8) 8
    if entryValid e then some e else none
  else none

/-- The leaf entry that maps a cabinet address: (entry, page base, page size) (R252). -/
def State.leaf (s : State) (cab a : Nat) : Option (Nat × Nat × Nat) :=
  if a < 2 ^ 48 then
    match s.tableEntry (s.ent cab 0x4003 3) 4096 (bits a 47 39) with
    | none => none
    | some e0 =>
      if bit e0 1 then none else
      match s.tableEntry (entryAddr e0) 4096 (bits a 38 30) with
      | none => none
      | some e1 =>
        if bit e1 1 then none else
        match s.tableEntry (entryAddr e1) 4096 (bits a 29 21) with
        | none => none
        | some e2 =>
          if bit e2 1 then
            if entryAddr e2 % 2097152 == 0 then some (e2, entryAddr e2, 2097152) else none
          else
            match s.tableEntry (entryAddr e2) 256 (bits a 20 16) with
            | none => none
            | some e3 =>
              if bit e3 1 && entryAddr e3 % 65536 == 0 then some (e3, entryAddr e3, 65536) else none
  else none

/-- The device address of a cabinet address for an access, or none for a translation fault (R254). -/
def State.translate (s : State) (cab a : Nat) (need : Need) : Option Nat :=
  match s.leaf cab a with
  | none => none
  | some (e, base, size) =>
    if need.granted e && s.pageAllowed base size then some (base + a % size) else none

/-- The device pieces of a run of cabinet addresses, or the first address that does not translate. -/
def State.translateRun (s : State) (cab : Nat) (need : Need) : List (Nat × Nat) → Except Nat (List (Nat × Nat))
  | [] => .ok []
  | (a, n) :: r =>
    match s.translate cab a need with
    | none => .error a
    | some d =>
      match s.translateRun cab need r with
      | .error x => .error x
      | .ok l => .ok ((d, n) :: l)

/-! ### Host memory -/

/-- What keeps a cabinet's access to a device address from the host (R463, R92, R467); none when it is open or is no
host address.  While both fences are in force it is BUS_MASTER_OFF (R484). -/
def State.hostErr (s : State) (cab cabAddr dev : Nat) : Option Err :=
  if !inHost dev then none
  else
    let second := s.ports.hostSplit && 0x18000000000000 ≤ dev
    if !s.fnEnabled cab || (s.ports.hostSplit && (second != (cab == 4095))) then
      some { status := stAccessFault, detail := cabAddr }
    else if !(s.fn cab).bme then some (errPlain stBusMasterOff)
    else if s.leaseFenced cab then some (errPlain stHostLeaseLost)
    else none

/-- The first piece of a run that the host keeps from the cabinet. -/
def State.hostErrs (s : State) (cab cabAddr : Nat) (ps : List (Nat × Nat)) : Option Err :=
  ps.findSome? fun p => s.hostErr cab cabAddr p.1

/-! ### Links to devices -/

/-- What keeps an access from a device address behind a link: an accelerator window that is not populated (R241, R476,
R477), an accelerator port whose required Link IDE stream is not Secure (R472), or, for a write, a CXL link that is
down (R247). -/
def State.linkErr (s : State) (cabAddr dev n : Nat) (need : Need) : Option Err :=
  match accelOf dev with
  | some p =>
    if !(s.populated dev && s.populated (dev + n - 1)) then
      some { status := stAccessFault, detail := cabAddr, outside := some dev }
    else if s.e 0x2A05 1 == 1 && !(s.ports.ide.any fun i => i.link == 2 + p && i.stream == 0 && i.state == 2) then
      some { status := stAccessFault, detail := cabAddr }
    else none
  | none =>
    if need == .read then none else
    (units64 dev n).findSome? fun u =>
      match s.cxlPort u with
      | some p => if s.tiers.cxlUp.getD p true then none else some { status := stEccUncorrectable, detail := u, bad := some u }
      | none => none

/-- The first link error of the pieces of a run that begins at a cabinet address. -/
def State.linkErrs (s : State) (need : Need) : Nat → List (Nat × Nat) → Option Err
  | _, [] => none
  | a, (d, n) :: r =>
    match s.linkErr a d n need with
    | some e => some e
    | none => s.linkErrs need (a + n) r

/-! ### Snapshot write tracking and the dirty log -/

/-- The cabinet address of an image granule (R375). -/
def partAddr : List (Nat × Nat) → Nat → Option Nat
  | [], _ => none
  | (b, n) :: r, g => if g < n / 65536 then some (b + g * 65536) else partAddr r (g - n / 65536)

/-- The image granules of a set. -/
def SnapSet.granules (x : SnapSet) : List Nat := List.range (x.imageBytes / 65536)

/-- The newest generation of a set. -/
def SnapSet.newestGen (x : SnapSet) : Generation := x.gens.getD x.newest default

/-- The image granules of a set that a run of device memory touches. -/
def State.touchedGranules (s : State) (x : SnapSet) (dev n : Nat) : List Nat :=
  x.granules.filter fun g =>
    match partAddr x.parts g with
    | none => false
    | some a =>
      match s.translate x.cabinet a .any with
      | none => false
      | some d => overlaps d 65536 dev n

/-- Whether a COPYING generation has not copied a granule, into its buffer or the fast reserve (R383, R384). -/
def Generation.lacks (g : Generation) (i : Nat) : Bool :=
  g.state == 1 && !g.copied.contains i && !(g.reserve.any fun p => p.2 == i)

/-- The first granule not yet copied that a write to device memory meets, with its set's slot (R384). -/
def State.uncopied (s : State) (dev n : Nat) : Option (Nat × Nat) :=
  s.snap.sets.findSome? fun x =>
    ((s.touchedGranules x dev n).find? fun i => x.gens.any fun g => g.lacks i).map (x.slot, ·)

/-- A generation marks granules written since its cut as dirty (R386). -/
def Generation.mark (touched : List Nat) (g : Generation) : Generation :=
  if g.state == 0 then g else { g with dirty := g.dirty ++ touched.filter fun i => !g.dirty.contains i }

/-- The generations mark the granules that a write touches as dirty (R386). -/
def State.markDirty (s : State) (dev n : Nat) : State :=
  { s with snap := { s.snap with sets := s.snap.sets.map fun x =>
      { x with gens := x.gens.map (Generation.mark (s.touchedGranules x dev n)) } } }

/-- Bytes land at a device address through the write tracking (R384 to R386) and the tier controller (R280). -/
def State.store (s : State) (dev : Nat) (bs : Bytes) : State := (s.storeRaw dev bs).markDirty dev bs.length

/-- The active bitmap of a cabinet's dirty log (R529, R530): LOG_ACTIVE selects it. -/
def State.logBitmap (s : State) (cab : Nat) : Nat :=
  if s.ent cab 0x4008 6 == 0 then s.ent cab 0x4008 3 else s.ent cab 0x4008 4

/-- The dirty log records a translated write of a cabinet (R529); the bitmap lies at a cabinet-0 address. -/
def State.logWrite (s : State) (cab a n : Nat) : State :=
  if s.ent cab 0x4008 0 == 0 then s else
  let base := s.ent cab 0x4008 1
  let len := s.ent cab 0x4008 2
  (granules64k a n).foldl (fun (s : State) g =>
    if base ≤ g && g < base + len then
      let i := (g - base) / 65536
      match s.translate 0 (s.logBitmap cab + i / 8) .write with
      | none => s
      | some d => s.storeRaw d [Memory.get s.mem d ||| BitVec.ofNat 8 (2 ^ (i % 8))]
    else s) s

/-! ### Runs of cabinet memory -/

/-- The device pieces of an access, or the error it ends its command with. -/
def State.reach (s : State) (cab a n : Nat) (need : Need) : Except Err (List (Nat × Nat)) :=
  match s.translateRun cab need (piecesOf a n) with
  | .error x => .error { status := stAccessFault, detail := x }
  | .ok ps =>
    match s.hostErrs cab a ps with
    | some e => .error e
    | none =>
      match s.linkErrs need a ps with
      | some e => .error e
      | none => .ok ps

/-- The bytes of device pieces. -/
def State.readPieces (s : State) (ps : List (Nat × Nat)) : Bytes := ps.flatMap fun p => s.readDev p.1 p.2

/-- The first uncorrectable unit of device pieces. -/
def State.badPiece (s : State) (ps : List (Nat × Nat)) : Option Nat := ps.findSome? fun p => s.badUnit p.1 p.2

/-- A read of cabinet memory. -/
def State.readCab (s : State) (cab a n : Nat) : Except Err Bytes :=
  match s.reach cab a n .read with
  | .error e => .error e
  | .ok ps =>
    match s.badPiece ps with
    | some u => .error { status := stEccUncorrectable, detail := u, bad := some u }
    | none => .ok (s.readPieces ps)

/-- Bytes are written over device pieces in order. -/
def State.storePieces (s : State) : List (Nat × Nat) → Bytes → State
  | [], _ => s
  | (d, n) :: r, bs => (s.store d (bs.take n)).storePieces r (bs.drop n)

/-- A write of cabinet memory that has been checked lands: translation, write tracking, dirty log. -/
def State.putCab (s : State) (cab a : Nat) (bs : Bytes) : State :=
  match s.reach cab a bs.length .write with
  | .error _ => s
  | .ok ps => (s.storePieces ps bs).logWrite cab a bs.length

/-- Whether a write of cabinet memory may be made. -/
def State.canWrite (s : State) (cab a n : Nat) : Option Err :=
  match s.reach cab a n .write with
  | .error e => some e
  | .ok _ => none

/-- The first granule not yet copied that a write of cabinet memory meets (R384). -/
def State.stallOf (s : State) (cab a n : Nat) : Option (Nat × Nat) :=
  match s.reach cab a n .write with
  | .error _ => none
  | .ok ps => ps.findSome? fun p => s.uncopied p.1 p.2

end Sys2Proof.Machine
end

