-- ==== Sys2Proof/Machine/Sync.lean ====
section
/-! DEFINITION. Sync objects: signals (R64 to R66), their mirrors (R671, R94, R467), and the waits on them (R70). -/

namespace Sys2Proof.Machine

/-- The value after a signal operation (R64); SET_ERROR and CLEAR_ERROR leave it unchanged. -/
def signalValue (op : Nat) (v x : BitVec 64) : BitVec 64 :=
  if op = 1 then x
  else if op = 2 then v + x
  else if op = 3 then (if v.ult x then x else v)
  else if op = 4 then v ||| x
  else v

/-- The error flag after a signal operation (R64). -/
def signalErr (op : Nat) (e : Bool) : Bool := if op = 5 then true else if op = 6 then false else e

/-- The 16 bytes of a mirror: the value, and the error flag in bit 0 of the second half. -/
def mirrorBytes (o : SyncObj) : Bytes := toLe 8 o.value.toNat ++ toLe 8 (b2n o.err)

/-- The mirror of a changed object is written (02, Sync objects): held while the function's host memory is fenced
(R94, R467), dropped and reported where it faults (R671). -/
def State.writeMirror (s : State) (o : SyncObj) : State :=
  if o.mirror = 0 then s else
  match s.reach o.cabinet o.mirror 16 .write with
  | .ok _ => s.putCab o.cabinet o.mirror (mirrorBytes o)
  | .error e =>
    if e.status = stHostLeaseLost || e.status = stBusMasterOff then
      s.updSync o.index fun x => { x with mirrorHeld := true }
    else
      let hosted := match s.translate o.cabinet o.mirror .write with
        | some d => inHost d
        | none => false
      s.note (if hosted then 12 else 7) 0x1C o.mirror (masterFn o.cabinet) 1

/-- Whether a wait's condition holds of a value (R70). -/
def waitHolds (op : Nat) (v x : BitVec 64) : Bool :=
  if op = 1 then !v.ult x else if op = 2 then v == x else true

/-! ### Submission rings -/

/-- The number of records of a queue's ring (R49). -/
def Queue.size (q : Queue) : Nat := 2 ^ q.n

/-- Records between HEAD and SQ_TAIL (R50). -/
def Queue.placed (q : Queue) : Nat := (q.tail + q.size - q.head) % q.size

/-- The record at ring index i. -/
def State.fetchRec (s : State) (q : Queue) (i : Nat) : Except Err Bytes :=
  s.readCab q.cabinet (q.ringBase + 64 * (i % q.size)) 64

/-- The records from ring index i on, as many as asked for, or the first failure. -/
def State.fetchRecs (s : State) (q : Queue) (i : Nat) : Nat → Except Err (List Bytes)
  | 0 => .ok []
  | n + 1 =>
    match s.fetchRec q i with
    | .error e => .error e
    | .ok r =>
      match s.fetchRecs q (i + 1) n with
      | .error e => .error e
      | .ok l => .ok (r :: l)

/-- The command at HEAD with its continuations, fetched as one unit: none while the ring holds no whole unit (R59). -/
def State.fetchHead (s : State) (q : Queue) : Except Err (Option (Bytes × List Bytes)) :=
  if q.placed = 0 then .ok none else
  match s.fetchRec q q.head with
  | .error e => .error e
  | .ok r =>
    let k := (formOf q.engine r).chain
    if q.placed < 1 + k then .ok none else
    match s.fetchRecs q (q.head + 1) k with
    | .error e => .error e
    | .ok l => .ok (some (r, l))

/-- Started commands of a queue that have not completed. -/
def State.started (s : State) (qi : Nat) : List Ctx := s.contract.ctxs.filter fun c => c.queue == qi

/-- The wait deadline of a command, in ns (R57, R72): contract version 2 has only the default. -/
def State.deadlineOf (s : State) (cab : Nat) (f : Form) : Nat :=
  let v := lookupD s.contract.negotiated cab 0
  if v = 2 || f.deadlineMs = 0 then s.e 0x2101 0 else f.deadlineMs * 1000000

/-- Whether a command's wait is satisfied (some true), failed by the error flag (some false), or open (none)
(R70, R71). -/
def State.judgeWait (s : State) (cab : Nat) (f : Form) : Option Bool :=
  if f.waitOp = 0 || 2 < f.waitOp || handleKind f.waitHandle != 1 || handleCabinet f.waitHandle != cab then some true
  else match s.sync? cab (handleIndex f.waitHandle) with
    | none => some true
    | some o =>
      if o.err then some false
      else if waitHolds f.waitOp o.value (BitVec.ofNat 64 f.waitValue) then some true else none

/-- The wait deadline of the command at HEAD begins to run (R72). -/
def State.beginWait (s : State) (f : Form) (q : Queue) : Queue :=
  if q.eligibleAt.isSome then q
  else { q with eligibleAt := some s.now, deadlineLeft := some (q.deadlineLeft.getD (s.deadlineOf q.cabinet f)) }

/-- What is found of the wait of the command at HEAD, satisfied or failed, stands (R71). -/
def State.findWait (s : State) (f : Form) (q : Queue) : Queue :=
  if q.readyAt.isSome || q.upstreamError then q
  else match s.judgeWait q.cabinet f with
    | some true => { q with readyAt := some s.now }
    | some false => { q with upstreamError := true }
    | none => q

/-- A queue whose command at HEAD is eligible is judged. -/
def State.judgeQueue (s : State) (f : Form) (q : Queue) : Queue := s.findWait f (s.beginWait f q)

/-- The command at HEAD of a RUNNING queue becomes eligible under the start-order and fence rules (R51), its deadline
begins to run (R72), and its wait is judged: what is found, satisfied or failed, stands (R71). -/
def State.judgeHead (s : State) (qi : Nat) : State :=
  match s.queue? qi with
  | none => s
  | some q =>
    if q.kind != 1 || q.state != 1 then s else
    match s.fetchHead q with
    | .error _ => s
    | .ok none => s
    | .ok (some (r, _)) =>
      if (formOf q.engine r).fence && !(s.started qi).isEmpty then s
      else s.updQueue qi (s.judgeQueue (formOf q.engine r))

/-- Every queue of a cabinet whose command at HEAD waits is judged after an object's change. -/
def State.judgeWaits (s : State) (cab : Nat) : State :=
  ((s.contract.queues.filter fun q => q.cabinet == cab && q.eligibleAt.isSome).map (·.index)).foldl State.judgeHead s

/-- An object's value and flag change, its mirror follows, and the waits on it are judged. -/
def State.changeSync (s : State) (cab i : Nat) (f : SyncObj → SyncObj) : State :=
  match s.sync? cab i with
  | none => s
  | some o =>
    let o' := f o
    (((s.updSync i fun _ => o').writeMirror o').judgeWaits cab).noteChange cab

/-- A signal operation on a sync object of a cabinet (R64); an object not allocated takes none. -/
def State.signal (s : State) (cab i op : Nat) (x : BitVec 64) : State :=
  s.changeSync cab i fun o => { o with value := signalValue op o.value x, err := signalErr op o.err }

/-- A signal on the object a handle names; the null handle names none. -/
def State.signalHandle (s : State) (h op : Nat) (x : BitVec 64) : State :=
  if handleKind h = 1 then s.signal (handleCabinet h) (handleIndex h) op x else s

/-- The error flag of the object a handle names is set (R66). -/
def State.failHandle (s : State) (h : Nat) : State := s.signalHandle h 5 0

/-- Committed rates of the four quadrants. -/
def State.committedRates (s : State) : List Nat := (List.range 4).map fun q => s.e 0x2003 (q + 1)

/-- Committed rates are set; each that changes is counted, and while rate tracking is on each adds 1 to the rate-event
object (R21, R22). -/
def State.setRates (s : State) (new : List Nat) : State :=
  let changes := ((List.range 4).filter fun q => s.e 0x2003 (q + 1) != new.getD q 0).length
  let s1 := (List.range 4).foldl (fun (s : State) q => s.put 0x2003 (q + 1) (new.getD q 0)) s
  if changes = 0 then s1 else
  let s2 := s1.bump 0x2004 2 changes
  if s2.e 0x2004 0 = 1 then s2.signalHandle (s2.e 0x2004 1) 2 (BitVec.ofNat 64 changes) else s2

/-- An exception of R19 begins: every committed rate is 0 for the rest of the window. -/
def State.zeroRates (s : State) : State := s.setRates [0, 0, 0, 0]

end Sys2Proof.Machine
end

