-- ==== Sys2Proof/Machine/Report.lean ====
section
/-! DEFINITION. An error that acts: latching it (R595), fencing its scope (R596), the hardware safe state (R602), and
the incidents and rungs of the reset ladder (R610 to R618). -/

namespace Sys2Proof.Machine

/-! ### What a rung reaches -/

/-- The engine number of the instance that runs a context: its queue's engine byte (R46, R90). -/
def State.ctxEngine (s : State) (c : Ctx) : Nat :=
  match s.queue? c.queue with
  | some q => q.engine
  | none => 0x0F

/-- MASTER of the unit that runs a context (R601): an engine instance, the ZT unit, or the packet path. -/
def State.ctxMaster (s : State) (c : Ctx) : Nat :=
  let e := s.ctxEngine c
  if e < 5 then 5 * c.instNo + e else if e = 6 then 0x5002 else if e = 7 || e = 8 then 0x5003 else 0xF000

/-- Whether a started command lies in the domain of a rung (R610). -/
def State.ctxInDomain (s : State) (rung target : Nat) (hung : Option Nat) (c : Ctx) : Bool :=
  if rung = 4 then true
  else if rung = 3 then s.ctxEngine c < 5 && c.instNo == target % 4096
  else if rung = 2 then s.ctxMaster c == target
  else if rung = 1 then hung == some c.id
  else false

/-- A deferred or pending activation is cancelled (R579). -/
def State.cancelActivation (s : State) : State :=
  if s.contract.activation = 0 then s
  else { s with contract := { s.contract with activation := 0 } }.put 0x2E07 0 2

/-! ### The hardware safe state (R602) -/

/-- Every core halts. -/
def haltCore (c : Core) : Core := { c with running := false }

/-- The hardware safe state is forced, with the cause that forced it (R602, R19). -/
def State.enterSafeState (s : State) (cause : Nat) : State :=
  if s.faults.safe then s else
  let s1 := (s.zeroRates.put 0x2F05 0 1).bump 0x2F05 2 1
  let s2 := s1.cancelActivation.put 0x2E01 5 600
  { s2 with
    faults := { s2.faults with safe := true, safeCause := cause }
    cores := { s2.cores with cores := s2.cores.cores.map haltCore }
    trust := { s2.trust with keyCache := [], drbgRequests := 0 }
    tiers := { s2.tiers with selfRefresh := true } }.setFn 0 fun f =>
      { f with aerStatus := f.aerStatus ||| BitVec.ofNat 32 (2 ^ 22) }

/-! ### Incidents and rungs -/

/-- The fence of a rung's domain (R612): the units held until the rung completes. -/
def State.fenceDomain (s : State) (rung target : Nat) : State :=
  let f := s.faults
  if rung = 3 then
    { s with faults := { f with fencedQuads := (target % 4096) :: f.fencedQuads.filter (· != target % 4096) } }
  else if rung = 2 then
    if target / 4096 = 0 then
      { s with faults := { f with fencedInsts := (target % 4096) :: f.fencedInsts.filter (· != target % 4096) } }
    else
      { s with faults := { f with fencedUnits := (target % 4096) :: f.fencedUnits.filter (· != target % 4096) } }
  else s

/-- The crossings of the units a narrower rung resets are fenced (R29, R611). -/
def State.fenceCrossings (s : State) (rung target : Nat) : State :=
  if rung = 4 then s else
  { s with fabric := { s.fabric with crossings := s.fabric.crossings.map fun c =>
      if c.holding.isSome && c.target == target then { c with fenced := true } else c } }

/-- The target of a rung for an incident: a partition rung reaches the quadrant of the incident's target (R610). -/
def rungTarget (inc : Incident) (rung : Nat) : Nat :=
  if rung = 3 then
    (match masterQuadrant inc.target with
     | some q => 0x6000 + q
     | none => inc.target)
  else inc.target

/-- The commands that a rung catches (R612). -/
def State.caughtBy (s : State) (rung target : Nat) (inc : Incident) : List Ctx :=
  s.contract.ctxs.filter fun c =>
    s.ctxInDomain rung target inc.ctx c && !c.finished && !s.faults.granulesDone.any (fun p => p.1 == c.id)

/-- The open incident notes the rung that starts, and the granule at which each caught command stands (R612, R618). -/
def State.noteRung (s : State) (inc : Incident) (rung target : Nat) : State :=
  let caught := s.caughtBy rung target inc
  { s with faults := { s.faults with
    openInc := some { inc with
      target := if rung = 4 then 0xF000 else target
      rungReached := max inc.rungReached rung
      caught := inc.caught + caught.length
      rungStart := inc.rungStart.set (rung - 1) ((s.now - inc.openTime) / 1000 % 2 ^ 32) }
    rungStartedAt := s.now
    granulesDone := s.faults.granulesDone ++ caught.map (fun (c : Ctx) => (c.id, c.progress)) } }

/-- THERMTRIP_N is released (R661). -/
def State.releaseThermtrip (s : State) : State := { s with pins := { s.pins with thermtripN := true } }

/-- An activation's drain that a partition rung meets is deferred (R579). -/
def State.deferDrain (s : State) : State :=
  ({ s with contract := { s.contract with activation := 2 } }.put 0x2E07 0 1).bump 0x2E07 1 1

/-- What the start of a chip rung or a partition rung brings beside its fence (R579, R621 to R623, R661). -/
def State.rungEffects (s : State) (inc : Incident) (rung : Nat) : State :=
  if rung = 4 then
    if inc.severity = 2 then s.cancelActivation.releaseThermtrip
    else s.cancelActivation.releaseThermtrip.trayNotice 5 inc.firstSource inc.number
  else if rung = 3 && s.contract.activation = 1 then s.deferDrain
  else s

/-- A rung starts for the open incident (R610, R612): its start time, count and state, its fence, the commands it
catches; the chip rung cancels a pending activation and is noticed at the tray when no fatal error caused it
(R621, R622, R623), and THERMTRIP_N is released (R661). -/
def State.startRung (s : State) (rung : Nat) : State :=
  match s.faults.openInc with
  | none => s
  | some inc =>
    let target := rungTarget inc rung
    let s1 := ((s.noteRung inc rung target).put 0x2F03 0 rung).bump 0x2F03 (5 + rung) (if inc.firstSource = 256 then 0 else 1)
    ((s1.fenceDomain rung target).fenceCrossings rung target).rungEffects inc rung

/-- The number of the next incident (R618): from 1 after chip reset. -/
def State.nextIncident (s : State) : Nat := s.e 0x2F02 1 + 1

/-- An incident becomes the open one and its first rung starts (R616).  Source 256 marks a rung that is part of no
incident (R613): it takes no number. -/
def State.openIncident (s : State) (inc : Incident) : State :=
  let number := if inc.firstSource = 256 then 0 else s.nextIncident
  let s1 := { s with faults := { s.faults with
    openInc := some { inc with number := number, openTime := s.now }
    granulesDone := [] } }
  (if inc.firstSource = 256 then s1 else s1.bump 0x2F02 1 1).startRung inc.firstRung

/-- A new incident of given source, severity, scope, target, rung and command (R618). -/
def newIncident (src sev scope target rung : Nat) (ctx : Option Nat) : Incident :=
  { (default : Incident) with
    firstSource := src, severity := sev, scope := scope, target := target, ctx := ctx, firstRung := rung
    rungStart := List.replicate 5 0xFFFFFFFF }

/-- A chip-scope error pre-empts the open incident, which merges into the new one (R616). -/
def State.preemptIncident (s : State) (inc : Incident) : State :=
  match s.faults.openInc with
  | none => s.openIncident inc
  | some old => s.openIncident { inc with merged := old.merged + 1, caught := old.caught }

/-- A fatal error of chip scope opens an incident whose chip rung starts when the safe state is left (R603); the open incident
merges into it, and its rung ends (R616). -/
def State.holdIncident (s : State) (inc : Incident) : State :=
  let inc1 := match s.faults.openInc with
    | some old => { inc with merged := old.merged + 1, caught := old.caught }
    | none => inc
  let s1 := { s with faults := { s.faults with
    openInc := some { inc1 with number := s.nextIncident, openTime := s.now }
    granulesDone := [] } }
  (s1.put 0x2F03 0 0).bump 0x2F02 1 1

/-- An incident is opened, queued in latch order behind the open one, or, beyond 64 queued, treated as of chip scope
(R616). -/
def State.addIncident (s : State) (inc : Incident) : State :=
  if inc.scope = 3 && inc.severity = 2 then s.preemptIncident inc
  else match s.faults.openInc with
    | none => s.openIncident inc
    | some _ =>
      if s.faults.queuedInc.length < 64 then
        { s with faults := { s.faults with queuedInc := s.faults.queuedInc ++ [inc] } }
      else { s with faults := { s.faults with queuedInc := [] } }.preemptIncident
        { inc with scope := 3, severity := 2, firstRung := 4, target := 0xF000 }

/-! ### Errors with an action -/

/-- A fatal error of tile or quadrant scope takes its tiles out of service until a retest (R596, R614). -/
def State.fenceTiles (s : State) (e : ErrorIn) : State :=
  if causeScope e.causeCode = 1 && e.master / 4096 = 1 then
    s.put 0x2300 1 (clearBit (s.e 0x2300 1) (e.master % 4096))
  else if causeScope e.causeCode = 2 then
    match masterQuadrant e.master with
    | some q => s.put 0x2300 1 ((List.range 16).foldl (fun v i => clearBit v (16 * q + i)) (s.e 0x2300 1))
    | none => s
  else s

/-- The context that runs on a tile, which a fatal tile error stops (R596). -/
def State.tileCtx (s : State) (t : Nat) : Option Nat :=
  match s.cores.cores.find? (fun c => c.id == t) with
  | some c => c.kernel.map (·.ctx)
  | none => none

/-- The target of the incident that an error opens, in MASTER form (R618). -/
def incidentTarget (e : ErrorIn) : Nat :=
  if causeScope e.causeCode = 3 then 0xF000
  else if causeScope e.causeCode = 2 then
    (match masterQuadrant e.master with
     | some q => 0x6000 + q
     | none => e.master)
  else e.master

/-- An error pin rises and its action follows (R595, R596, R602, R616, R617, R621). -/
def State.raiseError (s : State) (e : ErrorIn) (ctx : Option Nat) : State :=
  if !sourceDefined e.source then s else
  let merged := s.merges e
  let s1 := s.latchError e
  if merged then s1 else
  let s2 := if e.causeCode = 0x0E then s1.trayNotice 3 e.source e.address else s1
  if e.severity = 2 then
    let s3 := s2.fenceTiles e
    if causeScope e.causeCode = 3 then
      let s4 := s3.enterSafeState e.causeCode
      if causeRung e.causeCode = 0 then s4
      else
        let s5 := s4.trayNotice 1 e.source 0
        if e.causeCode = 0x14 then s5 else s5.holdIncident (newIncident e.source 2 3 0xF000 4 none)
    else if causeRung e.causeCode = 0 then s3
    else
      let who := if e.causeCode = 0x10 then s.tileCtx (e.master % 4096) else ctx
      s3.addIncident (newIncident e.source 2 (causeScope e.causeCode) (incidentTarget e) (causeRung e.causeCode) who)
  else if causeRung e.causeCode = 0 then s2
  else s2.addIncident (newIncident e.source 1 0 (if causeRung e.causeCode = 4 then 0xF000 else e.master)
    (causeRung e.causeCode) ctx)

end Sys2Proof.Machine
end

