-- ==== Sys2Proof/Machine/Budget.lean ====
section
/-! DEFINITION. The energy budget: admission classes (R570), what a snowline level refuses (R566), the estimate and
the charge of a command (R571, R572). -/

namespace Sys2Proof.Machine

/-- The admission class of a command record placed in a queue of an engine byte (R570). -/
def classOf (engine : Nat) (r : Bytes) : Nat :=
  let op := recOpcode r
  if engine = 6 then
    (if op = 0x06 || (0x10 ≤ op && op ≤ 0x21) then 0 else 9)
  else if bits op 15 12 = 0xF then 0
  else if bits op 15 12 = 0 then 1
  else if bits op 15 12 = 4 then 2
  else if bits op 15 12 = 2 then 7
  else if bits op 15 12 = 3 then 8
  else if op = 0x1050 then 6
  else if op = 0x1030 || op = 0x1040 then 5
  else if 0x1020 ≤ op && op ≤ 0x1023 then 4
  else 3

/-- Whether a class may start at a snowline level (R566). -/
def classAllowed (level cls : Nat) : Bool :=
  if level = 0 then true
  else if level = 1 then cls != 6
  else if level = 2 then [0, 1, 2, 3, 7, 8, 9, 10].contains cls
  else [0, 7, 9, 10].contains cls

/-- The bytes of a command through each tier and port, and its operations under each coefficient (R571).  Terms:
0 GDDR7, 1 and 2 CXL reads and writes, 3 + 2p and 4 + 2p reads and writes of PCIe port p (0 HP, 1 + n APn), 21 and 22
Ethernet. -/
structure Estimate where
  bytes : List (Nat × Nat)
  ops : List (Nat × Nat)
  deriving DecidableEq, Repr, Inhabited

/-- The term that carries the bytes of a device address, by direction. -/
def termOf (a : Nat) (writes : Bool) : Option Nat :=
  if within a gddrBase 0x10000000000 then some 0
  else if cxlBase ≤ a && a < hostBase then some (if writes then 2 else 1)
  else if inHost a then some (if writes then 4 else 3)
  else match accelOf a with
    | some n => some (if writes then 6 + 2 * n else 5 + 2 * n)
    | none => none

/-- The bytes of a run of cabinet memory, by term. -/
def State.runTerms (s : State) (cab a n : Nat) (writes : Bool) : List (Nat × Nat) :=
  (piecesOf a n).filterMap fun p =>
    match s.translate cab p.1 .any with
    | none => none
    | some d => (termOf d writes).map (·, p.2)

/-- The words that a kernel launch may issue: INSTANCES × its per-instance budget (R236, R571). -/
def State.launchWords (s : State) (cab : Nat) (r : Bytes) : Nat :=
  match s.readCab cab (arg r 0 8 + 36) 8 with
  | .error _ => 0
  | .ok b => field b 0 4 * ((if field b 4 4 = 0 then s.e 0x2302 1 else field b 4 4) * 1024)

/-- The estimate of a command (R571).  The spec tabulates the bytes of no operation but says that they are those the
command moves; for a COPY and a FILL they are read off its arguments, a kernel launch is estimated by its words, and for
the rest they stay open (notes/assumptions/14.md). -/
def State.estimate (s : State) (cab : Nat) (r : Bytes) : Estimate :=
  if recOpcode r = 0x0001 then
    { bytes := s.runTerms cab (arg r 0 8) (arg r 16 8) false ++ s.runTerms cab (arg r 8 8) (arg r 16 8) true, ops := [] }
  else if recOpcode r = 0x0003 then
    { bytes := s.runTerms cab (arg r 0 8) (arg r 8 8) true, ops := [] }
  else if recOpcode r = 0x1050 then { bytes := [], ops := [(11, s.launchWords cab r)] }
  else
    { bytes := (List.range 23).map fun t => (t, Config.estimateBytes t r)
      ops := (List.range 7).map fun i => (6 + i, Config.estimateOps (6 + i) r) }

/-- The energy coefficient of a term's bytes (R572), in fJ. -/
def State.byteCoef (s : State) (t : Nat) : Nat :=
  s.e 0x2E02 (if t = 0 then 2 else if t ≤ 2 then 3 else if t ≤ 20 then 4 else 5)

/-- The planning bandwidth of a term (R571), in bytes per microsecond. -/
def planBandwidth (t : Nat) : Nat := if t = 0 then 2070000 else if t ≤ 2 then 480000 else if t ≤ 20 then 242000 else 200000

/-- Operations per step of one tile under a coefficient (R146). -/
def opsPerStep (coef : Nat) : Nat :=
  if coef = 6 then 8192 else if coef = 7 then 4096 else if coef = 8 then 2048 else if coef = 9 then 1024
  else if coef = 10 then 256 else 1

/-- All bytes of one term. -/
def Estimate.termBytes (e : Estimate) (t : Nat) : Nat := sumNat ((e.bytes.filter fun p => p.1 == t).map (·.2))

/-- The energy of an estimate in fJ (R571). -/
def State.energyOf (s : State) (e : Estimate) : Nat :=
  s.e 0x2E02 1 + sumNat (e.bytes.map fun p => p.2 * s.byteCoef p.1) + sumNat (e.ops.map fun p => p.2 * s.e 0x2E02 p.1)

/-- The duration of an estimate in ns: the largest of its transfer times and its time at the floor rate (R571). -/
def Estimate.duration (e : Estimate) : Nat :=
  let xfer := (List.range 23).map fun t => e.termBytes t * 1000 / planBandwidth t
  let comp := e.ops.map fun p => p.2 * 1000 / (64 * opsPerStep p.1 * 1450)
  (xfer ++ comp).foldl max 0

/-- The charge of a command per budget window: E × W ÷ max(D, W) (R571); class CONTROL has none (R570). -/
def State.chargeOf (s : State) (cab engine : Nat) (r : Bytes) : Nat :=
  if classOf engine r = 0 then 0 else
  let e := s.estimate cab r
  let w := s.energy.windowLen
  s.energyOf e * w / max (max e.duration w) 1

end Sys2Proof.Machine
end

