-- ==== Sys2Proof/Machine/Fp.lean ====
section
/-! DEFINITION. IEEE arithmetic with round to nearest even (R136, R173): a value is held exactly as a sign, an integer
and a power of two; each operation rounds its exact result once. -/

namespace Sys2Proof.Machine

/-- A floating-point value: every NaN is one NaN (R136); a finite value is (−1)^neg × m × 2^e. -/
inductive Fl where
  | nan
  | inf (neg : Bool)
  | fin (neg : Bool) (m : Nat) (e : Int)
  deriving DecidableEq, Repr, Inhabited

/-- A binary format: its precision, the exponent of its smallest step, and its largest exponent. -/
structure FpFormat where
  prec : Nat
  qmin : Int
  emax : Int
  deriving DecidableEq, Repr

/-- IEEE binary32. -/
def fp32 : FpFormat := { prec := 24, qmin := -149, emax := 127 }
/-- IEEE binary64. -/
def fp64 : FpFormat := { prec := 53, qmin := -1074, emax := 1023 }
/-- BF16: binary32's exponents with 8 bits of precision. -/
def bf16 : FpFormat := { prec := 8, qmin := -133, emax := 127 }

namespace Fp

/-- Bits of a number: 0 for 0. -/
def width (m : Nat) : Nat := if m = 0 then 0 else m.log2 + 1

/-- A nonnegative integer's value times 2^k for a k that is not negative. -/
def shl (m : Nat) (k : Int) : Nat := m * 2 ^ k.toNat

/-- The integer nearest m ÷ 2^k, ties to even; sticky says that something was lost below m. -/
def nearest (m k : Nat) (sticky : Bool) : Nat :=
  if k = 0 then m
  else
    let hi := m / 2 ^ k
    let r := m % 2 ^ k
    let half := 2 ^ (k - 1)
    if half < r || (r == half && (sticky || hi % 2 == 1)) then hi + 1 else hi

/-- The exponent of the last place that a value of given bits keeps in a format. -/
def lastPlace (f : FpFormat) (m : Nat) (e : Int) : Int := max (e + width m - f.prec) f.qmin

/-- m × 2^e, and more below when sticky, rounded to a format (R136). -/
def round (f : FpFormat) (neg : Bool) (m : Nat) (e : Int) (sticky : Bool) : Fl :=
  if m = 0 then .fin neg 0 0 else
  let q := lastPlace f m e
  let (m', e') := if q ≤ e then (m, e) else (nearest m (q - e).toNat sticky, q)
  if m' = 0 then .fin neg 0 0
  else if f.emax < e' + width m' - 1 then .inf neg
  else .fin neg m' e'

/-- The signed integer of a finite value at exponent e0, which is not above its own. -/
def at0 (neg : Bool) (m : Nat) (e e0 : Int) : Int :=
  let v : Int := shl m (e - e0)
  if neg then -v else v

/-- A signed integer times 2^e, rounded; a zero sum is +0 unless both terms were −0. -/
def ofInt (f : FpFormat) (i e : Int) (zeroNeg : Bool) : Fl :=
  if i = 0 then .fin zeroNeg 0 0 else round f (decide (i < 0)) i.natAbs e false

/-- Sum. -/
def add (f : FpFormat) : Fl → Fl → Fl
  | .nan, _ => .nan
  | _, .nan => .nan
  | .inf a, .inf b => if a == b then .inf a else .nan
  | .inf a, .fin _ _ _ => .inf a
  | .fin _ _ _, .inf b => .inf b
  | .fin a m e, .fin b n g =>
    let e0 := min e g
    ofInt f (at0 a m e e0 + at0 b n g e0) e0 (a && b)

/-- The exact sum of two exact values (R137). -/
def addExact : Fl → Fl → Fl
  | .nan, _ => .nan
  | _, .nan => .nan
  | .inf a, .inf b => if a == b then .inf a else .nan
  | .inf a, .fin _ _ _ => .inf a
  | .fin _ _ _, .inf b => .inf b
  | .fin a m e, .fin b n g =>
    let e0 := min e g
    let i := at0 a m e e0 + at0 b n g e0
    .fin (decide (i < 0)) i.natAbs e0

/-- Negation. -/
def neg : Fl → Fl
  | .nan => .nan
  | .inf a => .inf (!a)
  | .fin a m e => .fin (!a) m e

/-- Difference. -/
def sub (f : FpFormat) (x y : Fl) : Fl := add f x (neg y)

/-- The exact product. -/
def mulExact : Fl → Fl → Fl
  | .nan, _ => .nan
  | _, .nan => .nan
  | .inf a, .inf b => .inf (a != b)
  | .inf a, .fin b n _ => if n = 0 then .nan else .inf (a != b)
  | .fin a m _, .inf b => if m = 0 then .nan else .inf (a != b)
  | .fin a m e, .fin b n g => .fin (a != b) (m * n) (e + g)

/-- A value rounded to a format. -/
def toFormat (f : FpFormat) : Fl → Fl
  | .nan => .nan
  | .inf a => .inf a
  | .fin a m e => round f a m e false

/-- Product. -/
def mul (f : FpFormat) (x y : Fl) : Fl := toFormat f (mulExact x y)

/-- Fused multiply-add: x × y + z, rounded once (R136). -/
def fma (f : FpFormat) (x y z : Fl) : Fl := add f (mulExact x y) z

/-- Quotient. -/
def div (f : FpFormat) : Fl → Fl → Fl
  | .nan, _ => .nan
  | _, .nan => .nan
  | .inf _, .inf _ => .nan
  | .inf a, .fin b _ _ => .inf (a != b)
  | .fin a _ _, .inf b => .fin (a != b) 0 0
  | .fin a m e, .fin b n g =>
    if n = 0 then (if m = 0 then .nan else .inf (a != b))
    else if m = 0 then .fin (a != b) 0 0
    else
      let k := f.prec + 2 + width n
      let q := m * 2 ^ k / n
      round f (a != b) q (e - g - k) (m * 2 ^ k % n != 0)

/-- The integer square root, by bits from k down. -/
def isqrt (n : Nat) : Nat → Nat → Nat
  | 0, r => if (r + 1) * (r + 1) ≤ n then r + 1 else r
  | k + 1, r =>
    let r' := r + 2 ^ (k + 1)
    isqrt n k (if r' * r' ≤ n then r' else r)

/-- Square root; −0 is its own, and a negative value has none. -/
def sqrt (f : FpFormat) : Fl → Fl
  | .nan => .nan
  | .inf a => if a then .nan else .inf false
  | .fin a m e =>
    if m = 0 then .fin a 0 0
    else if a then .nan
    else
      let k := 2 * f.prec + 4 + (if e % 2 = 0 then 0 else 1)
      let n := m * 2 ^ k
      let r := isqrt n (width n / 2) 0
      round f false r ((e - k) / 2) (r * r != n)

/-- Whether a value is finite. -/
def finite : Fl → Bool
  | .fin _ _ _ => true
  | _ => false

/-- Whether a value is NaN. -/
def isNan : Fl → Bool
  | .nan => true
  | _ => false

/-- Whether a value is a zero of either sign. -/
def isZero : Fl → Bool
  | .fin _ 0 _ => true
  | _ => false

/-- The sign bit. -/
def negative : Fl → Bool
  | .nan => false
  | .inf a => a
  | .fin a _ _ => a

/-- Magnitude. -/
def abs : Fl → Fl
  | .nan => .nan
  | .inf _ => .inf false
  | .fin _ m e => .fin false m e

/-- The order of the numbers: x < y, false when either is NaN; −0 equals +0. -/
def lt : Fl → Fl → Bool
  | .nan, _ => false
  | _, .nan => false
  | .inf a, .inf b => a && !b
  | .inf a, .fin _ _ _ => a
  | .fin _ _ _, .inf b => !b
  | .fin a m e, .fin b n g => let e0 := min e g; decide (at0 a m e e0 < at0 b n g e0)

/-- Equality of numbers: false when either is NaN. -/
def eq (x y : Fl) : Bool := !isNan x && !isNan y && !lt x y && !lt y x

/-- An integer as a value, unrounded. -/
def ofNat (n : Nat) : Fl := .fin false n 0

/-- An integer rounded to a format. -/
def int (f : FpFormat) (i : Int) : Fl := ofInt f i 0 false

/-- The value that the bits of a binary format of given exponent and fraction widths hold. -/
def decode (ebits fbits : Nat) (v : Nat) : Fl :=
  let s := bit v (ebits + fbits)
  let e := bits v (ebits + fbits - 1) fbits
  let m := v % 2 ^ fbits
  let bias : Int := 2 ^ (ebits - 1) - 1
  if e = 2 ^ ebits - 1 then (if m = 0 then .inf s else .nan)
  else if e = 0 then .fin s m (1 - bias - fbits)
  else .fin s (2 ^ fbits + m) ((e : Int) - bias - fbits)

/-- The bits of a value that the format holds; NaN is the canonical one (R136). -/
def encode (ebits fbits : Nat) : Fl → Nat
  | .nan => (2 ^ (ebits + 1) - 1) * 2 ^ (fbits - 1)
  | .inf a => b2n a * 2 ^ (ebits + fbits) + (2 ^ ebits - 1) * 2 ^ fbits
  | .fin a m e =>
    let sign := b2n a * 2 ^ (ebits + fbits)
    if m = 0 then sign else
    let bias : Int := 2 ^ (ebits - 1) - 1
    let top : Int := e + width m - 1
    if top < 1 - bias then
      let k := e - (1 - bias - fbits)
      sign + (if 0 ≤ k then m * 2 ^ k.toNat else m / 2 ^ (-k).toNat)
    else
      let k := (fbits : Int) - (width m - 1)
      let frac := if 0 ≤ k then m * 2 ^ k.toNat else m / 2 ^ (-k).toNat
      sign + (top + bias).toNat * 2 ^ fbits + (frac - 2 ^ fbits)

/-- The FP32 value of 32 bits. -/
def of32 (v : Nat) : Fl := decode 8 23 (v % 2 ^ 32)
/-- The 32 bits of an FP32 value. -/
def to32 (x : Fl) : Nat := encode 8 23 x
/-- The BF16 value of 16 bits. -/
def of16 (v : Nat) : Fl := decode 8 7 (v % 2 ^ 16)
/-- The 16 bits of a BF16 value. -/
def to16 (x : Fl) : Nat := encode 8 7 x

/-- FP32 sum. -/
def add32 : Fl → Fl → Fl := add fp32
/-- FP32 difference. -/
def sub32 : Fl → Fl → Fl := sub fp32
/-- FP32 product. -/
def mul32 : Fl → Fl → Fl := mul fp32
/-- FP32 fused multiply-add. -/
def fma32 : Fl → Fl → Fl → Fl := fma fp32
/-- FP32 quotient. -/
def div32 : Fl → Fl → Fl := div fp32
/-- FP32 square root. -/
def sqrt32 : Fl → Fl := sqrt fp32

/-- +0. -/
def zero : Fl := .fin false 0 0
/-- 1. -/
def one : Fl := .fin false 1 0

/-- The smallest k with 2^k ≥ m ÷ n, for m and n not zero. -/
def ceilLog2 (m n : Nat) : Int :=
  let k : Int := (width m : Int) - width n
  -- 2^(k−1) < m/n < 2^(k+1)
  let le := fun (j : Int) => if 0 ≤ j then decide (m ≤ n * 2 ^ j.toNat) else decide (m * 2 ^ (-j).toNat ≤ n)
  if le (k - 1) then k - 1 else if le k then k else k + 1

end Fp
end Sys2Proof.Machine
end

