-- ==== Sys2Proof/Machine/Formats.lean ====
section
/-! DEFINITION. The narrow formats: codes and containers (R107 to R113, R126 to R130), the rounding modes and the
stochastic generator (R131 to R134), and the encoding of a block with its fit test (R114 to R118, R122), with the counts
of R140. -/

namespace Sys2Proof.Machine

/-! ### Formats (R107) -/

/-- Container bytes per 64 elements; 0 for a reserved code. -/
def containerBytes (f : Nat) : Nat := [24, 32, 40, 72, 128, 72, 56, 56, 40, 72, 256].getD f 0

/-- Whether a format is a ZN format. -/
def isZn (f : Nat) : Bool := f ≤ 2
/-- Whether a format is an MX format. -/
def isMx (f : Nat) : Bool := f == 3 || (5 ≤ f && f ≤ 9)
/-- Element width of a ZN or MX format. -/
def elemBits (f : Nat) : Nat := [2, 3, 4, 8, 16, 8, 6, 6, 4, 8, 32].getD f 0

/-- Counts of R140. -/
structure Counts where
  saturated : Nat := 0
  escaped : Nat := 0
  escalated : Nat := 0
  nonfinite : Nat := 0
  flushed : Nat := 0
  malformed : Nat := 0
  deriving DecidableEq, Repr, Inhabited

/-- Counts of two parts of a command. -/
def Counts.add (a b : Counts) : Counts :=
  { saturated := a.saturated + b.saturated, escaped := a.escaped + b.escaped, escalated := a.escalated + b.escalated
    nonfinite := a.nonfinite + b.nonfinite, flushed := a.flushed + b.flushed, malformed := a.malformed + b.malformed }

/-- The sum of a list of counts. -/
def sumCounts (l : List Counts) : Counts := l.foldl Counts.add {}

/-- The 24-byte count record (R140); each count stops at its width. -/
def Counts.bytes (c : Counts) : Bytes :=
  [c.saturated, c.escaped, c.escalated, c.nonfinite, c.flushed, c.malformed].flatMap fun n => toLe 4 (min n 0xFFFFFFFF)

/-- The status of a command that would complete with OK (R141). -/
def Counts.status (c : Counts) : Nat := if c.saturated = 0 && c.escaped = 0 && c.escalated = 0 then 0 else 1

/-- The policy of a command: the seven values of 0x2200 when it started (R142). -/
structure Policy where
  ratio : Fl
  maxFormat : Nat
  limitAction : Nat
  errThreshold : Fl
  infPolicy : Nat
  roundingDefault : Nat
  heapPercent : Nat
  deriving DecidableEq, Repr

/-- A FIX16.16 value. -/
def fixed16 (v : Nat) : Fl := .fin false v (-16)

/-- The policy that seven entry values hold. -/
def policyOf (l : List Nat) : Policy :=
  { ratio := fixed16 (l.getD 0 0), maxFormat := l.getD 1 0, limitAction := l.getD 2 0, errThreshold := fixed16 (l.getD 3 0)
    infPolicy := l.getD 4 0, roundingDefault := l.getD 5 0, heapPercent := l.getD 6 0 }

/-! ### The generator (R133) -/

/-- One mixing round. -/
def mix64 (z : BitVec 64) : BitVec 64 :=
  let a := (z ^^^ (z >>> 30)) * 0xBF58476D1CE4E5B9
  let b := (a ^^^ (a >>> 27)) * 0x94D049BB133111EB
  b ^^^ (b >>> 31)

/-- The generator's value in units of 2^−24. -/
def genU (seed step tensor index : Nat) : Nat :=
  let k := mix64 (BitVec.ofNat 64 seed ^^^ mix64 (BitVec.ofNat 64 step))
  let k' := mix64 (k ^^^ BitVec.ofNat 64 tensor)
  (mix64 (k' ^^^ BitVec.ofNat 64 index) >>> 40).toNat

/-- Rounding of a narrowing: to nearest even, or stochastic with the element's generator value (R131). -/
inductive Rnd where
  | rne
  | sr (u : Nat)
  deriving DecidableEq, Repr, Inhabited

/-- The integer that a magnitude m × 2^e rounds to on a grid of step 2^q (R131, R132). -/
def Rnd.grid (r : Rnd) (m : Nat) (e q : Int) : Nat :=
  if q ≤ e then Fp.shl m (e - q)
  else
    let k := (q - e).toNat
    match r with
    | .rne => Fp.nearest m k false
    | .sr u =>
      let lo := m / 2 ^ k
      let f := Fp.div32 (Fp.round fp32 false (m % 2 ^ k) e false) (.fin false 1 q)
      if Fp.lt (.fin false u (-24)) f then lo + 1 else lo

/-! ### MX elements (R127 to R130) -/

/-- An element type: exponent and fraction widths, bias, NaN and infinity encodings. -/
structure MiniType where
  ebits : Nat
  fbits : Nat
  bias : Int
  hasNan : Bool
  hasInf : Bool
  deriving DecidableEq, Repr

/-- E4M3. -/
def e4m3 : MiniType := { ebits := 4, fbits := 3, bias := 7, hasNan := true, hasInf := false }
/-- E5M2. -/
def e5m2 : MiniType := { ebits := 5, fbits := 2, bias := 15, hasNan := true, hasInf := true }
/-- E3M2. -/
def e3m2 : MiniType := { ebits := 3, fbits := 2, bias := 3, hasNan := false, hasInf := false }
/-- E2M3. -/
def e2m3 : MiniType := { ebits := 2, fbits := 3, bias := 1, hasNan := false, hasInf := false }
/-- E2M1. -/
def e2m1 : MiniType := { ebits := 2, fbits := 1, bias := 1, hasNan := false, hasInf := false }

/-- The floating-point element type of an MX format; none for INT8. -/
def miniOf (f : Nat) : Option MiniType :=
  if f = 3 then some e4m3 else if f = 5 then some e5m2 else if f = 6 then some e3m2 else if f = 7 then some e2m3
  else if f = 8 then some e2m1 else none

/-- Width of an element type's code. -/
def MiniType.width (t : MiniType) : Nat := 1 + t.ebits + t.fbits

/-- Largest finite magnitude of an element type, as (m, e). -/
def MiniType.vmax (t : MiniType) : Nat × Int :=
  if t.hasInf then (2 ^ (t.fbits + 1) - 1, 2 ^ t.ebits - 2 - t.bias - t.fbits)
  else if t.hasNan then (2 ^ (t.fbits + 1) - 2, 2 ^ t.ebits - 1 - t.bias - t.fbits)
  else (2 ^ (t.fbits + 1) - 1, 2 ^ t.ebits - 1 - t.bias - t.fbits)

/-- The value of a code of an element type (R130). -/
def MiniType.decode (t : MiniType) (c : Nat) : Fl :=
  let s := bit c (t.ebits + t.fbits)
  let e := bits c (t.ebits + t.fbits - 1) t.fbits
  let m := c % 2 ^ t.fbits
  if t.hasInf && e == 2 ^ t.ebits - 1 then (if m = 0 then .inf s else .nan)
  else if t.hasNan && !t.hasInf && e == 2 ^ t.ebits - 1 && m == 2 ^ t.fbits - 1 then .nan
  else if e = 0 then .fin s m (1 - t.bias - t.fbits)
  else .fin s (2 ^ t.fbits + m) ((e : Int) - t.bias - t.fbits)

/-- The code of a value and whether it was clipped: rounded on the type's grid, a magnitude above the largest written as
the largest, NaN as the all-ones code with a positive sign (R129, R132). -/
def MiniType.encode (t : MiniType) (r : Rnd) (x : Fl) : Nat × Bool :=
  match x with
  | .nan => (2 ^ (t.ebits + t.fbits) - 1, false)
  | .inf a =>
    let (m, e) := t.vmax
    let top := e + t.fbits
    (b2n a * 2 ^ (t.ebits + t.fbits) + (top + t.bias).toNat * 2 ^ t.fbits + (m - 2 ^ t.fbits), true)
  | .fin a m e =>
    let (vm, ve) := t.vmax
    let ovl := Fp.lt (.fin false vm ve) (.fin false m e)
    let q := max (e + Fp.width m - 1 - t.fbits) (1 - t.bias - t.fbits)
    let n := r.grid m e q
    let (n', q') := if ovl || Fp.lt (.fin false vm ve) (.fin false n q) then (vm, ve) else (n, q)
    let top := q' + Fp.width n' - 1
    let sign := b2n a * 2 ^ (t.ebits + t.fbits)
    if n' = 0 then (sign, ovl)
    else if top < 1 - t.bias then (sign + Fp.shl n' (q' - (1 - t.bias - t.fbits)), ovl)
    else
      let k := (t.fbits : Int) - (Fp.width n' - 1)
      let frac := if 0 ≤ k then n' * 2 ^ k.toNat else n' / 2 ^ (-k).toNat
      (sign + (top + t.bias).toNat * 2 ^ t.fbits + (frac - 2 ^ t.fbits), ovl)

/-- The value of an MXINT8 code: two's complement in steps of 2^−6 (R130). -/
def int8Decode (c : Nat) : Fl :=
  let v := signed 8 c
  .fin (decide (v < 0)) v.natAbs (-6)

/-- The MXINT8 code of a value: −127 to +127 only (R129). -/
def int8Encode (r : Rnd) (x : Fl) : Nat × Bool :=
  match x with
  | .nan => (0, false)
  | .inf a => (if a then 0x81 else 0x7F, true)
  | .fin a m e =>
    let ovl := Fp.lt (.fin false 127 (-6)) (.fin false m e)
    let n := min (r.grid m e (-6)) 127
    (if n = 0 then 0 else if a then 256 - n else n, ovl)

/-- The value of an element code of an MX format. -/
def mxElem (f c : Nat) : Fl :=
  match miniOf f with
  | some t => t.decode c
  | none => int8Decode c

/-- The code of a value in an MX format. -/
def mxCode (f : Nat) (r : Rnd) (x : Fl) : Nat × Bool :=
  match miniOf f with
  | some t => t.encode r x
  | none => int8Encode r x

/-- The largest magnitude of an MX format's elements (R128). -/
def mxVmax (f : Nat) : Nat × Int :=
  match miniOf f with
  | some t => t.vmax
  | none => (127, -6)

/-- The value times a power of two, exact. -/
def scale2 (x : Fl) (k : Int) : Fl :=
  match x with
  | .fin a m e => .fin a m (e + k)
  | y => y

/-- The values of a group of 32 codes under a scale code (R130): exact except where X × element overflows. -/
def mxDecode (f scale : Nat) (codes : List Nat) : List Fl :=
  if scale = 255 then codes.map fun _ => .nan
  else codes.map fun c => Fp.toFormat fp32 (scale2 (mxElem f c) ((scale : Int) - 127))

/-- Whether an MX format's elements can hold NaN. -/
def mxHasNan (f : Nat) : Bool := f == 3 || f == 5

/-- Magnitude as (m, e) of a finite value; (0, 0) for the rest. -/
def magOf : Fl → Nat × Int
  | .fin _ m e => (m, e)
  | _ => (0, 0)

/-- The largest finite magnitude of a list. -/
def largestMag (xs : List Fl) : Fl :=
  xs.foldl (fun a x => if Fp.finite x && Fp.lt a (Fp.abs x) then Fp.abs x else a) Fp.zero

/-- The scale exponent ⌈log₂(amax ÷ V_max)⌉ before clamping; −127 for amax 0 (R128). -/
def mxScale (f : Nat) (amax : Fl) : Int :=
  let (m, e) := magOf amax
  let (vm, ve) := mxVmax f
  if m = 0 then -127 else Fp.ceilLog2 m vm + (e - ve)

/-- A group of 32 encoded: scale code, element codes, counts (R128, R129). -/
def mxEncode (f : Nat) (xs : List Fl) (rs : List Rnd) : Nat × List Nat × Counts :=
  if !mxHasNan f && xs.any Fp.isNan then (255, xs.map fun _ => 0, {})
  else
    let raw := mxScale f (largestMag xs)
    let k := max (-127) (min 127 raw)
    let enc := (xs.zip rs).map fun p => (p.1, mxCode f p.2 (Fp.toFormat fp32 (scale2 p.1 (-k))))
    let sat := (enc.filter fun p => p.2.2).length
    let flushed := if raw < -127 then
        (enc.filter fun p => Fp.finite p.1 && !Fp.isZero p.1 && Fp.isZero (mxElem f p.2.1)).length
      else 0
    ((k + 127).toNat, enc.map (·.2.1), { saturated := sat, flushed := flushed })

/-! ### Packing (R110) -/

/-- Codes of b bits as one number, element 0 lowest. -/
def packCodes (b : Nat) : List Nat → Nat
  | [] => 0
  | c :: r => c % 2 ^ b + 2 ^ b * packCodes b r

/-- n codes of b bits of a number. -/
def unpackCodes (b : Nat) (v : Nat) : Nat → List Nat
  | 0 => []
  | n + 1 => v % 2 ^ b :: unpackCodes b (v / 2 ^ b) n

/-! ### ZN containers (R108 to R113) -/

/-- Element width of a ZN format. -/
def znBits (f : Nat) : Nat := f + 2
/-- Largest code magnitude Q (R109). -/
def znQ (f : Nat) : Nat := 2 ^ (f + 1) - 1

/-- The scale of a header's fields (R111): 0 when SCALE_E is 0. -/
def znScale (e fr : Nat) : Fl := if e = 0 then Fp.zero else .fin false (16 + fr) ((e : Int) - 127 - 4)

/-- The escape slots of a header: (INDEX, VALUE) of slots 0 to 2. -/
def znSlots (h : Nat) : List (Nat × Nat) :=
  [0, 1, 2].map fun i => (bits h (16 + 14 * i + 13) (16 + 14 * i + 8), bits h (16 + 14 * i + 7) (16 + 14 * i))

/-- Strictly ascending. -/
def ascending : List Nat → Bool
  | a :: b :: r => a < b && ascending (b :: r)
  | _ => true

/-- Whether a ZN block is well-formed (R112). -/
def znWellFormed (f h : Nat) (codes : List Nat) : Bool :=
  let n := bits h 13 12
  let slots := znSlots h
  let used := slots.take n
  let marker := 2 ^ (f + 1)
  bits h 63 58 == 0 && bits h 15 14 == 0 && (slots.drop n).all (fun p => p.1 == 0 && p.2 == 0) &&
  ascending (used.map (·.1)) &&
  ((List.range 64).all fun i => (codes.getD i 0 == marker) == (used.any fun p => p.1 == i))

/-- The values of a ZN container and whether it was malformed (R111, R113). -/
def znDecode (f : Nat) (bs : Bytes) : List Fl × Bool :=
  let h := leNat (bs.take 8)
  let codes := unpackCodes (znBits f) (leNat (bs.drop 8)) 64
  if !znWellFormed f h codes then (List.replicate 64 .nan, true)
  else if bits h 11 4 = 255 then (List.replicate 64 .nan, false)
  else
    let s := znScale (bits h 11 4) (bits h 3 0)
    let used := (znSlots h).take (bits h 13 12)
    ((List.range 64).map fun i =>
      match used.find? fun p => p.1 == i with
      | some p => Fp.mul32 (e4m3.decode p.2) s
      | none =>
        let v := signed (znBits f) (codes.getD i 0)
        if v = 0 then Fp.zero else Fp.mul32 (.fin (decide (v < 0)) v.natAbs 0) s, false)

/-- The smallest scale of R111 that is not below m ÷ Q, floored at 2^−126; 0 for m = 0 (R115).  Answers (SCALE_E,
SCALE_F); an exponent above 254 means that there is none. -/
def pickScale (m : Fl) (q : Nat) : Nat × Nat :=
  let (n, e) := magOf m
  if n = 0 then (0, 0) else
  -- k with 2^k ≤ n·2^e/q < 2^(k+1)
  let c := Fp.ceilLog2 n q
  let exact := if 0 ≤ c then n == q * 2 ^ c.toNat else n * 2 ^ (-c).toNat == q
  let j := if exact then c else c - 1
  let k := j + e
  if k < -126 then (1, 0) else
  -- fraction ⌈(n/(q·2^j) − 1) × 16⌉
  let num := 16 * (if 0 ≤ j then n else n * 2 ^ (-j).toNat)
  let den := if 0 ≤ j then q * 2 ^ j.toNat else q
  let fr := ceilDiv num den - 16
  if fr = 16 then ((k + 128).toNat, 0) else ((k + 127).toNat, fr)

/-- A finite magnitude with its place, placed in descending order, equals kept in ascending place (R115). -/
def insertMag (p : Fl × Nat) : List (Fl × Nat) → List (Fl × Nat)
  | [] => [p]
  | x :: r => if Fp.lt x.1 p.1 then p :: x :: r else x :: insertMag p r

/-- The places of NaNs, the finite magnitudes largest first, and the count of outliers (R115). -/
def rankBlock (pol : Policy) (xs : List Fl) : List Nat × List (Fl × Nat) × Nat :=
  let idx := xs.zip (List.range xs.length)
  let nan := (idx.filter fun p => Fp.isNan p.1).map (·.2)
  let fin := (idx.filter fun p => !Fp.isNan p.1).foldl (fun acc p => insertMag (Fp.abs p.1, p.2) acc) []
  let a4 := (fin.getD 3 (Fp.zero, 0)).1
  let bound := Fp.mulExact pol.ratio a4
  let k := if fin.length < 4 || Fp.isZero a4 then 0
    else [1, 2, 3].foldl (fun k j => if Fp.lt bound (fin.getD (j - 1) (Fp.zero, 0)).1 then j else k) 0
  (nan, fin, k)

/-- The integer code of t under a rounding, within ±Q (R116). -/
def roundCode (t : Fl) (q : Nat) (r : Rnd) : Int :=
  match t with
  | .fin a m e =>
    let n := min (r.grid m e 0) q
    if a then -(n : Int) else n
  | .inf a => if a then -(q : Int) else q
  | .nan => 0

/-- The largest scale, 1.9375 × 2^127 (R122). -/
def scaleMax : Fl := .fin false 31 123

/-- Whether m ÷ Q exceeds the largest scale (R115). -/
def aboveScales (m : Fl) (q : Nat) : Bool := Fp.lt (.fin false (31 * q) 123) m

/-- The relative squared error of a decoded block (R115). -/
def relErr (xs ds : List Fl) : Fl × Fl :=
  (xs.zip ds).foldl (fun (acc : Fl × Fl) p =>
    if !Fp.finite p.1 then acc
    else
      let d := Fp.sub32 p.1 p.2
      (Fp.add32 acc.1 (Fp.mul32 d d), Fp.add32 acc.2 (Fp.mul32 p.1 p.1))) (Fp.zero, Fp.zero)

/-- The fit test (R115): the scale and the escapes, or no fit. -/
def znFit (f : Nat) (pol : Policy) (xs : List Fl) : Option (Nat × Nat × List Nat) :=
  let q := znQ f
  let (nan, fin, k) := rankBlock pol xs
  if 3 < nan.length + k then none else
  let m := (fin.getD k (Fp.zero, 0)).1
  if aboveScales m q then none else
  let (se, sf) := pickScale m q
  let s := znScale se sf
  let outl := (fin.take k).map (·.2)
  let esc := fun (x : Fl) => (e4m3.encode .rne (Fp.div32 x s)).1
  let bad := outl.any fun i =>
    let t := Fp.div32 (xs.getD i Fp.zero) s
    Fp.lt (.fin false 448 0) (Fp.abs t) || !Fp.finite (Fp.mul32 (e4m3.decode (esc (xs.getD i Fp.zero))) s)
  if bad then none else
  let dec := (xs.zip (List.range xs.length)).map fun p =>
    if Fp.isNan p.1 then Fl.nan
    else if outl.contains p.2 then Fp.mul32 (e4m3.decode (esc p.1)) s
    else if Fp.isZero s then Fp.zero
    else
      let c := roundCode (Fp.div32 p.1 s) q .rne
      Fp.mul32 (.fin (decide (c < 0)) c.natAbs 0) s
  let (num, den) := relErr xs dec
  if !Fp.isZero pol.errThreshold && Fp.lt Fp.zero den && Fp.lt pol.errThreshold (Fp.div32 num den) then none
  else some (se, sf, nan ++ outl)

/-- A ZN container with a given scale and given escapes, and its counts (R116, R117, R122). -/
def znPack (f : Nat) (xs : List Fl) (rs : List Rnd) (se sf : Nat) (escapes : List Nat) : Bytes × Counts :=
  let q := znQ f
  let s := znScale se sf
  let es := sortNat escapes
  let slots := es.map fun i =>
    let x := xs.getD i Fp.zero
    if Fp.isNan x then (i * 256 + 0x7F, false)
    else
      let (v, sat) := e4m3.encode .rne (Fp.div32 x s)
      (i * 256 + v, sat)
  let codes := (List.range 64).map fun i =>
    let x := xs.getD i Fp.zero
    if es.contains i then ((2 ^ (f + 1) : Nat), false, false)
    else if Fp.isZero s then (0, false, false)
    else
      let t := Fp.div32 x s
      let c := roundCode t q (rs.getD i .rne)
      (unsigned (znBits f) c, Fp.lt (Fp.ofNat q) (Fp.abs t),
        c == 0 && !Fp.isZero x && se == 1 && sf == 0)
  let hdr := es.length * 2 ^ 12 + se * 16 + sf + 2 ^ 16 * packCodes 14 (slots.map (·.1))
  (toLe 8 hdr ++ toLe (8 * znBits f) (packCodes (znBits f) (codes.map (·.1))),
    { saturated := (slots.filter (·.2)).length + (codes.filter fun c => c.2.1).length
      escaped := es.length
      flushed := (codes.filter fun c => c.2.2).length })

/-- A block written in a ZN format whatever it costs (R122, LIMIT_ACTION 1). -/
def znForce (f : Nat) (pol : Policy) (xs : List Fl) (rs : List Rnd) : Bytes × Counts :=
  let q := znQ f
  match znFit f pol xs with
  | some (se, sf, es) => znPack f xs rs se sf es
  | none =>
    let (nan, fin, k) := rankBlock pol xs
    if 3 < nan.length then (toLe 8 0xFFF ++ zeros (8 * znBits f), {}) else
    let k' := min k (3 - nan.length)
    let m := (fin.getD k' (Fp.zero, 0)).1
    let (se, sf) := if aboveScales m q then (254, 15) else pickScale m q
    znPack f xs rs se sf (nan ++ (fin.take k').map (·.2))

/-! ### BF16 and FP32 containers -/

/-- The largest finite BF16 value (R114). -/
def bf16Max (neg : Bool) : Fl := .fin neg 0xFF 120
/-- The largest finite FP32 value. -/
def fp32Max (neg : Bool) : Fl := .fin neg 0xFFFFFF 104

/-- A value narrowed to BF16 under a rounding, and whether it was clipped (R114, R132). -/
def bf16Round (r : Rnd) (x : Fl) : Fl × Bool :=
  match x with
  | .nan => (.nan, false)
  | .inf a => (.inf a, false)
  | .fin a m e =>
    if m = 0 then (.fin a 0 0, false) else
    let q := Fp.lastPlace bf16 m e
    let n := r.grid m e q
    if Fp.lt (bf16Max false) (.fin false n q) then
      (bf16Max a, match r with
        | .rne => true
        | .sr _ => false)
    else (.fin a n q, false)

/-- BF16 container of a block with its counts. -/
def bf16Encode (xs : List Fl) (rs : List Rnd) : Bytes × Counts :=
  let out := (xs.zip rs).map fun p => (p.1, bf16Round p.2 p.1)
  (out.flatMap fun p => toLe 2 (Fp.to16 p.2.1),
    { saturated := (out.filter fun p => p.2.2).length
      flushed := (out.filter fun p => Fp.finite p.1 && !Fp.isZero p.1 && Fp.isZero p.2.1).length })

/-! ### Containers of every format -/

/-- The 64 values of a packed container, and whether it was malformed. -/
def decodeContainer (f : Nat) (bs : Bytes) : List Fl × Bool :=
  if isZn f then znDecode f bs
  else if f = 4 then (unpackCodes 16 (leNat bs) 64 |>.map Fp.of16, false)
  else if f = 10 then (unpackCodes 32 (leNat bs) 64 |>.map Fp.of32, false)
  else
    let codes := unpackCodes (elemBits f) (leNat (bs.drop 8)) 64
    (mxDecode f (field bs 0 1) (codes.take 32) ++ mxDecode f (field bs 1 1) (codes.drop 32), false)

/-- The infinity policy at an encoding (R114): the value encoded, and its counts. -/
def infPolicy (f : Nat) (pol : Policy) (x : Fl) : Fl × Counts :=
  match x with
  | .fin _ _ _ => (x, {})
  | .nan => (.nan, { nonfinite := 1 })
  | .inf a =>
    if pol.infPolicy = 0 then
      (if f = 4 then bf16Max a else fp32Max a, { nonfinite := 1, saturated := 1 })
    else (.nan, { nonfinite := 1 })

/-- A packed MX container. -/
def mxContainer (f : Nat) (xs : List Fl) (rs : List Rnd) : Bytes × Counts :=
  let (s0, c0, n0) := mxEncode f (xs.take 32) (rs.take 32)
  let (s1, c1, n1) := mxEncode f (xs.drop 32) (rs.drop 32)
  (toLe 8 (s0 + 256 * s1) ++ toLe (8 * elemBits f) (packCodes (elemBits f) (c0 ++ c1)), n0.add n1)

/-- Whether an MXFP8 rung keeps the error limit (R118). -/
def mxFits (f : Nat) (pol : Policy) (xs : List Fl) : Bool :=
  if Fp.isZero pol.errThreshold then true else
  let (bs, _) := mxContainer f xs (xs.map fun _ => .rne)
  let (num, den) := relErr xs (decodeContainer f bs).1
  !(Fp.lt Fp.zero den && Fp.lt pol.errThreshold (Fp.div32 num den))

/-- A block in a format, forced: the widest that may be used, or a format that is its own. -/
def forceBlock (f : Nat) (pol : Policy) (xs : List Fl) (rs : List Rnd) : Bytes × Counts :=
  let ys := xs.map fun x => infPolicy f pol x
  let cs := sumCounts (ys.map (·.2))
  let v := ys.map (·.1)
  if f = 10 then (xs.flatMap fun x => toLe 4 (Fp.to32 x), {})
  else
    let (bs, c) := if isZn f then znForce f pol v rs else if f = 4 then bf16Encode v rs else mxContainer f v rs
    (bs, c.add cs)

/-- A block in a rung of the ladder, when it fits (R118). -/
def fitBlock (f : Nat) (pol : Policy) (xs : List Fl) (rs : List Rnd) : Option (Bytes × Counts) :=
  let v := xs.map fun x => (infPolicy f pol x).1
  let fits := if isZn f then (znFit f pol v).isSome else if f = 3 then mxFits f pol v else true
  if fits then some (forceBlock f pol xs rs) else none

/-- The first rung from f up, not above top, at which a block fits (R118). -/
def climb (pol : Policy) (xs : List Fl) (rs : List Rnd) (top : Nat) : Nat → Nat → Option (Nat × Bytes × Counts)
  | f, 0 => (fitBlock f pol xs rs).map (f, ·)
  | f, n + 1 =>
    match fitBlock f pol xs rs with
    | some r => some (f, r)
    | none => if top < f + 1 then none else climb pol xs rs top (f + 1) n

/-- A block of a ZN tensor of base format f (R118, R122): the format it is written in, or the reason it cannot be (1
MAX_FORMAT, 2 heap full). -/
def encodeBlock (f : Nat) (room : Bool) (pol : Policy) (xs : List Fl) (rs : List Rnd) : Except Nat (Nat × Bytes × Counts) :=
  match climb pol xs rs (max pol.maxFormat f) f 4 with
  | some (g, bs, c) =>
    if g = f || room then .ok (g, bs, { c with escalated := if g = f then 0 else 1 })
    else if pol.limitAction = 0 then .error 2
    else
      let (b, c') := forceBlock f pol xs rs
      .ok (f, b, c')
  | none =>
    if pol.limitAction = 0 then .error 1
    else
      let g := if room then max f pol.maxFormat else f
      let (b, c') := forceBlock g pol xs rs
      .ok (g, b, { c' with escalated := if g = f then 0 else 1 })

end Sys2Proof.Machine
end

