-- ==== Sys2Proof/Machine/Tensor.lean ====
section
/-! DEFINITION. Tensors in memory: descriptors (R125), reading with the block map (R113, R119 to R121), writing whole
tensors (R120, R122, R123, R126, R127), error feedback (R135), copies without decoding (R124), re-encoding (R169). -/

namespace Sys2Proof.Machine

/-- The 32-bit words of a run. -/
def words32 (bs : Bytes) : List Nat := unpackCodes 32 (leNat bs) (bs.length / 4)

/-- The bytes of 32-bit words. -/
def bytes32 (ws : List Nat) : Bytes := ws.flatMap fun w => toLe 4 w

/-! ### Descriptors (R125) -/

/-- A tensor descriptor with the cabinet address that it stands at. -/
structure Desc where
  addr : Nat
  base : Nat
  map : Nat
  heap : Nat
  residual : Nat
  elements : Nat
  elementBase : Nat
  tensorId : Nat
  heapSlots : Nat
  heapUsed : Nat
  format : Nat
  layout : Nat
  deriving DecidableEq, Repr, Inhabited

/-- The fields of a descriptor's 64 bytes. -/
def parseDesc (addr : Nat) (b : Bytes) : Desc :=
  { addr := addr, base := field b 0 8, map := field b 8 8, heap := field b 16 8, residual := field b 24 8
    elements := field b 32 8, elementBase := field b 40 8, tensorId := field b 48 4, heapSlots := field b 52 4
    heapUsed := field b 56 4, format := field b 60 1, layout := field b 61 1 }

/-- The first field of a descriptor at fault: alignment, reserved field, range (R125, R107).  mk gives the DETAIL of a
descriptor offset. -/
def descErr (mk : Nat → Nat) (b : Bytes) (d : Desc) : Option Err :=
  let zn := isZn d.format
  let split := isMx d.format && d.layout == 1
  firstErr [
    (d.base % 64 != 0, { status := stBadAlignment, detail := mk 0 }),
    ((zn || split) && d.map % 64 != 0, { status := stBadAlignment, detail := mk 8 }),
    (zn && d.heap % 128 != 0, { status := stBadAlignment, detail := mk 16 }),
    (d.residual % 64 != 0, { status := stBadAlignment, detail := mk 24 }),
    (10 < d.format, { status := stBadField, detail := mk 60 }),
    (field b 62 2 != 0, { status := stBadField, detail := mk 62 }),
    (1 < d.layout || (d.layout == 1 && !isMx d.format), { status := stBadRange, detail := mk 61 }),
    ((zn || split) == (d.map == 0), { status := stBadRange, detail := mk 8 }),
    ((d.heapSlots == 0) != (d.heap == 0) || (!zn && d.heap != 0), { status := stBadRange, detail := mk 16 }),
    (!zn && d.heapSlots != 0, { status := stBadRange, detail := mk 52 }),
    (d.elements = 0 || 2 ^ 44 < d.elements, { status := stBadRange, detail := mk 32 })]

/-- Containers of a tensor. -/
def Desc.blocks (d : Desc) : Nat := ceilDiv d.elements 64

/-- Bytes of the base array, or of the element stream of a split tensor (R127). -/
def Desc.baseBytes (d : Desc) : Nat :=
  d.blocks * (if d.layout = 1 then 8 * elemBits d.format else containerBytes d.format)

/-- Bytes of the block map (R119), or of the scale array of a split tensor. -/
def Desc.mapBytes (d : Desc) : Nat :=
  if isZn d.format then ceilDiv d.blocks 2 else if d.layout = 1 then 2 * d.blocks else 0

/-- The memory ranges of a tensor (R165). -/
def Desc.ranges (d : Desc) : List (Nat × Nat) :=
  [(d.addr, 64), (d.base, d.baseBytes), (d.map, d.mapBytes), (d.heap, 128 * d.heapSlots),
   (d.residual, if d.residual = 0 then 0 else 2 * d.elements)]

/-- The parts of a tensor that a command writing it changes. -/
def Desc.written (d : Desc) : List (Nat × Nat) := (d.addr + 56, 4) :: d.ranges.drop 1

/-- Whether any range of one list overlaps any of another. -/
def rangesMeet (xs ys : List (Nat × Nat)) : Bool := xs.any fun x => ys.any fun y => overlaps x.1 x.2 y.1 y.2

/-- Whether the written ranges of a command overlap each other (each group is one tensor or array) or a read one
(R165). -/
def rangesClash (reads : List (Nat × Nat)) : List (List (Nat × Nat)) → Bool
  | [] => false
  | w :: r => rangesMeet w reads || rangesMeet w r.flatten || rangesClash reads r

/-! ### Reading -/

/-- What reads cabinet memory for a command. -/
abbrev Reader := Nat → Nat → Except Err Bytes

/-- The map code of block i. -/
def mapCode (m : Bytes) (i : Nat) : Nat := bits (field m (i / 2) 1) (4 * (i % 2) + 3) (4 * (i % 2))

/-- The container that holds block i of a ZN tensor, by the map and the heap: none when the block is malformed (R121);
esc escalated blocks lie before it. -/
def znContainer (rd : Reader) (d : Desc) (code esc : Nat) (slot : Bytes) : Except Err (Option (Nat × Bytes)) :=
  if code = d.format then .ok (some (code, slot))
  else if code < d.format || 4 < code then .ok none
  else if field slot 0 4 = esc && esc < d.heapUsed then do
    let c ← rd (d.heap + 128 * esc) (containerBytes code)
    pure (some (code, c))
  else .ok none

/-- Whether a map code counts as escalated for the slot numbers of R120. -/
def escalatedCode (d : Desc) (code : Nat) : Bool := d.format < code && code ≤ 4

/-- The containers of a ZN tensor from block i on. -/
def znContainers (rd : Reader) (d : Desc) (base map : Bytes) : Nat → Nat → Nat → Except Err (List (Option (Nat × Bytes)))
  | _, _, 0 => .ok []
  | i, esc, n + 1 => do
    let code := mapCode map i
    let sz := containerBytes d.format
    let c ← znContainer rd d code esc (slice base (i * sz) sz)
    let r ← znContainers rd d base map (i + 1) (if escalatedCode d code then esc + 1 else esc) n
    pure (c :: r)

/-- The containers of a tensor, each with its format: none for a malformed one. -/
def readContainers (rd : Reader) (d : Desc) : Except Err (List (Option (Nat × Bytes))) := do
  let base ← rd d.base d.baseBytes
  if isZn d.format then do
    let map ← rd d.map d.mapBytes
    znContainers rd d base map 0 0 d.blocks
  else if d.layout = 1 then do
    let sc ← rd d.map d.mapBytes
    let w := 8 * elemBits d.format
    pure ((List.range d.blocks).map fun i =>
      some (d.format, slice sc (2 * i) 2 ++ zeros 6 ++ slice base (i * w) w))
  else
    let w := containerBytes d.format
    pure ((List.range d.blocks).map fun i => some (d.format, slice base (i * w) w))

/-- The format and the values of a container, and whether it was malformed (R113, R121). -/
def blockValues (f : Nat) : Option (Nat × Bytes) → Nat × List Fl × Bool
  | none => (f, List.replicate 64 .nan, true)
  | some (g, bs) => (g, decodeContainer g bs)

/-- A tensor as read: for each block its format and values, those below ELEMENTS only (R126); and its malformed
blocks. -/
structure Loaded where
  blocks : List (Nat × List Fl)
  malformed : Nat
  deriving DecidableEq, Repr, Inhabited

/-- Reads a whole tensor. -/
def loadTensor (rd : Reader) (d : Desc) : Except Err Loaded := do
  let cs ← readContainers rd d
  let bs := cs.map (blockValues d.format)
  pure { blocks := (bs.zip (List.range bs.length)).map fun p => (p.1.1, p.1.2.1.take (d.elements - 64 * p.2))
         malformed := (bs.filter fun b => b.2.2).length }

/-- All values in order. -/
def Loaded.values (l : Loaded) : List Fl := l.blocks.flatMap (·.2)

/-! ### Writing -/

/-- A list cut into runs of n. -/
def chunksOf {α : Type} (n : Nat) : Nat → List α → List (List α)
  | 0, _ => []
  | k + 1, l => l.take n :: chunksOf n k (l.drop n)

/-- The rounding of each element of a narrowing (R131, R134). -/
structure Rounding where
  stochastic : Bool
  seed : Nat
  step : Nat
  deriving DecidableEq, Repr, Inhabited

/-- The rounding a command's ROUNDING code names, or none for a reserved code (R131). -/
def roundingOf (code : Nat) (pol : Policy) (seed step : Nat) : Option Rounding :=
  if 2 < code then none
  else some { stochastic := code == 1 || (code == 2 && pol.roundingDefault == 1), seed := seed, step := step }

/-- The roundings of the 64 elements of block i of an output tensor. -/
def Rounding.block (r : Rounding) (d : Desc) (i : Nat) : List Rnd :=
  (List.range 64).map fun j =>
    if r.stochastic then .sr (genU r.seed r.step d.tensorId (d.elementBase + 64 * i + j)) else .rne

/-- FORMAT_ESCALATION_LIMIT with its reason and block (R122). -/
def errLimit (reason block : Nat) : Err := { status := stEscalationLimit, detail := reason * 2 ^ 48 + block }

/-- The blocks of an output tensor encoded in ascending order; used heap slots are taken (R118, R122, R123). -/
def encodeBlocks (d : Desc) (pol : Policy) (r : Rounding) :
    Nat → Nat → List (List Fl) → Except Err (List (Nat × Bytes × Counts))
  | _, _, [] => .ok []
  | i, used, xs :: rest => do
    let ys := xs ++ List.replicate (64 - xs.length) Fp.zero
    let rs := r.block d i
    if isZn d.format then
      match encodeBlock d.format (used < d.heapSlots) pol ys rs with
      | .error reason => throw (errLimit reason i)
      | .ok b => do
        let l ← encodeBlocks d pol r (i + 1) (if b.1 = d.format then used else used + 1) rest
        pure (b :: l)
    else do
      let b := forceBlock d.format pol ys rs
      let l ← encodeBlocks d pol r (i + 1) used rest
      pure ((d.format, b) :: l)

/-- Writes of a command in cabinet memory, in order, each checked; an error leaves nothing written. -/
def State.writeAll (s : State) (cab : Nat) : List (Nat × Bytes) → Except Err State
  | [] => .ok s
  | (a, bs) :: r =>
    if bs.isEmpty then s.writeAll cab r else
    match s.canWrite cab a bs.length with
    | some e => .error e
    | none => (s.putCab cab a bs).writeAll cab r

/-- The parts of a ZN tensor built of blocks: base array with heap indices (R120), map (R119), heap. -/
def znParts (d : Desc) : Nat → List (Nat × Bytes) → Bytes × List Nat × Bytes
  | _, [] => ([], [], [])
  | used, (g, c) :: r =>
    if g = d.format then
      let (b, m, h) := znParts d used r
      (c ++ b, g :: m, h)
    else
      let (b, m, h) := znParts d (used + 1) r
      (fit (containerBytes d.format) (toLe 4 used) ++ b, g :: m, fit 128 c ++ h)

/-- The runs of bytes that a tensor of given containers is (R123, R127), HEAP_USED among them (R125). -/
def tensorRuns (d : Desc) (cs : List (Nat × Bytes)) : List (Nat × Bytes) :=
  if isZn d.format then
    let (b, m, h) := znParts d 0 cs
    [(d.base, b), (d.map, toLe d.mapBytes (packCodes 4 m)), (d.heap, h), (d.addr + 56, toLe 4 (h.length / 128))]
  else if d.layout = 1 then
    [(d.base, cs.flatMap fun c => c.2.drop 8), (d.map, cs.flatMap fun c => c.2.take 2), (d.addr + 56, toLe 4 0)]
  else [(d.base, cs.flatMap (·.2)), (d.addr + 56, toLe 4 0)]

/-- Heap slots that containers take in a tensor. -/
def heapUsedBy (d : Desc) (cs : List (Nat × Bytes)) : Nat :=
  if isZn d.format then (cs.filter fun c => c.1 != d.format).length else 0

/-- The residual of an element (R135). -/
def residualOf (y dq : Fl) : Fl :=
  if Fp.finite y && Fp.finite dq then (bf16Round .rne (Fp.sub32 y dq)).1 else Fp.zero

/-- The residual array as it stands; nothing for a tensor without one (R135). -/
def State.residualBytes (s : State) (cab : Nat) (d : Desc) : Except Err Bytes :=
  if d.residual = 0 then .ok [] else s.readCab cab d.residual (2 * d.elements)

/-- A tensor written whole: the state, its HEAP_USED, its counts (R123, R135, R140). -/
def State.storeTensor (s : State) (cab : Nat) (d : Desc) (pol : Policy) (r : Rounding) (vals : List Fl) :
    Except Err (State × Nat × Counts) := do
  let res ← s.residualBytes cab d
  let resV := (unpackCodes 16 (leNat res) (res.length / 2)).map Fp.of16
  let y := if d.residual = 0 then vals else (vals.zip resV).map fun p => Fp.add32 p.1 p.2
  let bs ← encodeBlocks d pol r 0 0 (chunksOf 64 d.blocks y)
  let cs := bs.map fun b => (b.1, b.2.1)
  let runs := tensorRuns d cs
  let dec := cs.flatMap fun c => (decodeContainer c.1 c.2).1
  let newRes := if d.residual = 0 then [] else
    [(d.residual, (y.zip dec).flatMap fun p => toLe 2 (Fp.to16 (residualOf p.1 p.2)))]
  let t ← s.writeAll cab (runs ++ newRes)
  pure (t, heapUsedBy d cs, sumCounts (bs.map fun b => b.2.2))

/-! ### Whole tensors without arithmetic -/

/-- The runs of a tensor moved unchanged (R124). -/
def copyRuns (rd : Reader) (src dst : Desc) : Except Err (List (Nat × Bytes)) := do
  let b ← rd src.base src.baseBytes
  let m ← if src.mapBytes = 0 then pure [] else rd src.map src.mapBytes
  let h ← if src.heapUsed = 0 then pure [] else rd src.heap (128 * src.heapUsed)
  pure [(dst.base, b), (dst.map, m), (dst.heap, h), (dst.addr + 56, toLe 4 src.heapUsed)]

/-- ESCALATE's blocks (R169): a container that is at or above the new base and has its room moves unchanged; the rest
are re-encoded.  Answers format, container, counts, and whether the block was re-encoded. -/
def escalateBlocks (src d : Desc) (pol : Policy) (r : Rounding) :
    Nat → Nat → List (Option (Nat × Bytes)) → Except Err (List (Nat × Bytes × Counts × Bool))
  | _, _, [] => .ok []
  | i, used, c :: rest => do
    let code := match c with
      | some p => p.1
      | none => 0
    let cont := match c with
      | some p => p.2
      | none => []
    let room : Bool := used < d.heapSlots
    if c.isSome && code == d.format then do
      let l ← escalateBlocks src d pol r (i + 1) used rest
      pure ((d.format, cont, {}, false) :: l)
    else if c.isSome && d.format < code && room then do
      let l ← escalateBlocks src d pol r (i + 1) (used + 1) rest
      pure ((code, cont, { (default : Counts) with escalated := 1 }, false) :: l)
    else if c.isSome && d.format < code && pol.limitAction == 0 then throw (errLimit 2 i)
    else
      let v := blockValues d.format c
      let xs := v.2.1.take (src.elements - 64 * i)
      let ys := xs ++ List.replicate (64 - xs.length) Fp.zero
      let rs := r.block d i
      let mal := b2n v.2.2
      if c.isSome && d.format < code then do
        let (bs, n) := forceBlock d.format pol ys rs
        let l ← escalateBlocks src d pol r (i + 1) used rest
        pure ((d.format, bs, { n with malformed := mal }, true) :: l)
      else
        match encodeBlock d.format room pol ys rs with
        | .error reason => throw (errLimit reason i)
        | .ok (g, bs, n) => do
          let l ← escalateBlocks src d pol r (i + 1) (if g = d.format then used else used + 1) rest
          pure ((g, bs, { n with malformed := mal }, true) :: l)

end Sys2Proof.Machine
end

