-- ==== Sys2Proof/Machine/SeqDesc.lean ====
section
/-! DEFINITION. Sequence descriptors and shelves as data (R260, R275, R276), and the runs of memory that the commands on
them write (R269, R270, R276, R277). -/

namespace Sys2Proof.Machine

/-! ### Sequence descriptor (R260) -/

/-- The fields of a sequence descriptor. -/
structure Seq where
  table : Nat
  summary : Nat
  recBytes : Nat
  maxTokens : Nat
  committed : Nat
  keyOffset : Nat
  heads : Nat
  dim : Nat
  keyFormat : Nat
  state : Nat
  note : Nat
  res : Nat
  leaseQueue : Nat
  leaseEpoch : Nat
  leaseExpiry : Nat
  commits : Nat
  deriving DecidableEq, Repr, Inhabited

/-- The fields of a descriptor's 64 bytes. -/
def parseSeq (b : Bytes) : Seq :=
  { table := field b 0 8, summary := field b 8 8, recBytes := field b 16 4, maxTokens := field b 20 4
    committed := field b 24 4, keyOffset := field b 28 4, heads := field b 32 2, dim := field b 34 2
    keyFormat := field b 36 1, state := field b 37 1, note := field b 38 1, res := field b 39 1
    leaseQueue := field b 40 4, leaseEpoch := field b 44 4, leaseExpiry := field b 48 8, commits := field b 56 8 }

/-- A descriptor's 64 bytes. -/
def Seq.bytes (d : Seq) : Bytes :=
  toLe 8 d.table ++ toLe 8 d.summary ++ toLe 4 d.recBytes ++ toLe 4 d.maxTokens ++ toLe 4 d.committed
    ++ toLe 4 d.keyOffset ++ toLe 2 d.heads ++ toLe 2 d.dim ++ toLe 1 d.keyFormat ++ toLe 1 d.state ++ toLe 1 d.note
    ++ toLe 1 d.res ++ toLe 4 d.leaseQueue ++ toLe 4 d.leaseEpoch ++ toLe 8 d.leaseExpiry ++ toLe 8 d.commits

/-- The resident copy of a descriptor (R262). -/
def State.resident? (s : State) (cab a : Nat) : Option SeqDesc :=
  s.tiers.resident.find? fun r => r.cabinet == cab && r.addr == a

/-- A descriptor as it stands: the resident copy where there is one, else the one in memory (R262). -/
def State.seqAt (s : State) (cab a : Nat) : Except Err Seq :=
  match s.resident? cab a with
  | some r => .ok (parseSeq r.bytes)
  | none =>
    match s.readCab cab a 64 with
    | .error e => .error e
    | .ok b => .ok (parseSeq b)

/-- The width of a selection key (R260). -/
def Seq.keyWidth (d : Seq) : Nat := if d.keyFormat = 4 then 2 else 4

/-- Blocks that hold committed tokens. -/
def Seq.blocks (d : Seq) : Nat := ceilDiv d.committed 256

/-- The address of a block from the block table. -/
def State.blockAddr (s : State) (cab : Nat) (d : Seq) (b : Nat) : Except Err Nat :=
  match s.readCab cab (d.table + 8 * b) 8 with
  | .error e => .error e
  | .ok bs => .ok (leNat bs)

/-- The addresses of several blocks. -/
def State.blockAddrs (s : State) (cab : Nat) (d : Seq) : List Nat → Except Err (List Nat)
  | [] => .ok []
  | b :: r =>
    match s.blockAddr cab d b with
    | .error e => .error e
    | .ok a =>
      match s.blockAddrs cab d r with
      | .error e => .error e
      | .ok l => .ok (a :: l)

/-! ### SEQ_LOAD (R269) -/

/-- The bytes of each record that a SEQ_LOAD copies. -/
def loadLen (d : Seq) (cont : Bytes) : Nat := if field cont 4 4 = 0 then d.recBytes else field cont 4 4

/-- The blocks that a SEQ_LOAD names. -/
def State.loadBlocks (s : State) (cab : Nat) (r cont : Bytes) : Except Err (List Nat) :=
  let n := arg r 20 4
  if field cont 8 8 = 0 then .ok ((List.range n).map (arg r 16 4 + ·))
  else match s.readCab cab (field cont 8 8) (4 * n) with
    | .error e => .error e
    | .ok bs => .ok (words32 bs)

/-- Committed tokens of a block. -/
def Seq.tokensIn (d : Seq) (b : Nat) : Nat := min 256 (d.committed - 256 * b)

/-- The runs that a SEQ_LOAD writes: one for each block (R269). -/
def loadRuns (d : Seq) (land len : Nat) : Nat → List Nat → List (Nat × Nat)
  | _, [] => []
  | k, b :: r => (land + 256 * k * len, d.tokensIn b * len) :: loadRuns d land len (k + 1) r

/-! ### SEQ_APPEND (R270) -/

/-- The parts of an APPEND, block by block: (block, first token in it, tokens). -/
def appendParts : Nat → Nat → Nat → List (Nat × Nat × Nat)
  | 0, _, _ => []
  | fuel + 1, t, n =>
    if n = 0 then [] else
    let m := min n (256 - t % 256)
    (t / 256, t % 256, m) :: appendParts fuel (t + m) (n - m)

/-- The parts of an APPEND of n tokens. -/
def Seq.appendParts (d : Seq) (n : Nat) : List (Nat × Nat × Nat) := Machine.appendParts (n / 256 + 2) d.committed n

/-! ### Shelves (R275, R276) -/

/-- One entry of a shelf: its tensor's descriptor, and where its landing image goes. -/
structure ShelfEntry where
  desc : Desc
  landing : Nat
  bytes : Bytes
  deriving DecidableEq, Repr, Inhabited

/-- The header of a shelf, checked: ENTRIES, ENTRY_TABLE, LANDING_BYTES. -/
def State.shelfHeader (s : State) (cab a : Nat) : Except Err (Nat × Nat × Nat) := do
  if a % 64 != 0 then throw (errAlign 0)
  let b ← s.readCab cab a 64
  match firstErr [(field b 4 4 != 0 || !allZero (slice b 24 40), errField 0), (field b 8 8 % 64 != 0, errAlign 0),
      (field b 0 4 = 0 || 4096 < field b 0 4, errRange 0)] with
  | some e => throw e
  | none => pure (field b 0 4, field b 8 8, field b 16 8)

/-- An entry of a shelf, checked. -/
def State.shelfEntry (s : State) (cab table i : Nat) : Except Err ShelfEntry := do
  let e ← s.readCab cab (table + 64 * i) 64
  match firstErr [(!allZero (slice e 48 16), errField 0), (field e 8 8 % 4096 != 0, errAlign 0),
      (field e 0 8 % 64 != 0, errAlign 0)] with
  | some x => throw x
  | none => pure ()
  let b ← s.readCab cab (field e 0 8) 64
  let d := parseDesc (field e 0 8) b
  match firstErr [(!(d.format == 2 || d.format == 3 || d.format == 5) || d.layout != 0, errField 0)] with
  | some x => throw x
  | none => pure ()
  match descErr (fun _ => 0) b d with
  | some x => throw x
  | none => pure { desc := d, landing := field e 8 8, bytes := b }

/-- Several entries of a shelf. -/
def State.shelfEntries (s : State) (cab table : Nat) : Nat → Nat → Except Err (List ShelfEntry)
  | _, 0 => .ok []
  | i, n + 1 => do
    let e ← s.shelfEntry cab table i
    let l ← s.shelfEntries cab table (i + 1) n
    pure (e :: l)

/-- Offset of the block map in a landing image. -/
def Desc.imageMap (d : Desc) : Nat := alignUp (64 + d.baseBytes) 64

/-- Offset of the heap in a landing image. -/
def Desc.imageHeap (d : Desc) : Nat := alignUp (d.imageMap + d.mapBytes) 128

/-- The end of a landing image. -/
def Desc.imageBytes (d : Desc) : Nat :=
  if d.heapUsed != 0 then d.imageHeap + 128 * d.heapUsed
  else if d.mapBytes != 0 then d.imageMap + d.mapBytes else 64 + d.baseBytes

/-- The descriptor of a landing image (R276): offsets in place of addresses, HEAP_SLOTS equal to HEAP_USED, no
residual; a map or a heap that the tensor does not have keeps 0. -/
def imageDesc (d : Desc) (b : Bytes) : Bytes :=
  let b1 := putBytes b 0 (toLe 8 64)
  let b2 := putBytes b1 8 (toLe 8 (if d.mapBytes = 0 then 0 else d.imageMap))
  let b3 := putBytes b2 16 (toLe 8 (if d.heapUsed = 0 then 0 else d.imageHeap))
  putBytes (putBytes b3 24 (zeros 8)) 52 (toLe 4 d.heapUsed)

/-- The runs of a landing image: (offset, bytes). -/
def Desc.imageRuns (d : Desc) : List (Nat × Nat) :=
  [(0, 64), (64, d.baseBytes), (d.imageMap, d.mapBytes), (d.imageHeap, 128 * d.heapUsed)].filter fun p => p.2 != 0

end Sys2Proof.Machine
end

