-- ==== Sys2Proof/Machine/Dests.lean ====
section
/-! DEFINITION. What a command reads at its start (R160), where it writes, and the undefined contents of its
destinations when it ends with a status that leaves them so (R102, R82, R178). -/

namespace Sys2Proof.Machine

/-! ### Operation blocks -/

/-- The operation block's address and length of a Transform command (R157). -/
def opBlockRange (r : Bytes) : Nat × Nat := (arg r 0 8, arg r 8 2)

/-- The operation-block offsets that hold addresses of descriptors which a Transform command only reads, and of those
which it writes. -/
def descOffsets (op : Nat) (ob : Bytes) : List Nat × List Nat :=
  if 0x1001 ≤ op && op ≤ 0x1003 then ([16], [24])
  else if op = 0x1010 then ((List.range (min (field ob 24 2) 60)).map fun j => 32 + 8 * j, [16])
  else if op = 0x1011 then ([16], [])
  else if 0x1020 ≤ op && op ≤ 0x1023 then ([48], if field ob 56 8 = 0 then [] else [56])
  else if op = 0x1030 then ([16, 24], [])
  else if op = 0x1040 then ([16, 32] ++ (if field ob 58 1 = 1 then [40] else []), [24])
  else if 0x2010 ≤ op && op ≤ 0x2014 then ([24].filter fun o => field ob o 8 != 0, [32].filter fun o => field ob o 8 != 0)
  else ([], [])

/-- What a Transform command or a collective reads once, at its start: its operation block and the descriptors it names
(R160); a part that cannot be read is met again by the command itself. -/
def State.captureOf (s : State) (cab engine : Nat) (r : Bytes) : List (Nat × Bytes) :=
  if !(engine == 1 || (engine == 2 && 0x2010 ≤ recOpcode r)) then [] else
  let (a, n) := opBlockRange r
  match s.readCab cab a n with
  | .error _ => []
  | .ok ob =>
    let (ins, outs) := descOffsets (recOpcode r) ob
    let ds := (ins ++ outs).filterMap fun o =>
      let p := field ob o 8
      match s.readCab cab p 64 with
      | .error _ => none
      | .ok b => some (p, b)
    (a, ob) :: ds

/-- A command's reads of cabinet memory: what it captured at its start is not read again. -/
def State.reader (s : State) (c : Ctx) : Reader := fun a n =>
  match c.captured.find? fun p => p.1 == a && p.2.length == n with
  | some p => .ok p.2
  | none => s.readCab c.cabinet a n

/-! ### Destinations -/

/-- Bytes of a WIRE_RES array: one BF16 for each element of SRC (R335). -/
def State.wireResBytes (s : State) (c : Ctx) (ob : Bytes) : Nat :=
  match s.reader c (field ob 24 8) 64 with
  | .error _ => 0
  | .ok b => 2 * (parseDesc 0 b).elements

/-- The runs of cabinet memory that a Transform command or a collective writes. -/
def State.transformDests (s : State) (c : Ctx) : List (Nat × Nat) :=
  let r := c.record
  let op := recOpcode r
  let (a, n) := opBlockRange r
  match s.reader c a n with
  | .error _ => []
  | .ok ob =>
    let tensors := (descOffsets op ob).2.flatMap fun o =>
      match s.reader c (field ob o 8) 64 with
      | .error _ => []
      | .ok b => (parseDesc (field ob o 8) b).written
    let count := field ob 64 8
    let arrays :=
      if 0x1020 ≤ op && op ≤ 0x1023 then
        [(field ob 16 8, 4 * count), (field ob 24 8, 4 * count)] ++
        (if op = 0x1020 then [(field ob 32 8, 4 * count)]
         else if op = 0x1023 then [(field ob 32 8, 4 * field ob 72 4), (field ob 40 8, 4 * field ob 76 4)] else [])
      else if op = 0x1011 then [(field ob 24 8, 4)]
      else if op = 0x1030 then
        [(field ob 56 8, 4 * field ob 32 4),
         (field ob 64 8, 4 * min (field ob 32 4) (field ob 44 2 + field ob 46 2 + field ob 40 4))]
      else if op = 0x2010 || op = 0x2011 then [(field ob 40 8, s.wireResBytes c ob)]
      else []
    (arrays ++ tensors).filter fun p => p.1 != 0

/-- The runs of a list-copy's entries. -/
def listDests : Nat → Bytes → List (Nat × Nat)
  | 0, _ => []
  | n + 1, bs => (field bs 8 8, field bs 16 8) :: listDests n (bs.drop 32)

/-- The runs of cabinet memory that a Move command writes (R256). -/
def State.moveDests (s : State) (c : Ctx) : List (Nat × Nat) :=
  let r := c.record
  let op := recOpcode r
  if op = 0x0001 then [(arg r 8 8, arg r 16 8)]
  else if op = 0x0002 then
    match s.readCab c.cabinet (arg r 0 8) (32 * arg r 8 4) with
    | .error _ => []
    | .ok bs => listDests (arg r 8 4) bs
  else if op = 0x0003 then [(arg r 0 8, arg r 8 8)]
  else []

/-- The runs that a SEQ_APPEND writes (R270). -/
def State.appendDests (s : State) (c : Ctx) (d : Seq) : List (Nat × Nat) :=
  (d.appendParts (arg c.record 16 4)).filterMap fun p =>
    match s.blockAddr c.cabinet d p.1 with
    | .error _ => none
    | .ok a => if a = 0 then none else some (a + p.2.1 * d.recBytes, p.2.2 * d.recBytes)

/-- The runs of cabinet memory that a Sequence command writes (R269, R270, R276, R277). -/
def State.seqDests (s : State) (c : Ctx) : List (Nat × Nat) :=
  let r := c.record
  let op := recOpcode r
  if op = 0x4004 || op = 0x4005 then
    match s.seqAt c.cabinet (arg r 0 8) with
    | .error _ => []
    | .ok d =>
      if op = 0x4005 then (if c.finished then [] else s.appendDests c d)
      else
        let cont := c.conts.headD []
        match s.loadBlocks c.cabinet r cont with
        | .error _ => []
        | .ok bs => loadRuns d (arg r 8 8) (loadLen d cont) 0 bs
  else if op = 0x4010 || op = 0x4011 then
    match s.shelfHeader c.cabinet (arg r 0 8) with
    | .error _ => []
    | .ok (_, table, _) =>
      if op = 0x4010 then
        match s.shelfEntries c.cabinet table (arg r 16 4) (arg r 20 2) with
        | .error _ => []
        | .ok es => es.flatMap fun e => e.desc.imageRuns.map fun p => (arg r 8 8 + e.landing + p.1, p.2)
      else
        match s.shelfEntry c.cabinet table (arg r 8 4) with
        | .error _ => []
        | .ok e => e.desc.written
  else []

/-- The runs of cabinet memory that a started command writes, by its engine byte. -/
def State.dests (s : State) (engine : Nat) (c : Ctx) : List (Nat × Nat) :=
  if engine = 0 then s.moveDests c
  else if engine = 1 || (engine = 2 && 0x2010 ≤ recOpcode c.record) then s.transformDests c
  else if engine = 4 then s.seqDests c
  else if engine = 6 && field c.record 0 1 == 2 then [(field c.record 24 8, field c.record 40 4)]
  else []

/-- Whether a status leaves the destinations of a started command undefined (R102): 0 no, 1 those in host memory, 2
all. -/
def destsUndefined (st : Nat) : Nat :=
  if st = stHostLeaseLost then 1
  else if [stAccessFault, stBusMasterOff, stDigestMismatch, stEccUncorrectable, stEscalationLimit, stDiscardedReset,
      stDiscardedFlr, stFirmwareFault].contains st then 2
  else 0

/-- One device piece of a destination takes undefined contents; a granule not yet copied has not been written to
(R384). -/
def State.scramblePiece (s : State) (hostOnly : Bool) (d n : Nat) : State :=
  if (hostOnly && !inHost d) || (s.uncopied d n).isSome then s
  else s.store d ((List.range n).map fun i => Config.freeByte s.fresh (d + i))

/-- A run of cabinet memory takes undefined contents where the cabinet may write to it. -/
def State.scrambleRun (s : State) (cab : Nat) (hostOnly : Bool) (a n : Nat) : State :=
  (piecesOf a n).foldl (fun (s : State) p =>
    match s.translate cab p.1 .write with
    | none => s
    | some d => (s.scramblePiece hostOnly d p.2).logWrite cab p.1 p.2) s

/-- The destinations of a started command take the contents that its status leaves them (R102); the
in-place arrays of an optimizer all do (R178), and those of a collective that loses its peer (R360). -/
def State.scramble (s : State) (engine : Nat) (c : Ctx) (st : Nat) : State :=
  let inPlace := engine == 1 && 0x1020 ≤ recOpcode c.record && recOpcode c.record ≤ 0x1023
  let k := if (inPlace && st = stHostLeaseLost) || (engine == 2 && st = stPeerTimeout) then 2 else destsUndefined st
  if k = 0 then s else
  let t := (s.dests engine c).foldl (fun (s : State) p => s.scrambleRun c.cabinet (k == 1) p.1 p.2) s
  { t with fresh := s.fresh + 1 }

/-! ### Stalls (R384) -/

/-- A granule that a state's writes have marked dirty before it was copied: the write that would do so stalls. -/
def State.aheadOfCopy (s : State) : Option (Nat × Nat) :=
  s.snap.sets.findSome? fun x =>
    (x.gens.findSome? fun g => g.dirty.find? fun i => g.lacks i).map (x.slot, ·)

/-- A writer stalls on a granule: counted once for each granule it waits for (R384). -/
def State.noteStall (s : State) (who : Option Nat) (slot g : Nat) : State :=
  if s.snap.sets.any fun x => x.slot == slot && x.stalls.any fun y => y.ctx == who && y.granule == g then s
  else
    let add := fun (x : SnapSet) => { x with stalls := x.stalls ++ [{ ctx := who, granule := g, starved := false }] }
    { s with snap := { s.snap with sets := updWhere (fun x => x.slot == slot) add s.snap.sets } }.bump 0x2820 1 1

/-- The state t that a command's writes make of s, or, while a granule they touch has not been copied, s with the writer
stalled (R384): the command's event comes again when the granule is copied. -/
def State.land (s : State) (who : Option Nat) (t : State) : Result :=
  match t.aheadOfCopy with
  | none => s.commit t
  | some (slot, g) => s.quiet (s.noteStall who slot g)

end Sys2Proof.Machine
end

