-- ==== Sys2Proof/Machine/Queues.lean ====
section
/-! DEFINITION. Queue machinery: completion records (R53, R54, R61, R673), halts (R78, R102), suspensions (R77),
queue resets (R82), and the completion of a command with its signal (R65, R66). -/

namespace Sys2Proof.Machine

/-! ### Completion rings -/

/-- Whether a completion ring is full: 2ⁿ − 1 records not consumed (R53).  Its head is the next index written, its tail
the recorded CQ_HEAD. -/
def Queue.full (q : Queue) : Bool := (q.head + 1) % q.size == q.tail

/-- A held record as it is written: SQ_HEAD and PHASE are those of the moment of writing (R54, R61). -/
def State.finalRecord (s : State) (cq : Queue) (h : HeldRec) : Bytes :=
  let sqHead := match s.queue? (handleIndex (field h.bytes 8 4)) with
    | some q => q.head
    | none => 0
  let flags := field h.bytes 12 2 / 2 * 2 + b2n cq.phase
  putBytes (putBytes h.bytes 6 (toLe 2 sqHead)) 12 (toLe 2 flags)

/-- The completion ring after a record is written: the next index, and the phase inverted at a wrap (R54). -/
def Queue.advance (q : Queue) : Queue :=
  let h := (q.head + 1) % q.size
  { q with head := h, phase := if h = 0 then !q.phase else q.phase, held := q.held.drop 1, faultReported := false }

/-- The first held record of a completion queue is written when its slot is free and accepts it; a slot that cannot be
written is reported once (R673). -/
def State.writeHeld (s : State) (qi : Nat) : State × Bool :=
  match s.queue? qi with
  | none => (s, false)
  | some cq =>
    match cq.held with
    | [] => (s, false)
    | h :: _ =>
      if cq.full || cq.state != 1 then (s, false) else
      let a := cq.ringBase + 64 * cq.head
      match s.reach cq.cabinet a 64 .write with
      | .error e =>
        if e.status = stHostLeaseLost || e.status = stBusMasterOff then (s, false)
        else if cq.faultReported then (s, false)
        else
          let hosted := match s.translate cq.cabinet a .write with
            | some d => inHost d
            | none => false
          ((s.updQueue qi fun q => { q with faultReported := true }).note (if hosted then 12 else 7) 0x03 a
            (masterFn cq.cabinet) 1, false)
      | .ok _ =>
        let s1 := s.putCab cq.cabinet a (s.finalRecord cq h)
        let s2 := s1.updQueue qi Queue.advance
        (if h.interrupt then s2.sendMsix cq.cabinet cq.vector else s2, true)

/-- Held records are written in completion order, as many as the ring takes. -/
def State.drainCq (s : State) (qi : Nat) : Nat → State
  | 0 => s
  | n + 1 =>
    match s.writeHeld qi with
    | (s', true) => s'.drainCq qi n
    | (s', false) => s'

/-- The held records of a completion queue are tried again. -/
def State.retryCq (s : State) (qi : Nat) : State :=
  match s.queue? qi with
  | none => s
  | some q => s.drainCq qi q.held.length

/-- The held records of every completion queue of a cabinet are tried again. -/
def State.retryCqs (s : State) (cab : Nat) : State :=
  ((s.contract.queues.filter fun q => q.cabinet == cab && q.kind == 0).map (·.index)).foldl State.retryCq s

/-- A completion record joins its queue's records in completion order and is written when it can be; in the shadow of
fenced host memory its vector is marked pending at once (R53, R94). -/
def State.pushRecord (s : State) (qi : Nat) (h : HeldRec) : State :=
  match s.queue? qi with
  | none => s
  | some cq =>
    if cq.state != 1 then s else
    let a := cq.ringBase + 64 * cq.head
    let shadow := match s.translate cq.cabinet a .write with
      | some d => inHost d && s.hostClosed cq.cabinet
      | none => false
    if shadow then
      let s1 := s.updQueue qi fun q => { q with held := q.held ++ [{ h with interrupt := false }] }
      if h.interrupt then s1.setFn cq.cabinet (·.markPending cq.vector) else s1
    else
      (s.updQueue qi fun q => { q with held := q.held ++ [h] }).drainCq qi (cq.held.length + 1)

/-! ### Queue states -/

/-- The wait deadline of the command at HEAD stops running, its remaining time kept (R72). -/
def Queue.pauseDeadline (q : Queue) (now : Nat) : Queue :=
  match q.eligibleAt with
  | none => q
  | some t => { q with eligibleAt := none, deadlineLeft := some (q.deadlineLeft.getD 0 - (now - t)) }

/-- The command at HEAD has left it: what was found of its wait goes with it. -/
def Queue.newHead (q : Queue) : Queue :=
  { q with eligibleAt := none, deadlineLeft := none, readyAt := none, upstreamError := false
           holdCounted := false }

/-- A waiting FLUSH drops the unstarted commands of a queue that halts or is reset (R81). -/
def Ctx.dropFlush (qi : Nat) (c : Ctx) : Ctx :=
  { c with flushMarks := c.flushMarks.map fun p => if p.1 == qi then (qi, 0) else p }

/-- Every waiting FLUSH drops a queue's unstarted commands (R81). -/
def State.dropFlushes (s : State) (qi : Nat) : State :=
  { s with contract := { s.contract with ctxs := s.contract.ctxs.map (Ctx.dropFlush qi) } }

/-- A queue halts with the status that halted it (R78, R102): a SUSPENDED queue records it (R77). -/
def State.haltQueue (s : State) (qi st : Nat) : State :=
  match s.queue? qi with
  | none => s
  | some q =>
    if q.state = 1 then
      ((s.updQueue qi fun q => { (q.pauseDeadline s.now) with state := 2, lastStatus := st }).bump 0x2105 0 1).dropFlushes qi
    else if q.state = 3 && q.recorded = 1 then
      ((s.updQueue qi fun q => { q with recorded := 2, lastStatus := st }).bump 0x2105 0 1).dropFlushes qi
    else s

/-- A HALTED queue runs again (R78). -/
def State.resumeQueue (s : State) (qi : Nat) : State :=
  (s.updQueue qi fun q => if q.state = 2 then { q with state := 1 } else q).judgeHead qi

/-- The suspension causes of R77: 0 activation, 1 freeze, 2 power state. -/
def Queue.setCause (q : Queue) (cause : Nat) (v : Bool) : Queue :=
  if cause = 0 then { q with causeActivation := v }
  else if cause = 1 then { q with causeFreeze := v }
  else { q with causePower := v }

/-- Whether a suspension cause holds. -/
def Queue.suspended (q : Queue) : Bool := q.causeActivation || q.causeFreeze || q.causePower

/-- A suspension cause begins for a queue (R77). -/
def Queue.suspend (q : Queue) (cause now : Nat) : Queue :=
  if q.kind != 1 then q else
  let q1 := q.setCause cause true
  if q.state = 1 || q.state = 2 then { (q1.pauseDeadline now) with state := 3, recorded := q.state } else q1

/-- A suspension cause begins for the queues p picks. -/
def State.suspendQueues (s : State) (cause : Nat) (p : Queue → Bool) : State :=
  { s with contract := { s.contract with
      queues := updWhere p (fun q => q.suspend cause s.now) s.contract.queues } }

/-! ### Completion of a command -/

/-- A FLUSH's wait is over: nothing placed before it is unstarted or running (R80). -/
def Ctx.flushDone (c : Ctx) : Bool := c.waiting && c.flushWaits.isEmpty && c.flushMarks.all fun p => p.2 == 0

/-- A waiting FLUSH whose wait is over ends. -/
def Ctx.endFlush (c : Ctx) : Ctx :=
  if recOpcode c.record == 0xF003 && !c.finished && c.flushDone then
    { c with finished := true, waiting := false, status := stOk }
  else c

/-- The waiting FLUSH commands whose wait is over end. -/
def State.endFlushes (s : State) : State :=
  { s with contract := { s.contract with ctxs := s.contract.ctxs.map Ctx.endFlush } }

/-- Whether a handle names an allocated sync object of a cabinet. -/
def State.syncValid (s : State) (cab h : Nat) : Bool :=
  handleKind h == 1 && handleCabinet h == cab && (s.sync? cab (handleIndex h)).isSome

/-- A command that has completed is waited for no longer. -/
def Ctx.flushDrop (id : Nat) (c : Ctx) : Ctx := { c with flushWaits := c.flushWaits.filter (· != id) }

/-- The counters that advance when a command completes with a status. -/
def State.countCompletion (s : State) (engine op st : Nat) : State :=
  let s1 := if engine = 1 then s.bump 0x2303 0 1 else if engine = 2 && 0x2010 ≤ op then s.bump 0x2720 0 1 else s
  if st = stEscalationLimit then s1.bump 0x2201 2 1 else s1

/-- A command completes: its signal applies, or its object's error flag is set (R65, R66); its queue halts when the
status halts (R102); its record is written unless it is QUIET with OK or vanishes (R53, R58). -/
def State.completeCtx (s : State) (c : Ctx) (vanish : Bool) : State :=
  match s.queue? c.queue with
  | none => s.dropCtx c.id
  | some q =>
    let f := formOf q.engine c.record
    let ok := statusOk c.status
    let valid := s.syncValid c.cabinet f.signalHandle
    let s1 := (s.dropCtx c.id).countCompletion q.engine (recOpcode c.record) c.status
    let s2 := if !valid then s1
      else if ok then s1.signal c.cabinet (handleIndex f.signalHandle) f.signalOp (BitVec.ofNat 64 f.signalValue)
      else s1.failHandle f.signalHandle
    let s3 := if statusHalts c.status then s2.haltQueue c.queue c.status else s2
    let s4 := if vanish || (f.quiet && c.status == stOk) then s3 else
      s3.pushRecord q.cq
        { bytes := completionRecord f.cmdId c.status 0 (queueHandle q.cabinet q.index) (valid && !ok) false
            c.detail s.now c.area
          interrupt := f.interrupt }
    let s5 := { s4 with contract := { s4.contract with ctxs := s4.contract.ctxs.map (Ctx.flushDrop c.id) } }
    s5.endFlushes.judgeHead c.queue

/-- Ends a started command with a status and DETAIL: COMMAND_COMPLETION then completes it. -/
def State.finish (s : State) (id st detail : Nat) (area : Bytes) : State :=
  s.updCtx id fun c =>
    if c.finished then c else
    { c with finished := true, waiting := false, status := st, detail := detail, area := area, lastProgress := s.now }

/-- The engine byte of the queue a started command came from (R46, R90). -/
def State.engineOf (s : State) (id : Nat) : Nat :=
  match s.ctx? id with
  | none => 0x0F
  | some c =>
    match s.queue? c.queue with
    | some q => q.engine
    | none => 0x0F

/-- The destinations of a started command that ends with a status take the contents the status leaves them. -/
def State.spoil (s : State) (id st : Nat) : State :=
  match s.ctx? id with
  | none => s
  | some c => s.scramble (s.engineOf id) c st

/-- Ends a started command with OK. -/
def State.finishOk (s : State) (id detail : Nat) : State := s.finish id stOk detail []

/-- ENGINE_AREA of a completion that no engine filled: zeros, or, of a ZT completion, CONN, REASON and RETRANSMITS (R61,
R312). -/
def areaOf (engine : Nat) (c : Ctx) : Bytes :=
  if engine = 6 then toLe 4 (field c.record 8 4) ++ toLe 2 c.errorReason ++ [0, 0] ++ toLe 4 c.retransmits else []

/-- MASTER of the unit that runs a started command (R601). -/
def State.masterOf (s : State) (id : Nat) : Nat :=
  match s.ctx? id with
  | some c => s.ctxMaster c
  | none => masterNone

/-- The requests of a command that has ended are its own no longer: their completions, still to come, are discarded (R465,
R468). -/
def Request.orphan (id : Nat) (r : Request) : Request := if r.ctx == some id then { r with ctx := none } else r

/-- A command that has ended reads no more by DMA. -/
def State.dropReads (s : State) (id : Nat) : State :=
  { s.updCtx id fun c => { c with unread := [] } with
    ports := { s.ports with requests := s.ports.requests.map (Request.orphan id) } }

/-- The reports that an error brings: an uncorrectable read (R250), an access outside the populated ranges (R241), a host
access that the fence of its lease stops (R465). -/
def State.reportErr (s : State) (id : Nat) (e : Err) : State :=
  match e.bad with
  | some u => s.reportUe u (s.masterOf id)
  | none =>
    match e.outside with
    | some d => s.note (sourceOf d) 0x02 d (s.masterOf id) 0
    | none => if e.status = stHostLeaseLost then s.note 12 0x03 0 (s.masterOf id) 0 else s

/-- Ends a started command with an error and its reports. -/
def State.finishErr (s : State) (id : Nat) (e : Err) : State :=
  let s0 := ((s.reportErr id e).dropReads id).spoil id e.status
  let area := match s0.ctx? id with
    | some c => areaOf (s0.engineOf id) c
    | none => []
  let s1 := s0.finish id e.status e.detail area
  { s1 with fresh := s1.fresh + 1 }

/-- Ends a started command with OK and a DETAIL, or with an error that leaves the state it began in. -/
def State.finishWith (s : State) (id : Nat) (r : Except Err (State × Nat)) : State :=
  match r with
  | .error e => s.finishErr id e
  | .ok (t, d) => t.finishOk id d

/-- Every started command that p picks ends with a status and DETAIL. -/
def State.finishAll (s : State) (p : Ctx → Bool) (st : Nat) (detail : Nat) : State :=
  ((s.contract.ctxs.filter p).map (·.id)).foldl (fun s id => s.finish id st detail []) s

/-! ### Queue reset and deletion -/

/-- The lease of a resident descriptor whose owner queue's epoch advanced breaks (R264). -/
def SeqDesc.epochBreak (h : Nat) (d : SeqDesc) : SeqDesc := if field d.bytes 40 4 == h then { d with leasePending := true } else d

/-- A queue's reset epoch advances, and the sequence leases it owns break (R263, R264). -/
def State.advanceEpoch (s : State) (qi : Nat) : State :=
  match s.queue? qi with
  | none => s
  | some q =>
    let s1 := s.updQueue qi fun q => { q with epoch := (q.epoch + 1) % 2 ^ 32 }
    { s1 with tiers := { s1.tiers with
        resident := s1.tiers.resident.map (SeqDesc.epochBreak (queueHandle q.cabinet qi)) } }

/-- A queue becomes UNCONFIGURED. -/
def State.removeQueue (s : State) (qi : Nat) : State :=
  { s with contract := { s.contract with queues := s.contract.queues.filter fun q => q.index != qi } }

/-- The state of a started command made for a record that a reset discards (R82). -/
def discardedCtx (q : Queue) (slot : Nat) (r : Bytes) (st detail id : Nat) : Ctx :=
  { (default : Ctx) with
    id := id, queue := q.index, cabinet := q.cabinet, record := r, slot := slot
    finished := true, status := st, detail := detail, area := areaOf q.engine { (default : Ctx) with record := r } }

/-- Every record from HEAD to SQ_TAIL is read and completes with a status, a command with its continuations as one; a
record that cannot be read is discarded without a completion and without a signal (R82).  i is the ring index, skip
the continuations still to pass over, and the last number the records left. -/
def State.discardPlaced (s : State) (q : Queue) (st detail : Nat) (vanish : Bool) (i skip : Nat) : Nat → State
  | 0 => s
  | n + 1 =>
    if 0 < skip then s.discardPlaced q st detail vanish (i + 1) (skip - 1) n else
    match s.fetchRec q i with
    | .error _ => s.discardPlaced q st detail vanish (i + 1) 0 n
    | .ok r =>
      let s1 := s.completeCtx (discardedCtx q (i % q.size) r st detail s.contract.nextCtx) vanish
      let s2 := { s1 with contract := { s1.contract with nextCtx := s.contract.nextCtx + 1 } }
      s2.discardPlaced q st detail vanish (i + 1) (formOf q.engine r).chain n

end Sys2Proof.Machine
end

