-- ==== Sys2Proof/Machine/Doorbell.lean ====
section
/-! DEFINITION. What the owner of a queue does from outside: doorbell pages (R55, R56, R77), signal pages (R64, R67 to
R69, R594), and the read of the record at HEAD that fails (R672). -/

namespace Sys2Proof.Machine

/-- Whether a cabinet's doorbells and signal page are served: it is ASSIGNED, FREEZING or FROZEN (R517). -/
def State.cabServed (s : State) (cab : Nat) : Bool :=
  match s.cabinet? cab with
  | some c => c.state == 1 || c.state == 2 || c.state == 3
  | none => false

/-- Writes to a function's BAR0 are dropped: the hardware safe state (R602), or an FLR that runs (R468). -/
def State.bar0Drops (s : State) (cab : Nat) : Bool := s.faults.safe || (s.fn cab).flr.isSome

/-- BAD_DOORBELL_COUNT advances. -/
def State.badDoorbell (s : State) : State := s.bump 0x2105 1 1

/-- A write to the doorbell page of a queue of a cabinet (R55, R517).  A page that serves no queue ignores it. -/
def State.doorbell (s : State) (cab qi : Nat) (f : Queue → State) : Result :=
  if s.bar0Drops cab then s.idle
  else if !s.cabServed cab then s.quiet s.badDoorbell
  else match s.queue? qi with
    | none => s.idle
    | some q => if q.cabinet != cab then s.idle else s.commit (f q)

/-- SQ_TAIL (R56, R77, R82): recorded in every state but RESETTING; a value outside the ring, or a completion queue's
page, is ignored and counted. -/
def execSqTail (cab qi tail : Nat) (s : State) : Result :=
  s.doorbell cab qi fun q =>
    let v := tail % 65536
    if q.kind != 1 || q.size ≤ v then s.badDoorbell
    else if q.state = 4 then s
    else ((s.updQueue qi fun q => { q with tail := v }).judgeHead qi).noteChange cab

/-- CQ_HEAD (R53, R56, R673): the records consumed make room, and a slot that could not be written is tried again. -/
def execCqHead (cab qi head : Nat) (s : State) : Result :=
  s.doorbell cab qi fun q =>
    let v := head % 65536
    if q.kind != 0 || q.size ≤ v then s.badDoorbell
    else ((s.updQueue qi fun q => { q with tail := v }).retryCq qi).noteChange cab

/-- A queue enters RESETTING or DELETING (R82): its tail is the one recorded now, its epoch advances (R263), and its
unstarted commands leave the FLUSHes that wait for them (R81). -/
def State.beginDiscard (s : State) (qi state : Nat) (withCq : Bool) : State :=
  ((s.updQueue qi fun q =>
    { q.newHead with state := state, resetWithCq := withCq, resetStart := s.now, resetTail := q.tail
                     resetRecorded := false }).dropFlushes qi).advanceEpoch qi

/-- A queue reset begins (R82); with its completion queue, that queue's held records are discarded and nothing more is
written into its ring. -/
def State.beginReset (s : State) (qi : Nat) (withCq : Bool) : State :=
  match s.queue? qi with
  | none => s
  | some q =>
    let s1 := s.beginDiscard qi 4 withCq
    if withCq then s1.updQueue q.cq fun c => { c with state := 4, held := [] } else s1

/-- RESET (R55, R77, R82): a submission queue that is RUNNING or HALTED is reset without its completion queue; one that
is SUSPENDED records the reset; a completion queue's page ignores and counts it. -/
def execReset (cab qi : Nat) (s : State) : Result :=
  s.doorbell cab qi fun q =>
    if q.kind != 1 then s.badDoorbell
    else if q.state = 3 then (s.updQueue qi fun q => { q with resetRecorded := true }).noteChange cab
    else if q.state = 1 || q.state = 2 then (s.beginReset qi false).noteChange cab
    else s

/-- RESUME (R55, R56, R78): a HALTED submission queue runs again; on any other it has no effect; a completion queue's
page ignores and counts it. -/
def execResume (cab qi : Nat) (s : State) : Result :=
  s.doorbell cab qi fun q =>
    if q.kind != 1 then s.badDoorbell
    else if q.state = 2 then (s.resumeQueue qi).noteChange cab
    else s

/-! ### Signal page -/

/-- The operands latched for a requester at a cabinet's signal page (R67); zero before its first write. -/
def State.latchOf (s : State) (cab requester : Nat) : SignalLatch :=
  match s.contract.latches.find? fun l => l.cabinet == cab && l.requester == requester with
  | some l => l
  | none => { cabinet := cab, requester := requester, value := 0, handle := 0 }

/-- The state with a requester's latched operands replaced. -/
def State.setLatch (s : State) (l : SignalLatch) : State :=
  { s with contract := { s.contract with
      latches := l :: s.contract.latches.filter fun x => !(x.cabinet == l.cabinet && x.requester == l.requester) } }

/-- Whether a signal operation lies within a contract version (R104, R106). -/
def signalInVersion (ver op : Nat) : Bool := op ≤ 2 || (op ≤ 6 && 3 ≤ ver)

/-- A write of OP at a cabinet's signal page applies an operation with given operands (R67, R69): a write that names no
object of the cabinet, or an operation outside its contract, is ignored and counted. -/
def State.applySignal (s : State) (cab : Nat) (value : BitVec 64) (handle op : Nat) : State :=
  let ver := lookupD s.contract.negotiated cab 0
  if ver = 0 || 16 ≤ op || !signalInVersion ver op || !s.syncValid cab handle then s.badDoorbell
  else
    let i := handleIndex handle
    (s.updSync i fun o => { o with external := true }).signal cab i op value

/-- A write of OP with the latched operands of its requester (R64, R67, R68): while the chip sleeps it waits for
LOGIC_READY (R594). -/
def State.signalPage (s : State) (cab requester op : Nat) : Result :=
  let l := s.latchOf cab requester
  if s.bar0Drops cab then s.idle
  else if !s.cabServed cab then s.quiet s.badDoorbell
  else if s.e 0x2E05 0 != 0 then
    .next { s with energy := { s.energy with
      pendingSignals := s.energy.pendingSignals ++ [(cab, requester, l.value, l.handle, op)] } }
  else s.commit (s.applySignal cab l.value l.handle op)

/-- SET: the object's value becomes VALUE (R64). -/
def execSet (cab requester : Nat) (s : State) : Result := s.signalPage cab requester 1

/-- ADD: VALUE is added to the object's value modulo 2⁶⁴ (R64). -/
def execAdd (cab requester : Nat) (s : State) : Result := s.signalPage cab requester 2

/-- MAX: the object's value becomes the greater of it and VALUE, unsigned (R64). -/
def execMax (cab requester : Nat) (s : State) : Result := s.signalPage cab requester 3

/-- OR: VALUE's ones are set in the object's value (R64). -/
def execOr (cab requester : Nat) (s : State) : Result := s.signalPage cab requester 4

/-- SET_ERROR: the object's error flag is set (R64). -/
def execSetError (cab requester : Nat) (s : State) : Result := s.signalPage cab requester 5

/-- CLEAR_ERROR: the object's error flag is cleared (R64). -/
def execClearError (cab requester : Nat) (s : State) : Result := s.signalPage cab requester 6

/-! ### A failed read at HEAD -/

/-- Whether a queue's cabinet lets it fetch (R521). -/
def State.fetchAllowed (s : State) (cab : Nat) : Bool :=
  match s.cabinet? cab with
  | some c => c.state == 1
  | none => false

/-- The read of the record at HEAD fails: the queue halts with the status of the cause, without a completion record and
with HEAD where it stands (R672). -/
def State.headFailure (s : State) (qi : Nat) (e : Err) : State :=
  let s1 := match e.bad with
    | some u => s.reportUe u masterNone
    | none => s
  s1.haltQueue qi e.status

/-- HEAD_RECORD_READ_FAILURE (R672). -/
def execHeadRecordReadFailure (qi : Nat) (s : State) : Result :=
  match s.queue? qi with
  | none => s.idle
  | some q =>
    if s.faults.safe || q.kind != 1 || q.state != 1 || q.placed = 0 || !s.fetchAllowed q.cabinet then s.idle else
    match s.fetchHead q with
    | .ok _ => s.idle
    | .error e => s.commit (s.headFailure qi e)

end Sys2Proof.Machine
end

