-- ==== Sys2Proof/Machine/Admit.lean ====
section
/-! DEFINITION. From the ring to the engine: the checks a record meets before it starts (R46, R57, R60, R63, R64, R70,
R87, R90, R105, R106, R642), the choice among ready commands (R52, R515), the energy admission (R48, R566, R574 to
R576), the start (R50, R42, R45), COMMAND_COMPLETION (R65) and WAIT_DEADLINE (R72). -/

namespace Sys2Proof.Machine

/-! ### Checks before the start -/

/-- One operation of a command queue: its opcode, where it may be placed (0 a data queue, 1 the admin queue, 2 any), its
CHAIN, and the contract version it exists from. -/
structure OpRow where
  opcode : Nat
  place : Nat
  chain : Nat
  version : Nat
  deriving DecidableEq, Repr, Inhabited

/-- The operations of R87, R157, R256, R265, R334 and R377. -/
def opRows : List OpRow :=
  ([0x0001, 0x0002, 0x0003, 0x0010,
    0x1001, 0x1002, 0x1003, 0x1010, 0x1011, 0x1020, 0x1021, 0x1022, 0x1023, 0x1030, 0x1040, 0x1050,
    0x2001, 0x2002, 0x2010, 0x2011, 0x2012, 0x2013, 0x2014,
    0x3001, 0x3002, 0x3010, 0x3011, 0x3020,
    0x4001, 0x4002, 0x4003, 0x4005, 0x4020].map fun o => { opcode := o, place := 0, chain := 0, version := 2 }) ++
  [{ opcode := 0x4004, place := 0, chain := 1, version := 2 }] ++
  ([0x4010, 0x4011, 0x4021].map fun o => { opcode := o, place := 0, chain := 0, version := 4 }) ++
  ([0xF001, 0xF002, 0xF003].map fun o => { opcode := o, place := 2, chain := 0, version := 2 }) ++
  ([0xF010, 0xF011, 0xF012, 0xF013, 0xF014, 0xF020, 0xF021, 0xF022].map fun o =>
    { opcode := o, place := 1, chain := 0, version := 2 }) ++
  [{ opcode := 0xF015, place := 1, chain := 0, version := 4 }]

/-- The row of an opcode. -/
def opRow? (op : Nat) : Option OpRow := opRows.find? fun r => r.opcode == op

/-- Whether an operation may be placed in a queue of an engine byte (R87, R90). -/
def OpRow.fits (r : OpRow) (engine : Nat) : Bool :=
  if r.place = 2 then true else if r.place = 1 then engine == 0x0F else engine == bits r.opcode 15 12

/-- The test of a handle field (R63): its kind, its cabinet, its allocation, in this order; 0 names none. -/
def State.handleErr (s : State) (cab h : Nat) : Option Err :=
  if h = 0 then none
  else if handleKind h != 1 then some (errPlain stBadHandle)
  else if handleCabinet h != cab then some { status := stAccessFault, detail := 0 }
  else if (s.sync? cab (handleIndex h)).isNone then some (errPlain stBadHandle)
  else none

/-- The test of a queue handle in ARGS (R63). -/
def State.queueHandleErr (s : State) (cab h : Nat) : Option Err :=
  if handleKind h != 2 then some (errPlain stBadHandle)
  else if handleCabinet h != cab then some { status := stAccessFault, detail := 0 }
  else match s.queue? (handleIndex h) with
    | none => some (errPlain stBadHandle)
    | some q => if q.cabinet != cab then some (errPlain stBadHandle) else none

/-- The checks of a command record before it starts, in the order that R103's first error follows
(notes/assumptions/20.md). -/
def State.checkCommand (s : State) (q : Queue) (r : Bytes) : Option Err :=
  let ver := lookupD s.contract.negotiated q.cabinet 0
  let op := recOpcode r
  if ver = 0 && op != 0xF001 && op != 0xF010 then some (errState 3 1) else
  match opRow? op with
  | none => some (errPlain stBadOpcode)
  | some row =>
    if !row.fits q.engine || (ver != 0 && ver < row.version) then some (errPlain stBadOpcode) else
    let w := recWaitOp r
    let g := recSignalOp r
    match firstErr [
      (recFlags r / 64 != 0, errField 0x8002),
      (field r 34 2 != 0, errField 0x8022),
      (2 < w || (w = 0 && recWaitHandle r != 0) || (w != 0 && recWaitHandle r = 0), errField 0x8020),
      (6 < g || (ver = 2 && 2 < g) || (g != 0 && recSignalHandle r = 0), errField 0x8021),
      (w != 0 && ver = 2 && recDeadline r != 0, errField 0x8024),
      (w != 0 && 600000 < recDeadline r, errRange 0x8024),
      (recChain r != row.chain, errPlain stBadChain)] with
    | some e => some e
    | none =>
      match s.handleErr q.cabinet (recWaitHandle r) with
      | some e => some e
      | none =>
        match s.handleErr q.cabinet (recSignalHandle r) with
        | some e => some e
        | none =>
          if s.e 0x1003 0 < 3 && (recEngine r = 2 || recEngine r = 3 || recEngine r = 4) then some (errState 5 0x53)
          else none

/-- The operations of a ZT work queue (R309). -/
def wrDefined (op : Nat) : Bool := (1 ≤ op && op ≤ 6) || (0x10 ≤ op && op ≤ 0x13) || op = 0x20 || op = 0x21

/-- The checks of a work request before it starts (R308, R309). -/
def State.checkWork (s : State) (q : Queue) (r : Bytes) : Option Err :=
  let ver := lookupD s.contract.negotiated q.cabinet 0
  let op := field r 0 1
  let g := field r 2 1
  let h := field r 12 4
  if ver = 0 then some (errState 3 1)
  else match firstErr [
    (!wrDefined op, errPlain stBadOpcode),
    (32 ≤ field r 1 1, errField 0x8001),
    (6 < g || (ver = 2 && 2 < g) || (g != 0 && h = 0) || (op = 6 && g != 0), errField 0x8002),
    (op = 6 && h = 0, errPlain stBadHandle)] with
  | some e => some e
  | none => s.handleErr q.cabinet h

/-- The checks of the record at HEAD, by the kind of its queue; a packet record's own fields are checked where the packet
path takes it. -/
def State.checkHead (s : State) (q : Queue) (r : Bytes) : Option Err :=
  if q.engine = 6 then s.checkWork q r
  else if q.engine = 7 || q.engine = 8 then none
  else s.checkCommand q r

/-! ### Which ready command starts -/

/-- Whether a firmware component is being restarted (R607, R609). -/
def State.restarting (s : State) (core : Nat) : Bool := s.faults.components.any fun c => c.core == core && c.restarting

/-- The effective snowline level (R567), held at 2 or higher while the power component restarts (R609). -/
def State.effLevel (s : State) : Nat := max (s.e 0x2E00 0) (if s.restarting 0 then 2 else 0)

/-- Quadrants whose instance of an engine may start a command: not fenced by a rung (R612, R614); a Transform instance
needs a tile online (R148), unless none is, which the command then finds (R189). -/
def State.quadrantsFor (s : State) (engine : Nat) : List Nat :=
  (List.range 4).filter fun q =>
    !s.faults.fencedQuads.contains q && !s.faults.fencedInsts.contains (5 * q + engine) &&
    (engine != 1 || s.e 0x2300 1 == 0 || bits (s.e 0x2300 1) (16 * q + 15) (16 * q) != 0)

/-- Whether a unit can take a command of a queue's engine byte; no Transform command starts while a requested self-check
runs (R191). -/
def State.unitFree (s : State) (engine : Nat) : Bool :=
  if engine < 5 then
    !(s.quadrantsFor engine).isEmpty && (engine != 1 || s.transform.selfcheckBy != 2)
  else if engine = 6 then !s.faults.fencedUnits.contains 2
  else if engine = 7 || engine = 8 then !s.faults.fencedUnits.contains 3
  else true

/-- A command has been held for ADMIT_MAX_HOLD at a window start since (R576). -/
def State.aged (s : State) (q : Queue) : Bool :=
  match q.readyAt with
  | some t => t + s.e 0x2E01 2 ≤ s.energy.windowStart
  | none => false

/-- Whether the energy budget admits a command now (R566, R570, R574, R576). -/
def State.energyAdmits (s : State) (q : Queue) (r : Bytes) : Bool :=
  let c := classOf q.engine r
  if c = 0 then true
  else classAllowed s.effLevel c &&
    (s.aged q || (!s.energy.negativeOnly && (s.chargeOf q.cabinet q.engine r : Int) ≤ s.energy.remaining))

/-- Whether a snapshot set holds the commands of a queue back: until its cut completes (R380), and while it is rolling back
(R401). -/
def State.setHolds (s : State) (q : Queue) : Bool :=
  s.snap.sets.any fun x => x.queueList.contains (queueHandle q.cabinet q.index) &&
    (x.state == 3 || s.contract.ctxs.any fun c =>
      !c.finished && recOpcode c.record == 0x3010 && s.ctxEngine c == 3 && c.cabinet == x.cabinet && arg c.record 0 1 == x.slot)

/-- The record at HEAD of a queue, when its command is ready and a unit and the budget would take it. -/
def State.startable (s : State) (q : Queue) : Option Bytes :=
  if s.setHolds q then none else
  if q.kind != 1 || q.state != 1 || q.readyAt.isNone || !s.fetchAllowed q.cabinet || !s.unitFree q.engine then none else
  match s.fetchHead q with
  | .ok (some (r, _)) => if s.energyAdmits q r then some r else none
  | _ => none

/-- Whether a queue is the one that R52, R515 and R576 let start next among the startable queues of its engine: aged
commands first, cabinets by WEIGHT in rounds, strict priority in a cabinet, round-robin among equals. -/
def State.isNext (s : State) (q : Queue) : Bool :=
  let cands := s.contract.queues.filter fun x => x.engine == q.engine && (s.startable x).isSome
  let served := fun (c : Nat) => sumNat ((s.contract.queues.filter fun x => x.engine == q.engine && x.cabinet == c).map (·.served))
  let spent := fun (c : Nat) => s.ent c 0x4003 1 ≤ served c
  let mine := cands.filter fun x => x.cabinet == q.cabinet && x.priority == q.priority
  let last := lookupD s.contract.rrPointers (q.cabinet * 1024 + q.engine * 4 + q.priority) 0
  let later := mine.filter fun x => last ≤ x.index
  let turn := if later.isEmpty then minNat (mine.map (·.index)) q.index else minNat (later.map (·.index)) q.index
  (s.aged q || !(cands.any s.aged)) &&
  (s.aged q || (
    (!spent q.cabinet || cands.all fun x => spent x.cabinet) &&
    !(cands.any fun x => x.cabinet == q.cabinet && x.priority < q.priority) &&
    q.index == turn))

/-! ### The start -/

/-- HEAD passes the command and its continuations (R50). -/
def State.passHead (s : State) (qi n : Nat) : State :=
  s.updQueue qi fun q => { q.newHead with head := (q.head + n) % q.size }

/-- A command that completes without having started: its slots are consumed, its signal's object takes the error
flag (R60, R66). -/
def State.refuseHead (s : State) (q : Queue) (r : Bytes) (e : Err) : State :=
  let s1 := s.passHead q.index (1 + (formOf q.engine r).chain)
  let s2 := s1.completeCtx { discardedCtx q q.head r e.status e.detail s1.contract.nextCtx with slot := q.head } false
  { s2 with contract := { s2.contract with nextCtx := s1.contract.nextCtx + 1 } }

/-- The records of a queue placed and not started, for a FLUSH's wait (R80, R81). -/
def Queue.unstarted (q : Queue) : Nat := if q.state = 2 || (q.state = 3 && q.recorded = 2) then 0 else q.placed

/-- The queues and commands that a FLUSH waits for at its start (R80, R81): those of its own queue, and with scope 1 of
every submission queue of its cabinet. -/
def State.flushScope (s : State) (q : Queue) (r : Bytes) : List (Nat × Nat) × List Nat :=
  let whole := arg r 0 1 == 1
  let qs := s.contract.queues.filter fun x => x.kind == 1 && x.cabinet == q.cabinet && x.index != q.index && whole
  let cs := s.contract.ctxs.filter fun c => c.queue == q.index || (whole && c.cabinet == q.cabinet)
  (qs.map fun x => (x.index, x.unstarted), cs.map (·.id))

/-- A round of R515 ends when every cabinet with a startable command has spent its weight. -/
def State.countServed (s : State) (q : Queue) : State :=
  let spent := fun (c : Nat) =>
    s.ent c 0x4003 1 ≤ sumNat ((s.contract.queues.filter fun x => x.engine == q.engine && x.cabinet == c).map (·.served))
  let fresh := spent q.cabinet
  let key := q.cabinet * 1024 + q.engine * 4 + q.priority
  { s with contract := { s.contract with
      rrPointers := putKey s.contract.rrPointers key (q.index + 1)
      queues := s.contract.queues.map fun x =>
        if x.engine != q.engine then x
        else
          let base := if fresh then 0 else x.served
          { x with served := if x.index == q.index then base + 1 else base } } }

/-- A mark of a FLUSH on a queue whose head command has started: the command is now one it waits for. -/
def Ctx.flushStart (qi n id : Nat) (c : Ctx) : Ctx :=
  if c.flushMarks.any fun p => p.1 == qi && 0 < p.2 then
    { c with
      flushMarks := c.flushMarks.map fun p => if p.1 == qi then (qi, p.2 - n) else p
      flushWaits := c.flushWaits ++ [id] }
  else c

/-- The command at HEAD starts (R50): HEAD passes it, a context holds it with the mode and the policy of this moment (R42,
R142), its charge is debited (R574), and it runs on an instance of the ZX9's choice (R47). -/
def State.startHead (s : State) (q : Queue) (r : Bytes) (conts : List Bytes) : State :=
  let id := s.contract.nextCtx
  let n := 1 + conts.length
  let charge := s.chargeOf q.cabinet q.engine r
  let quads := s.quadrantsFor q.engine
  let quad := if q.engine < 5 then quads.getD (s.freeValue % max quads.length 1) 0 else 0
  let det := s.e 0x2010 0 == 1
  let f := formOf q.engine r
  let scope := if recOpcode r == 0xF003 && !(q.engine == 6) then s.flushScope q r else ([], [])
  let isFlush := recOpcode r == 0xF003 && q.engine != 6 && q.engine != 7 && q.engine != 8
  let c : Ctx := { (default : Ctx) with
    id := id, queue := q.index, cabinet := q.cabinet, record := r, conts := conts, slot := q.head
    instNo := quad, captured := s.captureOf q.cabinet q.engine r, startTime := s.now, lastProgress := s.now, detMode := det
    policy := (List.range 7).map fun i => s.e 0x2200 i
    charge := charge
    flushMarks := if isFlush then scope.1 else []
    flushWaits := if isFlush then scope.2 else []
    waitDeadline := if isFlush then some (s.now + s.deadlineOf q.cabinet f) else none }
  let s1 := (s.countServed q).passHead q.index n
  let s2 := { s1 with
    fresh := s1.fresh + 1
    contract := { s1.contract with
      nextCtx := id + 1
      ctxs := s1.contract.ctxs.map (Ctx.flushStart q.index n id) ++ [c] }
    energy := { s1.energy with
      remaining := s1.energy.remaining - charge
      debited := s1.energy.debited + charge
      negativeOnly := s1.energy.negativeOnly || decide (s1.energy.remaining < charge) } }
  let s3 := if det then s2 else s2.bump 0x2010 1 1
  let s4 := if s.aged q && s.energy.remaining < charge then s3.bump 0x2E04 0x0C 1 else s3
  s4.judgeHead q.index

/-- A command that the budget or the level holds for the first time is counted in its class's ADMIT_HOLDS. -/
def State.noteHold (s : State) (q : Queue) (cls : Nat) : State :=
  (s.updQueue q.index fun q => { q with holdCounted := true }).bump 0x2E04 (cls + 1) 1

/-- COMMAND_ADMISSION (R48, R51, R574): the command at HEAD of a queue is taken up.  A record that fails its checks, or
whose wait met an error flag (R71), completes at once; a ready one starts when its turn, a unit and the budget allow it;
otherwise it waits, and nothing happens. -/
def execCommandAdmission (qi : Nat) (s : State) : Result :=
  let s := s.judgeHead qi
  match s.queue? qi with
  | none => s.idle
  | some q =>
    if s.faults.safe || q.kind != 1 || q.state != 1 || q.engine = 7 || !s.fetchAllowed q.cabinet || s.restarting 1 then
      s.idle
    else
    match s.fetchHead q with
    | .error e => s.commit (s.headFailure qi e)
    | .ok none => s.idle
    | .ok (some (r, conts)) =>
      if (formOf q.engine r).fence && !(s.started qi).isEmpty then s.idle
      else match s.checkHead q r with
        | some e => s.commit (s.refuseHead q r e)
        | none =>
          if q.upstreamError then s.commit (s.refuseHead q r (errPlain stUpstreamFailed))
          else if q.readyAt.isNone then s.idle
          else if (s.startable q).isNone then
            (if s.energyAdmits q r || q.holdCounted then s.idle else s.quiet (s.noteHold q (classOf q.engine r)))
          else if s.isNext q then s.commit (s.startHead q r conts)
          else s.idle

/-! ### Completion and deadline -/

/-- COMMAND_COMPLETION (R65, R66, R102): a command whose operation has ended completes. -/
def execCommandCompletion (id : Nat) (s : State) : Result :=
  match s.ctx? id with
  | none => s.idle
  | some c => if c.finished && !s.faults.safe then s.commit (s.completeCtx c false) else s.idle

/-- Whether a wait deadline has run out (R72). -/
def Queue.expired (q : Queue) (now : Nat) : Bool :=
  match q.eligibleAt with
  | some t => decide (t + q.deadlineLeft.getD 0 ≤ now)
  | none => false

/-- A command waits for a sequence no longer. -/
def SeqDesc.dropWaiter (id : Nat) (d : SeqDesc) : SeqDesc := { d with waiters := d.waiters.filter (· != id) }

/-- A command waits for no sequence any longer. -/
def State.dropWaiter (s : State) (id : Nat) : State :=
  { s with tiers := { s.tiers with resident := s.tiers.resident.map (SeqDesc.dropWaiter id) } }

/-- WAIT_DEADLINE (R72, R80, R267): at the expiry of its wait deadline the command at HEAD completes with WAIT_DEADLINE, as
does a started FLUSH or SEQ_ACQUIRE of the queue that still waits. -/
def execWaitDeadline (qi : Nat) (s : State) : Result :=
  let s := s.judgeHead qi
  match s.queue? qi with
  | none => s.idle
  | some q =>
    if s.faults.safe then s.idle else
    let late := s.contract.ctxs.find? fun c =>
      c.queue == qi && c.waiting && !c.finished && (match c.waitDeadline with
        | some t => decide (t ≤ s.now)
        | none => false)
    match late with
    | some c =>
      let s1 := s.finish c.id stWaitDeadline 0 []
      let s2 := s1.dropWaiter c.id
      (match s2.ctx? c.id with
       | none => s.idle
       | some c' => s.commit (s2.completeCtx c' false))
    | none =>
      if q.state = 1 && q.expired s.now && q.readyAt.isNone && !q.upstreamError then
        match s.fetchHead q with
        | .ok (some (r, _)) => s.commit (s.refuseHead q r (errPlain stWaitDeadline))
        | _ => s.idle
      else s.idle

end Sys2Proof.Machine
end

