-- ==== Sys2Proof/Machine/Fabric.lean ====
section
/-! DEFINITION. The self-timed core: rates and commitment windows (R13 to R22), crossings to clocked islands (R25 to
R30), arbitration (R31 to R36). -/

namespace Sys2Proof.Machine

/-! ### Rates -/

/-- R14's conditions at a quadrant: stage B3, core rail at 0.68 V or more, junction at 105 °C or less, no pacing. -/
def State.floorGuaranteed (s : State) (q : Nat) : Bool :=
  s.e 0x1003 0 == 3 && 680 ≤ s.e 0x2E01 5 && signed 32 (s.e 0x2E03 (q + 1)) ≤ 105 * 65536 && !s.energy.pacing

/-- An exception of R19 holds: snowline level 3, pacing by the power limiter, or the hardware safe state. -/
def State.rateException (s : State) : Bool := s.e 0x2E00 0 == 3 || s.energy.pacing || s.faults.safe

/-- The rate in M steps/s of a count of steps over 10 µs (R18). -/
def rateOf (steps : Nat) : Nat := steps / 10

/-- Since when a quadrant's rate has been below the floor with R14's conditions holding (R17). -/
def State.belowFloor (s : State) (q rate : Nat) : Option Nat :=
  if rate < s.e 0x2002 1 && s.floorGuaranteed q then
    match s.fabric.belowSince.getD q none with
    | some t => some t
    | none => some s.now
  else none

/-- MEASURED_RATE_UPDATE (R15, R18): the rate monitors publish the steps counted over the last 10 µs; no quadrant runs above
2.3 G steps/s. -/
def execMeasuredRateUpdate (steps : List Nat) (s : State) : Result :=
  if steps.any fun n => decide (23000 < n) then s.idle else
  let rates := (List.range 4).map fun q => rateOf (steps.getD q 0)
  let t := (List.range 4).foldl (fun (s : State) q => s.put 0x2000 (q + 1) (rates.getD q 0)) s
  .next { s with
    dict := t.dict
    fabric := { s.fabric with
      minSoFar := (List.range 4).map fun q => min (s.fabric.minSoFar.getD q 0) (rates.getD q 0)
      belowSince := (List.range 4).map fun q => s.belowFloor q (rates.getD q 0) } }

/-- MIN_RATE_UPDATE (R18): the minimum over the last 1 ms is published and the next 1 ms begins. -/
def execMinRateUpdate (s : State) : Result :=
  let t := (List.range 4).foldl (fun (s : State) q => s.put 0x2001 (q + 1) (s.fabric.minSoFar.getD q 0)) s
  .next { s with
    dict := t.dict
    fabric := { s.fabric with minSoFar := (List.range 4).map fun q => s.e 0x2000 (q + 1) } }

/-- RATE_FLOOR (R17): a quadrant below the floor for more than 100 µs while R14 holds is reported; a quadrant held by
a partition rung raises none (R614), and the quadrant keeps running. -/
def execRateFloor (q : Nat) (s : State) : Result :=
  if 4 ≤ q then .fault .noSuchUnit else
  match s.fabric.belowSince.getD q none with
  | some t =>
    if t + 100000 < s.now && s.floorGuaranteed q && !s.faults.fencedQuads.contains q then
      s.commit (s.note q 0x06 0 (0x6000 + q) 4)
    else s.idle
  | none => s.idle

/-- The committed rate of a quadrant at a window boundary (R20): 0 while R14 does not hold, during an exception, or
below the floor; otherwise a value of the ZX9's choice from the floor to the measured rate. -/
def State.commitRate (s : State) (q : Nat) : Nat :=
  let m := s.e 0x2000 (q + 1)
  let f := s.e 0x2002 1
  if s.rateException || !s.floorGuaranteed q || m < f then 0
  else f + Config.freeNat (s.fresh + q) % (m - f + 1)

/-- The ceiling of the core rail at a snowline level, in mV (R566). -/
def railCeiling (level : Nat) : Nat := if level = 0 then 850 else if level = 1 then 780 else if level = 2 then 720 else 600

/-- COMMIT_WINDOW_BOUNDARY (R21): new committed rates, and the window length in force from here on. -/
def execCommitWindowBoundary (s : State) : Result :=
  if s.now < s.e 0x2003 5 || 2 ≤ s.e 0x2E05 0 then s.idle else
  let s0 := s.put 0x2E01 5 (min (s.e 0x2E01 5) (railCeiling (s.e 0x2E00 0)))
  let s1 := s0.setRates ((List.range 4).map s0.commitRate)
  let len := s1.e 0x2003 0
  let s2 := s1.put 0x2003 5 (s1.now + len)
  s.commit { s2 with fresh := s2.fresh + 4, fabric := { s2.fabric with windowLength := len } }

/-! ### Crossings -/

/-- The value a crossing holds is taken by the receiver and acknowledged; a fenced crossing completes the transfer and
the value is discarded (R27, R29). -/
def Crossing.deliver (c : Crossing) : Crossing :=
  match c.holding with
  | none => { c with fenced := false }
  | some v =>
    if c.fenced then { c with holding := none, fenced := false }
    else { c with holding := none, delivered := v :: c.delivered }

/-- The sender places a value in the free holding register and raises its flag (R27). -/
def Crossing.place (c : Crossing) (now : Nat) (v : CrossingValue) : Crossing :=
  { c with holding := some v.value, target := v.target, raisedAt := now }

/-- CROSSING_TRANSFER (R27): the value held is delivered and acknowledged, and only then may the sender place the
next. -/
def execCrossingTransfer (i : Nat) (next : Option CrossingValue) (s : State) : Result :=
  if 10 ≤ i then .fault .noSuchUnit else
  let f := fun (c : Crossing) =>
    match next with
    | none => c.deliver
    | some v => c.deliver.place s.now v
  .next { s with fabric := { s.fabric with crossings := updAt i f s.fabric.crossings } }

/-- CROSSING_HANG (R30): no acknowledge within 100 µs; a crossing lies in the chip domain, so the chip rung applies
(R596, R611). -/
def execCrossingHang (i : Nat) (s : State) : Result :=
  if 10 ≤ i then .fault .noSuchUnit else
  let c := s.fabric.crossings.getD i default
  if c.holding.isSome && c.raisedAt + 100000 ≤ s.now then
    s.commit ((s.bump 0x2011 1 1).raiseError (nonFatal 18 0x05 0 masterNone 4) none)
  else s.idle

/-! ### Arbitration -/

/-- The requests of the highest class raised (R34); class 0 is the highest. -/
def topClass (l : List ArbRequest) : List ArbRequest :=
  let c := l.foldl (fun m r => min m r.cls) 2
  l.filter fun r => r.cls == c

/-- The first request at or past the pointer, wrapping (R33). -/
def byPointer (p : Nat) (l : List ArbRequest) : Option ArbRequest :=
  let best := fun (l : List ArbRequest) => l.foldl (fun (m : Option ArbRequest) r =>
    match m with
    | none => some r
    | some x => if r.position < x.position then some r else some x) none
  match best (l.filter fun r => p ≤ r.position) with
  | some r => some r
  | none => best l

/-- The grantee: among requests that wait, by the rotating pointer; among requests that reach the arbiter in this
handshake, one whose choice the spec leaves open (R33). -/
def State.grantee (s : State) (arbiter : Nat) (raised : List ArbRequest) : Option ArbRequest :=
  let top := topClass raised
  let waiting := top.filter fun r => !r.arrives
  if waiting.isEmpty then top[s.freeValue % top.length]?
  else byPointer (lookupD s.fabric.arbPointers arbiter 0) waiting

/-- The transfer of a grantee: its kept progress count, or a new one (R35). -/
def Fabric.transferOf (f : Fabric) (arbiter : Nat) (r : ArbRequest) : Preempted :=
  match f.preempted.find? fun p => p.resource == arbiter && p.position == r.position with
  | some p => p
  | none => { resource := arbiter, position := r.position, granulesDone := 0, granulesTotal := r.granules, cls := r.cls }

/-- One granule of a transfer moves; a transfer that has ended releases the resource. -/
def Fabric.moveGranule (f : Fabric) (p : Preempted) : Fabric :=
  let p' := { p with granulesDone := p.granulesDone + 1 }
  let others := f.holders.filter fun h => h.resource != p.resource
  { f with holders := if p'.granulesDone < p'.granulesTotal then p' :: others else others }

/-- ARBITER_GRANT (R31 to R35): a transfer that holds the resource moves its next granule, unless a request of a
higher class pre-empts it at the granule boundary; a free resource is granted to one requester, whose pre-empted
transfer resumes at its kept count. -/
def execArbiterGrant (arbiter : Nat) (raised : List ArbRequest) (s : State) : Result :=
  let f := s.fabric
  let holder := f.holders.find? fun h => h.resource == arbiter
  let higher := fun (h : Preempted) => raised.any fun r => r.cls < h.cls && r.position != h.position
  match holder with
  | some h =>
    if higher h then
      match s.grantee arbiter (raised.filter fun r => r.position != h.position) with
      | none => s.idle
      | some r =>
        let f1 := { f with
          holders := f.holders.filter fun x => x.resource != arbiter
          preempted := h :: f.preempted.filter fun p => !(p.resource == arbiter && p.position == h.position) }
        let p := f1.transferOf arbiter r
        let f2 := { f1 with
          preempted := f1.preempted.filter fun x => !(x.resource == arbiter && x.position == r.position)
          arbPointers := putKey f1.arbPointers arbiter (r.position + 1) }
        .next { s with
          fabric := f2.moveGranule p, fresh := s.fresh + 1, dict := (s.bump 0x2011 0 1).dict }
    else .next { s with fabric := f.moveGranule h }
  | none =>
    match s.grantee arbiter raised with
    | none => s.idle
    | some r =>
      let p := f.transferOf arbiter r
      let f2 := { f with
        preempted := f.preempted.filter fun x => !(x.resource == arbiter && x.position == r.position)
        arbPointers := putKey f.arbPointers arbiter (r.position + 1) }
      .next { s with fabric := f2.moveGranule p, fresh := s.fresh + 1 }

end Sys2Proof.Machine
end

