-- ==== Sys2Proof/Machine/NvmeCq.lean ====
section
/-! DEFINITION. NVMe completion queues (R487, R489, R507): how a completion entry is written, and how it waits while its
queue is full or host memory is closed (R94, R467). -/

namespace Sys2Proof.Machine

/-- The controller of a cabinet that has been enabled. -/
def State.ctrl? (s : State) (cab : Nat) : Option NvmeCtrl := s.storage.ctrls.find? fun c => c.cabinet == cab

/-- The state with a controller replaced. -/
def State.updCtrl (s : State) (cab : Nat) (f : NvmeCtrl → NvmeCtrl) : State :=
  { s with storage := { s.storage with ctrls := updWhere (fun c => c.cabinet == cab) f s.storage.ctrls } }

/-- Queue q of a controller: 0 is the admin queue of its kind. -/
def NvmeCtrl.queue (c : NvmeCtrl) (q : Nat) (isCq : Bool) : Option IoPair :=
  (c.admin ++ c.pairs).find? fun p => p.qid == q && p.isCq == isCq

/-- The controller with a queue replaced. -/
def NvmeCtrl.updQueue (q : Nat) (isCq : Bool) (f : IoPair → IoPair) (c : NvmeCtrl) : NvmeCtrl :=
  let mine := fun (p : IoPair) => p.qid == q && p.isCq == isCq
  { c with admin := updWhere mine f c.admin, pairs := updWhere mine f c.pairs }

/-- A completion ring is full: the next place is the one the host consumes next. -/
def IoPair.full (p : IoPair) : Bool := (p.tail + 1) % max p.size 1 == p.head

/-- The ring after an entry is written: the next place, and the phase inverted at a wrap. -/
def IoPair.pushed (p : IoPair) : IoPair :=
  let t := (p.tail + 1) % max p.size 1
  { p with tail := t, phase := if t = 0 then !p.phase else p.phase }

/-- A 16-byte entry with the Phase Tag of the place it is written to: bit 0 of bytes 14 and 15. -/
def withPhase (e : Bytes) (phase : Bool) : Bytes := putBytes e 14 (toLe 2 (field e 14 2 / 2 * 2 + b2n phase))

/-- Held entries of a controller are written in order, each as its queue takes it; those that cannot be written stay. -/
def State.drainCqes (s : State) (cab : Nat) : List (Nat × Bytes × Bool) → State
  | [] => s
  | (q, e, irq) :: rest =>
    match (s.ctrl? cab).bind fun c => c.queue q true with
    | none => s.drainCqes cab rest
    | some p =>
      match if p.full then some (errPlain stNoResource) else s.canWrite cab (p.base + 16 * p.tail) 16 with
      | some _ => (s.updCtrl cab fun c => { c with heldCqes := c.heldCqes ++ [(q, e, irq)] }).drainCqes cab rest
      | none =>
        let s1 := s.putCab cab (p.base + 16 * p.tail) (withPhase e p.phase)
        let s2 := s1.updCtrl cab (NvmeCtrl.updQueue q true IoPair.pushed)
        (if irq then s2.sendMsix cab p.vector else s2).drainCqes cab rest

/-- The held entries of a controller are tried again. -/
def State.retryCqes (s : State) (cab : Nat) : State :=
  match s.ctrl? cab with
  | none => s
  | some c => (s.updCtrl cab fun c => { c with heldCqes := [] }).drainCqes cab c.heldCqes

/-- An entry joins its queue's entries; while host memory that the queue lies in is closed its vector is marked pending at
once (R94). -/
def State.pushCqe (s : State) (cab q : Nat) (e : Bytes) : State :=
  match (s.ctrl? cab).bind fun c => c.queue q true with
  | none => s
  | some p =>
    let shadow := match s.translate cab (p.base + 16 * p.tail) .write with
      | some d => inHost d && s.hostClosed cab
      | none => false
    let s1 := if shadow && p.irq then s.setFn cab (·.markPending p.vector) else s
    (s1.updCtrl cab fun c => { c with heldCqes := c.heldCqes ++ [(q, e, p.irq && !shadow)] }).retryCqes cab

/-- A status field: code, code type, Do Not Retry (NVM Express Base 2.x). -/
def nvmeStatus (sct sc dnr : Nat) : Nat := sc + sct * 2 ^ 8 + dnr * 2 ^ 14

/-- A completion entry: Dword 0, SQ head and identifier, command identifier, status (NVM Express Base 2.x). -/
def nvmeEntry (dw0 sqHead sqid cid status : Nat) : Bytes :=
  toLe 4 dw0 ++ zeros 4 ++ toLe 2 sqHead ++ toLe 2 sqid ++ toLe 2 cid ++ toLe 2 (2 * status)

/-- An error log entry: error count, submission queue, command identifier, status, namespace (NVM Express Base 2.x). -/
def errorEntry (count sqid cid status nsid lba : Nat) : Bytes :=
  toLe 8 count ++ toLe 2 sqid ++ toLe 2 cid ++ toLe 2 (2 * status) ++ toLe 2 0xFFFF ++ toLe 8 lba ++ toLe 4 nsid ++ zeros 36

/-- A command completes: its entry goes to the completion queue of its submission queue, an error into the error log. -/
def State.nvmeDone (s : State) (cab sqid cid nsid lba dw0 status : Nat) : State :=
  match (s.ctrl? cab).bind fun c => c.queue sqid false with
  | none => s
  | some q =>
    let s1 := if status = 0 then s else s.updCtrl cab fun c =>
      { c with errorCount := c.errorCount + 1
               errorLog := (errorEntry (c.errorCount + 1) sqid cid status nsid lba :: c.errorLog).take 64 }
    s1.pushCqe cab q.cqid (nvmeEntry dw0 q.head sqid cid status)

end Sys2Proof.Machine
end

