-- ==== Sys2Proof/Machine/Stop.lean ====
section
/-! DEFINITION. Stopping a started command from outside: by a queue reset (R82), a function-level reset (R468), a
RELEASE (R518), or a rung of the reset ladder (R612, R613); and the gate through which every command's meaning runs. -/

namespace Sys2Proof.Machine

/-- A core that ran an instance of a stopped launch is free again. -/
def Core.dropKernel (id : Nat) (c : Core) : Core :=
  match c.kernel with
  | some k => if k.ctx == id then { c with running := false, kernel := none, stall := 0 } else c
  | none => c

/-- The packets of a request that has ended and that have not been sent: none, or, of a message begun, one ABORT packet in
their place (R318).  Its packets on the way are its own no longer. -/
def Conn.abandon (id : Nat) (k : Conn) : Conn :=
  let mine := k.sendQueue.filter fun p => p.ctx == some id
  let rest := k.sendQueue.filter fun p => p.ctx != some id
  let begun := mine.any fun p => p.ty == 1 && p.flags % 2 == 0
  let queue := match mine with
    | p :: _ =>
      if begun && p.flags % 2 == 0 then
        { p with flags := 10, body := p.body.take 16, source := 0, payloadLen := 0, ctx := none } :: rest
      else rest
    | [] => rest
  { k with sendQueue := queue, tx := k.tx.map fun p => if p.ctx == some id then { p with ctx := none } else p }

/-- The packets of a request that has ended leave the connections' queues (R318, R320). -/
def State.abandonSends (s : State) (id : Nat) : State :=
  { s with zt := { s.zt with conns := s.zt.conns.map (Conn.abandon id) } }

/-- What a stopped command leaves in the units it used: it waits for no sequence, reads and sends nothing, runs on no
core. -/
def State.unhook (s : State) (id : Nat) : State :=
  let s1 := ((s.dropWaiter id).dropReads id).abandonSends id
  { s1 with cores := { s1.cores with cores := s1.cores.cores.map (Core.dropKernel id) } }

/-- A started command stops and completes with a status; it vanishes without a record when its completion queue is reset
with it. -/
def State.stopCtx (s : State) (id st detail : Nat) (vanish : Bool) : State :=
  let s0 := (s.spoil id st).unhook id
  let s1 := s0.updCtx id fun c =>
    { c with finished := true, waiting := false, status := st, detail := detail, area := areaOf (s0.engineOf id) c }
  match s1.ctx? id with
  | none => s
  | some c => s1.completeCtx c vanish

/-! ### The gate of a started command -/

/-- Whether the unit that runs a command is held by a rung or by the hardware safe state, or a rung has caught it (R602, R612). -/
def State.held (s : State) (c : Ctx) : Bool :=
  let e := s.ctxEngine c
  s.faults.safe || (s.faults.granulesDone.any fun p => p.1 == c.id) ||
  (e < 5 && (s.faults.fencedQuads.contains c.instNo || s.faults.fencedInsts.contains (5 * c.instNo + e))) ||
  (e == 6 && s.faults.fencedUnits.contains 2) || ((e == 7 || e == 8) && s.faults.fencedUnits.contains 3)

/-- The meaning of a command runs on a started command that p picks, whose operation has not ended and whose unit is not
held; no other context is touched. -/
def State.onCtx (s : State) (id : Nat) (p : State → Ctx → Bool) (f : Ctx → Result) : Result :=
  match s.ctx? id with
  | none => s.idle
  | some c => if p s c && !c.finished && !c.waiting && !s.held c then f c else s.idle

/-- Whether a started command is the command record of an opcode. -/
def isCommand (op : Nat) (s : State) (c : Ctx) : Bool :=
  recOpcode c.record == op && s.ctxEngine c != 6 && s.ctxEngine c != 7 && s.ctxEngine c != 8

/-- Whether a started command is a work request of a WR_OP (R309). -/
def isWork (op : Nat) (s : State) (c : Ctx) : Bool := field c.record 0 1 == op && s.ctxEngine c == 6

end Sys2Proof.Machine
end

