-- ==== Sys2Proof/Machine/Control.lean ====
section
/-! DEFINITION. The Control commands (R80 to R91, R104, R105). -/

namespace Sys2Proof.Machine

/-- A Control command: the ARGS bytes it names, its checks, then its effect. -/
def State.control (s : State) (id op : Nat) (named : List (Nat × Nat)) (f : Queue → Ctx → Except Err (State × Nat)) : Result :=
  s.onCtx id (isCommand op) fun c =>
    match s.queue? c.queue with
    | none => s.idle
    | some q =>
      match reservedErr c.record named with
      | some e => s.commit (s.finishErr id e)
      | none => s.commit (s.finishWith id (f q c))

/-- NOP (R87). -/
def execNop (id : Nat) (s : State) : Result := s.control id 0xF001 [] fun _ _ => .ok (s, 0)

/-- SYNC_ONLY (R87): its wait and its signal only. -/
def execSyncOnly (id : Nat) (s : State) : Result := s.control id 0xF002 [] fun _ _ => .ok (s, 0)

/-- A FLUSH begins to wait. -/
def Ctx.startWait (c : Ctx) : Ctx := { c with waiting := true }

/-- FLUSH (R80, R81): it waits for the commands recorded at its start, and ends at once when there is none. -/
def execFlush (id : Nat) (s : State) : Result :=
  s.onCtx id (isCommand 0xF003) fun c =>
    match argsErr c.record [(0, 1)] [(1 < arg c.record 0 1, errRange 0)] with
    | some e => s.commit (s.finishErr id e)
    | none => s.commit (s.updCtx id Ctx.startWait).endFlushes

/-- NEGOTIATE (R104, R105): the highest version in both ranges, while the cabinet has no queue but its admin rings. -/
def execNegotiate (id : Nat) (s : State) : Result :=
  s.control id 0xF010 [(0, 2)] fun q c =>
    let lo := max (arg c.record 0 1) 2
    let hi := min (arg c.record 1 1) 4
    if hi < lo then .error { status := stBadRange, detail := 0x0204 }
    else if s.contract.queues.any fun x => x.cabinet == q.cabinet && x.index != q.index && x.index != q.cq then
      .error (errState 1 0)
    else
      .ok ({ s with contract := { s.contract with negotiated := putKey s.contract.negotiated q.cabinet hi } }, hi)

/-- Queues that a cabinet holds. -/
def State.queuesOf (s : State) (cab : Nat) : List Queue := s.contract.queues.filter fun q => q.cabinet == cab

/-- MSI-X vectors of a cabinet's function (R454). -/
def vectorsOf (cab : Nat) : Nat := if cab = 0 then 2048 else 64

/-- Doorbell pages of a cabinet's function (R454, R455). -/
def pagesOf (cab : Nat) : Nat := if cab = 0 then 16384 else 1024

/-- Where the doorbell pages that queues may take end: below the reservation of an enabled NVMe controller (R488). -/
def State.pageLimit (s : State) (cab : Nat) : Nat :=
  match s.storage.ctrls.find? fun c => c.cabinet == cab with
  | none => pagesOf cab
  | some c => if c.enabled then pagesOf cab - c.granted - 1 else pagesOf cab

/-- The engine bytes of a submission queue (R90). -/
def engineByteOk (e : Nat) : Bool := e ≤ 4 || e = 6 || e = 7 || e = 8

/-- A queue joins the queues of the chip (R49, R54). -/
def State.addQueue (s : State) (q : Queue) : State :=
  { s with contract := { s.contract with queues := s.contract.queues ++ [q] } }

/-- The fields of a QUEUE_CREATE that are in range (R49, R52, R63, R87, R90). -/
def State.createErr (s : State) (cab : Nat) (r : Bytes) : Option Err :=
  let kind := arg r 9 1
  let eng := arg r 10 1
  match firstErr [
    (arg r 0 8 % 4096 != 0, errAlign 0),
    (arg r 8 1 < 4 || 16 < arg r 8 1, errRange 8),
    (1 < kind, errRange 9),
    ((kind == 1 && !engineByteOk eng) || (kind == 0 && eng != 0), errRange 10),
    (kind == 1 && eng == 8 && !bit (s.ent cab 0x4003 2) 1, errPlain stSecurityRefused),
    (3 < arg r 11 1, errRange 11)] with
  | some e => some e
  | none =>
    match if kind = 1 then s.queueHandleErr cab (arg r 12 4) else none with
    | some e => some e
    | none =>
      let cq := s.queue? (handleIndex (arg r 12 4))
      firstErr [
        (kind == 1 && (cq.map (·.kind)).getD 1 != 0, errPlain stBadHandle),
        (kind == 1 && (cq.map (·.state)).getD 1 == 5, errState 1 1),
        (vectorsOf cab ≤ arg r 16 2, errRange 16)]

/-- The queue that a QUEUE_CREATE makes. -/
def createdQueue (i cab page : Nat) (r : Bytes) : Queue :=
  { (default : Queue) with
    index := i, cabinet := cab, kind := arg r 9 1, engine := arg r 10 1, ringBase := arg r 0 8, n := arg r 8 1
    priority := if arg r 9 1 = 1 then arg r 11 1 else 0
    cq := if arg r 9 1 = 1 then handleIndex (arg r 12 4) else 0
    vector := arg r 16 2, page := page, state := 1, phase := arg r 9 1 == 0 }

/-- QUEUE_CREATE (R49, R87, R88, R90, R455). -/
def execQueueCreate (id : Nat) (s : State) : Result :=
  s.control id 0xF011 [(0, 18)] fun _ c =>
    let r := c.record
    let cab := c.cabinet
    match s.createErr cab r with
    | some e => .error e
    | none =>
      match s.reach cab (arg r 0 8) (64 * 2 ^ arg r 8 1) (if arg r 9 1 = 0 then .write else .read) with
      | .error e => .error e
      | .ok _ =>
        let mine := s.queuesOf cab
        if s.share cab 1 ≤ mine.length then .error (errPlain stNoResource) else
        match lowestFree (mine.map (·.page)) 2 (s.pageLimit cab),
            pickFree s.freeValue (s.contract.queues.map (·.index)) 0 16384 with
        | some page, some i =>
          .ok ((s.drawn.addQueue (createdQueue i cab page r)).noteChange cab, page * 2 ^ 32 + queueHandle cab i)
        | _, _ => .error (errPlain stNoResource)

/-- Submission queues that complete into a completion queue, but for one. -/
def State.servedBy (s : State) (cq but : Nat) : List Queue :=
  s.contract.queues.filter fun q => q.kind == 1 && q.cq == cq && q.index != but

/-- The command waits for a queue's reset or deletion to end. -/
def State.waitQueue (s : State) (id : Nat) : State := s.updCtx id Ctx.startWait

/-- QUEUE_DELETE (R84, R89): a queue that is RUNNING, HALTED or RESETTING enters DELETING, and the command waits for its
end; a completion queue only when it serves no submission queue. -/
def execQueueDelete (id : Nat) (s : State) : Result :=
  s.onCtx id (isCommand 0xF012) fun c =>
    let h := arg c.record 0 4
    let stop := fun (e : Err) => s.commit (s.finishErr id e)
    match reservedErr c.record [(0, 4)] with
    | some e => stop e
    | none =>
      match s.queueHandleErr c.cabinet h with
      | some e => stop e
      | none =>
        match s.queue? (handleIndex h) with
        | none => stop (errPlain stBadHandle)
        | some q =>
          if q.engine = 0x0F then stop (errPlain stBadHandle)
          else if !(q.state == 1 || q.state == 2 || q.state == 4) then stop (errState 1 1)
          else if q.kind = 0 && !(s.servedBy q.index q.index).isEmpty then stop (errState 1 0)
          else
            let s1 := if q.kind = 1 then s.beginDiscard q.index 5 q.resetWithCq
              else s.updQueue q.index fun q => { q with state := 5, held := [], resetStart := s.now }
            s.commit ((s1.waitQueue id).noteChange c.cabinet)

/-- QUEUE_RESET (R82, R84, R89): a submission queue that is RUNNING or HALTED enters RESETTING, and the command waits for
its end. -/
def execQueueReset (id : Nat) (s : State) : Result :=
  s.onCtx id (isCommand 0xF013) fun c =>
    let h := arg c.record 0 4
    let withCq := arg c.record 4 1 == 1
    let stop := fun (e : Err) => s.commit (s.finishErr id e)
    match argsErr c.record [(0, 5)] [(1 < arg c.record 4 1, errRange 4)] with
    | some e => stop e
    | none =>
      match s.queueHandleErr c.cabinet h with
      | some e => stop e
      | none =>
        match s.queue? (handleIndex h) with
        | none => stop (errPlain stBadHandle)
        | some q =>
          if q.engine = 0x0F || q.kind != 1 then stop (errPlain stBadHandle)
          else if !(q.state == 1 || q.state == 2) then stop (errState 1 1)
          else if withCq && !(s.servedBy q.cq q.index).isEmpty then stop (errState 1 0)
          else s.commit (((s.beginReset q.index withCq).waitQueue id).noteChange c.cabinet)

/-- QUEUE_RESUME (R78): a HALTED queue runs again; on any other it conflicts. -/
def execQueueResume (id : Nat) (s : State) : Result :=
  s.control id 0xF014 [(0, 4)] fun _ c =>
    let h := arg c.record 0 4
    match s.queueHandleErr c.cabinet h with
    | some e => .error e
    | none =>
      match s.queue? (handleIndex h) with
      | none => .error (errPlain stBadHandle)
      | some q =>
        if q.state != 2 then .error (errState 1 2)
        else .ok ((s.resumeQueue q.index).noteChange c.cabinet, 0)

/-- The 16 bytes that QUEUE_QUERY writes for a queue (R91). -/
def queueEntry (q : Queue) : Bytes :=
  toLe 4 (queueHandle q.cabinet q.index) ++ toLe 1 q.state ++ toLe 1 q.kind ++ toLe 1 q.engine ++ toLe 1 q.priority
    ++ toLe 2 q.head ++ toLe 2 q.lastStatus ++ toLe 2 q.tail ++ toLe 1 (b2n (q.kind == 0 && q.phase)) ++ [0]

/-- A queue placed in ascending index. -/
def insertQueue (q : Queue) : List Queue → List Queue
  | [] => [q]
  | x :: r => if q.index < x.index then q :: x :: r else x :: insertQueue q r

/-- The queues of a list in ascending index, and so in ascending handle order. -/
def sortQueues (l : List Queue) : List Queue := l.foldl (fun acc q => insertQueue q acc) []

/-- QUEUE_QUERY (R91): one entry for each queue of the cabinet, as many as fit. -/
def execQueueQuery (id : Nat) (s : State) : Result :=
  s.control id 0xF015 [(0, 12)] fun _ c =>
    let buf := arg c.record 0 8
    let len := arg c.record 8 4
    match firstErr [(buf % 16 != 0, errAlign 0), (len % 16 != 0, errAlign 8), (len < 16 || 262144 < len, errRange 8)] with
    | some e => .error e
    | none =>
      let qs := sortQueues (s.queuesOf c.cabinet)
      let out := qs.take (len / 16)
      let bs := out.flatMap queueEntry
      match s.canWrite c.cabinet buf bs.length with
      | some e => .error e
      | none => .ok (s.putCab c.cabinet buf bs, qs.length * 2 ^ 32 + out.length)

/-! ### Sync objects -/

/-- SYNC_ALLOC (R87, R88): a free index, the initial value with the flag clear, and the mirror written once. -/
def execSyncAlloc (id : Nat) (s : State) : Result :=
  s.control id 0xF020 [(0, 16)] fun _ c =>
    let m := arg c.record 8 8
    let cab := c.cabinet
    if m % 16 != 0 then .error (errAlign 8)
    else if s.share cab 2 ≤ (s.contract.syncs.filter fun o => o.cabinet == cab).length then .error (errPlain stNoResource)
    else match pickFree s.freeValue (s.contract.syncs.map (·.index)) 0 262144 with
      | none => .error (errPlain stNoResource)
      | some i =>
        let o : SyncObj := { (default : SyncObj) with
          index := i, cabinet := cab, value := BitVec.ofNat 64 (arg c.record 0 8), mirror := m }
        let s1 := { s.drawn with contract := { s.contract with syncs := s.contract.syncs ++ [o] } }
        .ok ((s1.writeMirror o).noteChange cab, syncHandle cab i)

/-- Whether the command at HEAD of a queue waits: its wait has begun and nothing has been found (R71, R72). -/
def Queue.waits (q : Queue) : Bool :=
  (q.eligibleAt.isSome || q.deadlineLeft.isSome) && q.readyAt.isNone && !q.upstreamError

/-- The handle that the command at HEAD of a queue waits on. -/
def State.waitedHandle (s : State) (q : Queue) : Option Nat :=
  if !q.waits then none else
  match s.fetchHead q with
  | .ok (some (r, _)) =>
    let f := formOf q.engine r
    if f.waitOp = 0 then none else some f.waitHandle
  | _ => none

/-- The test of a sync handle in ARGS (R63). -/
def State.syncArgErr (s : State) (cab h : Nat) : Option Err :=
  if h = 0 then some (errPlain stBadHandle) else s.handleErr cab h

/-- SYNC_FREE: the object becomes FREE, unless a command waits on it (02, Sync objects; R79). -/
def execSyncFree (id : Nat) (s : State) : Result :=
  s.control id 0xF021 [(0, 4)] fun _ c =>
    let h := arg c.record 0 4
    match s.syncArgErr c.cabinet h with
    | some e => .error e
    | none =>
      if s.contract.queues.any fun q => s.waitedHandle q == some h then .error (errState 2 2)
      else
        .ok ({ s with contract := { s.contract with
          syncs := s.contract.syncs.filter fun o => o.index != handleIndex h } }.noteChange c.cabinet, 0)

/-- SYNC_SET: value set and error flag cleared together (R87). -/
def execSyncSet (id : Nat) (s : State) : Result :=
  s.control id 0xF022 [(0, 4), (8, 8)] fun _ c =>
    let h := arg c.record 0 4
    match s.syncArgErr c.cabinet h with
    | some e => .error e
    | none =>
      .ok (s.changeSync c.cabinet (handleIndex h) fun o =>
        { o with value := BitVec.ofNat 64 (arg c.record 8 8), err := false }, 0)

end Sys2Proof.Machine
end

