-- ==== Sys2Proof/Machine/Server.lean ====
section
/-! DEFINITION. The dictionary server (R9 to R12, R624 to R634): who may ask what, the order in which a request is
judged, ranges, the answer, and the acts that run after their request has been accepted (R631). -/

namespace Sys2Proof.Machine

/-- Why an act does not happen: a state refusal with its reason and the stage required (R629), a state refusal that is itself
counted (R581) and leaves the state given, or a value out of range (R9). -/
inductive Refuse where
  | state (reason required : Nat)
  | counted (t : State)
  | range
  | right
  deriving DecidableEq, Repr

/-- The effect of a dictionary write that acts: refused, done (false), or accepted and still running (true). -/
abbrev ActEffect := ActReq → State → Except Refuse (State × Bool)

/-- The classes a request holds ([0] manager, [1] tray, [2] tenant, [3] host) (R624); the ZX9's own firmware holds every
class (R638). -/
def classesOf (transport : Nat) : Nat :=
  if transport = 0 then 2 else if transport = 1 then 1 else if transport = 2 then 0 else if transport = 3 then 9
  else if transport = 4 then 4 else 15

/-- The cabinet of the function whose mailbox carried a request. -/
def ownCab (r : ActReq) : Nat := if r.transport = 4 then r.source else 0

/-- Requests outstanding at once (R632). -/
def outstandingLimit (transport : Nat) : Nat :=
  if transport = 0 then 4 else if transport ≤ 2 then 16 else if transport ≤ 4 then 1 else 2 ^ 16

/-- The value of a request's payload, as the dictionary holds it. -/
def reqVal (r : ActReq) : Nat := leNat r.value

/-- The row that decides the rights of an entry: the lease entries of cabinet 0 are those of the contract (13). -/
def rightsRow (cab idx sub : Nat) : Option EntryRow :=
  if idx = 0x4004 && cab = 0 then entryRow 0x2102 sub else entryRow idx sub

/-! ### Ranges (R9) -/

/-- The shares of a pool that every cabinet but one holds. -/
def State.otherShares (s : State) (cab pool : Nat) : Nat :=
  sumNat ((s.dict.filter fun p =>
    p.1 % 16777216 == 0x4001 * 256 + pool && p.1 / 16777216 != cab && p.1 / 16777216 != 0).map (·.2)) +
  (if cab = 0 then 0 else s.share 0 pool)

/-- Whether a handle is null or names an allocated sync object of a cabinet. -/
def State.nullOrSync (s : State) (cab h : Nat) : Bool := h == 0 || s.syncValid cab h

/-- The ranges that depend on the state. -/
def State.specialRange (s : State) (k cab sub v : Nat) : Bool :=
  if k = 1 then v == 0 || (v % 4096 == 0 && s.inGddr v)
  else if k = 2 then
    s.otherShares cab sub + v ≤ entryDefault 0 0x4001 sub
  else if k = 3 then s.nullOrSync 0 v
  else if k = 4 then s.nullOrSync cab v
  else if k = 5 then v % 2 ^ s.ports.bar2Log2 == 0 && v + 2 ^ s.ports.bar2Log2 ≤ 68719476736
  else if k = 7 then v == (s.e 0x2A50 sub + 1) % 65536
  else if k = 8 then v < vectorsOf cab
  else if k = 9 then v % 4096 == 0 && v / 2 ^ 64 % 4096 == 0 && v % 2 ^ 64 < 2 ^ 48 && v / 2 ^ 64 < 2 ^ 48
  else if k = 10 then bits v 31 28 == 0 && bits v 15 12 == 0
  else if k = 11 then s.e 0x2E00 4 ≤ v && v ≤ 102 * 65536
  else if k = 12 then 2 ≤ bits v 31 24 && bits v 31 24 ≤ 4 && bits v 23 16 == 0
  else true

/-- Whether a value lies in a range that the table states. -/
def ValueRange.holds (r : ValueRange) (v : Nat) : Bool :=
  match r with
  | .any => true
  | .between lo hi => lo ≤ v && v ≤ hi
  | .multiple m lo hi => v % m == 0 && lo ≤ v && v ≤ hi
  | .zeroOr lo hi => v == 0 || (lo ≤ v && v ≤ hi)
  | .orValue lo hi x => (lo ≤ v && v ≤ hi) || v == x
  | .mask m => v &&& m == v
  | .special _ => true

/-- The bench shares as written, for the sum that R152 bounds. -/
def State.benchSum (s : State) (sub v : Nat) : Nat :=
  sumNat ((List.range 3).map fun i => if i = sub then v else s.e 0x2301 i)

/-- A peer-window record as the dictionary holds it (R478). -/
def peerWin (v : Nat) : PeerWin :=
  { base := bits v 63 0, log2Size := bits v 71 64, kind := bits v 79 72, rights := bits v 87 80
    peerPort := bits v 95 88, cabinet := bits v 111 96, target := bits v 191 128 }

/-- Whether a port accepts a peer-window record (R478, R485); of a disabled window only the reserved fields count. -/
def windowValid (port v : Nat) : Bool :=
  let w := peerWin v
  w.kind ≤ 3 && bits v 127 112 == 0 && bits v 255 192 == 0 && w.rights < 8 &&
  (w.kind == 0 || (16 ≤ w.log2Size && w.log2Size ≤ 47 && w.base % 2 ^ w.log2Size == 0)) &&
  (w.kind != 1 || (w.cabinet < 4096 && w.target < 2 ^ 48)) &&
  (w.kind != 2 || (w.peerPort < 8 && w.peerPort != port)) &&
  (w.kind != 3 || (w.cabinet < 4096 && w.target == 0))

/-- Whether an entry accepts a value (R9): its range, and what its own rule adds. -/
def State.inRange (s : State) (cab idx sub v : Nat) : Bool :=
  match entryRow idx sub with
  | none => false
  | some r =>
    (if r.access == .act && r.ty == .bool then v == 1 else r.range.holds v) &&
    (match r.range with
     | .special k => s.specialRange k cab sub v
     | _ => true) &&
    (idx != 0x2301 || 2 < sub || decide (s.benchSum sub v ≤ 100663296)) &&
    (idx < 0x2A40 || 0x2A47 < idx || windowValid (idx - 0x2A40) v) &&
    (!(idx == 0x2E00 && sub == 4) || decide (v ≤ s.e 0x2E00 5))

/-! ### Judging a request (R630) -/

/-- Whether an index belongs to the set that stage B0 and the hardware safe state serve (R641, R602). -/
def inB0Set (idx : Nat) : Bool :=
  (0x1000 ≤ idx && idx < 0x2000) || (0x2D00 ≤ idx && idx < 0x2E00) || (0x2F00 ≤ idx && idx < 0x3000)

/-- Whether a request's form is wrong (R628, R630, R634): op 1 READ, 2 WRITE, 3 DESCRIBE. -/
def badForm (r : ActReq) (op idx sub : Nat) : Bool :=
  op = 0 || 3 < op || (op == 3 && r.version % 16 < 2) ||
  (if op = 2 then (match entryRow idx sub with
     | some e => e.ty.size != r.value.length
     | none => false)
   else !r.value.isEmpty) ||
  (!(0x4000 ≤ idx && idx < 0x5000) && r.cabinet != 0) || 4095 < r.cabinet

/-- Whether a requester lacks the right (R509, R624, R630). -/
def lacksRight (r : ActReq) (op idx sub : Nat) : Bool :=
  let cls := classesOf r.transport
  let foreign := r.transport == 4 && 0x4000 ≤ idx && r.cabinet != r.source
  let outside := r.transport == 2 && !(op == 1 && 0x1000 ≤ idx && idx < 0x2000)
  foreign || outside ||
  (op == 2 && match rightsRow r.cabinet idx sub with
    | none => true
    | some e => e.access == .ro || (e.writers &&& cls) == 0)

/-- The refusal that the state of the block gives any request (R629, R642, R517, R609). -/
def State.stageRefusal (s : State) (r : ActReq) (idx : Nat) : Option (Nat × Nat) :=
  if s.faults.safe && !inB0Set idx then some (5, 0)
  else if s.e 0x1003 0 = 0 && !inB0Set idx && r.transport != 5 then some (1, 1)
  else if r.transport = 4 && !s.cabServed r.source then some (2, 0)
  else if s.restarting 7 && r.transport != 5 then some (4, 0)
  else none

/-- Requests of a request's source that are outstanding, those held by an activation among them (R632, R633). -/
def State.outstandingOf (s : State) (r : ActReq) : Nat :=
  (s.steral.outstanding.filter fun o => o.transport == r.transport && o.source == r.source).length +
  (s.steral.heldReqs.filter fun h => h.2.2.2.transport == r.transport && h.2.2.2.source == r.source).length

/-- The code of a request up to its own state and range checks, with the two bytes of a state refusal. -/
def State.judge (s : State) (r : ActReq) (op idx sub : Nat) : Nat × List Nat :=
  if outstandingLimit r.transport ≤ s.outstandingOf r then (6, [])
  else if r.version / 16 != 1 then (7, [])
  else if badForm r op idx sub then (5, [])
  else if (entryRow idx sub).isNone then (1, [])
  else if lacksRight r op idx sub then (3, [])
  else match s.stageRefusal r idx with
    | some (reason, req) => (4, [reason, req])
    | none => (0, [])

/-! ### Answers (R629) -/

/-- The VERSION of a response (R634). -/
def answerVersion (v : Nat) : Nat := if v / 16 = 1 then 16 + min (v % 16) 4 else 0x14

/-- The bytes of a response. -/
def responseBytes (version op tag idx sub code cab : Nat) (payload : Bytes) : Bytes :=
  toLe 1 (answerVersion version) ++ toLe 1 (op + 0x80) ++ toLe 2 tag ++ toLe 2 idx ++ toLe 1 sub ++ toLe 1 code
    ++ toLe 2 cab ++ toLe 2 payload.length ++ zeros 4 ++ payload

/-- An answer is counted, and apart when it is neither OK nor IN_PROGRESS (R635). -/
def State.countAnswer (s : State) (code : Nat) : State :=
  if code = 0 || code = 8 then s.bump 0x1006 2 1 else (s.bump 0x1006 2 1).bump 0x1006 3 1

/-- An answer leaves on its request's transport. -/
def State.sendAnswer (s : State) (r : ActReq) (bs : Bytes) : State :=
  { s with steral := { s.steral with
      responses := { transport := r.transport, source := r.source, bytes := bs } :: s.steral.responses } }

/-- A mailbox's answer lies in RESPONSE, with GO cleared and MBOX_RESPONSE set (R459, R460). -/
def State.mailAnswer (s : State) (r : ActReq) (bs : Bytes) : State :=
  if r.transport = 3 || r.transport = 4 then
    (s.setFn (ownCab r) fun f => { f with response := fit 4080 bs, respLen := bs.length, go := false }).raiseEvent (ownCab r) 0
  else s

/-- A response is sent (R629). -/
def State.respond (s : State) (r : ActReq) (op idx sub code : Nat) (payload : Bytes) : State :=
  if r.transport = 5 then s
  else
    let bs := responseBytes r.version op r.tag idx sub code r.cabinet payload
    ((s.countAnswer code).sendAnswer r bs).mailAnswer r bs

/-- The payload that follows a WRITE: the entry's value, or zeros for a wo or act entry (R629). -/
def State.writePayload (s : State) (cab idx sub : Nat) : Bytes :=
  match entryRow idx sub with
  | none => []
  | some e => if e.access == .rw || e.access == .ro then toLe e.ty.size (s.ent cab idx sub) else zeros e.ty.size

/-- A request does not reach the server: the management port answers nothing while MGMT_IP is zero (R625), and in the
hardware safe state the host ports take no write (R602). -/
def State.unreachable (s : State) (r : ActReq) : Bool :=
  ((r.transport = 1 || r.transport = 2) && s.e 0x1006 0 = 0) || ((r.transport = 3 || r.transport = 4) && s.faults.safe)

/-- A request that arrives during a firmware activation is held until it ends, or, with too many outstanding, answered with
BUSY (R632, R633). -/
def State.holdReq (s : State) (r : ActReq) (op idx sub : Nat) : State :=
  if outstandingLimit r.transport ≤ s.outstandingOf r then s.respond r op idx sub 6 []
  else { s with steral := { s.steral with heldReqs := s.steral.heldReqs ++ [(op, idx, sub, r)] } }

/-- An act that runs is outstanding until it ends or 1 s has passed (R631, R632). -/
def State.keepOutstanding (s : State) (r : ActReq) (idx sub : Nat) : State :=
  { s with steral := { s.steral with outstanding := s.steral.outstanding ++
      [{ transport := r.transport, source := r.source, accepted := s.now, tag := r.tag, isAct := true, index := idx
         sub := sub, version := r.version, cabinet := r.cabinet }] } }

/-- A WRITE request is judged and takes effect (R630): the state, the code and payload of its answer, and whether its act
still runs. -/
def State.tryWrite (s : State) (r : ActReq) (idx sub : Nat) (eff : ActEffect) : State × Nat × Bytes × Bool :=
  match s.judge r 2 idx sub with
  | (0, _) =>
    match eff r s with
    | .error (.state reason req) => (s, 4, toLe 1 reason ++ toLe 1 req, false)
    | .error (.counted t) => (t, 4, toLe 1 2 ++ toLe 1 0, false)
    | .error .right => (s, 3, [], false)
    | .error .range => (s, 2, s.writePayload r.cabinet idx sub, false)
    | .ok (t, running) =>
      if !s.inRange r.cabinet idx sub (reqVal r) then (s, 2, s.writePayload r.cabinet idx sub, false)
      else (t, 0, t.writePayload r.cabinet idx sub, running)
  | (4, l) => (s, 4, l.flatMap (toLe 1), false)
  | (code, _) => (s, code, [], false)

/-- A WRITE request is judged, takes effect and is answered (R630, R631). -/
def State.serveWrite (s : State) (r : ActReq) (idx sub : Nat) (eff : ActEffect) : State :=
  match s.tryWrite r idx sub eff with
  | (t, _, _, true) => t.keepOutstanding r idx sub
  | (t, code, p, false) => t.respond r 2 idx sub code p

/-- A command that is a dictionary write: it reaches the server, and is held while an activation drains. -/
def State.act (s : State) (r : ActReq) (idx sub : Nat) (eff : ActEffect) : Result :=
  if s.unreachable r then s.idle
  else if s.contract.activation = 1 && r.transport != 5 then s.quiet (s.holdReq r 2 idx sub)
  else s.commit (s.serveWrite r idx sub eff)

/-- The acts of an entry that run end: each outstanding request for it is answered (R631). -/
def State.endAct (s : State) (cab idx sub code : Nat) (payload : Bytes) : State :=
  let mine := s.steral.outstanding.filter fun o => o.isAct && o.index == idx && o.sub == sub && o.cabinet == cab
  let s1 := { s with steral := { s.steral with
    outstanding := s.steral.outstanding.filter fun o => !(o.isAct && o.index == idx && o.sub == sub && o.cabinet == cab) } }
  mine.foldl (fun (s : State) o =>
    s.respond { transport := o.transport, source := o.source, version := o.version, tag := o.tag, cabinet := o.cabinet
                sub := o.sub, value := [] } 2 o.index o.sub code payload) s1

/-- An act ends with OK. -/
def State.endActOk (s : State) (cab idx sub : Nat) : State := s.endAct cab idx sub 0 (s.writePayload cab idx sub)

end Sys2Proof.Machine
end

