-- ==== Sys2Proof/Machine/Lease.lean ====
section
/-! DEFINITION. Leases of host memory (R92 to R97, R520), ADOPT (R95), and the scan for wait circles (R100, R101). -/

namespace Sys2Proof.Machine

/-- The state of a cabinet's lease: 0 UNARMED, 1 ARMED, 2 EXPIRED, 3 RELEASED. -/
def State.leaseState (s : State) (cab : Nat) : Nat := s.ent cab 0x4004 2

/-- A lease becomes ARMED: it expires one period from now. -/
def State.armLease (s : State) (cab : Nat) : State :=
  (s.putEnt cab 0x4004 2 1).putEnt cab 0x4004 3 (s.now + s.ent cab 0x4004 0)

/-- The commands that wait for host memory of a cabinet end with a status: their outstanding requests are given up, and
their completions will be discarded (R92, R467). -/
def State.cutHost (s : State) (cab st : Nat) : State :=
  let mine := fun (r : Request) => r.link ≤ 1 && r.cabinet == cab
  let ids := ((s.ports.requests.filter mine).filterMap (·.ctx)).eraseDups
  ids.foldl (fun s id => s.finishErr id (errPlain st)) s

/-- A fence on a cabinet's host memory begins: the lease is EXPIRED or RELEASED (R92). -/
def State.fenceHost (s : State) (cab code : Nat) : State :=
  let s1 := (s.putEnt cab 0x4004 2 code).putEnt cab 0x4004 3 0
  let s2 := { s1 with contract := { s1.contract with fencedAt := putKey s1.contract.fencedAt cab s.now } }
  s2.cutHost cab stHostLeaseLost

/-- A mirror held back during a fence is written as its object now stands (R94, R95). -/
def State.releaseMirror (s : State) (i : Nat) : State :=
  match s.contract.syncs.find? fun o => o.index == i with
  | none => s
  | some o =>
    if !o.mirrorHeld then s else (s.updSync i fun o => { o with mirrorHeld := false }).writeMirror o

/-- A pending vector that is not masked is sent (R95). -/
def State.releaseVector (s : State) (cab v : Nat) : State :=
  let f := s.fn cab
  if s.faults.safe || s.hostClosed cab || f.msixMasked v || !f.pba.contains v then s
  else (s.setFn cab fun f => { f with pba := f.pba.filter (· != v) }).sendMsix cab v

/-- A fence on a cabinet's host memory ends: the shadow records and the held NVMe entries (R507) go to host memory in completion order, the held mirrors
are written, and each vector marked pending and not masked is sent once (R95, R467). -/
def State.liftFence (s : State) (cab : Nat) : State :=
  if s.hostClosed cab then s else
  let s1 := (s.retryCqs cab).retryCqes cab
  let objs := (s1.contract.syncs.filter fun o => o.cabinet == cab && o.mirrorHeld).map (·.index)
  let s2 := objs.foldl State.releaseMirror s1
  (s2.fn cab).pba.foldl (fun s v => s.releaseVector cab v) s2

/-- The index through which a lease act of a cabinet is written (R520). -/
def leaseIndex (cab : Nat) : Nat := if cab = 0 then 0x2102 else 0x4004

/-- A lease act moves the lease as the table under Host lease states, or is refused (R96). -/
def actRenew : ActEffect := fun r s =>
  if s.leaseState r.cabinet ≤ 1 then .ok (s.armLease r.cabinet, false) else .error (.state 2 0)

/-- HOST_LEASE_RELEASE from ARMED (R96). -/
def actLeaseRelease : ActEffect := fun r s =>
  if s.leaseState r.cabinet = 1 then .ok (s.fenceHost r.cabinet 3, false) else .error (.state 2 0)

/-- ADOPT from EXPIRED or RELEASED (R95, R96). -/
def actAdopt : ActEffect := fun r s =>
  let st := s.leaseState r.cabinet
  if st = 2 || st = 3 then
    let s1 := s.armLease r.cabinet
    .ok ({ s1 with contract := { s1.contract with
      fencedAt := dropKey s1.contract.fencedAt r.cabinet } }.liftFence r.cabinet, false)
  else .error (.state 2 0)

/-- HOST_LEASE_RENEW (R92, R96): UNARMED or ARMED becomes ARMED, its expiry one period ahead. -/
def execHostLeaseRenew (r : ActReq) (s : State) : Result := s.act r (leaseIndex r.cabinet) 1 actRenew

/-- HOST_LEASE_RELEASE (R92, R96): ARMED becomes RELEASED, and host memory is fenced. -/
def execHostLeaseRelease (r : ActReq) (s : State) : Result := s.act r (leaseIndex r.cabinet) 4 actLeaseRelease

/-- ADOPT (R95, R96): EXPIRED or RELEASED becomes ARMED, and the fence lifts. -/
def execAdopt (r : ActReq) (s : State) : Result := s.act r (leaseIndex r.cabinet) 5 actAdopt

/-- Whether leases of a cabinet can expire now: not during an activation (R97), a freeze (R520) or sleep (R587). -/
def State.leaseRuns (s : State) (cab : Nat) : Bool :=
  s.contract.activation != 1 && s.e 0x2E05 0 == 0 && !s.faults.safe &&
  (match s.cabinet? cab with
   | some c => !(c.state == 2 || c.state == 3)
   | none => true)

/-- HOST_LEASE_EXPIRY (R92): an ARMED lease whose expiry is reached becomes EXPIRED, and host memory is fenced. -/
def execHostLeaseExpiry (cab : Nat) (s : State) : Result :=
  if s.leaseState cab = 1 && s.ent cab 0x4004 3 ≤ s.now && s.leaseRuns cab then
    s.commit ((s.fenceHost cab 2).bumpEnt cab 0x4004 6 1)
  else s.idle

/-- Leases of some cabinets whose expiry fell while none could expire move to now + their period (R97, R520, R587). -/
def State.deferLeases (s : State) (p : Nat → Bool) : State :=
  (s.cabs.cabs.map (·.id)).foldl (fun (s : State) c =>
    if p c && s.leaseState c = 1 && s.ent c 0x4004 3 ≤ s.now then
      s.putEnt c 0x4004 3 (s.now + s.ent c 0x4004 0)
    else s) s

/-! ### Wait circles -/

/-- A queue whose command at HEAD waits, and the handle it waits on. -/
structure Waiter where
  queue : Nat
  cabinet : Nat
  handle : Nat
  deriving DecidableEq, Repr, Inhabited

/-- The waiting commands (R100). -/
def State.waiters (s : State) : List Waiter :=
  s.contract.queues.filterMap fun q =>
    match s.waitedHandle q with
    | some h => some { queue := q.index, cabinet := q.cabinet, handle := h }
    | none => none

/-- The handles that the commands placed in a queue and not started name as SIGNAL_HANDLE. -/
def State.placedSignals (s : State) (q : Queue) (i skip : Nat) : Nat → List Nat
  | 0 => []
  | n + 1 =>
    if 0 < skip then s.placedSignals q (i + 1) (skip - 1) n else
    match s.fetchRec q i with
    | .error _ => s.placedSignals q (i + 1) 0 n
    | .ok r =>
      let f := formOf q.engine r
      f.signalHandle :: s.placedSignals q (i + 1) f.chain n

/-- The queues whose pending commands name a handle as SIGNAL_HANDLE; none when a started command names it, for it can
still run (R100). -/
def State.signallers (s : State) (h : Nat) : Option (List Nat) :=
  if s.contract.ctxs.any fun c => (formOf (s.ctxEngine c) c.record).signalHandle == h then none
  else some ((s.contract.queues.filter fun q =>
    q.kind == 1 && (s.placedSignals q q.head 0 q.placed).contains h).map (·.index))

/-- The waiters that a waiter waits for, when every one of its signallers waits itself. -/
def State.blockers (s : State) (ws : List Waiter) (w : Waiter) : Option (List Nat) :=
  match s.signallers w.handle with
  | none => none
  | some qs => if qs.isEmpty || !(qs.all fun q => ws.any fun x => x.queue == q) then none else some qs

/-- The graph with the waiters that can still run taken out, n times over. -/
def pruneGraph (g : List (Nat × List Nat)) : Nat → List (Nat × List Nat)
  | 0 => g
  | n + 1 => pruneGraph (g.filter fun p => p.2.all fun q => g.any fun x => x.1 == q) n

/-- The queues reached from some queues in n steps of the graph. -/
def reachFrom (g : List (Nat × List Nat)) (from' : List Nat) : Nat → List Nat
  | 0 => from'
  | n + 1 =>
    let more := (from'.flatMap fun q => lookupD g q []).filter fun q => !from'.contains q
    reachFrom g (from' ++ more.eraseDups) n

/-- The circles: the sets of queues that reach each other, each named by its lowest queue. -/
def circlesOf (g : List (Nat × List Nat)) : List (List Nat) :=
  let n := g.length
  let reach := fun (q : Nat) => reachFrom g (lookupD g q []).eraseDups n
  g.filterMap fun p =>
    let r := reach p.1
    if !r.contains p.1 then none else
    let comp := r.filter fun q => (reach q).contains p.1
    if minNat comp p.1 == p.1 then some comp else none

/-- The value of LAST_CIRCLE (02, Circular waits): time, member count, the first 32 member handles in ascending order,
queues before sync objects. -/
def circleRecord (now : Nat) (queues objs : List Nat) : Nat :=
  let members := sortNat queues ++ sortNat objs
  leNat (toLe 8 now ++ toLe 2 members.length ++ [0, 0] ++ (members.take 32).flatMap (toLe 4))

/-- A circle is reported (R100), unless one of its objects can be signalled from outside (R101). -/
def State.reportCircle (s : State) (ws : List Waiter) (comp : List Nat) : State :=
  let mine := ws.filter fun w => comp.contains w.queue
  let outside := mine.any fun w =>
    match s.sync? w.cabinet (handleIndex w.handle) with
    | some o => o.external
    | none => false
  match mine with
  | [] => s
  | w :: _ =>
    if outside then s else
    let rec140 := circleRecord s.now (mine.map fun w => queueHandle w.cabinet w.queue) (mine.map (·.handle))
    (((s.put 0x2103 2 rec140).bump 0x2103 1 1).note 24 0x0D 0 masterNone 4).raiseEvent w.cabinet 2

/-- CIRCLE_SCAN (R100, R101): each circle among waiting commands is reported; none is broken. -/
def execCircleScan (s : State) : Result :=
  if s.faults.safe then s.idle else
  let ws := s.waiters
  let g0 := ws.filterMap fun w => (s.blockers ws w).map (w.queue, ·)
  let g := pruneGraph g0 g0.length
  s.commit ((circlesOf g).foldl (fun s c => s.reportCircle ws c) s)

end Sys2Proof.Machine
end

