-- ==== Sys2Proof/Machine/Transform.lean ====
section
/-! DEFINITION. The Transform engine (R157 to R166, R188, R189): the command form, the conversions (R167 to R169), REDUCE
(R170), SUM_SQUARES (R171), the numeric self-check (R190, R191) and the opening of an ordered accumulation (R154). -/

namespace Sys2Proof.Machine

/-! ### Command form -/

/-- The DETAIL of a fault in the operation block's own field (R162). -/
def obDetail (off : Nat) : Nat := off * 2 ^ 16 + 0xFF * 2 ^ 32
/-- The DETAIL of a fault in a descriptor that an operation-block field names (R162). -/
def obDescDetail (off descOff : Nat) : Nat := off * 2 ^ 16 + descOff * 2 ^ 32

/-- BAD_RANGE in the operation block. -/
def obRange (off : Nat) : Err := { status := stBadRange, detail := obDetail off }
/-- BAD_FIELD in the operation block. -/
def obField (off : Nat) : Err := { status := stBadField, detail := obDetail off }
/-- BAD_ALIGNMENT in the operation block. -/
def obAlign (off : Nat) : Err := { status := stBadAlignment, detail := obDetail off }
/-- BAD_RANGE in a descriptor. -/
def descRange (off descOff : Nat) : Err := { status := stBadRange, detail := obDescDetail off descOff }
/-- BAD_FIELD in a descriptor. -/
def descField (off descOff : Nat) : Err := { status := stBadField, detail := obDescDetail off descOff }

/-- The first failing check as an exception. -/
def check (l : List (Bool × Err)) : Except Err Unit :=
  match firstErr l with
  | none => .ok ()
  | some e => .error e

/-- What a Transform command runs with: its operation block, policy (R142), rounding and STEP. -/
structure XCmd where
  ob : Bytes
  pol : Policy
  rnd : Rounding
  step : Nat
  opRange : Nat × Nat
  rd : Reader

/-- What a Transform command answers: DETAIL, counts, LANES, OUT_HEAP_USED (R159, R188). -/
structure XDone where
  detail : Nat := 0
  counts : Counts := {}
  lanes : Nat := 0
  heapUsed : Nat := 0
  deriving DecidableEq, Repr, Inhabited

/-- OPBLOCK_LEN of an operation (R159); REDUCE's depends on its N. -/
def opBlockLen (op : Nat) : Nat :=
  if op ≤ 0x1003 || op = 0x1011 then 32 else if 0x1020 ≤ op && op ≤ 0x1023 then 128 else if op = 0x1030 then 72
  else if op = 0x1040 then 64 else 48

/-- Whether an operation block's length is the one R159 gives (R161). -/
def opLenOk (op len : Nat) : Bool :=
  if op = 0x1010 then 48 ≤ len && len ≤ 512 && len % 8 == 0 else len == opBlockLen op

/-- Whether the numeric self-check has passed (R189). -/
def State.fullFormats (s : State) : Bool := s.e 0x2300 2 == 2

/-- The gate of every Transform command (R131, R157, R158, R160, R161, R189). -/
def State.xBegin (s : State) (c : Ctx) (op : Nat) : Except Err XCmd := do
  let r := c.record
  match reservedErr r [(0, 11), (16, 8)] with
  | some e => throw e
  | none => pure ()
  let (a, n) := opBlockRange r
  check [(2 < arg r 10 1, errField 10), (a % 64 != 0, errAlign 0), (!opLenOk op n, errRange 8),
    (s.e 0x2300 1 == 0, errState 5 3)]
  let ob ← s.reader c a n
  check [(field ob 8 8 != 0, obField 8)]
  let pol := policyOf c.policy
  let step := arg r 16 8
  match roundingOf (arg r 10 1) pol (field ob 0 8) step with
  | none => throw (errField 10)
  | some rnd => pure { ob := ob, pol := pol, rnd := rnd, step := step, opRange := (a, n), rd := s.reader c }

/-- A descriptor that an operation-block field names, checked (R125, R162). -/
def XCmd.desc (x : XCmd) (off : Nat) : Except Err Desc := do
  let a := field x.ob off 8
  check [(a % 64 != 0, obAlign off)]
  let b ← x.rd a 64
  let d := parseDesc a b
  match descErr (obDescDetail off) b d with
  | some e => throw e
  | none => pure d

/-- The ranges of a source tensor: its residual is not read. -/
def Desc.readRanges (d : Desc) : List (Nat × Nat) := d.ranges.take 4

/-- The overlap rule of R165: written groups against each other and against what is read, the operation block
included. -/
def XCmd.noOverlap (x : XCmd) (reads : List Desc) (writes : List (List (Nat × Nat))) : Except Err Unit :=
  check [(rangesClash (x.opRange :: reads.flatMap Desc.readRanges) writes, errPlain stBadRange)]

/-- FULL_FORMATS (R189): before the self-check has passed, only BF16 and FP32 tensors may be named. -/
def State.needFull (s : State) (ds : List Desc) : Except Err Unit :=
  check [(!s.fullFormats && ds.any (fun d => !(d.format == 4 || d.format == 10)), errState 5 1)]

/-- A Transform command ends: with OK or OK_WITH_COUNTS and its ENGINE_AREA (R141, R188), or with an error; its malformed
blocks are counted.  A write to a granule not yet copied stalls it (R179, R384). -/
def State.xEnd (s : State) (id : Nat) (res : Except Err (State × XDone)) : Result :=
  match res with
  | .error e => s.commit (s.finishErr id e)
  | .ok (t, d) =>
    let area := d.counts.bytes ++ toLe 4 d.lanes ++ toLe 4 d.heapUsed
    s.land (some id) ((t.bump 0x2201 1 d.counts.malformed).finish id d.counts.status d.detail area)

/-- A Transform command. -/
def State.transformCmd (s : State) (id op : Nat) (f : Ctx → XCmd → Except Err (State × XDone)) : Result :=
  s.onCtx id (isCommand op) fun c =>
    s.xEnd id (do
      let x ← s.xBegin c op
      f c x)

/-! ### Conversions (R167 to R169) -/

/-- Source and destination of a conversion, with equal ELEMENTS, in allowed formats, not overlapping. -/
def State.conversion (s : State) (x : XCmd) (srcOk dstOk : Nat → Bool) (plainDst : Bool) : Except Err (Desc × Desc) := do
  let src ← x.desc 16
  let dst ← x.desc 24
  check [(!srcOk src.format, descField 16 60), (!dstOk dst.format, descField 24 60),
    (plainDst && dst.residual != 0, descRange 24 24), (src.elements != dst.elements, descRange 24 32)]
  x.noOverlap [src] [dst.ranges]
  s.needFull [src, dst]
  pure (src, dst)

/-- A conversion that decodes the source and writes the destination. -/
def State.convert (s : State) (c : Ctx) (x : XCmd) (src dst : Desc) : Except Err (State × XDone) := do
  let l ← loadTensor x.rd src
  let (t, used, n) ← s.storeTensor c.cabinet dst x.pol x.rnd l.values
  pure (t, { counts := { n with malformed := l.malformed }, heapUsed := used })

/-- QUANTIZE (R167). -/
def execQuantize (id : Nat) (s : State) : Result :=
  s.transformCmd id 0x1001 fun c x => do
    let (src, dst) ← s.conversion x (fun _ => true) (fun f => f ≤ 9) false
    s.convert c x src dst

/-- DEQUANTIZE (R168). -/
def execDequantize (id : Nat) (s : State) : Result :=
  s.transformCmd id 0x1002 fun c x => do
    let (src, dst) ← s.conversion x (fun _ => true) (fun f => f == 4 || f == 10) true
    s.convert c x src dst

/-- The descriptors of an ESCALATE: ZN tensors, DST's format not below SRC's, no residual (R169). -/
def State.escalating (s : State) (x : XCmd) : Except Err (Desc × Desc) := do
  let src ← x.desc 16
  s.conversion x isZn (fun f => isZn f && src.format ≤ f) true

/-- The blocks of an ESCALATE, copied or re-encoded in ascending index (R169). -/
def XCmd.escalated (x : XCmd) (src dst : Desc) : Except Err (List (Nat × Bytes × Counts × Bool)) := do
  let cs ← readContainers x.rd src
  escalateBlocks src dst x.pol x.rnd 0 0 cs

/-- ESCALATE (R169): DETAIL is the number of blocks re-encoded. -/
def execEscalate (id : Nat) (s : State) : Result :=
  s.transformCmd id 0x1003 fun c x => do
    let (src, dst) ← s.escalating x
    let bs ← x.escalated src dst
    let out := bs.map fun b => (b.1, b.2.1)
    let t ← s.writeAll c.cabinet (tensorRuns dst out)
    pure (t, { detail := (bs.filter fun b => b.2.2.2).length, counts := sumCounts (bs.map fun b => b.2.2.1)
               heapUsed := heapUsedBy dst out })

/-! ### Reductions (R170, R171) -/

/-- The sources of a REDUCE, in list order, with DST's ELEMENTS. -/
def XCmd.sources (x : XCmd) (dst : Desc) : Nat → Nat → Except Err (List Desc)
  | _, 0 => .ok []
  | j, n + 1 => do
    let d ← x.desc (32 + 8 * j)
    check [(d.elements != dst.elements, descRange (32 + 8 * j) 32)]
    let r ← x.sources dst (j + 1) n
    pure (d :: r)

/-- Tensors read one after the other. -/
def loadAll (rd : Reader) : List Desc → Except Err (List Loaded)
  | [] => .ok []
  | d :: r => do
    let l ← loadTensor rd d
    let ls ← loadAll rd r
    pure (l :: ls)

/-- The elementwise sums in list order (R170). -/
def sumInOrder : List (List Fl) → List Fl
  | [] => []
  | x :: r => r.foldl (fun acc y => (acc.zip y).map fun p => Fp.add32 p.1 p.2) x

/-- The checks of a REDUCE: its destination and its sources in list order. -/
def State.reduction (s : State) (x : XCmd) : Except Err (Desc × List Desc) := do
  let n := field x.ob 24 2
  check [(n < 2 || 60 < n, obRange 24), (field x.ob 26 6 != 0, obField 26), (x.opRange.2 != 32 + 8 * n, errRange 8)]
  let dst ← x.desc 16
  let srcs ← x.sources dst 0 n
  x.noOverlap srcs [dst.ranges]
  s.needFull (dst :: srcs)
  pure (dst, srcs)

/-- REDUCE (R170). -/
def execReduce (id : Nat) (s : State) : Result :=
  s.transformCmd id 0x1010 fun c x => do
    let (dst, srcs) ← s.reduction x
    let ls ← loadAll x.rd srcs
    let (t, used, k) ← s.storeTensor c.cabinet dst x.pol x.rnd (sumInOrder (ls.map Loaded.values))
    pure (t, { counts := { k with malformed := sumNat (ls.map (·.malformed)) }, heapUsed := used })

/-- A chain of FP32 sums from the first value (R149). -/
def chain32 : List Fl → Fl
  | [] => Fp.zero
  | x :: r => r.foldl Fp.add32 x

/-- Lanes of a reduction over k elements (R149). -/
def laneCount (k size : Nat) : Nat := ceilDiv k size

/-- The sum of squares in lanes (R171). -/
def sumSquares (xs : List Fl) : Fl :=
  chain32 ((chunksOf 65536 (laneCount xs.length 65536) xs).map fun lane =>
    lane.foldl (fun acc x => Fp.fma32 x x acc) Fp.zero)

/-- Elements that are not finite. -/
def nonFiniteCount (xs : List Fl) : Nat := (xs.filter fun x => !Fp.finite x).length

/-- The checks of a SUM_SQUARES: its source and where its sum goes. -/
def State.squaring (s : State) (x : XCmd) : Except Err (Desc × Nat) := do
  let src ← x.desc 16
  let out := field x.ob 24 8
  check [(out % 4 != 0, obAlign 24)]
  x.noOverlap [src] [[(out, 4)]]
  s.needFull [src]
  pure (src, out)

/-- SUM_SQUARES (R171): the sum in OUT and in DETAIL. -/
def execSumSquares (id : Nat) (s : State) : Result :=
  s.transformCmd id 0x1011 fun c x => do
    let (src, out) ← s.squaring x
    let l ← loadTensor x.rd src
    let v := Fp.to32 (sumSquares l.values)
    let t ← s.writeAll c.cabinet [(out, toLe 4 v)]
    pure (t, { detail := v, lanes := laneCount src.elements 65536
               counts := { (default : Counts) with nonfinite := nonFiniteCount l.values, malformed := l.malformed } })

/-! ### Self-check (R190, R191, R614) -/

/-- SELFCHECK_RUN's effect (R191): refused while a self-check runs; it runs once started commands have ended. -/
def actSelfcheckRun : ActEffect := fun _ s =>
  if s.transform.selfcheckBy != 0 then .error (.state 2 0)
  else .ok ({ s.put 0x2300 2 1 with
    transform := { s.transform with selfcheckBy := 2, selfcheckStart := s.now } }, true)

/-- SELFCHECK_RUN (R191). -/
def execSelfcheckRun (req : ActReq) (s : State) : Result := s.act req 0x2300 3 actSelfcheckRun

/-- A tile whose digest differs is reported, and is offline (R190). -/
def State.tileFails (s : State) (t : Nat) : State :=
  s.note (t / 16) 0x07 0 (0x1000 + t) 4

/-- Each tile of a list goes online or offline as its digest matches; those that differ are reported (R190). -/
def State.judgeTiles (s : State) (tiles : List Nat) (matching : BitVec 64) : State :=
  tiles.foldl (fun (s : State) t =>
    if matching.getLsbD t then s.put 0x2300 1 (setBit (s.e 0x2300 1) t)
    else (s.put 0x2300 1 (clearBit (s.e 0x2300 1) t)).tileFails t) s

/-- Whether a Transform command runs. -/
def State.transformBusy (s : State) : Bool := s.contract.ctxs.any fun c => s.ctxEngine c == 1 && !c.finished

/-- SELFCHECK_COMPLETE (R190, R191): every tile has run the reference set, at bring-up or on SELFCHECK_RUN; or the tiles of
a quadrant under retest have (R614).  A bring-up that no tile passes leaves the ZX9 in stage B2 (R644). -/
def execSelfcheckComplete (matching : BitVec 64) (s : State) : Result :=
  let x := s.transform
  if s.faults.safe then s.idle
  else if x.selfcheckBy != 0 then
    if x.selfcheckBy == 2 && s.transformBusy then s.idle else
    let s1 := s.judgeTiles (List.range 64) matching
    let s2 := (s1.put 0x2300 2 (if matching == 0 then 3 else 2)).put 0x2300 4 s.now
    let s3 := { s2 with transform := { s2.transform with selfcheckBy := 0 } }
    let s4 := if matching == 0 && x.selfcheckBy == 1 then (s3.put 0x1003 2 2).note 24 0x1B 0 masterNone 4 else s3
    s.commit (s4.endActOk 0 0x2300 3)
  else
    match x.quadrantRetest with
    | [] => s.idle
    | q :: rest =>
      let s1 := (s.judgeTiles ((List.range 16).map (16 * q + ·)) matching).put 0x2300 4 s.now
      let s2 := if s1.e 0x2300 1 = 0 then s1.put 0x2300 2 3 else s1
      s.commit { s2 with transform := { s2.transform with quadrantRetest := rest } }

/-! ### Ordered accumulations (R151 to R156) -/

/-- Order-share bytes of one contribution, or of one accumulator, in granules of 64 KiB (R151). -/
def OrderedAcc.unit (a : OrderedAcc) : Nat := alignUp (4 * a.acc.length) 65536

/-- Order-share bytes that an open accumulation occupies: its reservation, and the contributions it holds. -/
def OrderedAcc.occupied (a : OrderedAcc) : Nat := if a.isOpen then (2 + a.held.length) * a.unit else 0

/-- Order-share bytes in use. -/
def State.orderUsed (s : State) : Nat := sumNat (s.transform.accs.map OrderedAcc.occupied)

/-- Whether an accumulation is the one of a group's operation, shard, chunk and level. -/
def OrderedAcc.named (a : OrderedAcc) (group opSeq shard chunk level : Nat) : Bool :=
  a.group == group && a.opSeq == opSeq && a.shard == shard && a.chunk == chunk && a.level == level

/-- ACCUMULATION_OPEN (R154): an accumulation that waits to open obtains room for its accumulator and one contribution. -/
def execAccumulationOpen (group opSeq shard chunk level : Nat) (s : State) : Result :=
  match s.transform.accs.find? fun a => a.named group opSeq shard chunk level && !a.isOpen with
  | none => s.idle
  | some a =>
    if s.transform.benchOrder < s.orderUsed + 2 * a.unit then s.idle else
    let f := fun (x : OrderedAcc) => { x with isOpen := true }
    s.quiet { s with transform := { s.transform with
      accs := updWhere (fun x => x.named group opSeq shard chunk level) f s.transform.accs } }

end Sys2Proof.Machine
end

