-- ==== Sys2Proof/Machine/Optimizer.lean ====
section
/-! DEFINITION. The optimizer updates ADAMW, LION, SGD_MOMENTUM and FACTORED (R172 to R179). -/

namespace Sys2Proof.Machine

/-- An FP32 field of the operation block. -/
def obF (ob : Bytes) (off : Nat) : Fl := Fp.of32 (field ob off 4)

/-- Whether a value is finite and not below 0. -/
def finiteNonneg (x : Fl) : Bool := Fp.finite x && !Fp.lt x Fp.zero
/-- Whether a value lies in [0, 1). -/
def belowOne (x : Fl) : Bool := finiteNonneg x && Fp.lt x Fp.one
/-- Whether a value is finite and above 0. -/
def finitePos (x : Fl) : Bool := Fp.finite x && Fp.lt Fp.zero x

/-- The operation block of an optimizer (R172), its values decoded. -/
structure Opt where
  op : Nat
  w : Nat
  m : Nat
  v : Nat
  v2 : Nat
  count : Nat
  rows : Nat
  cols : Nat
  lr : Fl
  beta1 : Fl
  beta2 : Fl
  eps : Fl
  decay : Fl
  gradScale : Fl
  maxNorm : Fl
  sumsq : Nat
  noBias : Bool
  nesterov : Bool
  deriving DecidableEq, Repr, Inhabited

/-- The fields of an operation block. -/
def optOf (op : Nat) (ob : Bytes) : Opt :=
  { op := op, w := field ob 16 8, m := field ob 24 8, v := field ob 32 8, v2 := field ob 40 8, count := field ob 64 8
    rows := field ob 72 4, cols := field ob 76 4, lr := obF ob 80, beta1 := obF ob 84, beta2 := obF ob 88
    eps := obF ob 92, decay := obF ob 96, gradScale := obF ob 100, maxNorm := obF ob 104, sumsq := field ob 112 8
    noBias := bit (field ob 120 4) 1, nesterov := bit (field ob 120 4) 0 }

/-- Whether the operation is FACTORED. -/
def Opt.factored (o : Opt) : Bool := o.op == 0x1023
/-- Whether the operation is ADAMW. -/
def Opt.adamw (o : Opt) : Bool := o.op == 0x1020
/-- Whether the operation is SGD_MOMENTUM. -/
def Opt.sgd (o : Opt) : Bool := o.op == 0x1022
/-- Whether bias corrections are formed (R173). -/
def Opt.bias (o : Opt) : Bool := (o.adamw || o.factored) && !o.noBias

/-- The ranges of the fields of R172, and the STEP rule of R173. -/
def Opt.checks (o : Opt) (ob : Bytes) (step : Nat) : List (Bool × Err) :=
  [(o.bias && step == 0, errRange 16),
   (o.w % 64 != 0, obAlign 16),
   (o.m == 0 && !o.sgd && !o.factored, obRange 24),
   ((o.v == 0) == (o.adamw || o.factored), obRange 32),
   ((o.v2 == 0) == o.factored, obRange 40),
   (o.m % 4 != 0, obAlign 24), (o.v % 4 != 0, obAlign 32), (o.v2 % 4 != 0, obAlign 40),
   (o.count == 0 || decide (2 ^ 40 < o.count), obRange 64),
   (if o.factored then o.rows * o.cols != o.count else o.rows != 0, obRange 72),
   (!o.factored && o.cols != 0, obRange 76),
   (!finiteNonneg o.lr, obRange 80), (!belowOne o.beta1, obRange 84), (!belowOne o.beta2, obRange 88),
   ((o.adamw || o.factored) && !finitePos o.eps, obRange 92),
   (!finiteNonneg o.decay, obRange 96),
   (!Fp.finite o.gradScale || Fp.isZero o.gradScale, obRange 100),
   (o.sumsq != 0 && !finitePos o.maxNorm, obRange 104),
   (field ob 108 4 != 0, obField 108), (o.sumsq % 4 != 0, obAlign 112),
   (decide (4 ≤ field ob 120 4) || (o.nesterov && !o.sgd), obField 120), (field ob 124 4 != 0, obField 124)]

/-- The in-place arrays (R178), each a run of cabinet memory. -/
def Opt.arrays (o : Opt) : List (Nat × Nat) :=
  [(o.w, 4 * o.count)] ++ (if o.m = 0 then [] else [(o.m, 4 * o.count)]) ++
  (if o.adamw then [(o.v, 4 * o.count)] else if o.factored then [(o.v, 4 * o.rows), (o.v2, 4 * o.cols)] else [])

/-! ### Constants (R173, R174) -/

/-- β^n by binary exponentiation over the bits of n from the most significant, in binary64: k bits remain. -/
def powBits (b : Fl) (n : Nat) : Nat → Fl → Fl
  | 0, acc => acc
  | k + 1, acc =>
    let sq := Fp.mul fp64 acc acc
    powBits b n k (if bit n k then Fp.mul fp64 sq b else sq)

/-- The bias correction of β at a step (R173). -/
def biasCorrection (b : Fl) (step : Nat) : Fl :=
  let p := powBits b step (Fp.width step) Fp.one
  Fp.toFormat fp32 (Fp.div fp64 Fp.one (Fp.sub fp64 Fp.one p))

/-- The constants of an update: b1c, b2c, rb1, rb2, k. -/
structure OptConst where
  b1c : Fl
  b2c : Fl
  rb1 : Fl
  rb2 : Fl
  k : Fl
  deriving DecidableEq, Repr, Inhabited

/-- The constants for a gradient factor (R173). -/
def Opt.consts (o : Opt) (step : Nat) (k : Fl) : OptConst :=
  { b1c := Fp.sub32 Fp.one o.beta1, b2c := Fp.sub32 Fp.one o.beta2
    rb1 := if o.bias then biasCorrection o.beta1 step else Fp.one
    rb2 := if o.bias then biasCorrection o.beta2 step else Fp.one
    k := k }

/-- The gradient factor for a sum of squares, or none when the command is skipped (R174). -/
def Opt.clip (o : Opt) (s : Fl) : Option Fl :=
  let n := Fp.mul32 (Fp.sqrt32 s) (Fp.abs o.gradScale)
  if !Fp.finite n then none
  else if Fp.lt o.maxNorm n then some (Fp.mul32 o.gradScale (Fp.div32 o.maxNorm n))
  else some o.gradScale

/-! ### Element updates (R175) -/

/-- The new weight: W − LR × fma(WEIGHT_DECAY, W, u). -/
def Opt.newW (o : Opt) (w u : Fl) : Fl := Fp.sub32 w (Fp.mul32 o.lr (Fp.fma32 o.decay w u))

/-- The sign of a value: +1, −1, or 0 for a zero of either sign (R175); of NaN, to which R175 gives no sign, it is a free
value (notes/assumptions/51.md). -/
def signOf (x : Fl) : Fl :=
  if Fp.isNan x then Fp.of32 Config.signOfNan.toNat else if Fp.isZero x then Fp.zero else .fin (Fp.negative x) 1 0

/-- The words W, M and V of an element. -/
structure Elem where
  w : Nat
  m : Nat
  v : Nat
  deriving DecidableEq, Repr, Inhabited

/-- One element of ADAMW (R175). -/
def Opt.adamwElem (o : Opt) (k : OptConst) (g : Fl) (x : Elem) : Elem :=
  let m := Fp.fma32 k.b1c g (Fp.mul32 o.beta1 (Fp.of32 x.m))
  let v := Fp.fma32 (Fp.mul32 k.b2c g) g (Fp.mul32 o.beta2 (Fp.of32 x.v))
  let u := Fp.div32 (Fp.mul32 m k.rb1) (Fp.add32 (Fp.sqrt32 (Fp.mul32 v k.rb2)) o.eps)
  { w := Fp.to32 (o.newW (Fp.of32 x.w) u), m := Fp.to32 m, v := Fp.to32 v }

/-- One element of LION (R175). -/
def Opt.lionElem (o : Opt) (k : OptConst) (g : Fl) (x : Elem) : Elem :=
  let m := Fp.of32 x.m
  let u := signOf (Fp.fma32 k.b1c g (Fp.mul32 o.beta1 m))
  { x with w := Fp.to32 (o.newW (Fp.of32 x.w) u), m := Fp.to32 (Fp.fma32 k.b2c g (Fp.mul32 o.beta2 m)) }

/-- One element of SGD_MOMENTUM (R175). -/
def Opt.sgdElem (o : Opt) (k : OptConst) (g : Fl) (x : Elem) : Elem :=
  if o.m = 0 then { x with w := Fp.to32 (o.newW (Fp.of32 x.w) g) }
  else
    let m := Fp.fma32 k.b2c g (Fp.mul32 o.beta1 (Fp.of32 x.m))
    let u := if o.nesterov then Fp.fma32 o.beta1 m g else m
    { x with w := Fp.to32 (o.newW (Fp.of32 x.w) u), m := Fp.to32 m }

/-- One element of an elementwise update; one whose g is not finite stays (R176). -/
def Opt.elem (o : Opt) (k : OptConst) (g : Fl) (x : Elem) : Elem :=
  if !Fp.finite g then x
  else if o.adamw then o.adamwElem k g x
  else if o.sgd then o.sgdElem k g x
  else o.lionElem k g x

/-- The words of an array; zeros for an array that is absent. -/
def arrayWords (rd : Reader) (a n : Nat) : Except Err (List Nat) := do
  if a = 0 then pure (List.replicate n 0)
  else do
    let b ← rd a (4 * n)
    pure (words32 b)

/-- The writes of an array; none for an array that is absent. -/
def arrayWrite (a : Nat) (ws : List Nat) : List (Nat × Bytes) := if a = 0 then [] else [(a, bytes32 ws)]

/-! ### FACTORED (R175) -/

/-- Sum in lanes of 65,536 (R149). -/
def laneSum (xs : List Fl) : Fl := chain32 ((chunksOf 65536 (laneCount xs.length 65536) xs).map chain32)

/-- Every n-th value from the c-th on: a column of a row-major array. -/
def column (xs : List Fl) (rows cols c : Nat) : List Fl := (List.range rows).map fun r => xs.getD (r * cols + c) Fp.zero

/-- Pass 1: the new factors and their sum. -/
def Opt.pass1 (o : Opt) (k : OptConst) (g : List Fl) (rowf colf : List Nat) : List Fl × List Fl × Fl :=
  let q := g.map fun x => Fp.fma32 x x o.eps
  let fr := Fp.int fp32 o.rows
  let fc := Fp.int fp32 o.cols
  let new := fun (sum size : Fl) (old : Nat) => Fp.fma32 k.b2c (Fp.div32 sum size) (Fp.mul32 o.beta2 (Fp.of32 old))
  let rf := ((chunksOf o.cols o.rows q).zip rowf).map fun p => new (laneSum p.1) fc p.2
  let cf := ((List.range o.cols).zip colf).map fun p => new (laneSum (column q o.rows o.cols p.1)) fr p.2
  (rf, cf, laneSum rf)

/-- Pass 2: one element. -/
def Opt.pass2 (o : Opt) (k : OptConst) (rf cf : List Fl) (tot : Fl) (i : Nat) (g : Fl) (x : Elem) : Elem :=
  let v := Fp.div32 (Fp.mul32 (rf.getD (i / o.cols) Fp.zero) (cf.getD (i % o.cols) Fp.zero)) tot
  let m := Fp.fma32 k.b1c g (Fp.mul32 o.beta1 (Fp.of32 x.m))
  let a := if o.m = 0 then g else Fp.mul32 m k.rb1
  { x with
    w := Fp.to32 (o.newW (Fp.of32 x.w) (Fp.div32 a (Fp.sqrt32 (Fp.mul32 v k.rb2))))
    m := if o.m = 0 then x.m else Fp.to32 m }

/-! ### The commands -/

/-- OUT of an optimizer: none, or a descriptor of a format QUANTIZE writes, with COUNT elements and no residual. -/
def XCmd.optOut (x : XCmd) (o : Opt) : Except Err (List Desc) := do
  if field x.ob 56 8 = 0 then pure []
  else do
    let d ← x.desc 56
    check [(9 < d.format, descField 56 60), (d.elements != o.count, descRange 56 32), (d.residual != 0, descRange 56 24)]
    pure [d]

/-- A command that is skipped writes nothing and is counted (R176). -/
def State.optSkip (s : State) (c : Counts) (lanes : Nat) : State × XDone :=
  (s.bump 0x2303 2 1, { detail := 1, counts := c, lanes := lanes })

/-- The elements of the in-place arrays after the update, and the writes of the factors (R175). -/
def Opt.update (o : Opt) (rd : Reader) (k : OptConst) (g : List Fl) : Except Err (List Elem × List (Nat × Bytes)) := do
  let w ← arrayWords rd o.w o.count
  let m ← arrayWords rd o.m o.count
  let v ← arrayWords rd (if o.adamw then o.v else 0) o.count
  let xs := (w.zip (m.zip v)).map fun p => ({ w := p.1, m := p.2.1, v := p.2.2 } : Elem)
  if o.factored then do
    let rowf ← arrayWords rd o.v o.rows
    let colf ← arrayWords rd o.v2 o.cols
    let (rf, cf, tot) := o.pass1 k g rowf colf
    let out := ((List.range o.count).zip (g.zip xs)).map fun p => o.pass2 k rf cf tot p.1 p.2.1 p.2.2
    pure (out, [(o.v, bytes32 (rf.map Fp.to32)), (o.v2, bytes32 (cf.map Fp.to32))])
  else pure ((g.zip xs).map fun p => o.elem k p.1 p.2, [])

/-- An optimizer command whose fields have been checked: its fields, G, OUT if it names one, and LANES. -/
structure OptCmd where
  o : Opt
  grad : Desc
  outs : List Desc
  lanes : Nat
  deriving DecidableEq, Repr, Inhabited

/-- The checks of an optimizer command (R163 to R165, R172, R173, R189). -/
def State.optPrepare (s : State) (op : Nat) (x : XCmd) : Except Err OptCmd := do
  let o := optOf op x.ob
  check (o.checks x.ob x.step)
  let gd ← x.desc 48
  check [(gd.elements != o.count, descRange 48 32)]
  let outs ← x.optOut o
  let sq := if o.sumsq = 0 then [] else [(o.sumsq, 4)]
  check [(rangesClash (x.opRange :: sq ++ gd.readRanges) (o.arrays.map (fun a => [a]) ++ outs.map Desc.ranges),
    errPlain stBadRange)]
  s.needFull (gd :: outs)
  pure { o := o, grad := gd, outs := outs
         lanes := if o.factored then max (laneCount o.cols 65536) (laneCount o.rows 65536) else 0 }

/-- The gradient factor k of R174: none skips the command. -/
def XCmd.optFactor (x : XCmd) (o : Opt) : Except Err (Option Fl) :=
  if o.sumsq = 0 then .ok (some o.gradScale)
  else do
    let b ← x.rd o.sumsq 4
    pure (o.clip (Fp.of32 (leNat b)))

/-- The writes of the in-place arrays and factors after an update. -/
def Opt.writes (o : Opt) (xs : List Elem) (facs : List (Nat × Bytes)) : List (Nat × Bytes) :=
  arrayWrite o.w (xs.map (·.w)) ++ arrayWrite o.m (xs.map (·.m)) ++
    (if o.adamw then arrayWrite o.v (xs.map (·.v)) else []) ++ facs

/-- OUT is written from the new W (R177). -/
def State.optStoreOut (s : State) (cab : Nat) (x : XCmd) (outs : List Desc) (xs : List Elem) :
    Except Err (State × Nat × Counts) :=
  match outs with
  | [] => .ok (s, 0, {})
  | d :: _ => s.storeTensor cab d x.pol x.rnd (xs.map fun e => Fp.of32 e.w)

/-- The update of an optimizer command under a gradient factor (R175 to R177). -/
def State.optApply (s : State) (c : Ctx) (x : XCmd) (p : OptCmd) (k : Fl) : Except Err (State × XDone) := do
  let l ← loadTensor x.rd p.grad
  let g := l.values.map fun v => Fp.mul32 v k
  let bad := nonFiniteCount g
  let n0 : Counts := { (default : Counts) with malformed := l.malformed }
  if p.o.factored && bad != 0 then pure (s.optSkip n0 p.lanes)
  else do
    let (xs, facs) ← p.o.update x.rd (p.o.consts x.step k) g
    let t ← s.writeAll c.cabinet (p.o.writes xs facs)
    let (t2, used, n2) ← (t.bump 0x2303 1 (p.o.count - bad)).optStoreOut c.cabinet x p.outs xs
    pure (t2, { counts := { n0 with nonfinite := bad }.add n2, lanes := p.lanes, heapUsed := used })

/-- An optimizer command (R172 to R178). -/
def State.optimizer (s : State) (id op : Nat) : Result :=
  s.transformCmd id op fun c x => do
    let p ← s.optPrepare op x
    match ← x.optFactor p.o with
    | none => pure (s.optSkip {} p.lanes)
    | some k => s.optApply c x p k

/-- ADAMW (R175). -/
def execAdamw (id : Nat) (s : State) : Result := s.optimizer id 0x1020

/-- LION (R175). -/
def execLion (id : Nat) (s : State) : Result := s.optimizer id 0x1021

/-- SGD_MOMENTUM (R175). -/
def execSgdMomentum (id : Nat) (s : State) : Result := s.optimizer id 0x1022

/-- FACTORED (R175). -/
def execFactored (id : Nat) (s : State) : Result := s.optimizer id 0x1023

end Sys2Proof.Machine
end

