-- ==== Sys2Proof/Machine/Score.lean ====
section
/-! DEFINITION. Block products (R137, R138, R149), BLOCK_SCORE (R181 to R183) and ADAPTER_APPLY (R184, R185). -/

namespace Sys2Proof.Machine

/-! ### Dot products -/

/-- A block as a product sees it: its format, and its values unrounded (an MX element times its scale is exact). -/
structure DotBlock where
  format : Nat
  values : List Fl
  deriving DecidableEq, Repr, Inhabited

/-- The unrounded values of a group of 32 MX codes. -/
def mxExact (f scale : Nat) (codes : List Nat) : List Fl :=
  if scale = 255 then codes.map fun _ => .nan
  else codes.map fun c => scale2 (mxElem f c) ((scale : Int) - 127)

/-- The unrounded values of a container. -/
def exactValues (f : Nat) (bs : Bytes) : List Fl :=
  if isMx f then
    let codes := unpackCodes (elemBits f) (leNat (bs.drop 8)) 64
    mxExact f (field bs 0 1) (codes.take 32) ++ mxExact f (field bs 1 1) (codes.drop 32)
  else (decodeContainer f bs).1

/-- A container as a product sees it; a malformed one is 64 NaNs. -/
def dotBlock (f : Nat) : Option (Nat × Bytes) → DotBlock
  | none => { format := f, values := List.replicate 64 .nan }
  | some (g, bs) => { format := g, values := exactValues g bs }

/-- The partial of two runs of one scale block each: the exact sum of products, rounded once (R137). -/
def exactPartial (xs ys : List Fl) : Fl :=
  Fp.toFormat fp32 ((xs.zip ys).foldl (fun acc p => Fp.addExact acc (Fp.mulExact p.1 p.2)) Fp.zero)

/-- The products accumulated in FP32 in ascending index, when a block is BF16 or FP32 (R137). -/
def chainPartial (xs ys : List Fl) : Fl :=
  chain32 ((xs.zip ys).map fun p => Fp.mul32 (Fp.toFormat fp32 p.1) (Fp.toFormat fp32 p.2))

/-- The partial products of two corresponding blocks, in order: MX groups of 32 are blocks of their own (R137). -/
def partials (a b : DotBlock) : List Fl :=
  let wide := fun (f : Nat) => f == 4 || f == 10
  if wide a.format || wide b.format then [chainPartial a.values b.values]
  else if isMx a.format || isMx b.format then
    [exactPartial (a.values.take 32) (b.values.take 32), exactPartial (a.values.drop 32) (b.values.drop 32)]
  else [exactPartial a.values b.values]

/-- A dot product of one lane: partials in ascending block index in FP32 (R138, R149). -/
def dotLane (xs ys : List DotBlock) : Fl := chain32 ((xs.zip ys).flatMap fun p => partials p.1 p.2)

/-- The blocks of a tensor for products, and its malformed blocks. -/
def loadDot (rd : Reader) (d : Desc) : Except Err (List DotBlock × Nat) := do
  let cs ← readContainers rd d
  pure (cs.map (dotBlock d.format), (cs.filter fun c => (blockValues d.format c).2.2).length)

/-! ### BLOCK_SCORE (R181 to R183) -/

/-- The checks of the operation block. -/
def scoreChecks (ob : Bytes) : List (Bool × Err) :=
  let nb := field ob 32 4
  let heads := field ob 36 2
  let dim := field ob 38 2
  [(nb = 0 || 16384 < nb, obRange 32), (heads = 0 || 128 < heads, obRange 36),
   (dim < 64 || 1024 < dim || dim % 64 != 0, obRange 38), (nb < field ob 40 4, obRange 40),
   (1024 < field ob 44 2, obRange 44), (1024 < field ob 46 2, obRange 46), (!Fp.finite (Fp.of32 (field ob 48 4)), obRange 48),
   (field ob 52 4 != 0, obField 52), (field ob 56 8 % 64 != 0, obAlign 56), (field ob 64 8 % 64 != 0, obAlign 64)]

/-- The score of one block of a sequence: heads in order, then SCALE (R182). -/
def scoreOf (scale : Fl) (per : Nat) (q s : List DotBlock) (heads : Nat) : Fl :=
  Fp.mul32 scale (chain32 ((List.range heads).map fun h => dotLane (slice' q (h * per) per) (slice' s (h * per) per)))
where
  /-- The elements off to off + n − 1. -/
  slice' (l : List DotBlock) (off n : Nat) : List DotBlock := (l.drop off).take n

/-- Whether a score ranks before another: the higher, then the lower index; NaN below every number (R183). -/
def ranksBefore (a b : Fl × Nat) : Bool :=
  if Fp.isNan a.1 then Fp.isNan b.1 && a.2 < b.2
  else if Fp.isNan b.1 then true
  else Fp.lt b.1 a.1 || (!Fp.lt a.1 b.1 && a.2 < b.2)

/-- A scored block placed in rank order. -/
def insertScore (x : Fl × Nat) : List (Fl × Nat) → List (Fl × Nat)
  | [] => [x]
  | y :: r => if ranksBefore x y then x :: y :: r else y :: insertScore x r

/-- The selected blocks in ascending order (R183). -/
def selectBlocks (scores : List Fl) (nb topk sink recent : Nat) : List Nat :=
  let always := fun (i : Nat) => i < sink || nb ≤ i + recent
  let rest := (scores.zip (List.range nb)).filter fun p => !always p.2
  let top := ((rest.foldl (fun acc x => insertScore x acc) []).take topk).map (·.2)
  (List.range nb).filter fun i => always i || top.contains i

/-- A BLOCK_SCORE whose fields have been checked (R181). -/
structure ScoreCmd where
  q : Desc
  s : Desc
  nb : Nat
  heads : Nat
  dim : Nat
  topk : Nat
  sink : Nat
  recent : Nat
  scale : Fl
  sout : Nat
  iout : Nat
  deriving DecidableEq, Repr, Inhabited

/-- The checks of a BLOCK_SCORE (R163, R165, R181, R189). -/
def State.scoring (s : State) (x : XCmd) : Except Err ScoreCmd := do
  check (scoreChecks x.ob)
  let q ← x.desc 16
  let sd ← x.desc 24
  let k : ScoreCmd :=
    { q := q, s := sd, nb := field x.ob 32 4, heads := field x.ob 36 2, dim := field x.ob 38 2
      topk := field x.ob 40 4, sink := field x.ob 44 2, recent := field x.ob 46 2
      scale := Fp.of32 (field x.ob 48 4), sout := field x.ob 56 8, iout := field x.ob 64 8 }
  check [(q.elements != k.heads * k.dim, descRange 16 32), (sd.elements != k.nb * k.heads * k.dim, descRange 24 32)]
  x.noOverlap [q, sd] [[(k.iout, 4 * min k.nb (k.sink + k.recent + k.topk))],
    [(k.sout, if k.sout = 0 then 0 else 4 * k.nb)]]
  s.needFull [q, sd]
  pure k

/-- The scores of all blocks, from the blocks of Q and of S (R182). -/
def ScoreCmd.scores (k : ScoreCmd) (qb sb : List DotBlock) : List Fl :=
  (chunksOf (k.heads * (k.dim / 64)) k.nb sb).map fun b => scoreOf k.scale (k.dim / 64) qb b k.heads

/-- What a BLOCK_SCORE writes: the scores if SCORE_OUT is given, and the selected indices (R182, R183). -/
def ScoreCmd.writes (k : ScoreCmd) (scores : List Fl) : List (Nat × Bytes) :=
  (if k.sout = 0 then [] else [(k.sout, bytes32 (scores.map Fp.to32))]) ++
    [(k.iout, bytes32 (selectBlocks scores k.nb k.topk k.sink k.recent))]

/-- BLOCK_SCORE (R181 to R183): DETAIL is the number of blocks selected. -/
def execBlockScore (id : Nat) (s : State) : Result :=
  s.transformCmd id 0x1030 fun c x => do
    let k ← s.scoring x
    let (qb, m1) ← loadDot x.rd k.q
    let (sb, m2) ← loadDot x.rd k.s
    let scores := k.scores qb sb
    let t ← s.writeAll c.cabinet (k.writes scores)
    pure (t, { detail := (selectBlocks scores k.nb k.topk k.sink k.recent).length, lanes := 1
               counts := { (default : Counts) with malformed := m1 + m2 } })

/-! ### ADAPTER_APPLY (R184, R185) -/

/-- The checks of the operation block. -/
def adapterChecks (ob : Bytes) : List (Bool × Err) :=
  let mode := field ob 58 1
  let rank := field ob 56 2
  [(1 < mode, obField 58), ((field ob 40 8 == 0) == (mode == 1), obRange 40),
   (field ob 48 4 = 0 || 1048576 < field ob 48 4, obRange 48), (field ob 52 4 = 0 || 1048576 < field ob 52 4, obRange 52),
   (if mode = 1 then rank == 0 || decide (1024 < rank) else rank != 0, obRange 56), (field ob 59 1 != 0, obField 59),
   (!Fp.finite (Fp.of32 (field ob 60 4)), obRange 60)]

/-- A row of a factor: the positions from RANK on are zero, whatever they hold (R185). -/
def maskRow (rank : Nat) (row : List DotBlock) : List DotBlock :=
  (row.zip (List.range row.length)).map fun p =>
    { p.1 with values := (p.1.values.zip (List.range 64)).map fun v => if 64 * p.2 + v.2 < rank then v.1 else Fp.zero }

/-- The products p of MODE 1, row-major. -/
def lowRank (rows cols per rank : Nat) (b a : List DotBlock) : List Fl :=
  let br := (chunksOf per rows b).map (maskRow rank)
  let ar := (chunksOf per cols a).map (maskRow rank)
  br.flatMap fun x => ar.map fun y => dotLane x y

/-- An ADAPTER_APPLY whose fields have been checked (R184); AT is present in MODE 1 only. -/
structure AdapterCmd where
  base : Desc
  dst : Desc
  delta : Desc
  ats : List Desc
  rows : Nat
  cols : Nat
  rank : Nat
  alpha : Fl
  deriving DecidableEq, Repr, Inhabited

/-- The checks of an ADAPTER_APPLY (R163, R165, R184, R189). -/
def State.adapting (s : State) (x : XCmd) : Except Err AdapterCmd := do
  check (adapterChecks x.ob)
  let rows := field x.ob 48 4
  let cols := field x.ob 52 4
  let rank := field x.ob 56 2
  let low := field x.ob 58 1 == 1
  let per := ceilDiv rank 64
  let base ← x.desc 16
  let dst ← x.desc 24
  let delta ← x.desc 32
  let ats ← if low then (do
    let d ← x.desc 40
    pure [d]) else pure []
  check [(base.elements != rows * cols, descRange 16 32), (dst.elements != rows * cols, descRange 24 32),
    (dst.residual != 0, descRange 24 24),
    (delta.elements != (if low then rows * (64 * per) else rows * cols), descRange 32 32),
    (ats.any fun d => d.elements != cols * (64 * per), descRange 40 32)]
  x.noOverlap ([base, delta] ++ ats) [dst.ranges]
  s.needFull ([base, dst, delta] ++ ats)
  pure { base := base, dst := dst, delta := delta, ats := ats, rows := rows, cols := cols, rank := rank
         alpha := Fp.of32 (field x.ob 60 4) }

/-- What ALPHA multiplies, row-major, and the malformed blocks met: DELTA, or the products of the factors (R185). -/
def XCmd.deltas (x : XCmd) (k : AdapterCmd) : Except Err (List Fl × Nat) :=
  match k.ats with
  | [] => do
    let dl ← loadTensor x.rd k.delta
    pure (dl.values, dl.malformed)
  | d :: _ => do
    let (bb, m1) ← loadDot x.rd k.delta
    let (ab, m2) ← loadDot x.rd d
    pure (lowRank k.rows k.cols (ceilDiv k.rank 64) k.rank bb ab, m1 + m2)

/-- The tuned weights: fma(ALPHA, delta, base) (R185). -/
def AdapterCmd.tuned (k : AdapterCmd) (ps base : List Fl) : List Fl :=
  (ps.zip base).map fun p => Fp.fma32 k.alpha p.1 p.2

/-- ADAPTER_APPLY (R184, R185). -/
def execAdapterApply (id : Nat) (s : State) : Result :=
  s.transformCmd id 0x1040 fun c x => do
    let k ← s.adapting x
    let bl ← loadTensor x.rd k.base
    let (ps, mal) ← x.deltas k
    let (t, used, n) ← s.storeTensor c.cabinet k.dst x.pol x.rnd (k.tuned ps bl.values)
    pure (t, { counts := { n with malformed := bl.malformed + mal }, lanes := if k.ats.isEmpty then 0 else 1, heapUsed := used })

end Sys2Proof.Machine
end

