-- ==== Sys2Proof/Machine/Drevy.lean ====
section
/-! DEFINITION. The units of a Drevy core (R201 to R218, R222 to R225): ports, in-flight results and ready marks (R203,
R221), what each trigger computes, windows and protection regions (R223, R233), traps (R224, R239). -/

namespace Sys2Proof.Machine

/-! ### Ports -/

/-- Port id of a port of a unit (R196). -/
def portId (u p : Nat) : Nat := 32 * u + p

/-- Whether a core is a control core. -/
def Core.isControl (c : Core) : Bool := 64 ≤ c.id

/-- The value stored at a port, 0 while nothing has been written. -/
def Core.port (c : Core) (u p : Nat) : W32 := lookupD c.ports (portId u p) 0

/-- The core with a port's value replaced. -/
def Core.setPort (c : Core) (u p : Nat) (v : W32) : Core := { c with ports := putKey c.ports (portId u p) v }

/-- A core of the chip. -/
def State.core? (s : State) (i : Nat) : Option Core := s.cores.cores.find? fun c => c.id == i

/-- The state with a core replaced. -/
def State.setCore (s : State) (c : Core) : State :=
  { s with cores := { s.cores with cores := updWhere (fun x => x.id == c.id) (fun _ => c) s.cores.cores } }

/-! ### Results on their way -/

/-- Latency of a trigger in words (R201). -/
def latencyOf (u p : Nat) : Nat :=
  if u = 6 || u = 8 || u = 9 || u = 16 || u = 18 then 2
  else if u = 7 then (if p = 28 || p = 29 then 10 else 3)
  else if u = 10 then 4
  else if u = 13 then 3
  else 1

/-- Interval after a trigger in words (R201): FDIV and FSQRT keep the FPU for ten. -/
def intervalOf (u p : Nat) : Nat := if u = 7 && (p = 28 || p = 29) then 10 else 1

/-- The word from which a unit may be triggered again (D2). -/
def Core.busyUntil (c : Core) (u p : Nat) : Core := { c with lastTrigger := putKey c.lastTrigger u (c.words + intervalOf u p) }

/-- A trigger's result is on its way (R203); with no earlier trigger of the unit in flight, the ready mark of its port
clears (R221). -/
def Core.launchRes (c : Core) (u trig port : Nat) (v : W32) : Core :=
  let idle := !(c.inFlight.any fun f => f.unitId == u)
  { c with
    inFlight := c.inFlight ++ [{ unitId := u, port := portId u port, value := v, readyAt := c.words + latencyOf u trig }]
    notReady := if idle && !c.notReady.contains (portId u port) then c.notReady ++ [portId u port] else c.notReady }

/-- The results whose latency has elapsed reach their ports, and their marks are set (R203, R221). -/
def Core.landResults (c : Core) : Core :=
  let due := c.inFlight.filter fun f => f.readyAt ≤ c.words
  { c with
    inFlight := c.inFlight.filter fun f => c.words < f.readyAt
    ports := due.foldl (fun ps f => putKey ps f.port f.value) c.ports
    notReady := c.notReady.filter fun p => !(due.any fun f => f.port == p) }

/-! ### Integer, multiply, floating point (R204 to R206) -/

/-- An integer ALU result. -/
def aluOp (p : Nat) (o t : W32) : W32 :=
  let k := t.toNat % 32
  if p = 16 then o + t else if p = 17 then o - t else if p = 18 then o &&& t else if p = 19 then o ||| t
  else if p = 20 then o ^^^ t else if p = 21 then o <<< k else if p = 22 then o >>> k else if p = 23 then o.sshiftRight k
  else if p = 24 then (if o = t then 1 else 0) else if p = 25 then (if o = t then 0 else 1)
  else if p = 26 then (if o.slt t then 1 else 0) else if p = 27 then (if o.ult t then 1 else 0)
  else if p = 28 then (if o.slt t then o else t) else if p = 29 then (if o.slt t then t else o)
  else if p = 30 then (if 2 ^ 32 ≤ o.toNat + t.toNat then 1 else 0) else t

/-- A multiply result. -/
def mulOp (p : Nat) (o t : W32) : W32 :=
  if p = 16 then o * t
  else if p = 17 then BitVec.ofInt 32 (o.toInt * t.toInt / 2 ^ 32)
  else BitVec.ofNat 32 (o.toNat * t.toNat / 2 ^ 32)

/-- An FP32 value of a word. -/
def fl (w : W32) : Fl := Fp.of32 w.toNat
/-- The word of an FP32 value. -/
def wf (x : Fl) : W32 := BitVec.ofNat 32 (Fp.to32 x)

/-- The smaller of two values: the other when one is NaN, −0 below +0 (R206). -/
def fmin (x y : Fl) : Fl :=
  if Fp.isNan x then y else if Fp.isNan y then x
  else if Fp.lt x y || (Fp.isZero x && Fp.isZero y && Fp.negative x) then x else y

/-- The larger of two values. -/
def fmax (x y : Fl) : Fl :=
  if Fp.isNan x then y else if Fp.isNan y then x
  else if Fp.lt y x || (Fp.isZero x && Fp.isZero y && Fp.negative y) then x else y

/-- A value to a signed 32-bit integer: RNE, saturating, NaN giving 0 (R206). -/
def f2i (x : Fl) : W32 :=
  match x with
  | .nan => 0
  | .inf a => if a then 0x80000000 else 0x7FFFFFFF
  | .fin a m e =>
    let n := if 0 ≤ e then Fp.shl m e else Fp.nearest m (-e).toNat false
    if a then BitVec.ofInt 32 (-((min n (2 ^ 31) : Nat) : Int)) else BitVec.ofNat 32 (min n (2 ^ 31 - 1))

/-- A scalar FP32 result: trigger port, operands, trigger value (R206). -/
def fpuOp (p : Nat) (o0 o1 t : W32) : W32 :=
  let x := fl o0
  let y := fl t
  if p = 16 then wf (Fp.add32 x y) else if p = 17 then wf (Fp.sub32 x y) else if p = 18 then wf (Fp.mul32 x y)
  else if p = 19 then wf (Fp.fma32 x (fl o1) y) else if p = 20 then wf (fmin x y) else if p = 21 then wf (fmax x y)
  else if p = 22 then (if Fp.lt x y then 1 else 0) else if p = 23 then (if Fp.eq x y then 1 else 0)
  else if p = 24 then wf (Fp.int fp32 t.toInt) else if p = 25 then f2i y
  else if p = 26 then BitVec.ofNat 32 (Fp.to16 (Fp.toFormat bf16 y))
  else if p = 27 then wf (Fp.of16 (t.toNat % 65536)) else if p = 28 then wf (Fp.div32 x y) else wf (Fp.sqrt32 y)

/-! ### What a trigger does -/

/-- The outcome of a trigger: its effect, a trap with cause and value, or a stall of the core. -/
inductive Issue where
  | ok (s : State) (c : Core)
  | trap (cause value : Nat)
  | stall (kind : Nat)

/-- Base device address of a core's memory: a tile's SRAM, or a control core's local memory (R144, R241). -/
def Core.memBase (c : Core) : Nat := if c.isControl then controlBase + (c.id - 64) * 0x40000 else c.id * 0x100000

/-- The runs of tile SRAM that an instance may load from and store to (R233): (offset, length). -/
def KernelWin.windows (k : KernelWin) : List (Nat × Nat) :=
  [(0, k.xLen), (0x60000, k.yLen), (0xC0000 + k.codeLen, k.dataLen + k.bssLen + 4096 + k.stackLen)]

/-- Whether an access lies in the windows of the instance. -/
def Core.windowOk (c : Core) (a n : Nat) : Bool :=
  match c.kernel with
  | none => false
  | some k => k.windows.any fun w => w.1 ≤ a && a + n ≤ w.1 + w.2

/-- The region that decides an address: the lowest-numbered enabled one that covers it (R223). -/
def Core.regionOf (c : Core) (a : Nat) : Option Region :=
  c.regions.find? fun r => (r.r || r.w || r.x) && r.base.toNat ≤ a / 4096 && a / 4096 ≤ r.limit.toNat

/-- Whether a control core may make an access: 0 fetch, 1 load, 2 store (R223). -/
def Core.mpuOk (c : Core) (a kind : Nat) : Bool :=
  c.monitor ||
  (match c.regionOf a with
   | none => false
   | some r => if kind = 0 then r.x else if kind = 1 then r.r else r.w)

/-- The device address of a load or store of n bytes, or the trap that it causes: ALIGN, WINDOW, MPU (R208, R222, R223,
R233, R239). -/
def Core.address (c : Core) (a n kind : Nat) : Except (Nat × Nat) Nat :=
  if a % n != 0 then .error (3, a)
  else if c.isControl then
    if !(a < 0x40000) && a < 0x80000000 then .error (2, a)
    else if !c.mpuOk a kind then .error (6, a)
    else if a < 0x40000 then .ok (c.memBase + a)
    else .ok (c.winBase.toNat + (a - 0x80000000))
  else if c.windowOk a n then .ok (c.memBase + a)
  else .error (2, a)

/-- Width in bytes of a load or store (R207); 0 for the reserved code. -/
def widthOf (t : W32) : Nat := [4, 2, 1, 0].getD (bits t.toNat 29 28) 0

/-- Address, and the pointer after it, of a memory trigger's form (R208): pointers wrap at 2^20 in a tile and at 2^32 in a
control core. -/
def Core.form (c : Core) (u p : Nat) (t : W32) : Nat × Option (Nat × W32) :=
  let w := if c.isControl then 2 ^ 32 else 2 ^ 20
  let n := bits t.toNat 31 30
  let off := bits t.toNat 19 0
  let ptr := (c.port u (4 + n)).toNat
  let stride := (c.port u (8 + n)).toNat
  let k := p / 2 * 2
  if k = 16 then (off, none)
  else if k = 18 then (ptr % w, some (n, BitVec.ofNat 32 ((ptr + stride) % w)))
  else if k = 20 then
    let a := (ptr + 2 ^ 32 - stride) % w
    (a, some (n, BitVec.ofNat 32 a))
  else ((ptr + off * 2 ^ bits t.toNat 27 26) % w, none)

/-- A pointer form's new pointer takes effect. -/
def Core.movePtr (c : Core) (u : Nat) : Option (Nat × W32) → Core
  | none => c
  | some (n, v) => c.setPort u (4 + n) v

/-- A control core that loads from the device window stalls until the data returns (R201). -/
def Core.awaitLoad (c : Core) (a : Nat) : Core := if c.isControl && 0x80000000 ≤ a then { c with loadWait := true } else c

/-- A load or store of LX, LY or LS (R207, R208, R222). -/
def State.memTrigger (s : State) (c : Core) (u p : Nat) (t : W32) : Issue :=
  let n := widthOf t
  if n = 0 || bits t.toNat 25 20 != 0 then .trap 1 c.pc else
  let (a, ptr) := c.form u p t
  let store := p % 2 == 1
  match c.address a n (if store then 2 else 1) with
  | .error (cause, v) => .trap cause v
  | .ok d =>
    if store then
      let bs := toLe n (c.port u 0).toNat
      if s.populated d then .ok (s.store d bs) (c.movePtr u ptr)
      else .ok (s.note 16 0x02 d (0x2000 + (c.id - 64)) 1) (c.movePtr u ptr)
    else if !s.populated d then
      .ok (s.drawn.note 16 0x02 d (0x2000 + (c.id - 64)) 0)
        (((c.launchRes u p 1 (BitVec.ofNat 32 (s.freeValue % 2 ^ (8 * n)))).movePtr u ptr).awaitLoad a)
    else match s.badUnit d n with
      | some x => .trap 9 x
      | none => .ok s (((c.launchRes u p 1 (BitVec.ofNat 32 (s.readNat d n))).movePtr u ptr).awaitLoad a)

/-- The accumulator that a MAC trigger adds to: the last result on its way, or what the port holds (R211). -/
def Core.accOf (c : Core) (n : Nat) : W32 :=
  match (c.inFlight.filter fun f => f.port == portId 10 (4 + n)).getLast? with
  | some f => f.value
  | none => c.port 10 (4 + n)

/-- The combination of two words into an accumulator (R210). -/
def macOp (mode : Nat) (acc a b : W32) : W32 :=
  if mode = 0 then wf (Fp.fma32 (fl a) (fl b) (fl acc))
  else if mode = 1 then
    let h := fun (w : W32) (i : Nat) => Fp.of16 (bits w.toNat (16 * i + 15) (16 * i))
    let p := Fp.addExact (Fp.mulExact (h a 0) (h b 0)) (Fp.mulExact (h a 1) (h b 1))
    wf (Fp.add32 (fl acc) p)
  else
    let b8 := fun (w : W32) (i : Nat) => signed 8 (bits w.toNat (8 * i + 7) (8 * i))
    BitVec.ofInt 32 (acc.toInt + b8 a 0 * b8 b 0 + b8 a 1 * b8 b 1 + b8 a 2 * b8 b 2 + b8 a 3 * b8 b 3)

/-- Whether a MAC pointer lies in its bank window (R210, R211). -/
def Core.bankOk (c : Core) (base a : Nat) : Bool :=
  match c.kernel with
  | none => false
  | some k => base ≤ a && a + 4 ≤ base + (if base = 0 then k.xLen else k.yLen)

/-- MAC (R210, R211). -/
def State.macTrigger (s : State) (c : Core) (t : W32) : Issue :=
  let n := bits t.toNat 1 0
  let mode := bits t.toNat 3 2
  let px := (c.port 10 0).toNat
  let py := (c.port 10 1).toNat
  if mode = 3 || bits t.toNat 31 5 != 0 then .trap 1 c.pc
  else if px % 4 != 0 then .trap 3 px
  else if py % 4 != 0 then .trap 3 py
  else if !c.bankOk 0 px then .trap 4 px
  else if !c.bankOk 0x60000 py then .trap 4 py
  else match s.badUnit (c.memBase + px) 4, s.badUnit (c.memBase + py) 4 with
    | some x, _ => .trap 9 x
    | none, some x => .trap 9 x
    | none, none =>
      let a := BitVec.ofNat 32 (s.readNat (c.memBase + px) 4)
      let b := BitVec.ofNat 32 (s.readNat (c.memBase + py) 4)
      let acc := if bit t.toNat 4 then 0 else c.accOf n
      let c1 := c.launchRes 10 16 (4 + n) (macOp mode acc a b)
      .ok s ((c1.setPort 10 0 (c.port 10 0 + c.port 10 2)).setPort 10 1 (c.port 10 1 + c.port 10 3))

/-- VEC (R212): an operation joins the outstanding ones; a fifth stalls the core, and so does VWAIT while any is
outstanding. -/
def State.vecTrigger (s : State) (c : Core) (p : Nat) : Issue :=
  let a := (c.port 11 0).toNat
  let b := (c.port 11 1).toNat
  let d := (c.port 11 2).toNat
  let n := (c.port 11 3).toNat
  if p = 20 then .ok s (if c.vecOps.isEmpty then c else { c with stall := 1 })
  else if n = 0 || 65536 < n || n % 256 != 0 then .trap 3 n
  else if a % 1024 != 0 then .trap 3 a
  else if b % 1024 != 0 then .trap 3 b
  else if d % 1024 != 0 then .trap 3 d
  else if !c.windowOk a (4 * n) then .trap 2 a
  else if !c.windowOk b (4 * n) then .trap 2 b
  else if !c.windowOk d (4 * n) then .trap 2 d
  else if 4 ≤ c.vecOps.length then .stall 3
  else .ok s { c with vecOps := c.vecOps ++ [{ op := p, srcA := a, srcB := b, dst := d, count := n }] }

/-- Whether a kernel DMA's local range is open to the core. -/
def Core.dmaLocalOk (c : Core) (a n : Nat) : Bool := if c.isControl then a + n ≤ 0x40000 else c.windowOk a n

/-- DMA (R213): a transfer joins the outstanding ones; a seventeenth stalls the core, and so does WAIT while any is
outstanding. -/
def State.dmaTrigger (s : State) (c : Core) (p : Nat) (t : W32) : Issue :=
  let len := (c.port 12 0).toNat
  let rem := (c.port 12 2).toNat * 2 ^ 32 + (c.port 12 1).toNat
  if p = 18 then .ok s (if c.dmaOps.isEmpty then c else { c with stall := 2 })
  else if len < 4 || 65536 < len || len % 4 != 0 then .trap 3 len
  else if t.toNat % 4 != 0 then .trap 3 t.toNat
  else if rem % 4 != 0 then .trap 3 t.toNat
  else if !c.dmaLocalOk t.toNat len then .trap 2 t.toNat
  else if 16 ≤ c.dmaOps.length then .stall 4
  else .ok s { c with dmaOps := c.dmaOps ++ [{ put := p == 17, len := len, remote := rem, offset := t.toNat }] }

/-- BR (R217): a jump takes effect after two delay words; CALL sets LINK to the word after them; HALT stalls the core until
nothing is outstanding. -/
def Core.branch (c : Core) (p : Nat) (t : W32) : Core :=
  if p = 16 then { c with jump := some (t.toNat, 2) }
  else if p = 17 then { c.launchRes 13 17 0 (BitVec.ofNat 32 (c.pc + 3)) with jump := some (t.toNat, 2) }
  else if p = 18 then { c with jump := some ((c.port 13 0).toNat, 2) }
  else { c with stall := 5 }

/-- SYNC (R225): a signal is applied; a read's half or error flag is on its way, a free value where the handle names no
object. -/
def State.syncTrigger (s : State) (c : Core) (p : Nat) (t : W32) : Issue :=
  let h := (c.port 18 0).toNat
  let v := (c.port 18 2).toNat * 2 ^ 32 + (c.port 18 1).toNat
  if p = 16 then .ok (s.signalHandle h t.toNat (BitVec.ofNat 64 v)) c
  else match if handleKind h = 1 then s.sync? (handleCabinet h) (handleIndex h) else none with
    | none => .ok s.drawn (c.launchRes 18 p 3 (BitVec.ofNat 32 s.freeValue))
    | some o =>
      let r := if p = 17 then o.value.toNat else if p = 18 then o.value.toNat / 2 ^ 32 else b2n o.err
      .ok s (c.launchRes 18 p 3 (BitVec.ofNat 32 r))

/-- PRIV's triggers (R224): RFT returns to component level after two delay words; SVC traps at component level. -/
def Core.priv (c : Core) (p : Nat) (t : W32) : Except (Nat × Nat) Core :=
  if p = 16 then
    if c.monitor then .ok { c with jump := some (c.trapWord.toNat + 1, 2), returning := true } else .error (7, t.toNat)
  else if c.monitor then .ok c
  else .error (8, t.toNat)

/-- A trigger of a unit, with the operands the core holds (R196, R200). -/
def State.trigger (s : State) (c : Core) (u p : Nat) (t : W32) : Issue :=
  if u = 4 || u = 5 then .ok s (c.launchRes u p 1 (aluOp p (c.port u 0) t))
  else if u = 6 then .ok s (c.launchRes u p 1 (mulOp p (c.port u 0) t))
  else if u = 7 then .ok s (c.launchRes u p 2 (fpuOp p (c.port u 0) (c.port u 1) t))
  else if u = 8 || u = 9 || u = 16 then s.memTrigger c u p t
  else if u = 10 then s.macTrigger c t
  else if u = 11 then s.vecTrigger c p
  else if u = 12 then s.dmaTrigger c p t
  else if u = 13 then .ok s (c.branch p t)
  else if u = 17 then
    match c.priv p t with
    | .ok c' => .ok s c'
    | .error (cause, v) => .trap cause v
  else s.syncTrigger c p t

/-- Whether a core has a unit (R201). -/
def Core.hasUnit (c : Core) (u : Nat) : Bool :=
  u < 8 || (12 ≤ u && u ≤ 15) || (!c.isControl && 8 ≤ u && u ≤ 11) || (c.isControl && 16 ≤ u && u ≤ 18)

/-- Whether a trigger port of a unit is defined (R204 to R225). -/
def triggerDefined (u p : Nat) : Bool :=
  16 ≤ p && (
    if u = 4 || u = 5 then decide (p ≤ 31) else if u = 6 then decide (p ≤ 18)
    else if u = 7 then p ≤ 23 || (24 ≤ p && p ≤ 29)
    else if u = 8 || u = 9 || u = 16 then decide (p ≤ 23) else if u = 10 then p == 16 else if u = 11 then decide (p ≤ 20)
    else if u = 12 then decide (p ≤ 18) else if u = 13 then decide (p ≤ 19) else if u = 17 then decide (p ≤ 17)
    else if u = 18 then decide (p ≤ 19) else false)

/-! ### Traps and the end of an instance -/

/-- Offset of the parameter copy in the window (R233). -/
def KernelWin.paramsAt (k : KernelWin) : Nat := 0xC0000 + k.codeLen + k.dataLen + k.bssLen

/-- A tile core without an instance. -/
def Core.freed (c : Core) : Core :=
  { c with running := false, kernel := none, stall := 0, inFlight := [], notReady := [], lastTrigger := [], vecOps := []
           dmaOps := [], jump := none, returning := false, words := 0 }

/-- DETAIL in trap form (R239). -/
def trapDetail (cause inst off : Nat) : Nat := 0x80 * 2 ^ 56 + cause * 2 ^ 48 + inst * 2 ^ 32 + off % 2 ^ 20

/-- The status of a trap (R238). -/
def trapStatus (cause : Nat) : Nat :=
  if cause = 1 then stFirmwareFault else if cause = 5 then stDiscardedReset else if cause = 9 then stEccUncorrectable
  else stAccessFault

/-- Whether any instance of a launch still runs. -/
def State.launchRuns (s : State) (id : Nat) : Bool :=
  s.cores.cores.any fun c => match c.kernel with
    | some k => k.ctx == id
    | none => false

/-- The outcome of the lowest-numbered instance among those that trapped or were stopped (R238). -/
def lowestTrap : List (Nat × Nat × Nat) → Option (Nat × Nat × Nat)
  | [] => none
  | x :: r =>
    match lowestTrap r with
    | none => some x
    | some y => if y.1 < x.1 then some y else some x

/-- A launch ends when every instance has halted, or when none runs after a trap or stop (R187, R238). -/
def State.endLaunch (s : State) (id : Nat) : State :=
  match s.ctx? id with
  | none => s
  | some c =>
    if s.launchRuns id then s else
    let ob := match c.captured with
      | p :: _ => p.2
      | [] => []
    match lowestTrap c.traps with
    | some (_, st, d) => s.finish id st d []
    | none => if c.progress = field ob 36 4 then s.finish id stOk c.progress (zeros 32) else s

/-- An instance ends; with a trap or stop, it is recorded and no further one starts (R238). -/
def State.endInstance (s : State) (c : Core) (outcome : Option (Nat × Nat)) : State :=
  match c.kernel with
  | none => s.setCore c.freed
  | some k =>
    let s1 := (s.setCore c.freed).updCtx k.ctx fun x =>
      match outcome with
      | none => { x with progress := x.progress + 1, lastProgress := s.now }
      | some (st, d) => { x with traps := x.traps ++ [(k.instNum, st, d)] }
    s1.endLaunch k.ctx

/-- A core traps (R220, R224, R238): an instance ends; a control core enters monitor level at VECTOR. -/
def State.trapCore (s : State) (c : Core) (cause value : Nat) : State :=
  if c.isControl then
    let s1 := if cause = 8 then s else s.bump 0x2403 0 1
    s1.setCore { c with
      monitor := true, cause := cause, trapWord := BitVec.ofNat 32 c.pc, trapValue := BitVec.ofNat 32 value
      pc := c.vector.toNat / 16 * 16, jump := none, returning := false, words := c.words + 1 }
  else
    match c.kernel with
    | none => s
    | some k =>
      let s1 := s.bump 0x2402 1 1
      let s2 := if cause = 1 then s1.note (c.id / 16) 0x0B 0 (0x1000 + c.id) 4
        else if cause = 9 then s1.reportUe value (0x1000 + c.id) else s1
      let off := if cause = 9 then value - c.memBase else value
      s2.endInstance c (some (trapStatus cause, trapDetail cause k.instNum off))

/-- A halted core with nothing outstanding stops: its instance ends (R217). -/
def State.tryHalt (s : State) (c : Core) : State :=
  if c.stall = 5 && !c.loadWait && c.vecOps.isEmpty && c.dmaOps.isEmpty then
    (if c.isControl then s.setCore { c with running := false, stall := 0 } else s.endInstance c none)
  else s.setCore c

/-! ### A trigger as an event of its own -/

/-- Whether a core executes: it runs, and neither a stall nor the hardware safe state nor a sleep holds it. -/
def State.executes (s : State) (c : Core) : Bool :=
  !s.faults.safe && s.e 0x2E05 0 ≤ 1 && c.running && c.stall == 0 && !c.loadWait && (c.isControl || c.kernel.isSome)

/-- A trigger takes effect on a core that executes; a core without the unit has no such trigger. -/
def State.onTrigger (s : State) (core u p : Nat) (t : W32) : Result :=
  match s.core? core with
  | none => .fault .noSuchUnit
  | some c =>
    if !c.hasUnit u then .fault .noSuchUnit
    else if !s.executes c then s.idle
    else
      match s.trigger c u p t with
      | .ok s' c' => s.commit (s'.tryHalt (c'.busyUntil u p))
      | .trap cause v => s.commit (s.trapCore c cause v)
      | .stall k => s.quiet (s.setCore { c with stall := k })

/-- DEVICE_WINDOW_LOAD_RETURN (R201): the stall of a control core's load from the device window ends. -/
def execDeviceWindowLoadReturn (core : Nat) (s : State) : Result :=
  match s.core? core with
  | none => .fault .noSuchUnit
  | some c =>
    if !c.isControl then .fault .noSuchUnit
    else if s.faults.safe || !c.loadWait then s.idle
    else s.quiet (s.tryHalt { c with loadWait := false })

/-- ADD (R204). -/
def execAddTrigger (core alu : Nat) (t : W32) (s : State) : Result := if 2 ≤ alu then .fault .noSuchUnit else s.onTrigger core (4 + alu) 16 t
/-- SUB (R204). -/
def execSub (core alu : Nat) (t : W32) (s : State) : Result := if 2 ≤ alu then .fault .noSuchUnit else s.onTrigger core (4 + alu) 17 t
/-- AND (R204). -/
def execAnd (core alu : Nat) (t : W32) (s : State) : Result := if 2 ≤ alu then .fault .noSuchUnit else s.onTrigger core (4 + alu) 18 t
/-- OR (R204). -/
def execOrTrigger (core alu : Nat) (t : W32) (s : State) : Result := if 2 ≤ alu then .fault .noSuchUnit else s.onTrigger core (4 + alu) 19 t
/-- XOR (R204). -/
def execXor (core alu : Nat) (t : W32) (s : State) : Result := if 2 ≤ alu then .fault .noSuchUnit else s.onTrigger core (4 + alu) 20 t
/-- SHL (R204). -/
def execShl (core alu : Nat) (t : W32) (s : State) : Result := if 2 ≤ alu then .fault .noSuchUnit else s.onTrigger core (4 + alu) 21 t
/-- SHR (R204). -/
def execShr (core alu : Nat) (t : W32) (s : State) : Result := if 2 ≤ alu then .fault .noSuchUnit else s.onTrigger core (4 + alu) 22 t
/-- SAR (R204). -/
def execSar (core alu : Nat) (t : W32) (s : State) : Result := if 2 ≤ alu then .fault .noSuchUnit else s.onTrigger core (4 + alu) 23 t
/-- EQ (R204). -/
def execEq (core alu : Nat) (t : W32) (s : State) : Result := if 2 ≤ alu then .fault .noSuchUnit else s.onTrigger core (4 + alu) 24 t
/-- NE (R204). -/
def execNe (core alu : Nat) (t : W32) (s : State) : Result := if 2 ≤ alu then .fault .noSuchUnit else s.onTrigger core (4 + alu) 25 t
/-- LTS (R204). -/
def execLts (core alu : Nat) (t : W32) (s : State) : Result := if 2 ≤ alu then .fault .noSuchUnit else s.onTrigger core (4 + alu) 26 t
/-- LTU (R204). -/
def execLtu (core alu : Nat) (t : W32) (s : State) : Result := if 2 ≤ alu then .fault .noSuchUnit else s.onTrigger core (4 + alu) 27 t
/-- MINS (R204). -/
def execMins (core alu : Nat) (t : W32) (s : State) : Result := if 2 ≤ alu then .fault .noSuchUnit else s.onTrigger core (4 + alu) 28 t
/-- MAXS (R204). -/
def execMaxs (core alu : Nat) (t : W32) (s : State) : Result := if 2 ≤ alu then .fault .noSuchUnit else s.onTrigger core (4 + alu) 29 t
/-- CARRY (R204). -/
def execCarry (core alu : Nat) (t : W32) (s : State) : Result := if 2 ≤ alu then .fault .noSuchUnit else s.onTrigger core (4 + alu) 30 t
/-- PASS (R204). -/
def execPass (core alu : Nat) (t : W32) (s : State) : Result := if 2 ≤ alu then .fault .noSuchUnit else s.onTrigger core (4 + alu) 31 t

/-- MULLO (R205). -/
def execMullo (core : Nat) (t : W32) (s : State) : Result := s.onTrigger core 6 16 t
/-- MULHS (R205). -/
def execMulhs (core : Nat) (t : W32) (s : State) : Result := s.onTrigger core 6 17 t
/-- MULHU (R205). -/
def execMulhu (core : Nat) (t : W32) (s : State) : Result := s.onTrigger core 6 18 t

/-- FADD (R206). -/
def execFadd (core : Nat) (t : W32) (s : State) : Result := s.onTrigger core 7 16 t
/-- FSUB (R206). -/
def execFsub (core : Nat) (t : W32) (s : State) : Result := s.onTrigger core 7 17 t
/-- FMUL (R206). -/
def execFmul (core : Nat) (t : W32) (s : State) : Result := s.onTrigger core 7 18 t
/-- FFMA (R206). -/
def execFfma (core : Nat) (t : W32) (s : State) : Result := s.onTrigger core 7 19 t
/-- FMIN (R206). -/
def execFmin (core : Nat) (t : W32) (s : State) : Result := s.onTrigger core 7 20 t
/-- FMAX (R206). -/
def execFmax (core : Nat) (t : W32) (s : State) : Result := s.onTrigger core 7 21 t
/-- FLT (R206). -/
def execFlt (core : Nat) (t : W32) (s : State) : Result := s.onTrigger core 7 22 t
/-- FEQ (R206). -/
def execFeq (core : Nat) (t : W32) (s : State) : Result := s.onTrigger core 7 23 t
/-- I2F (R206). -/
def execI2f (core : Nat) (t : W32) (s : State) : Result := s.onTrigger core 7 24 t
/-- F2I (R206). -/
def execF2i (core : Nat) (t : W32) (s : State) : Result := s.onTrigger core 7 25 t
/-- F2BF (R206). -/
def execF2bf (core : Nat) (t : W32) (s : State) : Result := s.onTrigger core 7 26 t
/-- BF2F (R206). -/
def execBf2f (core : Nat) (t : W32) (s : State) : Result := s.onTrigger core 7 27 t
/-- FDIV (R206). -/
def execFdiv (core : Nat) (t : W32) (s : State) : Result := s.onTrigger core 7 28 t
/-- FSQRT (R206). -/
def execFsqrt (core : Nat) (t : W32) (s : State) : Result := s.onTrigger core 7 29 t

/-- LD (R208). -/
def execLd (core bank : Nat) (t : W32) (s : State) : Result := if 2 ≤ bank then .fault .noSuchUnit else s.onTrigger core (8 + bank) 16 t
/-- ST (R208). -/
def execSt (core bank : Nat) (t : W32) (s : State) : Result := if 2 ≤ bank then .fault .noSuchUnit else s.onTrigger core (8 + bank) 17 t
/-- LDPI (R208). -/
def execLdpi (core bank : Nat) (t : W32) (s : State) : Result := if 2 ≤ bank then .fault .noSuchUnit else s.onTrigger core (8 + bank) 18 t
/-- STPI (R208). -/
def execStpi (core bank : Nat) (t : W32) (s : State) : Result := if 2 ≤ bank then .fault .noSuchUnit else s.onTrigger core (8 + bank) 19 t
/-- LDPD (R208). -/
def execLdpd (core bank : Nat) (t : W32) (s : State) : Result := if 2 ≤ bank then .fault .noSuchUnit else s.onTrigger core (8 + bank) 20 t
/-- STPD (R208). -/
def execStpd (core bank : Nat) (t : W32) (s : State) : Result := if 2 ≤ bank then .fault .noSuchUnit else s.onTrigger core (8 + bank) 21 t
/-- LDX (R208). -/
def execLdx (core bank : Nat) (t : W32) (s : State) : Result := if 2 ≤ bank then .fault .noSuchUnit else s.onTrigger core (8 + bank) 22 t
/-- STX (R208). -/
def execStx (core bank : Nat) (t : W32) (s : State) : Result := if 2 ≤ bank then .fault .noSuchUnit else s.onTrigger core (8 + bank) 23 t

/-- MAC (R210). -/
def execMac (core : Nat) (t : W32) (s : State) : Result := s.onTrigger core 10 16 t

/-- VADD (R212). -/
def execVadd (core : Nat) (t : W32) (s : State) : Result := s.onTrigger core 11 16 t
/-- VMUL (R212). -/
def execVmul (core : Nat) (t : W32) (s : State) : Result := s.onTrigger core 11 17 t
/-- VMAX (R212). -/
def execVmax (core : Nat) (t : W32) (s : State) : Result := s.onTrigger core 11 18 t
/-- VFMA (R212). -/
def execVfma (core : Nat) (t : W32) (s : State) : Result := s.onTrigger core 11 19 t
/-- VWAIT (R212). -/
def execVwait (core : Nat) (t : W32) (s : State) : Result := s.onTrigger core 11 20 t

/-- GET (R213). -/
def execDmaGet (core : Nat) (t : W32) (s : State) : Result := s.onTrigger core 12 16 t
/-- PUT (R213). -/
def execDmaPut (core : Nat) (t : W32) (s : State) : Result := s.onTrigger core 12 17 t
/-- WAIT (R213). -/
def execDmaWait (core : Nat) (t : W32) (s : State) : Result := s.onTrigger core 12 18 t

/-- JMP (R217). -/
def execJmp (core : Nat) (t : W32) (s : State) : Result := s.onTrigger core 13 16 t
/-- CALL (R217). -/
def execCall (core : Nat) (t : W32) (s : State) : Result := s.onTrigger core 13 17 t
/-- RET (R217). -/
def execRet (core : Nat) (t : W32) (s : State) : Result := s.onTrigger core 13 18 t
/-- HALT (R217). -/
def execHalt (core : Nat) (t : W32) (s : State) : Result := s.onTrigger core 13 19 t

/-- RFT (R224). -/
def execRft (core : Nat) (t : W32) (s : State) : Result := s.onTrigger core 17 16 t
/-- SVC (R224). -/
def execSvc (core : Nat) (t : W32) (s : State) : Result := s.onTrigger core 17 17 t

/-- SIGNAL (R225). -/
def execSyncSignal (core : Nat) (t : W32) (s : State) : Result := s.onTrigger core 18 16 t
/-- READ_LO (R225). -/
def execReadLo (core : Nat) (t : W32) (s : State) : Result := s.onTrigger core 18 17 t
/-- READ_HI (R225). -/
def execReadHi (core : Nat) (t : W32) (s : State) : Result := s.onTrigger core 18 18 t
/-- READ_ERR (R225). -/
def execReadErr (core : Nat) (t : W32) (s : State) : Result := s.onTrigger core 18 19 t

end Sys2Proof.Machine
end

