-- ==== Sys2Proof/Machine/DrevyWord.lean ====
section
/-! DEFINITION. Instruction words of a Drevy core: slots and moves (R194 to R199), the port map (R201), the distance rules
D1 to D7 (R202, R219 to R221), and the issue of a word (R200, R217, R224, R236). -/

namespace Sys2Proof.Machine

/-! ### Slots -/

/-- Where a move takes its value: a constant (short immediate or LIT), or a port. -/
inductive Src where
  | const (v : W32)
  | port (id : Nat)
  deriving DecidableEq, Repr, Inhabited

/-- One move of a word. -/
structure Mv where
  gsel : Nat
  ginv : Bool
  dst : Nat
  src : Src
  deriving DecidableEq, Repr, Inhabited

/-- The four slots of a word (R194). -/
def slotsOf (w : Bytes) : List Nat := (List.range 4).map fun i => field w (4 * i) 4

/-- The move of a slot, given the slot after it: the move, whether it takes that slot as a literal, and whether an encoding
is reserved (R195, R197 to R199). -/
def slotMove (v : Nat) (next : Option Nat) : Mv × Bool × Bool :=
  let simm := bit v 17
  let lit := !simm && bits v 9 0 == 1
  let gsel := bits v 30 28
  let src := if simm then Src.const (BitVec.ofInt 32 (signed 17 (bits v 16 0)))
    else if lit then .const (BitVec.ofNat 32 (next.getD 0)) else .port (bits v 9 0)
  ({ gsel := gsel, ginv := bit v 31, dst := bits v 27 18, src := src }, lit,
    (!simm && bits v 16 10 != 0) || (gsel == 0 && bit v 31) || (lit && next.isNone))

/-- The moves of a run of slots, none where an encoding is reserved (D6); all-zero slots are no-operations. -/
def movesOf : List Nat → Option (List Mv)
  | [] => some []
  | v :: rest =>
    let (m, lit, bad) := slotMove v rest.head?
    if bad then none
    else
      match (match lit, rest with
        | true, _ :: r => movesOf r
        | _, r => movesOf r) with
      | none => none
      | some l => some (if v = 0 then l else m :: l)

/-! ### The port map -/

/-- Unit and port number of a port id. -/
def unitOf (id : Nat) : Nat := id / 32
/-- Port number of a port id. -/
def portOf (id : Nat) : Nat := id % 32

/-- Whether a unit is a register file whose 32 ports are registers. -/
def isFile (u : Nat) : Bool := u == 1 || u == 2

/-- Whether a destination is a trigger port. -/
def isTrigger (id : Nat) : Bool := !isFile (unitOf id) && 16 ≤ portOf id

/-- Whether a port may be read. -/
def readable (id : Nat) : Bool :=
  let u := unitOf id
  let p := portOf id
  if u = 0 then p == 0 else if isFile u then true else if u = 3 then decide (p ≤ 7)
  else if u = 4 || u = 5 || u = 6 then decide (p ≤ 1) else if u = 7 then decide (p ≤ 2)
  else if u = 8 || u = 9 || u = 16 then p ≤ 1 || (4 ≤ p && p ≤ 11) else if u = 10 then decide (p ≤ 7)
  else if u = 11 then decide (p ≤ 3) else if u = 12 then decide (p ≤ 2) else if u = 13 then p == 0
  else if u = 14 then p == 0 || p == 2 || p == 3 else if u = 15 then decide (p ≤ 2) else if u = 17 then decide (p ≤ 10)
  else if u = 18 then decide (p ≤ 3) else false

/-- Whether a port may be written or triggered; a result port is not written but for LINK and the accumulators. -/
def writable (id : Nat) : Bool :=
  let u := unitOf id
  let p := portOf id
  if u = 0 then p == 0 else if isFile u then true else if u = 3 then 1 ≤ p && p ≤ 7
  else if 16 ≤ p then triggerDefined u p
  else if u = 4 || u = 5 || u = 6 then p == 0 else if u = 7 then decide (p ≤ 1)
  else if u = 8 || u = 9 || u = 16 then p == 0 || (4 ≤ p && p ≤ 11) else if u = 10 then decide (p ≤ 7)
  else if u = 11 then decide (p ≤ 3) else if u = 12 then decide (p ≤ 2) else if u = 13 then p == 0
  else if u = 14 then p == 0 || p == 2 || p == 3 else if u = 15 then decide (p ≤ 2) else if u = 17 then decide (p ≤ 10)
  else if u = 18 then decide (p ≤ 2) else false

/-- The port that a source names, if any. -/
def Mv.reads (m : Mv) : List Nat :=
  match m.src with
  | .const _ => []
  | .port id => [id]

/-- The triggers of a word: (unit, port, trigger value where it is a constant). -/
def triggersOf (ms : List Mv) : List (Nat × Nat × Option W32) :=
  (ms.filter fun m => isTrigger m.dst).map fun m =>
    (unitOf m.dst, portOf m.dst, match m.src with
      | .const v => some v
      | .port _ => none)

/-! ### Distance rules -/

/-- No two equal elements. -/
def noRepeats : List Nat → Bool
  | [] => true
  | x :: r => !r.contains x && noRepeats r

/-- The distinct elements of a list. -/
def distinct (l : List Nat) : List Nat := l.foldl (fun acc x => if acc.contains x then acc else acc ++ [x]) []

/-- Whether a trigger value uses a reserved encoding of its unit (R207, R210). -/
def reservedValue (u : Nat) (v : W32) : Bool :=
  if u = 8 || u = 9 || u = 16 then widthOf v == 0 || bits v.toNat 25 20 != 0
  else if u = 10 then bits v.toNat 3 2 == 3 || bits v.toNat 31 5 != 0
  else false

/-- The ports a word's moves write, with the pointers that its pointer forms move, where the value is known (D3). -/
def writesOf (ms : List Mv) (value : Mv → Option W32) : List Nat :=
  (ms.filter fun m => m.dst != 0).flatMap fun m =>
    let u := unitOf m.dst
    let p := portOf m.dst
    if isTrigger m.dst then
      (if (u == 8 || u == 9 || u == 16) && 18 ≤ p && p ≤ 21 then
        (match value m with
         | some v => [portId u (4 + bits v.toNat 31 30)]
         | none => [])
       else [])
    else [m.dst]

/-- The rule among D2 to D6 that a word breaks within itself, every move treated as executed; reads by what is known of
trigger values. -/
def wordRule (hasUnit : Nat → Bool) (ms : List Mv) (value : Mv → Option W32) : Option Nat :=
  let trig := triggersOf ms
  let units := trig.map (·.1)
  let regReads := fun (u : Nat) => (distinct ((ms.flatMap Mv.reads).filter fun id => unitOf id == u)).length
  let regWrites := fun (u : Nat) => (ms.filter fun m => unitOf m.dst == u).length
  if ms.any fun m => !writable m.dst || !hasUnit (unitOf m.dst) ||
      (m.reads.any fun id => !readable id || !hasUnit (unitOf id)) then some 6
  else if ms.any fun m => isTrigger m.dst && (match value m with
      | some v => reservedValue (unitOf m.dst) v
      | none => false) then some 6
  else if !noRepeats units then some 2
  else if !noRepeats (writesOf ms value) then some 3
  else if 2 < regReads 1 || 2 < regReads 2 || 2 < regWrites 1 || 2 < regWrites 2 then some 4
  else if units.contains 10 && (units.contains 8 || units.contains 9) then some 5
  else none

/-! ### Issue -/

/-- The value that a read of a port gives at the end of the previous word (R197, R200, R201, R218, R222). -/
def State.readPort (s : State) (c : Core) (id : Nat) : W32 :=
  let u := unitOf id
  let p := portOf id
  let q := c.id / 16
  if u = 0 then 0
  else if u = 1 then c.ga.getD p 0
  else if u = 2 then c.gb.getD p 0
  else if u = 3 then (if p = 0 || c.grd.getD p false then 1 else 0)
  else if u = 14 then
    match c.kernel with
    | none => BitVec.ofNat 32 s.freeValue
    | some k => BitVec.ofNat 32 (if p = 0 then k.instances else if p = 2 then c.id else q)
  else if u = 15 then
    if p = 0 then BitVec.ofNat 32 s.now else if p = 1 then c.timeHi
    else BitVec.ofNat 32 (if c.isControl then s.freeValue else s.e 0x2000 (q + 1))
  else if u = 17 then
    let r := c.regions.getD c.regionSel default
    if p = 0 then (if c.monitor then 1 else 0)
    else if p = 1 then BitVec.ofNat 32 c.cause else if p = 2 then c.trapWord else if p = 3 then c.trapValue
    else if p = 4 then c.vector else if p = 5 then BitVec.ofNat 32 c.regionSel
    else if p = 6 then BitVec.ofNat 32 (r.base.toNat * 4096) else if p = 7 then BitVec.ofNat 32 (r.limit.toNat * 4096)
    else if p = 8 then BitVec.ofNat 32 (8 * b2n r.lock + 4 * b2n r.x + 2 * b2n r.w + b2n r.r)
    else if p = 9 then BitVec.ofNat 32 c.winBase.toNat else BitVec.ofNat 32 (c.winBase.toNat / 2 ^ 32)
  else c.port u p

/-- Whether a move's guard lets it execute (R199). -/
def Core.guardOpen (c : Core) (m : Mv) : Bool := m.gsel == 0 || (c.grd.getD m.gsel false != m.ginv)

/-- The value of a move. -/
def State.mvValue (s : State) (c : Core) (m : Mv) : W32 :=
  match m.src with
  | .const v => v
  | .port id => s.readPort c id

/-- A protection region after a write of one of its fields (R222). -/
def Region.write (r : Region) (p : Nat) (v : W32) : Region :=
  if r.lock then r
  else if p = 6 then { r with base := v.extractLsb' 12 20 }
  else if p = 7 then { r with limit := v.extractLsb' 12 20 }
  else { r with x := v.getLsbD 2, w := v.getLsbD 1, r := v.getLsbD 0, lock := v.getLsbD 3 }

/-- A write of a PRIV port at monitor level (R222). -/
def Core.writePriv (c : Core) (p : Nat) (v : W32) : Core :=
  if p = 4 then { c with vector := v &&& 0xFFFFFFF0 }
  else if p = 5 then { c with regionSel := v.toNat % 16 }
  else if 6 ≤ p && p ≤ 8 then { c with regions := updAt c.regionSel (fun r => r.write p v) c.regions }
  else if p = 9 then
    { c with winBase := BitVec.ofNat 64 (c.winBase.toNat / 2 ^ 32 * 2 ^ 32 + v.toNat / 2 ^ 31 * 2 ^ 31) }
  else if p = 10 then { c with winBase := BitVec.ofNat 64 (v.toNat % 2 ^ 24 * 2 ^ 32 + c.winBase.toNat % 2 ^ 32) }
  else c

/-- A write of a port that is no trigger; a preloaded accumulator replaces what is on its way into it (R200, R210). -/
def Core.writePort (c : Core) (id : Nat) (v : W32) : Core :=
  let u := unitOf id
  let p := portOf id
  if u = 0 || u = 14 || u = 15 then c
  else if u = 1 then { c with ga := c.ga.set p v }
  else if u = 2 then { c with gb := c.gb.set p v }
  else if u = 3 then { c with grd := c.grd.set p (v.getLsbD 0) }
  else if u = 17 then c.writePriv p v
  else if u = 10 && 4 ≤ p then
    { c.setPort u p v with inFlight := updWhere (fun f => f.port == id) (fun f => { f with value := v }) c.inFlight }
  else c.setPort u p v

/-- Whether a port is an operand port, which a trigger of the same word uses as written (R200). -/
def isOperand (id : Nat) : Bool :=
  let u := unitOf id
  let p := portOf id
  ((u == 4 || u == 5 || u == 6 || u == 8 || u == 9 || u == 16) && p == 0) || (u == 7 && p ≤ 1) || (u == 11 && p ≤ 3) ||
  (u == 12 && p ≤ 2) || (u == 18 && p ≤ 2)

/-- The bytes of the word at a core's word index, or the trap that its fetch causes (R223, R233). -/
def State.fetchWord (s : State) (c : Core) : Except (Nat × Nat) Bytes :=
  if c.isControl then
    if 0x4000 ≤ c.pc then .error (2, 16 * c.pc)
    else if !c.mpuOk (16 * c.pc) 0 then .error (6, 16 * c.pc)
    else .ok (s.readDev (c.memBase + 16 * c.pc) 16)
  else
    match c.kernel with
    | none => .error (2, 0)
    | some k =>
      if k.codeLen ≤ 16 * c.pc then .error (2, 0xC0000 + 16 * c.pc)
      else match s.badUnit (c.memBase + 0xC0000 + 16 * c.pc) 16 with
        | some x => .error (9, x)
        | none => .ok (s.readDev (c.memBase + 0xC0000 + 16 * c.pc) 16)

/-- Whether a word keeps D1, D2's interval and D7 where the core stands (R219, R221). -/
def Core.distanceOk (c : Core) (ms : List Mv) : Bool :=
  let trig := triggersOf ms
  !((ms.flatMap Mv.reads).any fun id => c.notReady.contains id) &&
  (trig.all fun t =>
    lookupD c.lastTrigger t.1 0 ≤ c.words) &&
  !(c.jump.isSome && trig.any fun t => t.1 == 13)

/-- A PRIV access that component level forbids (R222): the port and the value. -/
def State.privFault (s : State) (c : Core) (ms : List Mv) : Option Nat :=
  if c.monitor || !c.isControl then none
  else ms.findSome? fun m =>
    if unitOf m.dst == 17 && portOf m.dst != 17 then some (s.mvValue c m).toNat
    else if m.reads.any fun id => unitOf id == 17 then some (s.mvValue c m).toNat
    else none

/-- The triggers of a word take effect in order; a trap or stall stops them all. -/
def runTriggers : List (Nat × Nat × W32) → State → Core → Issue
  | [], s, c => .ok s c
  | (u, p, t) :: r, s, c =>
    match s.trigger c u p t with
    | .ok s' c' => runTriggers r s' (c'.busyUntil u p)
    | .trap cause v => .trap cause v
    | .stall k => .stall k

/-- The word index after a word: the pending jump counts down its delay words (R217, R224). -/
def Core.nextPc (c : Core) (pending : Option (Nat × Nat)) : Core :=
  match pending with
  | none => { c with pc := c.pc + 1, words := c.words + 1 }
  | some (t, n) =>
    if n ≤ 1 then
      { c with pc := t, words := c.words + 1, jump := none, monitor := c.monitor && !c.returning, returning := false }
    else { c with pc := c.pc + 1, words := c.words + 1, jump := some (t, n - 1) }

/-- The issue of a word whose moves execute (R200): operands are latched, triggers use them, and registers, guards and state
ports take effect at the end. -/
def State.issueMoves (s : State) (c : Core) (ms : List Mv) : Issue :=
  let vals := ms.map fun m => (m.dst, s.mvValue c m)
  let c1 := (vals.filter fun p => isOperand p.1).foldl (fun (c : Core) p => c.writePort p.1 p.2) c
  let trig := (vals.filter fun p => isTrigger p.1).map fun p => (unitOf p.1, portOf p.1, p.2)
  let isStore := fun (t : Nat × Nat × W32) => (t.1 == 8 || t.1 == 9 || t.1 == 16) && t.2.1 % 2 == 1
  match runTriggers ((trig.filter fun t => !isStore t) ++ trig.filter isStore) s c1 with
  | .ok s' c' =>
    let fresh := c'.inFlight.drop c1.inFlight.length
    let keep := { c' with inFlight := c1.inFlight }
    let c3 := (vals.filter fun p => !isOperand p.1 && !isTrigger p.1).foldl (fun (c : Core) p => c.writePort p.1 p.2) keep
    let c4 := { c3 with inFlight := c3.inFlight ++ fresh }
    let c5 := if (ms.flatMap Mv.reads).contains (portId 15 0) then
        { c4 with timeHi := BitVec.ofNat 32 (s.now / 2 ^ 32) } else c4
    .ok s' c5
  | r => r

/-- A word issues or traps; words of a control core draw one free value for what the spec leaves open of its environment. -/
def State.issueWord (s : State) (c : Core) : Result :=
  match s.fetchWord c with
  | .error (cause, v) => s.commit (s.trapCore c cause v)
  | .ok w =>
    match movesOf (slotsOf w) with
    | none => s.commit (s.trapCore c 1 c.pc)
    | some ms =>
      let value := fun (m : Mv) => some (s.mvValue c m)
      if (wordRule c.hasUnit ms value).isSome || !c.distanceOk ms then s.commit (s.trapCore c 1 c.pc) else
      let run := ms.filter c.guardOpen
      match s.privFault c run with
      | some v => s.commit (s.trapCore c 7 v)
      | none =>
        let svc := run.find? fun m => m.dst == portId 17 17 && !c.monitor
        match s.issueMoves c (run.filter fun m => m.dst != portId 17 17) with
        | .trap cause v => s.commit (s.trapCore c cause v)
        | .stall k => s.quiet (s.setCore { c with stall := k })
        | .ok s' c' =>
          let s1 := if c.isControl then s'.drawn else s'
          match svc with
          | some m => s.commit (s1.trapCore { c' with pc := c.pc } 8 (s.mvValue c m).toNat)
          | none => s.commit (s1.tryHalt (c'.nextPc c.jump))

/-- WORD_ISSUE (R200, R217, R219, R236): a core that executes issues its next word, its due results having landed; an
instance whose budget is spent issues none. -/
def execWordIssue (core : Nat) (s : State) : Result :=
  match s.core? core with
  | none => .fault .noSuchUnit
  | some c =>
    if !s.executes c then s.idle
    else if (match c.kernel with
      | some k => decide (k.budget ≤ c.words)
      | none => false) then s.idle
    else s.issueWord c.landResults

end Sys2Proof.Machine
end

