-- ==== Sys2Proof/Machine/Kernel.lean ====
section
/-! DEFINITION. Kernel images and launches: the header (R229), the verifier (R230, R231), the image cache (R232), launch,
instances and their end (R186, R187, R233 to R239), DMA and VEC completions (R212 to R216, R235). -/

namespace Sys2Proof.Machine

/-! ### Image header (R229) -/

/-- The fields of an image header. -/
structure Image where
  magic : Nat
  version : Nat
  profile : Nat
  flags : Nat
  codeOff : Nat
  codeLen : Nat
  dataOff : Nat
  dataLen : Nat
  bssLen : Nat
  stackLen : Nat
  entry : Nat
  xLen : Nat
  yLen : Nat
  deriving DecidableEq, Repr, Inhabited

/-- The header at the start of an image. -/
def imageOf (b : Bytes) : Image :=
  { magic := field b 0 4, version := field b 4 2, profile := field b 6 2, flags := field b 8 4, codeOff := field b 12 4
    codeLen := field b 16 4, dataOff := field b 20 4, dataLen := field b 24 4, bssLen := field b 28 4
    stackLen := field b 32 4, entry := field b 36 4, xLen := field b 40 4, yLen := field b 44 4 }

/-- Words of the code section. -/
def Image.words (i : Image) : Nat := i.codeLen / 16

/-- Whether an image sets NONDET. -/
def Image.nondet (i : Image) : Bool := bit i.flags 0

/-- The first header field out of its range: (offset, rule of LAST_REJECT) (R229, R230). -/
def headerFault (b : Bytes) (i : Image) : Option (Nat × Nat) :=
  let bad := [
    (i.magic != 0x32494B55, 0), (i.version != 2, 4), (i.profile != 0, 6), (decide (2 ≤ i.flags), 8),
    (i.codeOff % 16 != 0 || i.codeOff < 128, 12), (i.codeLen % 16 != 0 || i.codeLen < 16 || 65536 < i.codeLen, 16),
    (i.dataOff % 16 != 0, 20), (decide (131072 < i.dataLen), 24), (decide (131072 < i.bssLen), 28),
    (i.stackLen % 16 != 0 || i.stackLen < 256 || 131072 < i.stackLen, 32), (decide (i.words ≤ i.entry), 36),
    (i.xLen % 1024 != 0 || 393216 < i.xLen, 40), (i.yLen % 1024 != 0 || 393216 < i.yLen, 44),
    (!allZero (slice b 48 16), 48), (!allZero (slice b 112 16), 112)]
  match bad.find? (·.1) with
  | some p => some (p.2, 9)
  | none => if 262144 < i.codeLen + i.dataLen + i.bssLen + 4096 + i.stackLen then some (16, 10) else none

/-- Bytes from the image start that its sections cover. -/
def Image.extent (i : Image) : Nat := max 128 (max (i.codeOff + i.codeLen) (if i.dataLen = 0 then 0 else i.dataOff + i.dataLen))

/-- Whether DIGEST is the SHA-384 of the image with the field zeroed (R229). -/
def digestOk (b : Bytes) : Bool := Config.sha384 (putBytes b 64 (zeros 48)) == slice b 64 48

/-! ### The verifier (R230, R231) -/

/-- The moves of the word at an index, none where an encoding is reserved. -/
def codeWord (code : Bytes) (i : Nat) : Option (List Mv) := movesOf (slotsOf (slice code (16 * i) 16))

/-- Units of the tile profile (R201). -/
def tileUnit (u : Nat) : Bool := u < 16

/-- A constant source's value. -/
def constOf (m : Mv) : Option W32 :=
  match m.src with
  | .const v => some v
  | .port _ => none

/-- Whether a word breaks R231 in a code section of n words. -/
def breaksR231 (n : Nat) (nondet : Bool) (ms : List Mv) : Bool :=
  ms.any fun m =>
    let ids := m.dst :: m.reads
    (ids.any fun id => 16 ≤ unitOf id && unitOf id ≤ 18) ||
    ((m.dst == portId 13 16 || m.dst == portId 13 17) && (match constOf m with
      | some v => decide (n ≤ v.toNat)
      | none => true)) ||
    (!nondet && m.reads.any fun id => id == portId 14 2 || id == portId 14 3 || unitOf id == 15)

/-- The rule that a word breaks by itself: 2 to 6 for D2 to D6, 8 for R231. -/
def staticRule (n : Nat) (nondet : Bool) (w : Option (List Mv)) : Option Nat :=
  match w with
  | none => some 6
  | some ms => if breaksR231 n nondet ms then some 8 else wordRule tileUnit ms constOf

/-- What the verifier knows where a word issues: words left until a mark is set, until a unit's last trigger elapses, and
until a unit may be triggered again. -/
structure Abs where
  marks : List (Nat × Nat)
  flight : List (Nat × Nat)
  busy : List (Nat × Nat)
  deriving DecidableEq, Repr, Inhabited

/-- The larger of each key's values. -/
def joinMax (a b : List (Nat × Nat)) : List (Nat × Nat) :=
  b.foldl (fun acc p => if lookupD acc p.1 0 < p.2 then putKey acc p.1 p.2 else acc) a

/-- The join of two paths (R230): clear or in flight on either. -/
def Abs.join (a b : Abs) : Abs :=
  { marks := joinMax a.marks b.marks, flight := joinMax a.flight b.flight, busy := joinMax a.busy b.busy }

/-- One word passes. -/
def countDown (l : List (Nat × Nat)) : List (Nat × Nat) := (l.filter fun p => 1 < p.2).map fun p => (p.1, p.2 - 1)

/-- The next word. -/
def Abs.tick (a : Abs) : Abs := { marks := countDown a.marks, flight := countDown a.flight, busy := countDown a.busy }

/-- The result ports of a trigger: every accumulator when MAC's is not a constant. -/
def resultPorts (u : Nat) (v : Option W32) : List Nat :=
  if u = 4 || u = 5 || u = 6 || u = 8 || u = 9 then [portId u 1]
  else if u = 7 then [portId 7 2]
  else if u = 10 then
    match v with
    | some t => [portId 10 (4 + bits t.toNat 1 0)]
    | none => [portId 10 4, portId 10 5, portId 10 6, portId 10 7]
  else []

/-- A trigger that executes. -/
def Abs.fire (a : Abs) (u p : Nat) (v : Option W32) : Abs :=
  let idle := lookupD a.flight u 0 == 0
  let ports := if u = 13 then (if p = 17 then [portId 13 0] else []) else resultPorts u v
  let l := latencyOf u p
  { marks := if idle then ports.foldl (fun m id => putKey m id l) a.marks else a.marks
    flight := if ports.isEmpty then a.flight else putKey a.flight u l
    busy := putKey a.busy u (intervalOf u p) }

/-- A point of the control graph: a word index and the jump that is pending there. -/
structure Flow where
  pc : Nat
  pend : Option (Nat × Nat)
  deriving DecidableEq, Repr, Inhabited

/-- The point after a word, given the jump pending once it has issued. -/
def Flow.next (f : Flow) (pend : Option (Nat × Nat)) : Flow :=
  match f.pend with
  | none => { pc := f.pc + 1, pend := pend }
  | some (t, n) => if n ≤ 1 then { pc := t, pend := none } else { pc := f.pc + 1, pend := some (t, n - 1) }

/-- Words that a RET may jump to: the one after the second delay word of each CALL. -/
def returnSites (code : Bytes) (n : Nat) : List Nat :=
  (List.range n).filterMap fun i =>
    match codeWord code i with
    | none => none
    | some ms => if ms.any fun m => m.dst == portId 13 17 then some (i + 3) else none

/-- The points that follow a word. -/
def successors (f : Flow) (ms : List Mv) (sites : List Nat) : List Flow :=
  match ms.find? fun m => unitOf m.dst == 13 && 16 ≤ portOf m.dst with
  | none => [f.next none]
  | some m =>
    let p := portOf m.dst
    let taken := if p = 19 then []
      else if p = 18 then sites.map fun t => f.next (some (t, 2))
      else [f.next (some (((constOf m).getD 0).toNat, 2))]
    if m.gsel = 0 then taken else f.next none :: taken

/-- The rule that a word breaks where the verifier stands: 1 for D1, 2 for D2's interval, 7 for D7. -/
def flowRule (f : Flow) (a : Abs) (ms : List Mv) : Option Nat :=
  let trig := triggersOf ms
  if (ms.flatMap Mv.reads).any fun id => 0 < lookupD a.marks id 0 then some 1
  else if trig.any fun t => 0 < lookupD a.busy t.1 0 then some 2
  else if f.pend.isSome && trig.any fun t => t.1 == 13 then some 7
  else none

/-- What the verifier knows after a word: each guarded trigger as both executed and not (R230). -/
def Abs.after (a : Abs) (ms : List Mv) : Abs :=
  ((ms.filter fun m => isTrigger m.dst).foldl (fun (acc : Abs) m =>
    let fired := acc.fire (unitOf m.dst) (portOf m.dst) (constOf m)
    if m.gsel = 0 then fired else acc.join fired) a).tick

/-- The paths still to follow from each point, until nothing new is learnt: the first rule broken and its word. -/
def verifyPaths (code : Bytes) (n : Nat) (sites : List Nat) :
    Nat → List (Flow × Abs) → List (Flow × Abs) → Option (Nat × Nat)
  | 0, _, _ => none
  | _, _, [] => none
  | fuel + 1, seen, (f, a) :: rest =>
    if n ≤ f.pc then verifyPaths code n sites fuel seen rest else
    let old := seen.find? fun p => p.1 == f
    let known := match old with
      | some p => p.2.join a
      | none => a
    if (match old with
      | some p => p.2 == known
      | none => false) then verifyPaths code n sites fuel seen rest
    else
      match codeWord code f.pc with
      | none => some (6, f.pc)
      | some ms =>
        match flowRule f known ms with
        | some r => some (r, f.pc)
        | none =>
          let next := (successors f ms sites).map fun g => (g, known.after ms)
          let seen' := (f, known) :: seen.filter fun p => p.1 != f
          verifyPaths code n sites fuel seen' (next ++ rest)

/-- The rule that a code section breaks, with the word (R230, R231). -/
def verifyCode (code : Bytes) (i : Image) : Option (Nat × Nat) :=
  let n := i.words
  match (List.range n).findSome? fun k => (staticRule n i.nondet (codeWord code k)).map (·, k) with
  | some r => some r
  | none =>
    verifyPaths code n (returnSites code n) (10000 * (n + 1) * (n + 1)) []
      [({ pc := i.entry, pend := none }, { marks := [], flight := [], busy := [] })]

/-! ### The image cache (R232) -/

/-- A digest becomes the most recently used of the 64 cached. -/
def State.cacheImage (s : State) (d : Bytes) : State :=
  { s with cores := { s.cores with imageCache := (d :: s.cores.imageCache.filter (· != d)).take 64 } }

/-- IMAGE_CACHE_FLUSH's effect. -/
def actImageCacheFlush : ActEffect := fun _ s => .ok ({ s with cores := { s.cores with imageCache := [] } }, false)

/-- IMAGE_CACHE_FLUSH (R232). -/
def execImageCacheFlush (req : ActReq) (s : State) : Result := s.act req 0x2401 1 actImageCacheFlush

/-! ### KERNEL_LAUNCH -/

/-- The checks of the operation block (R186). -/
def launchChecks (ob : Bytes) : List (Bool × Err) :=
  [(field ob 44 4 != 0, obField 44), (4096 < field ob 32 4, obRange 32),
   (field ob 24 8 = 0 && field ob 32 4 != 0, obRange 32), (field ob 36 4 = 0 || 65536 < field ob 36 4, obRange 36)]

/-- A refused image: counted, and recorded in LAST_REJECT with its rule and word (R238). -/
def State.rejectImage (s : State) (cab rule word : Nat) : State :=
  let s1 := s.bump 0x2401 3 1
  if rule = 0 then s1
  else s1.put 0x2401 4 (leNat (toLe 8 s.now ++ toLe 2 cab ++ toLe 1 rule ++ [0] ++ toLe 4 word))

/-- What a KERNEL_LAUNCH finds of its image: accepted, with the image; or refused with a status, DETAIL, rule, word. -/
inductive Verdict where
  | accept (image : Bytes) (cached : Bool)
  | refuse (e : Err) (rule word : Nat) (counted : Bool)

/-- The verdict on an image (R230 to R232, R237, R238). -/
def State.judgeImage (s : State) (c : Ctx) (addr : Nat) : Verdict :=
  match s.readCab c.cabinet addr 128 with
  | .error e => .refuse e 0 0 false
  | .ok hdr =>
    let i := imageOf hdr
    match headerFault hdr i with
    | some (off, rule) => .refuse (descField 16 off) rule 0 true
    | none =>
      match s.readCab c.cabinet addr i.extent with
      | .error e => .refuse e 0 0 false
      | .ok b =>
        if !digestOk b then .refuse (errPlain stDigestMismatch) 0 0 true
        else if i.nondet && s.e 0x2402 0 == 0 then .refuse (errPlain stSecurityRefused) 0 0 false
        else if s.cores.imageCache.contains (slice b 64 48) then .accept b true
        else match verifyCode (slice b i.codeOff i.codeLen) i with
          | some (rule, word) => .refuse (descField 16 12) rule word true
          | none => .accept b false

/-- The state a KERNEL_LAUNCH needs (R189). -/
def State.kernelGate (s : State) (cab : Nat) : Except Err Unit :=
  check [(!s.fullFormats, errState 5 1), (s.e 0x2302 0 == 0 || !bit (s.ent cab 0x4003 2) 0, errState 5 2)]

/-- The launch of an accepted image: the context holds image and parameters, and waits for its instances (R187). -/
def State.launch (s : State) (c : Ctx) (x : XCmd) (image params : Bytes) (cached : Bool) : State :=
  let s1 := s.cacheImage (slice image 64 48)
  let s2 := if cached then s1 else s1.bump 0x2401 2 1
  let s3 := if (imageOf image).nondet then s2.bump 0x2010 1 1 else s2
  s3.updCtx c.id fun c =>
    { c with captured := [(x.opRange.1, x.ob), (field x.ob 16 8, image), (field x.ob 24 8, params)], waiting := true
             launched := 0, progress := 0 }

/-- KERNEL_LAUNCH (R186, R189, R230 to R232, R237): the image is verified, and its instances may start. -/
def execKernelLaunch (id : Nat) (s : State) : Result :=
  s.onCtx id (isCommand 0x1050) fun c =>
    match (do
      let x ← s.xBegin c 0x1050
      check (launchChecks x.ob)
      s.kernelGate c.cabinet
      let params ← if field x.ob 32 4 = 0 then pure [] else s.readCab c.cabinet (field x.ob 24 8) (field x.ob 32 4)
      pure (x, params)) with
    | .error e => s.commit (s.finishErr id e)
    | .ok (x, params) =>
      match s.judgeImage c (field x.ob 16 8) with
      | .refuse e rule word counted =>
        s.commit ((if counted then s.rejectImage c.cabinet rule word else s).finishErr id e)
      | .accept image cached => s.commit (s.launch c x image params cached)

/-! ### Instances -/

/-- The window and budget of an instance (R233, R236). -/
def State.windowFor (s : State) (c : Ctx) (ob image : Bytes) : KernelWin :=
  let i := imageOf image
  let steps := if field ob 40 4 = 0 then s.e 0x2302 1 else field ob 40 4
  { ctx := c.id, instNum := c.launched, instances := field ob 36 4, xLen := i.xLen, yLen := i.yLen, codeLen := i.codeLen
    dataLen := i.dataLen, bssLen := i.bssLen, stackLen := i.stackLen, paramsLen := field ob 32 4, budget := steps * 1024
    nondet := i.nondet }

/-- The runs of tile SRAM that an instance's start writes (R233, R234). -/
def KernelWin.initial (k : KernelWin) (image params : Bytes) : List (Nat × Bytes) :=
  let i := imageOf image
  [(0, zeros k.xLen), (0x60000, zeros k.yLen), (0xC0000, slice image i.codeOff i.codeLen),
   (0xC0000 + k.codeLen, slice image i.dataOff i.dataLen), (0xC0000 + k.codeLen + k.dataLen, zeros k.bssLen),
   (k.paramsAt, fit 4096 params), (k.paramsAt + 4096, zeros k.stackLen)]

/-- A tile core at an instance's entry (R228). -/
def Core.enter (c : Core) (k : KernelWin) (entry : Nat) : Core :=
  let ga := ((((List.replicate 32 (0 : W32)).set 0 (BitVec.ofNat 32 k.instNum)).set 1 (BitVec.ofNat 32 k.paramsAt)).set 2
    (BitVec.ofNat 32 k.paramsLen)).set 30 (BitVec.ofNat 32 (k.paramsAt + 4096 + k.stackLen))
  { c.freed with
    running := true, ga := ga, gb := List.replicate 32 0
    grd := [true, false, false, false, false, false, false, false], ports := [], pc := entry, kernel := some k }

/-- Whether a tile may take an instance: online, free, its quadrant not held. -/
def State.tileFree (s : State) (t : Nat) (c : Core) : Bool :=
  t < 64 && bit (s.e 0x2300 1) t && !c.running && !s.faults.fencedQuads.contains (t / 16)

/-- KERNEL_INSTANCE_START (R187, R228, R233, R234): the next instance of a launch starts on a free tile. -/
def execKernelInstanceStart (id tile : Nat) (s : State) : Result :=
  if 64 ≤ tile then .fault .noSuchUnit else
  match s.ctx? id, s.core? tile with
  | some c, some core =>
    match c.captured with
    | [(_, ob), (_, image), (_, params)] =>
      if isCommand 0x1050 s c && c.waiting && !c.finished && !s.faults.safe && c.traps.isEmpty
          && c.launched < field ob 36 4 && s.tileFree tile core then
        let k := s.windowFor c ob image
        let s1 := (k.initial image params).foldl (fun (s : State) p => s.storeRaw (core.memBase + p.1) p.2) s
        let s2 := s1.setCore (core.enter k (imageOf image).entry)
        s.commit (s2.updCtx id fun c => { c with launched := c.launched + 1 })
      else s.idle
    | _ => s.idle
  | _, _ => s.idle

/-- BUDGET (R236, R238): an instance that has issued its budget of words without halting is stopped. -/
def execBudget (core : Nat) (s : State) : Result :=
  match s.core? core with
  | none => .fault .noSuchUnit
  | some c =>
    match c.kernel with
    | none => s.idle
    | some k =>
      if s.faults.safe || c.words < k.budget || c.stall = 5 then s.idle
      else s.commit ((s.bump 0x2402 2 1).endInstance c (some (stDiscardedReset, trapDetail 5 k.instNum c.pc)))

/-! ### Asynchronous completions -/

/-- A stalled core goes on once what it waits for is done; a halted one with nothing outstanding ends. -/
def State.afterDone (s : State) (c : Core) : State :=
  let go := (c.stall == 1 && c.vecOps.isEmpty) || (c.stall == 2 && c.dmaOps.isEmpty) || c.stall == 3 || c.stall == 4
  s.tryHalt (if go then { c with stall := 0 } else c)

/-- The FP32 values of an array in tile SRAM. -/
def State.tileArray (s : State) (base off n : Nat) : List Fl :=
  (words32 (s.readDev (base + off) (4 * n))).map Fp.of32

/-- One element of a VEC operation (R212). -/
def vecElem (op : Nat) (a b d : Fl) : Fl :=
  if op = 16 then Fp.add32 a b else if op = 17 then Fp.mul32 a b else if op = 18 then fmax a b else Fp.fma32 a b d

/-- The result of a VEC operation. -/
def State.vecResult (s : State) (base : Nat) (v : VecOp) : Bytes :=
  let a := s.tileArray base v.srcA v.count
  let b := s.tileArray base v.srcB v.count
  let d := s.tileArray base v.dst v.count
  bytes32 ((a.zip (b.zip d)).map fun p => Fp.to32 (vecElem v.op p.1 p.2.1 p.2.2))

/-- The first uncorrectable unit that a VEC operation reads. -/
def State.vecBad (s : State) (base : Nat) (v : VecOp) : Option Nat :=
  [v.srcA, v.srcB, v.dst].findSome? fun o => s.badUnit (base + o) (4 * v.count)

/-- VEC_OPERATION_DONE (R212): the oldest outstanding operation writes its destination. -/
def execVecOperationDone (core : Nat) (s : State) : Result :=
  match s.core? core with
  | none => .fault .noSuchUnit
  | some c =>
    match c.vecOps with
    | [] => s.idle
    | v :: rest =>
      if s.faults.safe then s.idle else
      match s.vecBad c.memBase v with
      | some x => s.commit (s.trapCore c 9 x)
      | none =>
        let s1 := s.storeRaw (c.memBase + v.dst) (s.vecResult c.memBase v)
        s.commit (s1.afterDone { c with vecOps := rest })

/-- The cabinet whose memory a core's DMA reaches: the launching one (R235); cabinet 0 for a control core. -/
def State.dmaCabinet (s : State) (c : Core) : Nat :=
  match c.kernel with
  | none => 0
  | some k =>
    match s.ctx? k.ctx with
    | some x => x.cabinet
    | none => 0

/-- A kernel DMA faults: its instance stops with the status of the fault (R235, R238); a control core's transfer ends. -/
def State.dmaFault (s : State) (c : Core) (rest : List DmaOp) (e : Err) : State :=
  let s1 := match e.bad with
    | some u => s.reportUe u (if c.isControl then 0x2000 + (c.id - 64) else 0x1000 + c.id)
    | none => s
  if c.isControl then s1.afterDone { c with dmaOps := rest }
  else s1.endInstance c (some (e.status, e.detail))

/-- The effect of a DMA transfer: a GET lands in the core's memory, a PUT in cabinet memory (R213 to R216, R235). -/
def State.dmaMove (s : State) (c : Core) (d : DmaOp) : Except Err State :=
  let cab := s.dmaCabinet c
  let loc := c.memBase + d.offset
  if d.put then
    match s.badUnit loc d.len with
    | some u => .error { status := stEccUncorrectable, detail := u, bad := some u }
    | none => s.writeAll cab [(d.remote, s.readDev loc d.len)]
  else
    match s.readCab cab d.remote d.len with
    | .error e => .error e
    | .ok b => .ok (s.storeRaw loc b)

/-- KERNEL_DMA_DONE (R213 to R216, R235): an outstanding transfer completes or faults; a PUT stalls on a granule not yet
copied (R216). -/
def execKernelDmaDone (core which : Nat) (s : State) : Result :=
  match s.core? core with
  | none => .fault .noSuchUnit
  | some c =>
    match c.dmaOps[which]? with
    | none => s.idle
    | some d =>
      if s.faults.safe then s.idle else
      let rest := c.dmaOps.eraseIdx which
      match s.dmaMove c d with
      | .error e =>
        match d.put, e.bad with
        | true, some u => s.commit (s.trapCore c 9 u)
        | _, _ => s.commit (s.dmaFault c rest e)
      | .ok t => s.land (c.kernel.map (·.ctx)) (t.afterDone { c with dmaOps := rest })

end Sys2Proof.Machine
end

