-- ==== Sys2Proof/Machine/Dma.lean ====
section
/-! DEFINITION. DMA reads of the host and of accelerators (R463, R464, R466, R476): how a run is cut into requests, how they
are issued within the tags of a link, where the data of a completion goes, and how a failed request ends its command
(R465). -/

namespace Sys2Proof.Machine

/-- The link and the bus address of a device address behind a PCIe link: 0 HP or HP0, 1 HP1, 2 + n APn. -/
def State.linkOf (s : State) (dev : Nat) : Option (Nat × Nat) :=
  if inHost dev then
    if s.ports.hostSplit && 0x18000000000000 ≤ dev then some (1, dev - 0x18000000000000) else some (0, dev - hostBase)
  else match accelOf dev with
    | some n => some (2 + n, (dev - accelBase) % accelSize)
    | none => none

/-- The device address of a request. -/
def Request.device (r : Request) : Nat :=
  if r.link = 0 then hostBase + r.addr else if r.link = 1 then 0x18000000000000 + r.addr
  else accelBase + (r.link - 2) * accelSize + r.addr

/-- The completion timeout of a link (R466): the largest of each range that PCIe names (notes/assumptions/4.md). -/
def State.cplTimeout (s : State) (link : Nat) : Nat :=
  if 2 ≤ link then s.e 0x2A05 0
  else
    let c := s.ports.devCtl2 % 16
    if c = 1 then 100000 else if c = 2 then 10000000 else if c = 5 then 55000000 else if c = 6 then 210000000
    else 20000000

/-- The length of the first request of a read (R464): it ends at the first multiple of the largest request. -/
def State.firstLen (s : State) (addr n : Nat) : Nat :=
  let m := max s.ports.maxReadReq 1
  min n (m - addr % m)

/-- Tags of a link that are in use or may not be used again yet (R466). -/
def State.usedTags (s : State) (link : Nat) : List Nat :=
  ((s.ports.requests.filter fun r => r.link == link).map (·.tag)) ++
  ((s.ports.retiredTags.filter fun t => t.1 == link && s.now < t.2.2).map (·.2.1))

/-- The next request of a command is issued, when its link has a place for it: none when nothing is left to request or no
place is free. -/
def State.issueOne (s : State) (c : Ctx) : Except Err (Option State) :=
  match c.unread with
  | [] => .ok none
  | (src, dst, n) :: rest =>
    match s.reach c.cabinet src 1 .read with
    | .error e => .error e
    | .ok ps =>
      match ps.head?.bind fun p => s.linkOf p.1 with
      | none => .error { status := stAccessFault, detail := src }
      | some (link, addr) =>
        let out := (s.ports.requests.filter fun r => r.link == link).length
        match pickFree s.freeValue (s.usedTags link) 0 16384 with
        | none => .ok none
        | some tag =>
          if 1024 ≤ out then .ok none else
          let k := s.firstLen addr n
          let r : Request :=
            { tag := tag, link := link, ctx := some c.id, cabinet := c.cabinet, addr := addr, source := src, len := k
              left := k, dest := dst, issuedAt := s.now, timeout := s.cplTimeout link }
          let unread := if n ≤ k then rest else (src + k, dst + k, n - k) :: rest
          let s1 := s.updCtx c.id fun c => { c with unread := unread }
          .ok (some { s1.drawn with ports := { s1.ports with requests := s1.ports.requests ++ [r] } })

/-- Requests of a command are issued while its links have places: at most as many as the links together hold. -/
def State.issueReads (s : State) (id : Nat) : Nat → State
  | 0 => s
  | n + 1 =>
    match s.ctx? id with
    | none => s
    | some c =>
      match s.issueOne c with
      | .error e => s.finishErr id e
      | .ok none => s
      | .ok (some t) => t.issueReads id n

/-- Whether a command still reads by DMA. -/
def State.reading (s : State) (id : Nat) : Bool :=
  s.ports.requests.any (fun r => r.ctx == some id) ||
  (match s.ctx? id with
   | some c => !c.unread.isEmpty
   | none => false)

/-- A command goes on reading: it ends with OK once nothing is outstanding; its DETAIL is the bytes copied (R256). -/
def State.readOn (s : State) (id : Nat) : State :=
  let s1 := s.issueReads id 16384
  if s1.reading id then s1
  else match s1.ctx? id with
    | some c => s1.finishOk id c.progress
    | none => s1

/-- A request that fails ends its command, and is reported (R465). -/
def State.failRequest (s : State) (r : Request) (status detail : Nat) : State :=
  let src := if r.link ≤ 1 then 12 else 13
  let s1 := { s with ports := { s.ports with
    requests := s.ports.requests.filter fun x => !(x.link == r.link && x.tag == r.tag) } }
  let s2 := s1.note src 0x03 r.device (if r.link ≤ 1 then masterFn r.cabinet else 0x4000 + (r.link - 2)) 0
  match r.ctx with
  | none => s2
  | some id => s2.finishErr id { status := status, detail := detail }

end Sys2Proof.Machine
end

