-- ==== Sys2Proof/Machine/Parser.lean ====
section
/-! DEFINITION. Frames: the parser and the parse key (R415 to R417), the headers of the frames that the ZX9 builds
(R283, R439), checksums and the FCS. -/

namespace Sys2Proof.Machine

/-! ### Checksums -/

/-- The Internet checksum (RFC 1071) of a run of bytes, as a 16-bit number. -/
def inetSum : Bytes → Nat
  | a :: b :: r => a.toNat * 256 + b.toNat + inetSum r
  | [a] => a.toNat * 256
  | [] => 0

/-- The ones' complement fold of a sum. -/
def foldSum (n : Nat) : Nat :=
  let a := n / 65536 + n % 65536
  let b := a / 65536 + a % 65536
  b / 65536 + b % 65536

/-- The Internet checksum of a run whose checksum field is zero. -/
def inetChecksum (bs : Bytes) : Nat := 0xFFFF - foldSum (inetSum bs)

/-- One step of CRC-32 over a bit. -/
def crcBit (c : BitVec 32) : BitVec 32 := if c.getLsbD 0 then (c >>> 1) ^^^ 0xEDB88320#32 else c >>> 1

/-- One step of CRC-32 over a byte. -/
def crcByte (c : BitVec 32) (b : Byte) : BitVec 32 :=
  crcBit (crcBit (crcBit (crcBit (crcBit (crcBit (crcBit (crcBit (c ^^^ b.setWidth 32))))))))

/-- The frame check sequence of a frame (IEEE 802.3). -/
def fcsOf (bs : Bytes) : Bytes := toLe 4 (bs.foldl crcByte 0xFFFFFFFF#32 ^^^ 0xFFFFFFFF#32).toNat

/-- A frame with its FCS. -/
def withFcs (bs : Bytes) : Bytes := bs ++ fcsOf bs

/-- A frame without its FCS. -/
def noFcs (bs : Bytes) : Bytes := bs.take (bs.length - 4)

/-! ### Parse key (R416) -/

/-- What the parser finds in a frame: the fields of the parse key, and where the headers lie. -/
structure Key where
  inPort : Nat := 0
  vlan : Bool := false
  overlay : Bool := false
  ipv6 : Bool := false
  fragment : Bool := false
  first : Bool := false
  l4 : Bool := false
  ttlLow : Bool := false
  bad : Bool := false
  vlanTci : Nat := 0
  etherType : Nat := 0
  proto : Nat := 0
  tos : Nat := 0
  vni : Nat := 0
  srcIp : Bytes := []
  dstIp : Bytes := []
  l4Src : Nat := 0
  l4Dst : Nat := 0
  tcpFlags : Nat := 0
  frameLen : Nat := 0
  ztConn : Nat := 0
  fragId : Nat := 0
  outerUdp : Nat := 0
  /-- Offset of the inner frame of an overlay. -/
  inner : Nat := 0
  l3Off : Nat := 0
  l4Off : Nat := 0
  /-- First byte and length of a fragment's data, and whether more follow. -/
  fragOff : Nat := 0
  fragLen : Nat := 0
  more : Bool := false
  deriving DecidableEq, Repr, Inhabited

/-- PFLAGS (R416). -/
def Key.pflags (k : Key) : Nat :=
  b2n k.vlan + 2 * b2n k.overlay + 4 * b2n k.ipv6 + 8 * b2n k.fragment + 16 * b2n k.first + 32 * b2n k.l4
    + 64 * b2n k.ttlLow + 128 * b2n k.bad

/-- The 64 bytes of the parse key (R416). -/
def Key.bytes (k : Key) : Bytes :=
  toLe 1 k.inPort ++ toLe 1 k.pflags ++ toLe 2 k.vlanTci ++ toLe 2 k.etherType ++ toLe 1 k.proto ++ toLe 1 k.tos
    ++ toLe 4 k.vni ++ fit 16 k.srcIp ++ fit 16 k.dstIp ++ toLe 2 k.l4Src ++ toLe 2 k.l4Dst ++ toLe 1 k.tcpFlags ++ [0]
    ++ toLe 2 k.frameLen ++ toLe 4 k.ztConn ++ toLe 4 k.fragId ++ toLe 2 k.outerUdp ++ [0, 0]

/-! ### Parsing (R415, R417) -/

/-- What the parser reads: the frame, and how far headers may run. -/
structure View where
  bytes : Bytes
  limit : Nat
  vxlan : Nat
  geneve : Nat
  zt : Nat
  deriving DecidableEq, Repr, Inhabited

/-- Whether a header of n bytes at an offset lies within the frame and the parser's reach. -/
def View.holds (v : View) (off n : Nat) : Bool := off + n ≤ v.limit

/-- A frame that the parser gives up on. -/
def Key.fail (k : Key) : Key := { k with bad := true }

/-- A UDP or TCP header; an overlay when one is still allowed (R415). -/
def parseL4 (v : View) (k : Key) (off : Nat) (ovl : Key → Nat → Key) (mayOverlay : Bool) : Key :=
  if k.proto = 17 then
    if !v.holds off 8 then k.fail else
    let k1 := { k with l4 := true, l4Off := off, l4Src := fieldBe v.bytes off 2, l4Dst := fieldBe v.bytes (off + 2) 2 }
    if mayOverlay && k1.l4Dst == v.vxlan then
      if !v.holds (off + 8) 8 then k1.fail
      else ovl { (default : Key) with
        inPort := k.inPort, frameLen := k.frameLen, overlay := true, outerUdp := v.vxlan
        vni := fieldBe v.bytes (off + 12) 3 } (off + 16)
    else if mayOverlay && k1.l4Dst == v.geneve then
      if !v.holds (off + 8) 8 then k1.fail
      else
        let opt := 4 * bits (field v.bytes (off + 8) 1) 5 0
        if fieldBe v.bytes (off + 10) 2 != 0x6558 then k1
        else if !v.holds (off + 16) opt then k1.fail
        else ovl { (default : Key) with
          inPort := k.inPort, frameLen := k.frameLen, overlay := true, outerUdp := v.geneve
          vni := fieldBe v.bytes (off + 12) 3 } (off + 16 + opt)
    else
      let payload := fieldBe v.bytes (off + 4) 2 - 8
      if k1.l4Dst == v.zt && 20 ≤ payload && v.holds (off + 8) 8 then { k1 with ztConn := field v.bytes (off + 12) 4 }
      else k1
  else if k.proto = 6 then
    if !v.holds off 20 then k.fail
    else { k with
      l4 := true, l4Off := off, l4Src := fieldBe v.bytes off 2, l4Dst := fieldBe v.bytes (off + 2) 2
      tcpFlags := field v.bytes (off + 13) 1 }
  else k

/-- The IPv6 headers after the fixed one: at most four extension headers (R415); fuel counts them. -/
def parseExt (v : View) (k : Key) (off : Nat) (l4 : Key → Nat → Key) (fin : Nat) : Nat → Key
  | 0 => if [0, 43, 44, 60].contains k.proto then k.fail else l4 k off
  | n + 1 =>
    if [0, 43, 60].contains k.proto then
      if !v.holds off 8 then k.fail else
      let len := 8 * (field v.bytes (off + 1) 1 + 1)
      if !v.holds off len then k.fail
      else parseExt v { k with proto := field v.bytes off 1 } (off + len) l4 fin n
    else if k.proto = 44 then
      if !v.holds off 8 then k.fail else
      let w := fieldBe v.bytes (off + 2) 2
      let k1 := { k with
        proto := field v.bytes off 1, fragment := true, first := w / 8 == 0, fragId := fieldBe v.bytes (off + 4) 4
        fragOff := w / 8 * 8, more := w % 2 == 1, fragLen := fin - (off + 8) }
      if w / 8 = 0 then parseExt v k1 (off + 8) l4 fin n else k1
    else l4 k off

/-- The network header of an Ethernet frame whose type has been read (R415, R417). -/
def parseL3 (v : View) (k : Key) (off : Nat) (ovl : Key → Nat → Key) (mayOverlay : Bool) : Key :=
  if k.etherType = 0x0800 then
    if !v.holds off 20 then { k with l3Off := off }.fail else
    let ihl := 4 * bits (field v.bytes off 1) 3 0
    let k1 := { k with l3Off := off }
    if ihl < 20 || !v.holds off ihl || foldSum (inetSum (slice v.bytes off ihl)) != 0xFFFF then k1.fail else
    let w := fieldBe v.bytes (off + 6) 2
    let isFrag := bit w 13 || w % 8192 != 0
    let k2 := { k1 with
      tos := field v.bytes (off + 1) 1, proto := field v.bytes (off + 9) 1, ttlLow := field v.bytes (off + 8) 1 ≤ 1
      srcIp := slice v.bytes (off + 12) 4, dstIp := slice v.bytes (off + 16) 4, fragId := fieldBe v.bytes (off + 4) 2
      fragment := isFrag, first := isFrag && w % 8192 == 0, fragOff := w % 8192 * 8, more := bit w 13
      fragLen := fieldBe v.bytes (off + 2) 2 - ihl }
    if w % 8192 = 0 then parseL4 v k2 (off + ihl) ovl mayOverlay else k2
  else if k.etherType = 0x86DD then
    if !v.holds off 40 then { k with l3Off := off }.fail else
    let k1 := { k with
      l3Off := off, ipv6 := true, tos := fieldBe v.bytes off 2 / 16 % 256, proto := field v.bytes (off + 6) 1
      ttlLow := field v.bytes (off + 7) 1 ≤ 1, srcIp := slice v.bytes (off + 8) 16, dstIp := slice v.bytes (off + 24) 16 }
    parseExt v k1 (off + 40) (fun k o => parseL4 v k o ovl mayOverlay) (off + 40 + fieldBe v.bytes (off + 4) 2) 4
  else k

/-- An Ethernet header with at most one tag, and what follows it. -/
def parseEth (v : View) (k : Key) (off : Nat) (ovl : Key → Nat → Key) (mayOverlay : Bool) : Key :=
  if !v.holds off 14 then k.fail else
  let t := fieldBe v.bytes (off + 12) 2
  if t = 0x8100 then
    if !v.holds off 18 then k.fail else
    let t2 := fieldBe v.bytes (off + 16) 2
    let k1 := { k with vlan := true, vlanTci := fieldBe v.bytes (off + 14) 2, etherType := t2 }
    if t2 = 0x8100 then k1.fail else parseL3 v k1 (off + 18) ovl mayOverlay
  else parseL3 v { k with etherType := t } (off + 14) ovl mayOverlay

/-- The inner frame of an overlay, parsed with no further overlay (R415). -/
def parseInner (v : View) (k : Key) (off : Nat) : Key := parseEth v { k with inner := off } off (fun k _ => k) false

/-- What the parser finds in a frame received on a port (R415 to R417). -/
def State.parse (s : State) (port : Nat) (frame : Bytes) : Key :=
  let v : View :=
    { bytes := frame, limit := min (frame.length - 4) 256, vxlan := s.e 0x2900 1, geneve := s.e 0x2900 2, zt := s.zt.udpPort }
  parseEth v { (default : Key) with inPort := port, frameLen := frame.length } 0 (parseInner v) true

/-! ### Frames that the ZX9 builds -/

/-- The IP header of a payload: addresses as LOCAL_IP of R295 lays them out. -/
def ipHeader (v6 : Bool) (src dst : Bytes) (proto tos flags len : Nat) : Bytes :=
  if v6 then
    toBe 4 (6 * 2 ^ 28 + tos * 2 ^ 20 + Config.frameField 1 % 2 ^ 20) ++ toBe 2 len ++ toLe 1 proto
      ++ toLe 1 (Config.frameField 0) ++ fit 16 src ++ fit 16 dst
  else
    let h := [0x45] ++ toLe 1 tos ++ toBe 2 (20 + len) ++ toBe 2 (Config.frameField 2) ++ toBe 2 flags
      ++ toLe 1 (Config.frameField 0) ++ toLe 1 proto ++ [0, 0] ++ fit 4 src ++ fit 4 dst
    putBytes h 10 (toBe 2 (inetChecksum h))

/-- A UDP datagram with its checksum (R283). -/
def udpDatagram (v6 : Bool) (src dst : Bytes) (sport dport : Nat) (payload : Bytes) : Bytes :=
  let len := 8 + payload.length
  let h := toBe 2 sport ++ toBe 2 dport ++ toBe 2 len ++ [0, 0] ++ payload
  let pseudo := if v6 then fit 16 src ++ fit 16 dst ++ toBe 4 len ++ toBe 4 17
    else fit 4 src ++ fit 4 dst ++ toBe 2 17 ++ toBe 2 len
  let c := inetChecksum (pseudo ++ h)
  putBytes h 6 (toBe 2 (if c = 0 then 0xFFFF else c))

/-- A subscriber record by number. -/
def State.subscriber? (s : State) (i : Nat) : Option Subscriber := s.packet.subscribers.find? fun x => x.id == i

/-- A service record, at its reset form while none has been written: no shaping, no meter. -/
def State.service (s : State) (sub svc : Nat) : Service :=
  match s.packet.services.find? fun x => x.subscriber == sub && x.id == svc with
  | some x => x
  | none => { (default : Service) with subscriber := sub, id := svc, weight := 1, queueLimit := 67108864 }

/-- An Ethernet frame, without FCS, with the subscriber's tag when it has one (R437, R439). -/
def ethFrame (dst src : Bytes) (tci etherType : Nat) (payload : Bytes) : Bytes :=
  fit 6 dst ++ fit 6 src ++ (if tci = 0 then [] else toBe 2 0x8100 ++ toBe 2 tci) ++ toBe 2 etherType ++ payload

/-- NEXT_HOP_MAC of a port. -/
def State.nextHop (s : State) (port : Nat) : Bytes := toLe 6 (s.e 0x290D port)

/-- PORT_MAC of a port. -/
def State.portMac (s : State) (port : Nat) : Bytes := toLe 6 (s.e 0x290C port)

/-- An inner frame in its subscriber's overlay (R437). -/
def State.encapsulate (s : State) (x : Subscriber) (dscp port : Nat) (inner : Bytes) : Bytes :=
  let v6 := bit x.oflags 0
  let hdr := if x.overlay = 1 then toLe 4 8 ++ toBe 3 x.vni ++ [0]
    else [0, 0] ++ toBe 2 0x6558 ++ toBe 3 x.vni ++ [0]
  let dport := if x.overlay = 1 then s.e 0x2900 1 else s.e 0x2900 2
  let udp := udpDatagram v6 x.outerSrc x.outerDst (Config.portHash x.id x.vni % 65536) dport (hdr ++ inner)
  ethFrame (s.nextHop port) (s.portMac port) x.vlanTci (if v6 then 0x86DD else 0x0800)
    (ipHeader v6 x.outerSrc x.outerDst 17 (4 * dscp) (Config.frameField 3) udp.length ++ udp)

/-- The frame, without FCS, of an IP packet that the ZX9 sends for a subscriber and service on a port (R283, R439): ECT(0)
and Don't Fragment for ZT. -/
def State.buildFrame (s : State) (sub svc port : Nat) (v6 : Bool) (src dst : Bytes) (sport dport ecn : Nat) (payload : Bytes) :
    Bytes :=
  let x := (s.subscriber? sub).getD default
  let dscp := (s.service sub svc).dscp
  let udp := udpDatagram v6 src dst sport dport payload
  let ip := ipHeader v6 src dst 17 (4 * dscp + ecn) 0x4000 udp.length ++ udp
  let ty := if v6 then 0x86DD else 0x0800
  if x.overlay = 0 then ethFrame (s.nextHop port) (s.portMac port) x.vlanTci ty ip
  else s.encapsulate x dscp port (ethFrame x.innerMac (s.portMac port) 0 ty ip)

end Sys2Proof.Machine
end

