-- ==== Sys2Proof/Machine/Classify.lean ====
section
/-! DEFINITION. The classifier (R418 to R422) and its rule set: rule records (R423), staging, committing and discarding
(R424 to R427). -/

namespace Sys2Proof.Machine

/-! ### Lookup (R418 to R421) -/

/-- The AND of two byte strings. -/
def andBytes (a b : Bytes) : Bytes := List.zipWith (fun (x y : Byte) => x &&& y) a b

/-- Whether a range comparator is true for a key; 0xFFFF names none (R418, R419). -/
def RuleSet.rangeTrue (r : RuleSet) (key : Bytes) (i : Nat) : Bool :=
  if i = 0xFFFF then true else
  match r.ranges.find? fun c => c.index == i with
  | none => true
  | some c => c.lo ≤ field key c.field 2 && field key c.field 2 ≤ c.hi

/-- Whether a ternary entry matches a key (R419). -/
def RuleSet.ternaryMatch (r : RuleSet) (key : Bytes) (t : Ternary) : Bool :=
  andBytes key t.mask == andBytes t.value t.mask && r.rangeTrue key t.rcA && r.rangeTrue key t.rcB

/-- The ternary action of a key: the matching entry of the lowest index (R419). -/
def RuleSet.ternaryAction (r : RuleSet) (key : Bytes) : Action :=
  match r.ternary.find? (r.ternaryMatch key) with
  | some t => t.action
  | none => r.ternaryDefault

/-- A key under the mask of a class. -/
def RuleSet.masked (r : RuleSet) (cls : Nat) (key : Bytes) : Bytes := andBytes key (r.masks.getD cls [])

/-- The exact action of a key in a class (R420). -/
def RuleSet.exactAction (r : RuleSet) (cls : Nat) (key : Bytes) : Action :=
  match r.exact.find? fun e => e.cls == cls && e.key == r.masked cls key with
  | some e => e.action
  | none => r.classDefaults.getD cls default

/-- The packet's action: that of the last lookup (R421). -/
def RuleSet.classify (r : RuleSet) (key : Bytes) : Action :=
  let a := r.ternaryAction key
  if a.act = 3 then r.exactAction a.exactClass key else a

/-! ### Rule records (R422 to R425) -/

/-- An action's 24 bytes. -/
def parseAction (b : Bytes) : Action :=
  { act := field b 0 1, aflags := field b 1 1, consumer := field b 2 1, excClass := field b 3 1, subscriber := field b 4 2
    service := field b 6 1, tmPort := field b 7 1, queue := field b 8 4, mirrorPort := field b 12 1
    exactClass := field b 13 1, colour := field b 14 1, flowId := field b 16 4 }

/-- Whether an action's reserved fields are zero. -/
def actionReserved (b : Bytes) : Bool :=
  bits (field b 1 1) 7 4 != 0 || bit (field b 1 1) 0 || field b 15 1 != 0 || field b 20 4 != 0

/-- Whether a field of an action is outside its range (R422, R647); exact says that the action is not the ternary
lookup's. -/
def Action.outOfRange (a : Action) (exact : Bool) : Bool :=
  3 < a.act || (exact && a.act == 3) || 7 < a.excClass || 16383 < a.subscriber || 7 < a.service || 2 < a.colour ||
  65535 < a.flowId || 15 < a.exactClass || 13 < a.mirrorPort ||
  (a.act == 1 && (3 < a.consumer || !((4 ≤ a.tmPort && a.tmPort ≤ 12) || a.tmPort == 0xFF))) ||
  (a.act == 2 && 13 < a.tmPort) ||
  (a.queue != 0 && !(a.act == 1 && a.consumer == 3))

/-- Whether a handle names a packet receive queue. -/
def State.isRxQueue (s : State) (h : Nat) : Bool :=
  handleKind h == 2 &&
  (match s.queue? (handleIndex h) with
   | some q => q.kind == 1 && q.engine == 7 && q.cabinet == handleCabinet h
   | none => false)

/-- Whether an action delivers or forwards under a subscriber that is not ENABLED, or to a queue that is no packet receive
queue (R424). -/
def State.actionDangles (s : State) (a : Action) : Bool :=
  ((a.act == 1 || a.act == 2) && !(match s.subscriber? a.subscriber with
    | some x => x.enabled
    | none => false)) ||
  (a.act == 1 && a.consumer == 3 && !s.isRxQueue a.queue)

/-- The reason an action is refused, 0 for none (R424). -/
def State.actionReason (s : State) (b : Bytes) (exact : Bool) : Nat :=
  let a := parseAction b
  if actionReserved b then 1 else if a.outOfRange exact then 2 else if s.actionDangles a then 6 else 0

/-- A ternary entry placed by rising index, replacing one of the same index. -/
def putTernary (t : Ternary) : List Ternary → List Ternary
  | [] => [t]
  | x :: r => if t.index < x.index then t :: x :: r else if t.index = x.index then t :: r else x :: putTernary t r

/-- Whether the exact table has no room for one more entry: above 90 % the placement may fail, which a free value
decides (R425). -/
def RuleSet.noRoom (r : RuleSet) (free : Nat) : Bool :=
  1048576 ≤ r.exact.length || (943718 ≤ r.exact.length && free % 2 == 1)

/-- A rule record applied to a rule set, or the reason it is refused (R423, R424). -/
def State.applyRule (s : State) (r : RuleSet) (b : Bytes) (free : Nat) : Except Nat RuleSet :=
  let op := field b 0 1
  let cls := field b 1 1
  let idx := field b 2 2
  let rcA := field b 4 2
  let rcB := field b 6 2
  let act := slice b 8 24
  let key := slice b 32 64
  let mask := slice b 96 64
  if op = 0 || 7 < op then .error 1
  else if op = 1 then
    if 15 < cls then .error 2
    else if s.actionReason act true != 0 then .error (s.actionReason act true)
    else
      let k := r.masked cls key
      if r.exact.any fun e => e.cls == cls && e.key == k then .error 4
      else if r.noRoom free then .error 3
      else .ok { r with exact := r.exact ++ [{ cls := cls, key := k, action := parseAction act }] }
  else if op = 2 then
    if 15 < cls then .error 2
    else
      let k := r.masked cls key
      if !(r.exact.any fun e => e.cls == cls && e.key == k) then .error 5
      else .ok { r with exact := r.exact.filter fun e => !(e.cls == cls && e.key == k) }
  else if op = 3 then
    if 16383 < idx || (511 < rcA && rcA != 0xFFFF) || (511 < rcB && rcB != 0xFFFF) then .error 2
    else if s.actionReason act false != 0 then .error (s.actionReason act false)
    else
      let t : Ternary := { index := idx, value := key, mask := mask, rcA := rcA, rcB := rcB, action := parseAction act }
      .ok { r with ternary := putTernary t r.ternary }
  else if op = 4 then
    if 16383 < idx then .error 2 else .ok { r with ternary := r.ternary.filter fun t => t.index != idx }
  else if op = 5 then
    if 511 < idx || 62 < field key 0 2 || field key 0 2 % 2 != 0 then .error 2
    else
      let c : RangeCmp := { index := idx, field := field key 0 2, lo := field key 2 2, hi := field key 4 2 }
      .ok { r with ranges := r.ranges.filter (fun x => x.index != idx) ++ [c] }
  else if op = 6 then
    if 15 < cls then .error 2 else .ok { r with masks := r.masks.set cls mask }
  else
    if 15 < cls && cls != 0xFF then .error 2
    else if s.actionReason act (cls != 0xFF) != 0 then .error (s.actionReason act (cls != 0xFF))
    else if cls = 0xFF then .ok { r with ternaryDefault := parseAction act }
    else .ok { r with classDefaults := r.classDefaults.set cls (parseAction act) }

/-- A batch applied in order; the index and reason of the first record that fails (R424). -/
def State.applyRules (s : State) (r : RuleSet) : Nat → List Bytes → Except (Nat × Nat) RuleSet
  | _, [] => .ok r
  | i, b :: rest =>
    match s.applyRule r b (Config.freeNat (s.fresh + i)) with
    | .error reason => .error (i, reason)
    | .ok r' => s.applyRules r' (i + 1) rest

/-- Exact entries committed or staged (0x2901:08). -/
def exactInUse (a b : RuleSet) : Nat :=
  a.exact.length + (b.exact.filter fun e => !(a.exact.any fun x => x.cls == e.cls && x.key == e.key)).length

/-- The result of a staging: the failing record, or none, and the reason. -/
def stageResult (i reason : Nat) : Nat := i % 2 ^ 32 + reason * 2 ^ 32

/-- A dictionary write that acts and that a firmware activation refuses instead of holding (R450). -/
def State.actOpen (s : State) (r : ActReq) (idx sub : Nat) (eff : ActEffect) : Result :=
  if s.unreachable r then s.idle else s.commit (s.serveWrite r idx sub eff)

/-- RULE_STAGE's effect (R424). -/
def actRuleStage : ActEffect := fun _ s =>
  if s.contract.activation = 1 then .error (.state 3 0) else
  let n := s.e 0x2901 2
  match s.readCab 0 (s.e 0x2901 1) (160 * n) with
  | .error _ => .error .range
  | .ok bs =>
    let p := s.packet
    let s0 := { s with fresh := s.fresh + n }
    match s.applyRules p.shadow 0 (chunksOf 160 n bs) with
    | .error (i, reason) => .ok (s0.put 0x2901 6 (stageResult i reason), false)
    | .ok r =>
      let s1 := (s0.put 0x2901 6 (stageResult 0xFFFFFFFF 0)).put 0x2901 8 (exactInUse p.committed r)
      let s2 := if s.e 0x2901 7 = 0 then s1.put 0x2901 7 1 else s1
      .ok ({ s2 with packet := { p with
        shadow := r, stagedMeanwhile := p.stagedMeanwhile || s.e 0x2901 7 == 2 } }, false)

/-- RULE_STAGE (R424): the batch joins the shadow as a whole, or not at all. -/
def execRuleStage (req : ActReq) (s : State) : Result := s.actOpen req 0x2901 3 actRuleStage

/-- RULE_COMMIT's effect (R426, R427). -/
def actRuleCommit : ActEffect := fun _ s =>
  if s.contract.activation = 1 then .error (.state 3 0)
  else if s.e 0x2901 7 = 2 then .error (.state 2 0)
  else
    let p := s.packet
    let s1 := ((s.put 0x2901 0 (s.e 0x2901 0 + 1)).put 0x2901 7 2).put 0x2901 8 p.shadow.exact.length
    .ok ({ s1 with packet := { p with
      previous := some p.committed, committed := p.shadow, stagedMeanwhile := false } }, false)

/-- RULE_COMMIT (R426): the shadow becomes the committed rule set, under the next version. -/
def execRuleCommit (req : ActReq) (s : State) : Result := s.actOpen req 0x2901 4 actRuleCommit

/-- RULE_DISCARD's effect (R427). -/
def actRuleDiscard : ActEffect := fun _ s =>
  let p := s.packet
  let s1 := (if s.e 0x2901 7 = 1 then s.put 0x2901 7 0 else s).put 0x2901 8 p.committed.exact.length
  .ok ({ s1 with packet := { p with shadow := p.committed, stagedMeanwhile := false } }, false)

/-- RULE_DISCARD (R427): the shadow is the committed rule set again. -/
def execRuleDiscard (req : ActReq) (s : State) : Result := s.act req 0x2901 5 actRuleDiscard

/-- VERSION_DRAINED (R427): no frame of the previous version remains in the classifier. -/
def execVersionDrained (s : State) : Result :=
  if s.e 0x2901 7 = 2 then
    let s1 := s.put 0x2901 7 (if s.packet.stagedMeanwhile then 1 else 0)
    s.quiet { s1 with packet := { s1.packet with previous := none, stagedMeanwhile := false } }
  else s.idle

end Sys2Proof.Machine
end

