-- ==== Sys2Proof/Machine/Traffic.lean ====
section
/-! DEFINITION. The traffic manager: records (R437 to R439), lengths and meters (R440, R441), service queues, their
scheduling (R442, R446, R447) and shapers with their calendar (R443 to R445). -/

namespace Sys2Proof.Machine

/-! ### Records (R437 to R439) -/

/-- The unit of meter tokens: 10⁻⁹ byte. -/
def meterUnit : Nat := 1000000000

/-- The unit of shaper tokens: a bit per second for one nanosecond, 1 ÷ (8 × 10⁹) byte. -/
def shaperUnit : Nat := 8000000000

/-- A RATE and a BURST in range (R437, R438). -/
def rateOk (rate burst : Nat) : Bool :=
  (rate == 0 || (64000 ≤ rate && rate ≤ 1600000000000)) && 9216 ≤ burst && burst ≤ 16777216

/-- A subscriber record's 128 bytes: the reason it is refused, or its fields (R437). -/
def parseSubscriber (b : Bytes) : Except Nat Subscriber :=
  let id := field b 2 2
  let ovl := bits (field b 8 1) 2 1
  let ohead := signed 8 (field b 10 1)
  if field b 1 1 != 0 || bits (field b 6 2) 15 14 != 0 || bits (field b 8 1) 7 3 != 0 || field b 11 1 != 0 ||
      field b 14 2 != 0 || bits (field b 28 4) 31 24 != 0 || bits (field b 70 1) 7 1 != 0 || !allZero (slice b 71 57) then
    .error 1
  else if 16383 < id || 4095 < field b 4 2 || ovl == 3 || field b 9 1 == 0 || ohead < -64 || 64 < ohead ||
      !rateOk (field b 16 8) (field b 24 4) then .error 2
  else .ok
    { id := id, cabinet := field b 4 2, portMask := field b 6 2, enabled := bit (field b 8 1) 0, overlay := ovl
      weight := field b 9 1, overhead := ohead, vlanTci := field b 12 2, rate := field b 16 8, burst := field b 24 4
      vni := field b 28 4, outerSrc := slice b 32 16, outerDst := slice b 48 16, innerMac := slice b 64 6
      oflags := field b 70 1 }

/-- A service record's 128 bytes: the reason it is refused, or its fields with full buckets (R438, R441). -/
def parseService (now : Nat) (b : Bytes) : Except Nat Service :=
  let m := field b 6 1
  let sizeOk := fun (v : Nat) => 9216 ≤ v && v ≤ 16777216
  let cir := field b 24 8
  if bits (field b 4 1) 7 6 != 0 || bits (field b 48 1) 7 6 != 0 || !allZero (slice b 49 79) then .error 1
  else if 7 < field b 1 1 || 16383 < field b 2 2 || (2 ≤ field b 1 1 && field b 5 1 == 0) || 4 < m || 2 < field b 7 1 ||
      !rateOk (field b 8 8) (field b 16 4) || field b 20 4 < 65536 || 67108864 < field b 20 4 ||
      cir < 1000 || 200000000000 < cir || !sizeOk (field b 32 4) || !(field b 36 4 == 0 || sizeOk (field b 36 4)) ||
      (if 3 ≤ m then field b 40 8 < cir || 200000000000 < field b 40 8 else field b 40 8 != 0) then .error 2
  else .ok
    { subscriber := field b 2 2, id := field b 1 1, dscp := field b 4 1, weight := field b 5 1, meter := m
      yellowAction := field b 7 1, rate := field b 8 8, burst := field b 16 4, queueLimit := field b 20 4, cir := cir
      cbs := field b 32 4, ebsPbs := field b 36 4, pir := field b 40 8, yellowDscp := field b 48 1
      tokC := field b 32 4 * meterUnit, tokE := field b 36 4 * meterUnit, metered := now }

/-- A subscriber record takes its place; packets queued when it is disabled leave under the old record (R439). -/
def State.putSubscriber (s : State) (x : Subscriber) : State :=
  let queued := s.packet.queues.any fun q => q.subscriber == x.id && !q.frames.isEmpty
  let x' := match s.packet.subscribers.find? fun y => y.id == x.id with
    | some y => if y.enabled && !x.enabled && queued then { y with enabled := false } else x
    | none => x
  { s with packet := { s.packet with
      subscribers := s.packet.subscribers.filter (fun y => y.id != x.id) ++ [x'] } }

/-- A service record takes its place; its meter's buckets keep their counts, capped at the new sizes (R439). -/
def State.putService (s : State) (x : Service) : State :=
  let x' := match s.packet.services.find? fun y => y.subscriber == x.subscriber && y.id == x.id with
    | some y => { x with tokC := min y.tokC x.tokC, tokE := min y.tokE x.tokE, metered := y.metered }
    | none => x
  { s with packet := { s.packet with
      services := s.packet.services.filter (fun y => !(y.subscriber == x.subscriber && y.id == x.id)) ++ [x'] } }

/-- Subscribers that a cabinet holds. -/
def State.subscribersOf (s : State) (cab : Nat) : Nat :=
  (s.packet.subscribers.filter fun x => x.enabled && x.cabinet == cab).length

/-- A record of a traffic-manager batch applied, or its reason. -/
def State.applyTm (s : State) (b : Bytes) : Except Nat State :=
  if field b 0 1 = 1 then
    match parseSubscriber b with
    | .error e => .error e
    | .ok x =>
      let held := s.packet.subscribers.any fun y => y.id == x.id && y.enabled && y.cabinet == x.cabinet
      if x.enabled && !held && s.share x.cabinet 5 ≤ s.subscribersOf x.cabinet then .error 3
      else .ok (s.putSubscriber x)
  else if field b 0 1 = 2 then
    match parseService s.now b with
    | .error e => .error e
    | .ok x => .ok (s.putService x)
  else .error 2

/-- A batch applied in order; the index and reason of the first record that fails. -/
def State.applyTms (s : State) : Nat → List Bytes → Except (Nat × Nat) State
  | _, [] => .ok s
  | i, b :: r =>
    match s.applyTm b with
    | .error e => .error (i, e)
    | .ok t => t.applyTms (i + 1) r

/-- TM_APPLY's effect (R437 to R439). -/
def actTmApply : ActEffect := fun _ s =>
  if s.contract.activation = 1 then .error (.state 3 0) else
  let n := s.e 0x2907 1
  match s.readCab 0 (s.e 0x2907 0) (128 * n) with
  | .error _ => .error .range
  | .ok bs =>
    match s.applyTms 0 (chunksOf 128 n bs) with
    | .error (i, reason) => .ok (s.put 0x2907 3 (stageResult i reason), false)
    | .ok t => .ok (t.put 0x2907 3 (stageResult 0xFFFFFFFF 0), false)

/-- TM_APPLY (R439): the batch governs later packets, each shaper from its next refill. -/
def execTmApply (req : ActReq) (s : State) : Result := s.actOpen req 0x2907 2 actTmApply

/-! ### Meters (R440, R441) -/

/-- The shaped length of a frame: FRAME_LEN + OVERHEAD, at least 1 (R440). -/
def State.shapedLen (s : State) (sub : Nat) (f : Bytes) : Nat :=
  let o := match s.subscriber? sub with
    | some x => x.overhead
    | none => 0
  (max 1 ((f.length : Int) + o)).toNat

/-- A service's buckets as they stand now. -/
def Service.refill (x : Service) (now : Nat) : Service :=
  let dt := now - x.metered
  let capC := x.cbs * meterUnit
  let capE := x.ebsPbs * meterUnit
  if x.meter ≤ 2 then
    let c := x.tokC + dt * x.cir
    { x with tokC := min c capC, tokE := min (x.tokE + (c - min c capC)) capE, metered := now }
  else
    { x with tokC := min (x.tokC + dt * x.cir) capC, tokE := min (x.tokE + dt * x.pir) capE, metered := now }

/-- The colour of a packet of given length and pre-colour (0 green, 1 yellow, 2 red), and the buckets after it (RFC 2697,
RFC 2698). -/
def Service.colour (x : Service) (len pre : Nat) : Nat × Service :=
  let b := len * meterUnit
  let pre := if x.meter = 2 || x.meter = 4 then pre else 0
  if x.meter = 0 then (0, x)
  else if x.meter ≤ 2 then
    if pre = 0 && b ≤ x.tokC then (0, { x with tokC := x.tokC - b })
    else if pre ≤ 1 && b ≤ x.tokE then (1, { x with tokE := x.tokE - b })
    else (2, x)
  else if pre = 2 || x.tokE < b then (2, x)
  else if pre = 1 || x.tokC < b then (1, { x with tokE := x.tokE - b })
  else (0, { x with tokC := x.tokC - b, tokE := x.tokE - b })

/-- The DSCP of an IP frame is rewritten, with its checksums (R438). -/
def remark (k : Key) (dscp : Nat) (frame : Bytes) : Bytes :=
  let b := noFcs frame
  if k.l3Off = 0 then frame
  else if k.ipv6 then
    let w := fieldBe b k.l3Off 4
    let w' := w / 2 ^ 28 * 2 ^ 28 + (4 * dscp + k.tos % 4) * 2 ^ 20 + w % 2 ^ 20
    withFcs (putBytes b k.l3Off (toBe 4 w'))
  else
    let ihl := 4 * bits (field b k.l3Off 1) 3 0
    let b1 := putBytes (putBytes b (k.l3Off + 1) (toLe 1 (4 * dscp + k.tos % 4))) (k.l3Off + 10) [0, 0]
    withFcs (putBytes b1 (k.l3Off + 10) (toBe 2 (inetChecksum (slice b1 k.l3Off ihl))))

/-! ### Service queues (R442, R446) -/

/-- A service queue. -/
def State.svcQueue? (s : State) (port sub svc : Nat) : Option SvcQueue :=
  s.packet.queues.find? fun q => q.port == port && q.subscriber == sub && q.service == svc

/-- Bytes that a service queue holds, with the packets of it that wait for a receive queue (R435, R448). -/
def State.queuedBytes (s : State) (port sub svc : Nat) : Nat :=
  (match s.svcQueue? port sub svc with
   | some q => sumNat (q.frames.map fun f => f.bytes.length)
   | none => 0) +
  sumNat (s.packet.rxWaiting.map fun w =>
    if w.2.action.tmPort == port && w.2.action.subscriber == sub && w.2.action.service == svc then w.2.bytes.length else 0)

/-- Bytes in the packet buffer. -/
def State.bufferUsed (s : State) : Nat :=
  sumNat (s.packet.queues.map fun q => sumNat (q.frames.map fun f => f.bytes.length)) +
  sumNat (s.packet.fragWait.map fun f => f.bytes.length) + sumNat (s.packet.rxWaiting.map fun w => w.2.bytes.length)

/-- Whether a packet finds its service queue at QUEUE_LIMIT, or the packet buffer full (R446). -/
def State.queueFull (s : State) (port sub svc len : Nat) : Bool :=
  (s.service sub svc).queueLimit ≤ s.queuedBytes port sub svc || s.tiers.pktBuffer < s.bufferUsed + len

/-- Whether a subscriber may use a port (R437). -/
def State.portAllowed (s : State) (sub port : Nat) : Bool :=
  match s.subscriber? sub with
  | some x => bit x.portMask port
  | none => false

/-- A frame joins its service queue (R447). -/
def State.enqueue (s : State) (port sub svc : Nat) (f : Frame) : State :=
  match s.svcQueue? port sub svc with
  | some _ =>
    { s with packet := { s.packet with
        queues := updWhere (fun q => q.port == port && q.subscriber == sub && q.service == svc)
          (fun q => { q with frames := q.frames ++ [f] }) s.packet.queues } }
  | none =>
    let q : SvcQueue := { port := port, subscriber := sub, service := svc, frames := [f], deficit := 0, credited := false }
    { s with packet := { s.packet with queues := s.packet.queues ++ [q] } }

/-- A forwarded or delivered packet joins its service queue, or is dropped (R446). -/
def State.enqueueOrDrop (s : State) (port sub svc : Nat) (f : Frame) : State :=
  if !s.portAllowed sub port || s.queueFull port sub svc f.bytes.length then s.bump 0x290A port 1
  else s.enqueue port sub svc f

/-! ### Shapers (R443 to R445) -/

/-- The RATE and BURST that govern a shaper from its next refill. -/
def State.shaperRate (s : State) (sub : Nat) (svc : Option Nat) : Nat × Nat :=
  match svc with
  | none =>
    (match s.subscriber? sub with
     | some x => (x.rate, x.burst)
     | none => (0, 0))
  | some v => ((s.service sub v).rate, (s.service sub v).burst)

/-- A shaper as it stands; one never used before is full (R443). -/
def State.shaper (s : State) (port sub : Nat) (svc : Option Nat) : Shaper :=
  match s.packet.shapers.find? fun x => x.port == port && x.subscriber == sub && x.service == svc with
  | some x => x
  | none =>
    let r := s.shaperRate sub svc
    { port := port, subscriber := sub, service := svc, tokens := (r.2 * shaperUnit : Nat), lastRefill := s.now, rate := r.1
      burst := r.2, slotAt := none, coarse := false, eligibleAt := 0 }

/-- A shaper takes its place. -/
def State.putShaper (s : State) (x : Shaper) : State :=
  { s with packet := { s.packet with
      shapers := s.packet.shapers.filter
        (fun y => !(y.port == x.port && y.subscriber == x.subscriber && y.service == x.service)) ++ [x] } }

/-- Whether a shaper lets its queue send: it holds more than 0 tokens and is not on the calendar, or has RATE 0 (R442,
R443). -/
def Shaper.open (x : Shaper) : Bool := x.rate == 0 || (0 < x.tokens && x.slotAt.isNone)

/-- A refill: tokens accrue at the rate in force, then the record's rate and depth hold (R443, R445). -/
def State.refillShaper (s : State) (x : Shaper) : Shaper :=
  let r := s.shaperRate x.subscriber x.service
  let t := min (x.tokens + ((x.rate * (s.now - x.lastRefill) : Nat) : Int)) ((x.burst * shaperUnit : Nat) : Int)
  { x with tokens := min t ((r.2 * shaperUnit : Nat) : Int), lastRefill := s.now, rate := r.1, burst := r.2 }

/-- A shaper with no tokens left goes on the calendar: the first fine slot at or after its eligible time, reached through
a coarse slot when the delay is 2,097,152 ns or more (R444). -/
def Shaper.place (x : Shaper) (now : Nat) : Shaper :=
  if 0 < x.tokens || x.rate = 0 then x else
  let d := (-x.tokens).toNat
  let fine := ceilDiv (now * x.rate + d) (32 * x.rate) * 32
  if d < 2097152 * x.rate then { x with slotAt := some fine, coarse := false, eligibleAt := fine }
  else { x with slotAt := some (now + ceilDiv d (2097152 * x.rate) * 2097152), coarse := true, eligibleAt := fine }

/-- A dequeue at a shaper: refill, subtract the shaped length, and place it when it is used up (R443, R444). -/
def State.useShaper (s : State) (port sub : Nat) (svc : Option Nat) (len : Nat) : State :=
  let x := s.refillShaper (s.shaper port sub svc)
  if x.rate = 0 then s.putShaper x
  else s.putShaper (Shaper.place { x with tokens := x.tokens - ((len * shaperUnit : Nat) : Int) } s.now)

/-- A calendar slot of a shaper expires: from the coarse wheel to the fine one, or to a refill (R444). -/
def State.expireSlot (s : State) (x : Shaper) : State :=
  if x.coarse && s.now < x.eligibleAt then s.putShaper { x with slotAt := some x.eligibleAt, coarse := false }
  else
    let y := s.refillShaper { x with slotAt := none, coarse := false }
    s.putShaper (if 0 < y.tokens then y else y.place s.now)

/-- CALENDAR_SLOT_EXPIRY (R444, R445): the calendar slots of a port's shapers that have come are served. -/
def execCalendarSlotExpiry (port : Nat) (s : State) : Result :=
  if 14 ≤ port then .fault .noSuchUnit
  else if s.faults.safe then s.idle
  else
    let due := s.packet.shapers.filter fun x => x.port == port &&
      (match x.slotAt with
       | some t => decide (t ≤ s.now)
       | none => false)
    s.quiet (due.foldl State.expireSlot s)

/-! ### Scheduling (R442) -/

/-- Whether a service queue is eligible (R442). -/
def State.eligible (s : State) (q : SvcQueue) : Bool :=
  !q.frames.isEmpty && (s.shaper q.port q.subscriber none).open && (s.shaper q.port q.subscriber (some q.service)).open

/-- The shaped length of the packet at the head of a queue. -/
def State.headLen (s : State) (q : SvcQueue) : Nat := s.shapedLen q.subscriber ((q.frames.headD default).bytes)

/-- One entry of a deficit round: its key, deficit, whether its quantum of this visit has been added, its quantum and the
length it would send. -/
structure Drr where
  key : Nat
  deficit : Nat
  credited : Bool
  quantum : Nat
  len : Nat
  deriving DecidableEq, Repr, Inhabited

/-- Deficit round-robin: the entry that sends next, and the round after it sent; fuel bounds the rotations. -/
def drrNext : Nat → List Drr → Option (Nat × List Drr)
  | 0, _ => none
  | _, [] => none
  | n + 1, x :: r =>
    let d := if x.credited then x.deficit else x.deficit + x.quantum
    if x.len ≤ d then some (x.key, { x with deficit := d - x.len, credited := true } :: r)
    else drrNext n (r ++ [{ x with deficit := d, credited := false }])

/-- Rotations that suffice: each adds at least 256 bytes, and no shaped length exceeds 9,280. -/
def drrFuel (n : Nat) : Nat := 40 * (n + 1)

/-- The service that a subscriber sends next on a port: 0 and 1 by strict priority, then 2 to 7 by deficit round-robin;
with the round after it (R442). -/
def State.nextService (s : State) (port sub : Nat) : Option (SvcQueue × List Drr) :=
  let qs := s.packet.queues.filter fun q => q.port == port && q.subscriber == sub && s.eligible q
  match qs.find? fun q => q.service == 0 with
  | some q => some (q, [])
  | none =>
    match qs.find? fun q => q.service == 1 with
    | some q => some (q, [])
    | none =>
      let round := qs.map fun q =>
        { key := q.service, deficit := q.deficit, credited := q.credited
          quantum := (s.service sub q.service).weight * 256, len := s.headLen q : Drr }
      match drrNext (drrFuel round.length) round with
      | none => none
      | some (k, r) => (qs.find? fun q => q.service == k).map (·, r)

/-- The round of a port: its subscribers with an eligible queue, those already in the round first, in its order. -/
def State.portRound (s : State) (port : Nat) : List Turn :=
  let subs := ((s.packet.queues.filter fun q => q.port == port && s.eligible q).map (·.subscriber)).eraseDups
  let old := s.packet.drrPort.filter fun t => t.port == port && subs.contains t.subscriber
  let fresh := subs.filter fun x => !(old.any fun t => t.subscriber == x)
  old ++ fresh.map fun x => { port := port, subscriber := x, deficit := 0, credited := false }

/-- What a port sends next: the queue, its subscriber's service round, and the port's round after it (R442). -/
def State.nextToSend (s : State) (port : Nat) : Option (SvcQueue × List Drr × List Turn) :=
  let round := (s.portRound port).filterMap fun t =>
    (s.nextService port t.subscriber).map fun p =>
      { key := t.subscriber, deficit := t.deficit, credited := t.credited
        quantum := (match s.subscriber? t.subscriber with
          | some x => x.weight
          | none => 1) * 1024
        len := s.headLen p.1 : Drr }
  match drrNext (drrFuel round.length) round with
  | none => none
  | some (k, r) =>
    (s.nextService port k).map fun p =>
      (p.1, p.2, r.map fun d => { port := port, subscriber := d.key, deficit := d.deficit, credited := d.credited })

/-- The service queues of a subscriber take the deficits of its round, in the round's order. -/
def putRound (port sub : Nat) (round : List Drr) (qs : List SvcQueue) : List SvcQueue :=
  let mine := fun (q : SvcQueue) => q.port == port && q.subscriber == sub && round.any fun d => d.key == q.service
  let moved := round.filterMap fun d =>
    (qs.find? fun q => q.port == port && q.subscriber == sub && q.service == d.key).map fun q =>
      { q with deficit := d.deficit, credited := d.credited }
  qs.filter (fun q => !mine q) ++ moved

/-- The packet at the head of a service queue leaves it: the rounds move on and both shapers are charged. -/
def State.takeHead (s : State) (port : Nat) (q : SvcQueue) (svcRound : List Drr) (turns : List Turn) : State :=
  let len := s.headLen q
  let qs := putRound port q.subscriber svcRound s.packet.queues
  let drop := fun (x : SvcQueue) =>
    { x with frames := x.frames.drop 1
             deficit := if x.frames.length ≤ 1 then 0 else x.deficit
             credited := if x.frames.length ≤ 1 then false else x.credited }
  let s1 := { s with packet := { s.packet with
    queues := (updWhere (fun (x : SvcQueue) => x.port == port && x.subscriber == q.subscriber && x.service == q.service) drop qs).filter
      fun (x : SvcQueue) => !x.frames.isEmpty
    drrPort := s.packet.drrPort.filter (fun (t : Turn) => t.port != port) ++ turns } }
  (s1.useShaper port q.subscriber none len).useShaper port q.subscriber (some q.service) len

end Sys2Proof.Machine
end

