-- ==== Sys2Proof/Machine/PacketPath.lean ====
section
/-! DEFINITION. The packet path's events: a frame received (R415 to R421, R426, R441), fragments (R428 to R431), exception
and mirror copies (R432, R433), deliveries into packet queues (R434, R435, R448), frames sent (R436, R442). -/

namespace Sys2Proof.Machine

/-! ### Copies (R432, R433) -/

/-- The tokens of an exception class now, in units of 10⁻⁹ packet. -/
def State.excTokens (s : State) (c : Nat) : Nat :=
  let depth := s.e 0x2904 c * meterUnit
  match s.packet.excTokens[c]? with
  | some (t, at_) => min depth (t + (s.now - at_) * s.e 0x2903 c)
  | none => depth

/-- An exception class's bucket takes a value. -/
def State.putExcTokens (s : State) (c v : Nat) : State :=
  let l := (List.range 8).map fun i => (if i = c then v else s.excTokens i, s.now)
  { s with packet := { s.packet with excTokens := l } }

/-- An exception copy, or its drop (R432); during a firmware activation every copy is dropped (R450). -/
def State.copyToControl (s : State) (f : Frame) : State :=
  let c := f.action.excClass
  let t := s.excTokens c
  if s.contract.activation = 1 || t < meterUnit || 4096 ≤ s.packet.excQueue.length then s.bump 0x2905 c 1
  else
    let s1 := s.putExcTokens c (t - meterUnit)
    { s1 with packet := { s1.packet with excQueue := s1.packet.excQueue ++ [f] } }

/-- A mirror copy, truncated, under MIRROR_SUBSCRIBER and service 7 (R433). -/
def State.mirrorCopy (s : State) (f : Frame) : State :=
  let n := s.e 0x2906 1
  let bytes := if n = 0 then f.bytes else f.bytes.take n
  let sub := s.e 0x2906 0
  let s1 := s.bump 0x2906 2 1
  if !s1.portAllowed sub f.action.mirrorPort || s1.queueFull f.action.mirrorPort sub 7 bytes.length then s1
  else s1.enqueue f.action.mirrorPort sub 7 { f with bytes := bytes, fromCtx := none }

/-- A flow record counts a packet (R647). -/
def State.countFlow (s : State) (f : Frame) : State :=
  let id := f.action.flowId
  if id = 0 then s
  else if s.packet.flows.any fun r => r.id == id then
    let add := fun (r : FlowRec) =>
      { r with packets := r.packets + 1, octets := r.octets + f.bytes.length, last := s.now, inPort := f.inPort
               first := if r.packets = 0 then s.now else r.first }
    { s with packet := { s.packet with flows := updWhere (fun r => r.id == id) add s.packet.flows } }
  else
    let r : FlowRec :=
      { id := id, packets := 1, octets := f.bytes.length, first := s.now, last := s.now, inPort := f.inPort
        lastExport := s.now }
    { s with packet := { s.packet with flows := s.packet.flows ++ [r] } }

/-! ### The packet's action (R422) -/

/-- A packet reaches its consumer: the queue of a cabinet, or the ZT, NVMe/TCP or PTP unit. -/
def State.deliver (s : State) (f : Frame) : State :=
  if f.action.consumer = 3 then
    { s with packet := { s.packet with rxWaiting := s.packet.rxWaiting ++ [(handleIndex f.action.queue, f)] } }
  else { s with packet := { s.packet with ctrlDelivered := f :: s.packet.ctrlDelivered } }

/-- The overlay of a packet is stripped (R422). -/
def decap (k : Key) (f : Frame) : Frame :=
  if k.inner = 0 then f
  else { f with bytes := withFcs ((noFcs f.bytes).drop k.inner), l3 := k.l3Off - k.inner, l4 := k.l4Off - k.inner }

/-- The meter judges a packet: its colour, and the buckets after it (R441). -/
def State.meter (s : State) (f : Frame) : Nat × State :=
  let a := f.action
  match s.packet.services.find? fun x => x.subscriber == a.subscriber && x.id == a.service with
  | none => (0, s)
  | some x =>
    let (c, y) := (x.refill s.now).colour (s.shapedLen a.subscriber f.bytes) a.colour
    (c, { s with packet := { s.packet with
      services := updWhere (fun z => z.subscriber == x.subscriber && z.id == x.id) (fun _ => y) s.packet.services } })

/-- A metered packet goes where its action sends it. -/
def State.route (s : State) (f : Frame) : State :=
  let a := f.action
  if a.act = 2 then s.enqueueOrDrop a.tmPort a.subscriber a.service f
  else if a.tmPort = 0xFF then s.deliver f
  else s.enqueueOrDrop a.tmPort a.subscriber a.service f

/-- A packet's action is carried out (R422, R432, R433, R439, R441). -/
def State.actOn (s : State) (k : Key) (f : Frame) : State :=
  let a := f.action
  let s1 := s.countFlow f
  let s2 := if bit a.aflags 1 then s1.copyToControl f else s1
  let s3 := if bit a.aflags 2 then s2.mirrorCopy f else s2
  if a.act = 0 then s3.bump 0x290B 1 1
  else if !(match s3.subscriber? a.subscriber with
    | some x => x.enabled
    | none => false) then s3.bump 0x290B 1 1
  else
    let (colour, s4) := s3.meter f
    if colour = 2 then s4.bump 0x290B 2 1
    else
      let s5 := if colour = 1 then s4.bump 0x290B 3 1 else s4
      let ya := (s5.service a.subscriber a.service).yellowAction
      if colour = 1 && ya == 2 then s5
      else
        let f1 := if colour = 1 && ya == 1 then
            { f with bytes := remark k (s5.service a.subscriber a.service).yellowDscp f.bytes } else f
        s5.route (if bit a.aflags 3 then decap k f1 else f1)

/-! ### Fragments (R428 to R431) -/

/-- The key of a fragment's datagram (R428). -/
def Key.fragKey (k : Key) : Bytes := fit 16 k.srcIp ++ fit 16 k.dstIp ++ toLe 1 k.proto ++ toLe 4 k.fragId ++ toLe 1 k.inPort

/-- The end of the bytes covered from 0 on, n steps of joining ranges. -/
def coveredTo (l : List (Nat × Nat)) : Nat → Nat → Nat
  | 0, e => e
  | n + 1, e => coveredTo l n (l.foldl (fun e r => if r.1 ≤ e && e < r.1 + r.2 then r.1 + r.2 else e) e)

/-- Whether every byte of a datagram has passed. -/
def FragEntry.whole (x : FragEntry) : Bool :=
  match x.endAt with
  | none => false
  | some e => decide (e ≤ coveredTo x.covered x.covered.length 0)

/-- A fragment passes under an entry. -/
def FragEntry.pass (k : Key) (now : Nat) (x : FragEntry) : FragEntry :=
  { x with lastSeen := now, covered := x.covered ++ [(k.fragOff, k.fragLen)]
           endAt := if k.more then x.endAt else some (k.fragOff + k.fragLen) }

/-- A fragment passes under its entry, which ends when the datagram is whole (R428). -/
def State.passFragment (s : State) (k : Key) (f : Frame) : State :=
  match s.packet.frags.find? fun x => x.key == k.fragKey with
  | none => s
  | some x =>
    let y := x.pass k s.now
    let fs := if y.whole then s.packet.frags.filter fun z => z.key != y.key
      else updWhere (fun z => z.key == y.key) (fun _ => y) s.packet.frags
    State.actOn { s with packet := { s.packet with frags := fs } } k { f with action := x.action }

/-- A frame with its action and the parser's findings. -/
def frameOf (s : State) (k : Key) (port : Nat) (bytes : Bytes) (a : Action) : Frame :=
  { inPort := port, bytes := bytes, version := s.e 0x2901 0, arrived := s.now, action := a, fromCtx := none, pflags := k.pflags
    l3 := k.l3Off, l4 := k.l4Off }

/-- A classified first fragment is recorded, and the fragments that waited for it follow it (R428, R429, R431). -/
def State.firstFragment (s : State) (k : Key) (f : Frame) : State :=
  let s1 := s.actOn k f
  if 8192 ≤ s1.packet.frags.length then s1.bump 0x2902 4 1
  else
    let x : FragEntry := { key := k.fragKey, action := f.action, lastSeen := s.now, covered := [(k.fragOff, k.fragLen)]
                           endAt := if k.more then none else some (k.fragOff + k.fragLen) }
    let mine := s1.packet.fragWait.filter fun w => (s.parse w.inPort w.bytes).fragKey == k.fragKey
    let s2 := { s1 with packet := { s1.packet with
      frags := if x.whole then s1.packet.frags else s1.packet.frags ++ [x]
      fragWait := s1.packet.fragWait.filter fun w => (s.parse w.inPort w.bytes).fragKey != k.fragKey } }
    mine.foldl (fun (s : State) w => s.passFragment (s.parse w.inPort w.bytes) w) s2

/-- A fragment that no first fragment serves is handled under FRAG_MISS_ACTION (R430). -/
def State.missFragment (s : State) (k : Key) (f : Frame) : State :=
  let s1 := s.bump 0x2902 5 1
  if s.e 0x2902 2 = 0 then s1 else s1.actOn k { f with action := s.packet.committed.classify k.bytes }

/-- A parsed frame is classified under the committed rules, and acted on (R421, R426, R428, R429). -/
def State.receive (s : State) (port : Nat) (bytes : Bytes) : State :=
  let k := s.parse port bytes
  let s1 := if k.bad then s.bump 0x290B 0 1 else s
  if k.fragment && !k.first then
    let f := frameOf s k port bytes default
    if s1.packet.frags.any fun x => x.key == k.fragKey then s1.passFragment k f
    else if 2048 ≤ s1.packet.fragWait.length || s1.tiers.pktBuffer < s1.bufferUsed + bytes.length then s1.missFragment k f
    else { s1 with packet := { s1.packet with fragWait := s1.packet.fragWait ++ [f] } }
  else
    let f := frameOf s k port bytes (s.packet.committed.classify k.bytes)
    if k.first then s1.firstFragment k f else s1.actOn k f

/-- Whether frames pass: from stage B2 (R449), not in the hardware safe state (R602), nor asleep or waking (R585, R593). -/
def State.framesPass (s : State) : Bool := !s.faults.safe && 2 ≤ s.e 0x1003 0 && s.e 0x2E05 0 ≤ 1

/-- Whether a frame is a wake frame of EP0 (R589): EtherType 0x0842, to the port's MAC or to broadcast, six bytes of 0xFF, the
MAC 16 times, and WAKE_TOKEN. -/
def State.isWakeFrame (s : State) (bytes : Bytes) : Bool :=
  let mac := toLe 6 (s.e 0x290C 0)
  let ones : Bytes := List.replicate 6 0xFF
  (bytes.take 6 == mac || bytes.take 6 == ones) && slice bytes 12 2 == [0x08, 0x42] &&
  slice bytes 14 106 == ones ++ (List.replicate 16 mac).flatten ++ toLe 4 (s.e 0x2E05 3)

/-- A frame at a port while the chip sleeps: EP0 listens in RETAIN when its wake bit is set; what is no wake frame is counted
(R585, R589), and a wake frame is WAKE_EVENT's. -/
def State.frameAsleep (s : State) (port : Nat) (bytes : Bytes) : Result :=
  if s.faults.safe || port != 0 || s.e 0x2E05 0 != 2 || !bit (s.e 0x2E05 2) 4 || s.isWakeFrame bytes then s.idle
  else s.quiet (s.bump 0x2E05 5 1)

/-- FRAME_RECEIVE (R415): a frame arrives on EP0 to EP3, or the oldest frame sent on LOOPBACK re-enters with IN_PORT 13.
A frame whose FCS is wrong is counted and goes no further (IEEE 802.3; notes/assumptions/25.md). -/
def execFrameReceive (port : Nat) (bytes : Bytes) (s : State) : Result :=
  if !(port < 4 || port == 13) then .fault .noSuchUnit
  else if !s.framesPass then s.frameAsleep port bytes
  else if port = 13 then
    match s.packet.loopback with
    | [] => s.idle
    | b :: r => if b != bytes then s.idle
      else s.quiet (State.receive { s with packet := { s.packet with loopback := r } } 13 b)
  else if bytes != withFcs (noFcs bytes) then s.quiet (s.bump 0x3014 port 1)
  else
    let s1 := (s.bump 0x3010 port 1).bump 0x3011 port bytes.length
    s.quiet (if s.e 0x2900 3 < bytes.length then s1.bump 0x290B 0 1 else s1.receive port bytes)

/-- FRAG_WAIT_LIMIT (R430): a waiting fragment's first fragment has not arrived in time. -/
def execFragWaitLimit (which : Nat) (s : State) : Result :=
  match s.packet.fragWait[which]? with
  | none => s.idle
  | some f =>
    if s.faults.safe || s.now < f.arrived + s.e 0x2902 0 then s.idle
    else
      let s1 := { s with packet := { s.packet with fragWait := s.packet.fragWait.eraseIdx which } }
      s.quiet (s1.missFragment (s.parse f.inPort f.bytes) f)

/-- FRAG_ENTRY_LIFETIME (R428): an entry of the fragment table has seen no fragment for its lifetime. -/
def execFragEntryLifetime (which : Nat) (s : State) : Result :=
  match s.packet.frags[which]? with
  | none => s.idle
  | some x =>
    if s.faults.safe || s.now < x.lastSeen + s.e 0x2902 1 then s.idle
    else s.quiet { s with packet := { s.packet with frags := s.packet.frags.eraseIdx which } }

/-! ### Packet receive queues (R434, R435, R448) -/

/-- The first packet that waits for a receive queue leaves the packet buffer. -/
def State.popRx (s : State) (qi : Nat) : State :=
  { s with packet := { s.packet with rxWaiting := s.packet.rxWaiting.eraseIdx (s.packet.rxWaiting.findIdx fun w => w.1 == qi) } }

/-- The first packet that waits for a receive queue is dropped (R435). -/
def State.dropRx (s : State) (qi : Nat) : State := (s.popRx qi).bump 0x290B 4 1

/-- ENGINE_AREA of a delivery (R434). -/
def rxArea (f : Frame) : Bytes :=
  toLe 4 f.action.flowId ++ toLe 2 f.version ++ toLe 1 f.inPort ++ toLe 1 f.pflags ++ toLe 8 f.arrived ++ toLe 1 f.l3
    ++ toLe 1 f.l4 ++ zeros 14

/-- The first field of a buffer record at fault (R434). -/
def rxRecordErr (r : Bytes) : Option Err :=
  firstErr [
    (field r 0 8 % 64 != 0, { status := stBadAlignment, detail := 0x8000 }),
    (field r 8 4 < 2048 || 16384 < field r 8 4, { status := stBadRange, detail := 0x8008 }),
    (!allZero (slice r 16 48), { status := stBadField, detail := 0x8010 })]

/-- A packet lies in the buffer of a record, which completes (R434). -/
def State.landedPacket (s : State) (q : Queue) (r : Bytes) (f : Frame) : State :=
  let data := noFcs f.bytes
  let s1 := ((s.putCab q.cabinet (field r 0 8) data).popRx q.index).passHead q.index 1
  let c : Ctx := { discardedCtx q q.head r stOk data.length s1.contract.nextCtx with area := rxArea f }
  let s2 := s1.completeCtx c false
  { s2 with contract := { s2.contract with nextCtx := s1.contract.nextCtx + 1 } }

/-- A packet is written into the buffer at HEAD of its receive queue, and the record completes (R434). -/
def State.landPacket (s : State) (q : Queue) (r : Bytes) (f : Frame) : Result :=
  let data := noFcs f.bytes
  match rxRecordErr r with
  | some e => s.commit (s.refuseHead q r e)
  | none =>
    if field r 8 4 < data.length then s.quiet (s.dropRx q.index)
    else
      match s.canWrite q.cabinet (field r 0 8) data.length with
      | some e =>
        if e.status = stHostLeaseLost then s.commit (s.dropRx q.index) else s.commit (s.refuseHead q r e)
      | none => s.land none (s.landedPacket q r f)

/-- PACKET_DELIVERY (R434, R435, R448): the first packet that waits for a receive queue consumes its next record, or is
dropped. -/
def execPacketDelivery (qi : Nat) (s : State) : Result :=
  match s.packet.rxWaiting.find? fun w => w.1 == qi with
  | none => s.idle
  | some (_, f) =>
    if !s.framesPass then s.idle else
    match s.queue? qi with
    | none => s.quiet (s.dropRx qi)
    | some q =>
      if q.kind != 1 || q.engine != 7 || q.state != 1 then s.quiet (s.dropRx qi)
      else match s.fetchHead q with
        | .ok (some (r, _)) => s.landPacket q r f
        | _ => s.idle

/-! ### Frames sent (R436, R442) -/

/-- The L4 checksum of a frame, without FCS, is computed (R436). -/
def l4Offload (k : Key) (b : Bytes) : Bytes :=
  if !k.l4 || k.overlay then b else
  let len := if k.ipv6 then fieldBe b (k.l3Off + 4) 2 - (k.l4Off - k.l3Off - 40) else fieldBe b (k.l3Off + 2) 2 - (k.l4Off - k.l3Off)
  let at_ := k.l4Off + (if k.proto = 17 then 6 else 16)
  let b0 := putBytes b at_ [0, 0]
  let pseudo := if k.ipv6 then k.srcIp ++ k.dstIp ++ toBe 4 len ++ toBe 4 k.proto
    else k.srcIp ++ k.dstIp ++ toBe 2 k.proto ++ toBe 2 len
  let c := inetChecksum (pseudo ++ slice b0 k.l4Off len)
  putBytes b0 at_ (toBe 2 (if k.proto = 17 && c = 0 then 0xFFFF else c))

/-- The frame that a transmit record sends, with its FCS (R436). -/
def State.txFrame (s : State) (r b : Bytes) : Bytes :=
  let flags := field r 19 1
  let x := (s.subscriber? (field r 16 2)).getD default
  let b1 := if bit flags 0 then l4Offload (s.parse 13 (b ++ zeros 4)) b else b
  let b2 := if bit flags 1 && x.vlanTci != 0 then b1.take 12 ++ toBe 2 0x8100 ++ toBe 2 x.vlanTci ++ b1.drop 12 else b1
  let b3 := if bit flags 2 && x.overlay != 0 then
      s.encapsulate x (s.service (field r 16 2) (field r 18 1)).dscp (field r 20 1) b2 else b2
  withFcs b3

/-- The first field of a transmit record at fault (R436). -/
def State.txRecordErr (s : State) (cab : Nat) (r : Bytes) : Option Err :=
  let port := field r 20 1
  let bad := fun (st off : Nat) => ({ status := st, detail := 0x8000 + off } : Err)
  let mine := match s.subscriber? (field r 16 2) with
    | some x => x.cabinet == cab && x.enabled
    | none => false
  firstErr [
    (field r 8 4 < 60 || 9212 < field r 8 4, bad stBadRange 8),
    (7 < field r 18 1, bad stBadRange 18),
    (7 < field r 19 1, bad stBadField 19),
    (!(port < 4 || port == 13), bad stBadRange 20),
    (!allZero (slice r 21 43), bad stBadField 21),
    (!mine || !s.portAllowed (field r 16 2) port, errPlain stAccessFault)]

/-- Whether a transmit record's frame is in a service queue already. -/
def State.queuedFrame (s : State) (id : Nat) : Bool :=
  s.packet.queues.any fun q => q.frames.any fun f => f.fromCtx == some id

/-- FRAME_RECORD (R436, R446): the frame of a transmit record joins its service queue; a full queue holds it back. -/
def execFrameRecord (id : Nat) (s : State) : Result :=
  s.onCtx id (fun s c => s.ctxEngine c == 8 && !s.queuedFrame c.id) fun c =>
    let r := c.record
    match s.txRecordErr c.cabinet r with
    | some e => s.commit (s.finishErr id e)
    | none =>
      match s.readCab c.cabinet (field r 0 8) (field r 8 4) with
      | .error e => s.commit (s.finishErr id e)
      | .ok b =>
        let port := field r 20 1
        let sub := field r 16 2
        let bytes := s.txFrame r b
        if s.queueFull port sub (field r 18 1) bytes.length then s.idle
        else
          let f : Frame :=
            { inPort := 13, bytes := bytes, version := s.e 0x2901 0, arrived := s.now, action := default, fromCtx := some id
              pflags := 0, l3 := 0, l4 := 0 }
          s.quiet (s.enqueue port sub (field r 18 1) f)

/-- A frame leaves a port: to the network, back into the parser, or to its consumer; the record it came from ends. -/
def State.depart (s : State) (port : Nat) (f : Frame) : State :=
  let s1 := s.bump 0x2909 port f.bytes.length
  let s2 := if port < 4 then
      let s3 := (s1.bump 0x3012 port 1).bump 0x3013 port f.bytes.length
      { s3 with packet := { s3.packet with txLog := (port, f.bytes) :: s3.packet.txLog } }
    else if port = 13 then { s1 with packet := { s1.packet with loopback := s1.packet.loopback ++ [f.bytes] } }
    else s1.deliver f
  match f.fromCtx with
  | some id => s2.finishOk id 0
  | none => s2

/-- PORT_DEQUEUE (R442, R443, R447): the frame that the schedule of a port sends next leaves it. -/
def execPortDequeue (port : Nat) (s : State) : Result :=
  if 14 ≤ port then .fault .noSuchUnit
  else if !s.framesPass then s.idle
  else match s.nextToSend port with
    | none => s.idle
    | some (q, sr, ts) =>
      match q.frames with
      | [] => s.idle
      | f :: _ => s.quiet ((s.takeHead port q sr ts).depart port f)

/-- Frames that a unit of the ZX9 sends join the service queue of a port; a full queue holds the unit back (R446), which the
units then meet as none. -/
def State.sendFrame (s : State) (port sub svc : Nat) (bytes : Bytes) : State :=
  s.enqueue port sub svc
    { inPort := 13, bytes := bytes, version := s.e 0x2901 0, arrived := s.now, action := default, fromCtx := none, pflags := 0
      l3 := 0, l4 := 0 }

end Sys2Proof.Machine
end

