-- ==== Sys2Proof/Machine/ZtSend.lean ====
section
/-! DEFINITION. ZT, the sender: packets and their keys (R283 to R293), windows and timeouts (R303 to R305), what a work
request sends, and how it completes (R310 to R312, R318). -/

namespace Sys2Proof.Machine

/-! ### Connections -/

/-- A connection that is not FREE. -/
def State.conn? (s : State) (i : Nat) : Option Conn := s.zt.conns.find? fun k => k.index == i

/-- The state with a connection replaced. -/
def State.updConn (s : State) (i : Nat) (f : Conn → Conn) : State :=
  { s with zt := { s.zt with conns := updWhere (fun k => k.index == i) f s.zt.conns } }

/-- The window of a connection's version (R303, R298). -/
def Conn.window (k : Conn) : Nat := if k.version = 1 then 64 else 256

/-- The serial difference a − b of two PSNs (R303). -/
def psnDiff (a b : BitVec 32) : Int := (a - b).toInt

/-- A connection is used: it is cached, and the least recently used context leaves a cache that is full (R299). -/
def State.cacheConn (s : State) (i : Nat) : State :=
  let z := s.zt
  let n := z.useClock + 1
  let use := fun (k : Conn) => { k with cached := true, fetching := false, lastUse := n }
  let conns := updWhere (fun k => k.index == i) use z.conns
  let cached := conns.filter (·.cached)
  let oldest := minNat (cached.map (·.lastUse)) 0
  let evict := fun (k : Conn) => { k with cached := false }
  let conns' := if cached.length ≤ 65536 then conns else updWhere (fun k => k.cached && k.lastUse == oldest) evict conns
  { s with zt := { z with conns := conns', useClock := n } }

/-- A context that is not cached is fetched; the first need of it is a miss (R300, R302). -/
def State.fetchConn (s : State) (i : Nat) : State :=
  match s.conn? i with
  | none => s
  | some k =>
    if k.cached || k.fetching then s else (s.updConn i fun k => { k with fetching := true }).bump 0x2601 5 1

/-! ### Packets and keys (R285, R289, R290) -/

/-- The header of a packet (R285). -/
def ztHeader (version ty flags gen dst src : Nat) (seqNo : BitVec 32) (len attempt : Nat) : Bytes :=
  toLe 1 version ++ toLe 1 ty ++ toLe 1 flags ++ toLe 1 gen ++ toLe 4 dst ++ toLe 4 src ++ toLe 4 seqNo.toNat ++ toLe 2 len
    ++ toLe 1 attempt ++ [0]

/-- The nonce of a packet (R289). -/
def ztNonce (seqNo : BitVec 32) (attempt : Nat) (control : Bool) : Bytes :=
  toLe 4 seqNo.toNat ++ toLe 1 attempt ++ toLe 1 (b2n control) ++ zeros 6

/-- The counter-mode KDF of SP 800-108 with CMAC-AES-256 (R290): 256 bits under a label and a context. -/
def kdf256 (secret label ctx : Bytes) : Bytes :=
  let blk := fun i => Config.cmac secret (toBe 4 i ++ label ++ [0] ++ ctx ++ toBe 4 256)
  blk 1 ++ blk 2

/-- The ASCII bytes of "ZT traffic". -/
def labelTraffic : Bytes := [0x5A, 0x54, 0x20, 0x74, 0x72, 0x61, 0x66, 0x66, 0x69, 0x63]

/-- The traffic key of a direction at a generation (R290). -/
def Conn.trafficKey (k : Conn) (dir gen : Nat) : Bytes :=
  let init := if k.role = 0 then k.index else k.peerConn
  let resp := if k.role = 0 then k.peerConn else k.index
  kdf256 k.secret labelTraffic (toLe 4 init ++ toLe 4 resp ++ toLe 1 dir ++ toLe 4 gen)

/-- The UDP source port of a connection (R283). -/
def Conn.udpSource (k : Conn) : Nat :=
  if k.srcPort != 0 then k.srcPort else 0xC000 + Config.portHash k.index k.peerConn % 0x4000

/-- The port that a connection's frames go to: one of the network ports its subscriber may use; which, the spec leaves
open. -/
def State.connPort (s : State) (k : Conn) : Option Nat :=
  let ps := (List.range 4).filter fun p => s.portAllowed k.subscriber p
  ps[Config.portHash k.index 1 % max ps.length 1]?

/-- A connection fails (R305): its requests, outstanding and queued, end with PEER_TIMEOUT. -/
def State.failConn (s : State) (i : Nat) : State :=
  let s1 := (s.updConn i fun k => { k with state := 6, tx := [], sendQueue := [] }).bump 0x2605 5 1
  let mine := s1.contract.ctxs.filter fun c =>
    !c.finished && s1.ctxEngine c == 6 && field c.record 8 4 == i && 1 ≤ field c.record 0 1 && field c.record 0 1 ≤ 5
  mine.foldl (fun (s : State) c => s.finish c.id stPeerTimeout 0 (areaOf 6 c)) s1

/-- A packet is sent: encrypted under its generation, framed and handed to the packet path; at REKEY_PACKETS the generation
moves on, or a ZT 1 connection fails (R283, R285, R293, R298). -/
def State.emitZt (s : State) (i ty flags : Nat) (seqNo : BitVec 32) (attempt : Nat) (control : Bool) (body : Bytes) : State :=
  match s.conn? i with
  | none => s
  | some k =>
    let version := if ty = 0x20 then 1 else k.version
    let h := ztHeader version ty flags (k.genTx % 256) k.peerConn k.index seqNo body.length attempt
    let dg := h ++ Config.gcmSeal (k.trafficKey k.role k.genTx) (ztNonce seqNo attempt control) h body
    let f : SentFrame :=
      { conn := i, ty := ty, flags := flags, gen := k.genTx % 256, seqNo := seqNo, attempt := attempt, body := body
        datagram := dg }
    let s1 := { s with zt := { s.zt with sent := f :: s.zt.sent } }
    let s2 := match s.connPort k with
      | none => s1
      | some p =>
        s1.sendFrame p k.subscriber k.service (withFcs (s1.buildFrame k.subscriber k.service p k.ipv6 k.localIp k.peerIp
          k.udpSource s1.zt.udpPort (if control then 0 else 2) dg))
    let s3 := if control then s2 else s2.bump 0x2605 0 1
    let n := k.pktsUnderGen + 1
    if n < s.e 0x2603 0 then s3.updConn i fun k => { k with pktsUnderGen := n, lastTx := s.now }
    else if k.version = 1 then (s3.updConn i fun k => { k with pktsUnderGen := n, lastTx := s.now }).failConn i
    else (s3.updConn i fun k => { k with pktsUnderGen := 0, genTx := k.genTx + 1, lastTx := s.now }).bump 0x2603 2 1

/-- A control packet is sent under the next CSN (R296). -/
def State.sendControl (s : State) (i ty : Nat) (body : Bytes) : State :=
  match s.conn? i with
  | none => s
  | some k => (s.updConn i fun k => { k with csnTx := k.csnTx + 1 }).emitZt i ty 0 k.csnTx 0 true body

/-- The SACK bitmap: bit n is 1 when PSN ACK_PSN + n is held (R287). -/
def Conn.sack (k : Conn) : Nat :=
  k.reorder.foldl (fun v p => setBit v (p.psn - k.expected).toNat) 0 % 2 ^ k.window

/-- The next PSN that a connection's end assigns on its own stream, the ERROR_RESPs that wait to be sent counted: each has
its PSN before the ACK that covers what it refuses (R307, R312). -/
def Conn.respNext (k : Conn) : BitVec 32 :=
  k.nxt + BitVec.ofNat 32 (k.sendQueue.takeWhile fun p => p.ty == 0x13).length

/-- An ACK is sent (R287, R307). -/
def State.sendAck (s : State) (i : Nat) : State :=
  match s.conn? i with
  | none => s
  | some k =>
    let body := toLe 4 k.expected.toNat ++ toLe 4 k.respNext.toNat ++ toLe (k.window / 8) k.sack
    (s.updConn i fun k => { k with unacked := 0, firstUnackedAt := none }).sendControl i 0x30 body

/-! ### The window (R303) -/

/-- The retransmission timeout that a packet starts with (R304). -/
def State.startRto (s : State) (k : Conn) : Nat := min (max (s.e 0x2602 1) (k.srtt + 4 * k.rttvar)) (s.e 0x2602 2)

/-- ENGINE_AREA and status of a ZT request that ends (R312). -/
def State.finishZt (s : State) (id st detail : Nat) : State :=
  match s.ctx? id with
  | none => s
  | some c => s.finish id st detail (areaOf 6 c)

/-- The payload of a packet, read from its source when it has one (R311). -/
def State.payloadOf (s : State) (k : Conn) (p : TxPacket) : Except Err Bytes :=
  if p.payloadLen = 0 then .ok p.body
  else match s.readCab k.cabinet p.source p.payloadLen with
    | .error e => .error e
    | .ok b => .ok (p.body ++ b)

/-- The request that a packet belongs to has a packet with this PSN (R312). -/
def Ctx.sentPacket (p : TxPacket) (psn : BitVec 32) (c : Ctx) : Ctx :=
  { c with
    firstPsn := some (c.firstPsn.getD psn.toNat)
    lastPsn := if p.ty != 1 || bit p.flags 1 then some psn.toNat else c.lastPsn }

/-- The state with a pool write replaced. -/
def State.updJob (s : State) (id : Option Nat) (f : PoolJob → PoolJob) : State :=
  match id with
  | none => s
  | some i => { s with zt := { s.zt with jobs := updWhere (fun j => j.id == i) f s.zt.jobs } }

/-- A packet of a pool write has been sent. -/
def PoolJob.sentPacket (psn : BitVec 32) (j : PoolJob) : PoolJob :=
  { j with firstPsn := some (j.firstPsn.getD psn.toNat), lastPsn := some psn.toNat }

/-- A pool write fails. -/
def PoolJob.fail (j : PoolJob) : PoolJob := { j with failed := true }

/-- The first packet of a connection's queue is sent as its next PSN.  When the rest of its message cannot be read, an ABORT
packet goes in its place, and its request ends (R318). -/
def State.sendNext (s : State) (k : Conn) (p : TxPacket) (rest : List TxPacket) : State :=
  let i := k.index
  let send := fun (s : State) (p : TxPacket) (rest : List TxPacket) (wire : Bytes) =>
    let q := { p with psn := k.nxt, firstSent := s.now, sentAt := s.now, rto := s.startRto k }
    let s1 := s.updConn i fun k => { k with sendQueue := rest, nxt := k.nxt + 1, tx := k.tx ++ [q] }
    let s2 := match p.ctx with
      | some id => s1.updCtx id (Ctx.sentPacket p k.nxt)
      | none => s1.updJob p.job (PoolJob.sentPacket k.nxt)
    s2.emitZt i p.ty p.flags k.nxt 0 false wire
  match s.payloadOf k p with
  | .ok wire => send s p rest wire
  | .error e =>
    let keep := rest.filter fun x => (x.ctx != p.ctx || p.ctx.isNone) && (x.job != p.job || p.job.isNone)
    let s1 := match p.ctx with
      | some id => s.finishErr id e
      | none => s.updJob p.job PoolJob.fail
    if p.flags % 2 = 1 then s1.updConn i fun k => { k with sendQueue := keep }
    else
      let a := { p with flags := 10, body := p.body.take 16, source := 0, payloadLen := 0, ctx := none, job := none }
      send s1 a keep a.body

/-- Packets are sent while the window and the packet path take them (R303, R446). -/
def State.pump (s : State) (i : Nat) : Nat → State
  | 0 => s
  | n + 1 =>
    match s.conn? i with
    | none => s
    | some k =>
      match k.sendQueue with
      | [] => s
      | p :: rest =>
        if !(k.state == 3 || k.state == 4) || min k.window k.cwnd ≤ (k.nxt - k.una).toNat then s
        else if (match s.connPort k with
          | some port => s.queueFull port k.subscriber k.service 4238
          | none => false) then s
        else (s.sendNext k p rest).pump i n

/-- A connection in CLOSING sends its first CLOSE once everything it sent is acknowledged (R297). -/
def State.tryClose (s : State) (i : Nat) : State :=
  match s.conn? i with
  | none => s
  | some k =>
    if k.state == 4 && k.tx.isEmpty && k.sendQueue.isEmpty && k.firstClose.isNone then
      (s.updConn i fun k =>
        { k with firstClose := some s.now, lastConnect := s.now, closeEvery := s.e 0x2602 2 }).sendControl i 0x22
        (toLe 4 k.nxt.toNat ++ zeros 4)
    else s

/-- The sender of a connection runs: what can be sent is sent. -/
def State.runSender (s : State) (i : Nat) : State := (s.pump i 512).tryClose i

/-- A packet is sent again, under the current generation, its payload read again (R305, R311); a payload that cannot be read
any more goes as an ABORT. -/
def State.resend (s : State) (i : Nat) (psn : BitVec 32) (backoff : Bool) : State :=
  match s.conn? i with
  | none => s
  | some k =>
    match k.tx.find? fun p => p.psn == psn && !p.acked with
    | none => s
    | some p =>
      if 255 ≤ p.attempt then s.failConn i
      else
        let (flags, wire) := match s.payloadOf k p with
          | .ok b => (p.flags, b)
          | .error _ => (10, p.body.take 16)
        let again := fun (q : TxPacket) =>
          { q with attempt := q.attempt + 1, sentAt := s.now, flags := flags
                   rto := if backoff then min (2 * q.rto) (s.e 0x2602 2) else q.rto
                   fastResent := if backoff then q.fastResent else true }
        let s1 := s.updConn i fun k => { k with tx := updWhere (fun q => q.psn == psn) again k.tx }
        let s2 := match p.ctx with
          | some id => s1.updCtx id fun c => { c with retransmits := c.retransmits + 1 }
          | none => s1
        (s2.bump 0x2605 1 1).emitZt i p.ty flags psn (p.attempt + 1) false wire

/-! ### What a request sends -/

/-- A packet that has not been sent. -/
def txPacket (ty flags : Nat) (body : Bytes) (source len : Nat) (ctx : Option Nat) : TxPacket :=
  { psn := 0, ty := ty, flags := flags, attempt := 0, firstSent := 0, sentAt := 0, rto := 0, acked := false
    fastResent := false, body := body, source := source, payloadLen := len, ctx := ctx, job := none }

/-- The FIRST and LAST flags of packet i of n. -/
def endFlags (i n : Nat) : Nat := b2n (i == 0) + 2 * b2n (i + 1 == n)

/-- The packets of a WRITE message (R287): each carries its OFFSET, and the last the signal extension. -/
def writePackets (mtu rkey remote src len : Nat) (ext : Bytes) (ctx : Option Nat) : List TxPacket :=
  let n := ceilDiv len mtu
  (List.range n).map fun i =>
    let last := i + 1 == n
    let sig := last && !ext.isEmpty
    txPacket 1 (endFlags i n + 4 * b2n sig)
      (toLe 8 (remote + i * mtu) ++ toLe 4 rkey ++ zeros 4 ++ (if sig then ext else []))
      (src + i * mtu) (min mtu (len - i * mtu)) ctx

/-- The packets of one group message (R353): RKEY 0, OFFSET with the channel and the position. -/
def groupPackets (mtu channel : Nat) (msg : Bytes) : List TxPacket :=
  let n := max 1 (ceilDiv msg.length mtu)
  (List.range n).map fun i =>
    txPacket 1 (endFlags i n) (toLe 8 (channel * 2 ^ 40 + i * mtu) ++ zeros 8 ++ slice msg (i * mtu) mtu) 0 0 none

/-- Packets join the end of a connection's queue, and the sender runs. -/
def State.queueZt (s : State) (i : Nat) (ps : List TxPacket) : State :=
  (s.updConn i fun k => { k with sendQueue := k.sendQueue ++ ps }).runSender i

/-- An ERROR_RESP takes the next PSN that is not yet assigned to one (R312, R325). -/
def State.queueError (s : State) (i : Nat) (psn : BitVec 32) (reason : Nat) : State :=
  let p := txPacket 0x13 0 (toLe 4 psn.toNat ++ toLe 2 reason ++ zeros 2) 0 0 none
  (s.updConn i fun k =>
    let errs := k.sendQueue.takeWhile fun p => p.ty == 0x13
    { k with sendQueue := errs ++ p :: k.sendQueue.drop errs.length }).bump 0x2605 3 1

/-! ### Completion (R312, R325) -/

/-- The status that a REASON gives a requester (R325). -/
def reasonStatus (r : Nat) : Nat :=
  if r = 1 then stAccessRevoked else if r = 5 then stBadAlignment else if r = 7 then stEccUncorrectable
  else if r = 8 then stHostLeaseLost else if r = 9 then stBadHandle else if r = 10 then stBadOpcode else stAccessFault

/-- A request that the responder refused ends: its DETAIL is a free value, and a READ that had begun to land leaves its range
undefined (R325). -/
def State.finishRefused (s : State) (id reason : Nat) : State :=
  match s.ctx? id with
  | none => s
  | some c =>
    let st := reasonStatus reason
    let begun := field c.record 0 1 == 2 && 0 < c.progress
    let s1 := if begun then
        { (s.dests 6 c).foldl (fun (s : State) p => s.scrambleRun c.cabinet false p.1 p.2) s with fresh := s.fresh + 1 } else s
    let s2 := s1.updCtx id fun c => { c with errorReason := reason }
    (s2.drawn).finishZt id st (s2.freeValue % 2 ^ 64)

/-- Whether a request is a data request of a connection that has not ended. -/
def State.ztOpen (s : State) (i : Nat) (c : Ctx) : Bool :=
  !c.finished && s.ctxEngine c == 6 && field c.record 8 4 == i && c.issued

/-- A WRITE whose last packet is acknowledged ends once every packet of the peer below that ACK's RESP_NEXT is accepted
(R312). -/
def State.settleWrite (s : State) (k : Conn) (c : Ctx) : State :=
  match c.respBound with
  | none => s
  | some b =>
    if psnDiff k.expected (BitVec.ofNat 32 b) < 0 then s
    else if c.errorReason != 0 then s.finishRefused c.id c.errorReason
    else s.finishZt c.id stOk (field c.record 40 4)

/-- The WRITEs of a connection that can end do. -/
def State.settleZt (s : State) (i : Nat) : State :=
  match s.conn? i with
  | none => s
  | some k =>
    (s.contract.ctxs.filter fun c => s.ztOpen i c && field c.record 0 1 == 1).foldl (fun s c => s.settleWrite k c) s

/-- The WRITEs whose last packet an ACK covers take its RESP_NEXT (R312). -/
def State.coverWrites (s : State) (i : Nat) (una : BitVec 32) (respNext : Nat) : State :=
  let cover := fun (c : Ctx) =>
    match c.lastPsn with
    | some l =>
      if s.ztOpen i c && field c.record 0 1 == 1 && c.respBound.isNone && psnDiff una (BitVec.ofNat 32 l) > 0 then
        { c with respBound := some respNext } else c
    | none => c
  { s with contract := { s.contract with ctxs := s.contract.ctxs.map cover } }

end Sys2Proof.Machine
end

