-- ==== Sys2Proof/Machine/ZtRecv.lean ====
section
/-! DEFINITION. ZT, the receiver: regions and the key check (R321 to R324), remote operations (R314 to R317, R319), refusals
(R325), the data stream (R306, R307), acknowledgements, the control packets (R296, R297, R306), the checks of a datagram
(R293, R294, R327) and the miss bench (R300, R301). -/

namespace Sys2Proof.Machine

/-! ### Regions (R321 to R323) -/

/-- A region that is not FREE. -/
def State.region? (s : State) (i : Nat) : Option ZtRegion := s.zt.regions.find? fun r => r.index == i

/-- The state with a region replaced. -/
def State.updRegion (s : State) (i : Nat) (f : ZtRegion → ZtRegion) : State :=
  { s with zt := { s.zt with regions := updWhere (fun r => r.index == i) f s.zt.regions } }

/-- An RKEY's index and tag (R321). -/
def rkeyIndex (k : Nat) : Nat := bits k 17 0
def rkeyTag (k : Nat) : Nat := bits k 31 18

/-- The key check of a memory range: the region, or the reason it is refused (R323, R325). -/
def State.keyCheck (s : State) (k : Conn) (rkey right off len : Nat) : Except Nat ZtRegion :=
  match s.region? (rkeyIndex rkey) with
  | none => .error 2
  | some r =>
    if r.tag != rkeyTag rkey || r.cabinet != k.cabinet || (r.bound.isSome && r.bound != some k.index) then .error 2
    else if r.isClosing then .error 1
    else if !bit r.rights right then .error 4
    else if r.len < off + len then .error 3
    else .ok r

/-- The key check of a sync target: the object's index, or the reason (R323, R325). -/
def State.syncCheck (s : State) (k : Conn) (rkey handle : Nat) : Except Nat Nat :=
  match s.region? (rkeyIndex rkey) with
  | none => .error 2
  | some r =>
    if r.tag != rkeyTag rkey || r.cabinet != k.cabinet || (r.bound.isSome && r.bound != some k.index) then .error 2
    else if r.isClosing then .error 1
    else if !bit r.rights 3 then .error 4
    else if !s.syncValid k.cabinet handle || handleIndex handle < r.base || r.base + r.len ≤ handleIndex handle then .error 9
    else .ok (handleIndex handle)

/-- The reason that a failed access gives (R325). -/
def errReason (e : Err) : Nat :=
  if e.status = stEccUncorrectable then 7 else if e.status = stHostLeaseLost || e.status = stBusMasterOff then 8 else 6

/-! ### Applying requests (R314 to R317, R319) -/

/-- A request packet is refused: one ERROR_RESP, and the rest of its message is discarded (R325).  A ZT 1 peer knows reasons
1 to 8 only: of a reason above, it gets a free one. -/
def State.refuseZt (s : State) (k : Conn) (p : RxPacket) (reason : Nat) : State :=
  let r := if k.version = 1 && 8 < reason then 1 + s.freeValue % 8 else reason
  let s1 := s.drawn.updConn k.index fun k => { k with discarding := p.ty == 1 && !bit p.flags 1 }
  s1.queueError k.index p.psn r

/-- A signal of a remote party on a sync object (R101, R316). -/
def State.remoteSignal (s : State) (cab i op : Nat) (x : BitVec 64) : State :=
  (s.updSync i fun o => { o with external := true }).signal cab i op x

/-- The signal extension of a LAST packet: the object and operation, or the reason it is refused (R287, R323). -/
def State.extCheck (s : State) (k : Conn) (p : RxPacket) : Except Nat (Option (Nat × Nat × Nat)) :=
  if !bit p.flags 2 then .ok none
  else if k.version = 1 then .error 10
  else
    let e := slice p.body 16 24
    let op := field e 8 1
    if op = 0 || 6 < op then .error 10
    else match s.syncCheck k (field e 4 4) (field e 0 4) with
      | .error r => .error r
      | .ok i => .ok (some (i, op, field e 16 8))

/-- The payload of a WRITE packet. -/
def RxPacket.payload (p : RxPacket) : Bytes := p.body.drop (if bit p.flags 2 then 40 else 16)

/-- A WRITE packet on a group connection: one message, in order, with no key check (R353). -/
def State.applyGroupWrite (s : State) (k : Conn) (p : RxPacket) : State :=
  let off := field p.body 0 8
  let channel := off / 2 ^ 40
  let pos := off % 2 ^ 40
  let had := if bit p.flags 0 then 0 else k.msgBytes
  if field p.body 8 4 != 0 || 1 < channel || pos != had then s.refuseZt k p 2
  else
    let msg := (if bit p.flags 0 then [] else k.msgBuf) ++ p.payload
    if bit p.flags 1 then
      let s1 := s.updConn k.index fun k => { k with msgBytes := 0, msgBuf := [] }
      { s1 with zt := { s1.zt with handed := (k.index, channel, msg) :: s1.zt.handed } }
    else s.updConn k.index fun k => { k with msgBytes := msg.length, msgBuf := msg }

/-- Whether a connection is one of a group (R340). -/
def Conn.isGroup (k : Conn) : Bool := decide (0x200000 ≤ k.index)

/-- A WRITE packet lands (R314, R315, R318, R319): none while a granule it meets has not been copied. -/
def State.applyWrite (s : State) (k : Conn) (p : RxPacket) : Option State :=
  if k.discarding then
    some (if bit p.flags 1 then s.updConn k.index fun k => { k with discarding := false } else s)
  else if bit p.flags 3 then some (s.updConn k.index fun k => { k with msgBytes := 0, msgBuf := [] })
  else if k.isGroup then some (s.applyGroupWrite k p)
  else
    let off := field p.body 0 8
    let data := p.payload
    let region : Except Nat ZtRegion := match p.checked with
      | some i => match s.region? i with
        | some r => .ok r
        | none => .error 2
      | none => s.keyCheck k (field p.body 8 4) 1 off data.length
    match region with
    | .error r => some (s.refuseZt k p r)
    | .ok r =>
      match s.extCheck k p with
      | .error e => some (s.refuseZt k p e)
      | .ok ext =>
        match s.writeAll k.cabinet [(r.base + off, data)] with
        | .error e => some (s.refuseZt k p (errReason e))
        | .ok t =>
          if t.aheadOfCopy.isSome then none else
          some (match ext with
            | some (i, op, v) => t.remoteSignal k.cabinet i op (BitVec.ofNat 64 v)
            | none => t)

/-- A READ_REQ is answered with its data in packets, or refused (R287, R323). -/
def State.applyRead (s : State) (k : Conn) (p : RxPacket) : State :=
  let off := field p.body 0 8
  let len := field p.body 12 4
  if len = 0 || 2 ^ 30 < len then s.refuseZt k p 3 else
  match s.keyCheck k (field p.body 8 4) 0 off len with
  | .error r => s.refuseZt k p r
  | .ok r =>
    match s.readCab k.cabinet (r.base + off) len with
    | .error e =>
      let s1 := match e.bad with
        | some u => s.reportUe u 0x5002
        | none => s
      s1.refuseZt k p (errReason e)
    | .ok data =>
      let n := ceilDiv len k.mtu
      let ps := (List.range n).map fun i =>
        txPacket 0x11 (endFlags i n) (toLe 4 p.psn.toNat ++ zeros 4 ++ slice data (i * k.mtu) k.mtu) 0 0 none
      s.updConn k.index fun k => { k with sendQueue := k.sendQueue ++ ps }

/-- The answer of an atomic. -/
def State.answerAtomic (s : State) (k : Conn) (p : RxPacket) (old : Nat) : State :=
  let q := txPacket 0x12 3 (toLe 4 p.psn.toNat ++ zeros 4 ++ toLe 8 old) 0 0 none
  s.updConn k.index fun k => { k with sendQueue := k.sendQueue ++ [q] }

/-- An atomic on memory (R316, R317): none while the granule has not been copied.  Whether a PCIe completer supports the
AtomicOp is a free value. -/
def State.atomicMemory (s : State) (k : Conn) (p : RxPacket) (off aop x y : Nat) : Option State :=
  match s.keyCheck k (field p.body 8 4) 2 off 8 with
  | .error r => some (s.refuseZt k p r)
  | .ok r =>
    let a := r.base + off
    if a % 8 != 0 then some (s.refuseZt k p 5) else
    match s.reach k.cabinet a 8 .atomic with
    | .error e => some (s.refuseZt k p (errReason e))
    | .ok ps =>
      let remote := ps.any fun d => (s.linkOf d.1).isSome
      let able := !(ps.any fun d => inHost d.1) || (s.fn k.cabinet).atomicEnable
      if remote && (!able || s.freeValue % 2 = 0) then some (s.drawn.refuseZt k p 10) else
      match s.badPiece ps with
      | some u => some ((s.reportUe u 0x5002).refuseZt k p 7)
      | none =>
        let old := leNat (s.readPieces ps)
        let new := if aop = 1 then (old + x) % 2 ^ 64 else if old = x then y else old
        let t := s.putCab k.cabinet a (toLe 8 new)
        if t.aheadOfCopy.isSome then none else some (t.answerAtomic k p old)

/-- An atomic on a sync object (R316): FETCH_ADD is ADD, CMP_SWAP a conditional SET, SIGNAL its SIGNAL_OP. -/
def State.atomicSync (s : State) (k : Conn) (p : RxPacket) (handle aop op x y : Nat) : State :=
  if k.version = 1 || (aop = 3 && (op = 0 || 6 < op)) then s.refuseZt k p 10 else
  match s.syncCheck k (field p.body 8 4) handle with
  | .error r => s.refuseZt k p r
  | .ok i =>
    let old := match s.sync? k.cabinet i with
      | some o => o.value.toNat
      | none => 0
    let s1 := if aop = 1 then s.remoteSignal k.cabinet i 2 (BitVec.ofNat 64 x)
      else if aop = 2 then (if old = x then s.remoteSignal k.cabinet i 1 (BitVec.ofNat 64 y) else s)
      else s.remoteSignal k.cabinet i op (BitVec.ofNat 64 x)
    s1.answerAtomic k p old

/-- An ATOMIC_REQ (R316). -/
def State.applyAtomic (s : State) (k : Conn) (p : RxPacket) : Option State :=
  let b := p.body
  let aop := field b 12 1
  if aop = 0 || 3 < aop || (aop = 3 && field b 14 1 = 0) || 1 < field b 14 1 then some (s.refuseZt k p 10)
  else if field b 14 1 = 1 then some (s.atomicSync k p (field b 0 4) aop (field b 13 1) (field b 16 8) (field b 24 8))
  else s.atomicMemory k p (field b 0 8) aop (field b 16 8) (field b 24 8)

/-! ### Applying responses (R312, R320, R325) -/

/-- The request of a connection that a PSN belongs to. -/
def State.requestOf (s : State) (i psn : Nat) : Option Ctx :=
  s.contract.ctxs.find? fun c => s.ztOpen i c &&
    (match c.firstPsn with
     | none => false
     | some f =>
       let d := (BitVec.ofNat 32 psn - BitVec.ofNat 32 f).toNat
       let n := match c.lastPsn with
         | some l => (BitVec.ofNat 32 l - BitVec.ofNat 32 f).toNat
         | none => 2 ^ 20
       d ≤ n)

/-- A READ_RESP lands (R312, R319, R320): none while a granule it meets has not been copied. -/
def State.applyReadResp (s : State) (k : Conn) (p : RxPacket) : Option State :=
  match s.requestOf k.index (field p.body 0 4) with
  | none => some s
  | some c =>
    if field c.record 0 1 != 2 then some s else
    let data := p.body.drop 8
    match s.writeAll c.cabinet [(field c.record 24 8 + c.progress, data)] with
    | .error e => some (s.finishErr c.id e)
    | .ok t =>
      if t.aheadOfCopy.isSome then none else
      let n := c.progress + data.length
      let t1 := t.updCtx c.id fun c => { c with progress := n, lastProgress := s.now }
      some (if field c.record 40 4 ≤ n then t1.finishZt c.id stOk n else t1)

/-- An ATOMIC_RESP ends its request with the old value (R312). -/
def State.applyAtomicResp (s : State) (k : Conn) (p : RxPacket) : State :=
  match s.requestOf k.index (field p.body 0 4) with
  | none => s
  | some c =>
    if 3 ≤ field c.record 0 1 && field c.record 0 1 ≤ 5 then s.finishZt c.id stOk (field p.body 8 8) else s

/-- The pool write of a connection that a PSN belongs to has been refused (R392). -/
def State.failJobs (s : State) (conn psn : Nat) : State :=
  let mine := fun (j : PoolJob) => j.conn == conn &&
    (match j.firstPsn, j.lastPsn with
     | some f, some l =>
       decide ((BitVec.ofNat 32 psn - BitVec.ofNat 32 f).toNat ≤ (BitVec.ofNat 32 l - BitVec.ofNat 32 f).toNat)
     | _, _ => false)
  { s with zt := { s.zt with jobs := updWhere mine PoolJob.fail s.zt.jobs } }

/-- An ERROR_RESP (R312, R325): a WRITE ends with it once its last packet is acknowledged, another request at once. -/
def State.applyErrorResp (s : State) (k : Conn) (p : RxPacket) : State :=
  let s1 := s.bump 0x2605 4 1
  let reason := field p.body 4 2
  match s1.requestOf k.index (field p.body 0 4) with
  | none => s1.failJobs k.index (field p.body 0 4)
  | some c =>
    if field c.record 0 1 = 1 then
      s1.updCtx c.id fun c => if c.errorReason = 0 then { c with errorReason := reason } else c
    else s1.finishRefused c.id reason

/-! ### The data stream (R306) -/

/-- A packet is applied; none while it stalls. -/
def State.applyPacket (s : State) (k : Conn) (p : RxPacket) : Option State :=
  if p.ty = 0x01 then s.applyWrite k p
  else if p.ty = 0x02 then some (s.applyRead k p)
  else if p.ty = 0x03 then s.applyAtomic k p
  else if p.ty = 0x11 then s.applyReadResp k p
  else if p.ty = 0x12 then some (s.applyAtomicResp k p)
  else some (s.applyErrorResp k p)

/-- The region that a stalled WRITE packet has passed the key check of: it counts as in flight there (R324). -/
def State.holdRegion (s : State) (k : Conn) (p : RxPacket) : State :=
  if p.checked.isSome || p.ty != 1 then s else
  let i := rkeyIndex (field p.body 8 4)
  let mark := fun (q : RxPacket) => if q.psn == p.psn then { q with checked := some i } else q
  (s.updConn k.index fun k => { k with accepted := k.accepted.map mark }).updRegion i fun r =>
    { r with inFlight := r.inFlight + 1 }

/-- A landed packet is in flight no longer (R324). -/
def State.dropRegion (s : State) (p : RxPacket) : State :=
  match p.checked with
  | some i => s.updRegion i fun r => { r with inFlight := r.inFlight - 1 }
  | none => s

/-- The accepted packets of a connection are applied in PSN order; one that meets a granule not yet copied stalls it (R314,
R319). -/
def State.drainZt (s : State) (i : Nat) : Nat → State
  | 0 => s
  | n + 1 =>
    match s.conn? i with
    | none => s
    | some k =>
      match k.accepted with
      | [] => s
      | p :: rest =>
        match s.applyPacket k p with
        | some t => ((t.updConn i fun k => { k with accepted := rest }).dropRegion p).drainZt i n
        | none =>
          let (slot, g) := match p.ty, s.region? (rkeyIndex (field p.body 8 4)) with
            | 1, some r =>
              ((s.stallOf k.cabinet (r.base + field p.body 0 8) p.payload.length).getD (0, 0))
            | _, _ => (0, 0)
          (s.holdRegion k p).noteStall none slot g

/-- The held packets that follow what is accepted are accepted in turn. -/
def acceptHeld (k : Conn) : Nat → Conn
  | 0 => k
  | n + 1 =>
    match k.reorder.find? fun p => p.psn == k.expected with
    | none => k
    | some p =>
      acceptHeld { k with
        reorder := k.reorder.filter fun q => q.psn != p.psn
        accepted := k.accepted ++ [p], expected := k.expected + 1, unacked := k.unacked + 1 } n

/-- Cells of 256 bytes that packets take. -/
def cellsOf (n : Nat) : Nat := ceilDiv n 256

/-- Cells of the reorder half of the bench's transport share that are in use (R301). -/
def State.reorderCells (s : State) : Nat :=
  sumNat (s.zt.conns.map fun k => sumNat (k.reorder.map fun p => cellsOf (36 + p.body.length)))

/-- Cells in each half of the transport share (R301). -/
def State.halfCells (s : State) : Nat := s.transform.benchTransport / 2 / 256

/-- Whatever a connection received has taken its course: accepted packets applied, requests settled, packets sent. -/
def State.runZt (s : State) (i : Nat) : State :=
  let n := match s.conn? i with
    | some k => k.accepted.length
    | none => 0
  ((s.drainZt i n).settleZt i).runSender i

/-- An authenticated data packet joins its stream (R306, R307). -/
def State.recvData (s : State) (k : Conn) (ty : Nat) (p : ZtIn) : State :=
  let i := k.index
  let d := psnDiff p.seqNo k.expected
  if d < 0 || k.reorder.any fun q => q.psn == p.seqNo then s.sendAck i
  else if (k.window : Int) ≤ d then s
  else
    let q : RxPacket := { psn := p.seqNo, ty := ty, flags := p.flags, body := p.body, checked := none }
    if 0 < d then
      if s.halfCells < s.reorderCells + cellsOf (36 + p.body.length) then s.bump 0x2605 2 1
      else (s.updConn i fun k => { k with reorder := k.reorder ++ [q] }).sendAck i
    else
      let k1 := acceptHeld { k with
        accepted := k.accepted ++ [q], expected := k.expected + 1, unacked := k.unacked + 1
        firstUnackedAt := some (k.firstUnackedAt.getD s.now)
        ackLimit := if k.firstUnackedAt.isSome then k.ackLimit else s.e 0x2602 4 } k.reorder.length
      let s1 := s.updConn i fun _ => k1
      let s2 := s1.drainZt i k1.accepted.length
      let s3 := if 16 ≤ k1.unacked || bit p.flags 1 || s.e 0x2602 4 = 0 then s2.sendAck i else s2
      (s3.settleZt i).runSender i

/-! ### Acknowledgements (R303 to R307) -/

/-- The round-trip estimates after a measurement (R304, RFC 6298). -/
def Conn.measure (k : Conn) (r : Nat) : Conn :=
  if k.srtt = 0 then { k with srtt := r, rttvar := r / 2 }
  else
    let dev := if k.srtt < r then r - k.srtt else k.srtt - r
    { k with rttvar := (3 * k.rttvar + dev) / 4, srtt := (7 * k.srtt + r) / 8 }

/-- CWND after an ACK (R303): halved at most once a round-trip time on ECE, raised by 1 after one without. -/
def Conn.congest (k : Conn) (now : Nat) (ece : Bool) : Conn :=
  if now < k.cwndAt + k.srtt then k
  else if ece then { k with cwnd := max 16 (k.cwnd / 2), cwndAt := now }
  else { k with cwnd := min k.window (k.cwnd + 1), cwndAt := now }

/-- A packet that an ACK reports received. -/
def ackedBy (una : BitVec 32) (sack : Nat) (window : Nat) (p : TxPacket) : Bool :=
  psnDiff p.psn una < 0 || ((p.psn - una).toNat < window && bit sack (p.psn - una).toNat)

/-- An ACK (R303 to R307, R312). -/
def State.recvAck (s : State) (k : Conn) (p : ZtIn) : State :=
  let i := k.index
  let a := BitVec.ofNat 32 (field p.body 0 4)
  let resp := field p.body 4 4
  let sack := leNat (slice p.body 8 (k.window / 8))
  let una := if psnDiff a k.una > 0 then a else k.una
  let newly := k.tx.filter fun q => !q.acked && ackedBy a sack k.window q
  let samples := newly.filter fun q => q.attempt == 0
  let k1 := samples.foldl (fun (k : Conn) q => k.measure (s.now - q.firstSent)) k
  let tx := (k.tx.map fun q => if ackedBy a sack k.window q then { q with acked := true } else q).filter fun q =>
    psnDiff q.psn una ≥ 0
  let k2 := { k1.congest s.now (bit p.flags 4) with una := una, tx := tx, peerRespNext := BitVec.ofNat 32 resp }
  let s1 := (s.updConn i fun _ => k2).coverWrites i una resp
  let lost := tx.filter fun q => !q.acked && !q.fastResent &&
    3 ≤ (tx.filter fun x => x.acked && psnDiff x.psn q.psn > 0).length
  let s2 := lost.foldl (fun (s : State) q => s.resend i q.psn false) s1
  (s2.settleZt i).runSender i

/-! ### Control packets (R295 to R297, R306) -/

/-- The highest version and the smaller MTU of two ranges, none without overlap (R296). -/
def Conn.choose (k : Conn) (b : Bytes) : Option (Nat × Nat) :=
  let v := min k.verMax (field b 1 1)
  if v < max k.verMin (field b 0 1) then none else some (v, min k.mtu (field b 2 2))

/-- ACCEPT is sent (R296). -/
def State.sendAccept (s : State) (i : Nat) : State :=
  match s.conn? i with
  | none => s
  | some k => s.sendControl i 0x21 (toLe 1 k.version ++ [0] ++ toLe 2 k.mtu ++ zeros 4)

/-- A CONNECT (R295, R296, R327). -/
def State.recvConnect (s : State) (k : Conn) (p : ZtIn) : State :=
  if k.state = 1 then
    match k.choose p.body with
    | none => s.bump 0x2605 6 1
    | some (v, mtu) =>
      let s1 := s.updConn k.index fun k =>
        { k with state := 3, version := v, mtu := mtu, peerConn := p.srcConn, cwnd := if v = 1 then 64 else 256 }
      (s1.sendAccept k.index).runSender k.index
  else if k.state = 3 && k.role = 1 then s.sendAccept k.index
  else s

/-- An ACCEPT (R295, R296). -/
def State.recvAccept (s : State) (k : Conn) (p : ZtIn) : State :=
  if k.state = 2 then
    let v := field p.body 0 1
    (s.updConn k.index fun k =>
      { k with state := 3, version := v, mtu := field p.body 2 2, cwnd := if v = 1 then 64 else 256 }).runSender k.index
  else s

/-- A CLOSE (R295). -/
def State.recvClose (s : State) (k : Conn) : State :=
  if k.state = 3 then (s.updConn k.index fun k => { k with state := 5 }).sendControl k.index 0x23 (toLe 4 k.nxt.toNat ++ zeros 4)
  else if k.state = 4 then s.updConn k.index fun k => { k with state := 5 }
  else s

/-- A CLOSE_ACK (R295). -/
def State.recvCloseAck (s : State) (k : Conn) : State :=
  if k.state = 4 then s.updConn k.index fun k => { k with state := 5 } else s

/-- Whether a control packet's CSN is newer than every one accepted (R306). -/
def Conn.csnNew (k : Conn) (csn : BitVec 32) : Bool :=
  match k.csnRx with
  | none => true
  | some c => decide (psnDiff csn c > 0)

/-- An authenticated packet of a connection is taken (R306). -/
def State.takeZt (s : State) (k : Conn) (ty : Nat) (p : ZtIn) : State :=
  if ty < 0x20 then (if k.state = 3 || k.state = 4 then s.recvData k ty p else s)
  else
    let isNew := k.csnNew p.seqNo
    let k1 := if isNew then { k with csnRx := some p.seqNo } else k
    let s1 := s.updConn k.index fun _ => k1
    if ty = 0x20 then s1.recvConnect k1 p
    else if ty = 0x21 then s1.recvAccept k1 p
    else if !isNew then s1
    else if ty = 0x22 then s1.recvClose k1
    else if ty = 0x23 then s1.recvCloseAck k1
    else if k.state = 3 || k.state = 4 then s1.recvAck k1 p
    else s1

/-! ### The checks of a datagram (R293, R294, R327) -/

/-- Whether a datagram is one of its connection's (R327). -/
def Conn.matches (k : Conn) (ty : Nat) (p : ZtIn) : Bool :=
  let versionOk := ty == 0x20 || p.version == k.version ||
    (ty == 0x21 && k.state == 2 && p.version == field p.body 0 1 && k.verMin ≤ p.version && p.version ≤ k.verMax)
  let wild := ty == 0x20 && k.state == 1 && k.peerConn == 0xFFFFFFFF
  versionOk && (wild || p.srcConn == k.peerConn) && fit 16 p.srcIp == fit 16 k.peerIp

/-- A packet of a cached connection: matched, its generation judged, authenticated, and taken (R293, R294, R327). -/
def State.judgeZt (s : State) (k : Conn) (ty : Nat) (p : ZtIn) : State :=
  if !k.matches ty p then s.bump 0x2605 7 1
  else
    let next := p.keyGen == (k.genRx + 1) % 256 && k.version != 1
    if !(p.keyGen == k.genRx % 256 || next) then s.bump 0x2603 3 1
    else if !p.auth then s.bump 0x2603 1 1
    else
      let k1 := { k with lastRx := s.now, genRx := if next then k.genRx + 1 else k.genRx }
      ((s.updConn k.index fun _ => k1).cacheConn k.index).takeZt { k1 with cached := true, lastUse := s.zt.useClock + 1 } ty p

/-! ### The miss bench (R300, R301) -/

/-- Cells of the miss bench in use. -/
def State.missCells (s : State) : Nat := sumNat (s.zt.missBench.map fun m => cellsOf (36 + m.p.body.length))

/-- Whether the miss bench is full for a packet (R301). -/
def State.missFull (s : State) (conn : Nat) (p : ZtIn) : Bool :=
  4096 ≤ s.zt.missBench.length || 64 ≤ (s.zt.missBench.filter fun m => m.conn == conn).length ||
  s.halfCells < s.missCells + cellsOf (36 + p.body.length)

/-- A packet whose context is not cached waits for it, or is dropped (R300). -/
def State.benchPacket (s : State) (k : Conn) (ty : Nat) (p : ZtIn) : State :=
  let s1 := s.fetchConn k.index
  if s1.missFull k.index p then s1.bump 0x2601 6 1
  else { s1 with zt := { s1.zt with
      missBench := s1.zt.missBench ++ [{ conn := k.index, arrived := s.now, ty := ty, p := p }] } }

/-- Whether the ZT unit runs: not in the hardware safe state, not held by a rung (R602, R612). -/
def State.ztRuns (s : State) : Bool := !s.faults.safe && !s.faults.fencedUnits.contains 2

/-- A received packet of a type (R300, R306, R327): a packet of a FREE connection is dropped; later packets of a connection
whose context is fetched queue behind the first. -/
def State.ztPacket (s : State) (ty : Nat) (p : ZtIn) : Result :=
  match s.conn? p.conn with
  | none => s.quiet (s.bump 0x2605 7 1)
  | some k =>
    if !k.cached || s.zt.missBench.any fun m => m.conn == k.index then s.quiet (s.benchPacket k ty p)
    else s.commit (s.judgeZt k ty p)

end Sys2Proof.Machine
end

