-- ==== Sys2Proof/Machine/Group.lean ====
section
/-! DEFINITION. Job groups: their shape (R328 to R330), slots and members (R331, R332, R342), the messages of a group
(R353, R354), and how a member sends them. -/

namespace Sys2Proof.Machine

/-! ### Slots -/

/-- A group slot that is not FREE. -/
def State.group? (s : State) (slot : Nat) : Option Group := s.coll.groups.find? fun g => g.slot == slot

/-- The state with a group replaced. -/
def State.updGroup (s : State) (slot : Nat) (f : Group → Group) : State :=
  { s with coll := { s.coll with groups := updWhere (fun g => g.slot == slot) f s.coll.groups } }

/-- The connection toward a member (R340). -/
def Group.conn (g : Group) (m : Nat) : Nat := 0x200000 + g.slot * 32768 + m

/-- The slot and member of a group connection. -/
def connGroup (i : Nat) : Nat × Nat := ((i - 0x200000) / 32768, (i - 0x200000) % 32768)

/-- The rank that a member holds, none for a spare (R332). -/
def Group.rankOf (g : Group) (m : Nat) : Option Nat := g.rankMap.findIdx? fun x => x == m

/-- The member that holds a rank. -/
def Group.memberAt (g : Group) (r : Nat) : Nat := g.rankMap.getD r 0xFFFFFFFF

/-- Member index m's entry. -/
def Group.member (g : Group) (m : Nat) : Option Member := g.members[m]?

/-- The group with a member's entry replaced. -/
def Group.updMember (g : Group) (m : Nat) (f : Member → Member) : Group := { g with members := updAt m f g.members }

/-! ### Shape (R328 to R330) -/

/-- The product of a list. -/
def prodNat (l : List Nat) : Nat := l.foldl (· * ·) 1

/-- Ranks of a group (R328). -/
def Group.ranks (g : Group) : Nat := prodNat (g.sizes.take g.axes)

/-- The axes of a group: id, stride, size (R328). -/
def Group.strides (g : Group) : List (Nat × Nat × Nat) :=
  (List.range g.axes).map fun k => (k, prodNat (g.sizes.take k), g.sizes.getD k 1)

/-- The axes that a mask names. -/
def Group.named (g : Group) (mask : Nat) : List (Nat × Nat × Nat) := g.strides.filter fun a => bit mask a.1

/-- The subgroup size (R329). -/
def Group.subSize (g : Group) (mask : Nat) : Nat := prodNat ((g.named mask).map fun a => a.2.2)

/-- The mixed-radix index of a rank's coordinates on some axes, the first least significant. -/
def indexOn (r : Nat) : List (Nat × Nat × Nat) → Nat
  | [] => 0
  | (_, st, sz) :: l => r / st % sz + sz * indexOn r l

/-- The rank part that an index on some axes stands for. -/
def rankOn (i : Nat) : List (Nat × Nat × Nat) → Nat
  | [] => 0
  | (_, st, sz) :: l => i % sz * st + rankOn (i / sz) l

/-- The subgroup index of a rank (R329). -/
def Group.subIndex (g : Group) (mask r : Nat) : Nat := indexOn r (g.named mask)

/-- The rank at a subgroup index of the subgroup that rank r lies in (R329). -/
def Group.subRank (g : Group) (mask r i : Nat) : Nat :=
  let named := g.named mask
  r - rankOn (indexOn r named) named + rankOn i named

/-- First block and number of blocks of shard j of n (R330). -/
def shardBlocks (blocks n j : Nat) : Nat × Nat := (j * blocks / n, (j + 1) * blocks / n - j * blocks / n)

/-- Chunks of a run of blocks (R355): an empty one travels as one empty message. -/
def chunkCount (blocks : Nat) : Nat := max 1 (ceilDiv blocks 4096)

/-- Blocks of chunk c of a run. -/
def chunkBlocks (blocks c : Nat) : Nat := min 4096 (blocks - 4096 * c)

/-! ### Messages (R353, R354) -/

/-- The 48-byte header of a collective message (R353). -/
def Group.header (g : Group) (m : GroupMsg) : Bytes :=
  toLe 8 g.groupId ++ toLe 4 m.epoch ++ toLe 2 g.self ++ toLe 1 m.ty ++ toLe 1 m.level ++ toLe 8 m.opSeq ++ toLe 2 m.opcode
    ++ [0, 0] ++ toLe 4 m.shard ++ toLe 4 m.shapeCheck.toNat ++ toLe 4 m.chunk ++ zeros 8

/-- The 32-byte header of a snapshot message (R394). -/
def Group.snapHeader (g : Group) (m : GroupMsg) : Bytes :=
  toLe 8 g.groupId ++ toLe 4 m.epoch ++ toLe 2 g.self ++ toLe 1 m.ty ++ [0] ++ toLe 8 m.opSeq ++ toLe 8 m.arg

/-- A message of the group with its fields at zero. -/
def Group.message (g : Group) (ty : Nat) (body : Bytes) : GroupMsg :=
  { group := g.slot, member := 0, channel := 0, ty := ty, epoch := g.epoch, opSeq := 0, opcode := 0, level := 0, shard := 0
    chunk := 0, shapeCheck := 0, arg := 0, body := body }

/-- A message goes to a member over its group connection, as part of a command's work (R353, R393). -/
def State.sendMember (s : State) (slot member : Nat) (ctx : Option Nat) (m : GroupMsg) : State :=
  match s.group? slot with
  | none => s
  | some g =>
    match s.conn? (g.conn member) with
    | none => s
    | some k =>
      let bytes := (if m.channel = 0 then g.header m else g.snapHeader m) ++ m.body
      let s1 := { s with coll := { s.coll with outbox := { m with member := member } :: s.coll.outbox } }
      let own := fun (p : TxPacket) => { p with ctx := ctx }
      s1.queueZt k.index ((groupPackets k.mtu m.channel bytes).map own)

/-- A message goes to several members. -/
def State.sendMembers (s : State) (slot : Nat) (ms : List Nat) (ctx : Option Nat) (m : GroupMsg) : State :=
  ms.foldl (fun (s : State) x => s.sendMember slot x ctx m) s

/-- The other members of a group. -/
def Group.others (g : Group) : List Nat := (List.range g.members.length).filter fun m => m != g.self

/-! ### The group sync object (R342) -/

/-- A view's epoch is written and the error flag cleared (R342). -/
def State.signalView (s : State) (g : Group) : State :=
  (s.signalHandle g.syncHandle 1 (BitVec.ofNat 64 g.epoch)).signalHandle g.syncHandle 6 0

/-- PEER_LOST is set, with the error flag (R342). -/
def State.signalLost (s : State) (g : Group) : State :=
  (s.signalHandle g.syncHandle 4 (BitVec.ofNat 64 (2 ^ 63))).signalHandle g.syncHandle 5 0

/-! ### The end of membership -/

/-- The ordered accumulations of a group's operation are freed without being combined (R367). -/
def State.dropAccs (s : State) (slot opSeq : Nat) : State :=
  { s with transform := { s.transform with
      accs := s.transform.accs.filter fun a => !(a.group == slot && a.opSeq == opSeq) } }

/-- A connection is destroyed without CLOSE (R365). -/
def State.cutConn (s : State) (i : Nat) : State :=
  { s with zt := { s.zt with
      conns := s.zt.conns.filter fun k => k.index != i
      missBench := s.zt.missBench.filter fun m => m.conn != i } }

/-- A slot becomes FREE, its connections with it (R342). -/
def State.freeGroup (s : State) (slot : Nat) : State :=
  match s.group? slot with
  | none => s
  | some g =>
    let s1 := g.others.foldl (fun (s : State) m => s.cutConn (g.conn m)) s
    let s2 := match g.op with
      | some op => s1.dropAccs slot op.opSeq
      | none => s1
    { s2 with coll := { s2.coll with groups := s2.coll.groups.filter fun x => x.slot != slot } }

/-- DETAIL of a PEER_TIMEOUT (R360). -/
def lossDetail (reason rank : Nat) : Nat := reason * 2 ^ 56 + rank * 2 ^ 16

end Sys2Proof.Machine
end

