-- ==== Sys2Proof/Machine/Collective.lean ====
section
/-! DEFINITION. The collectives: their operation block (R334 to R338), wire shards (R349 to R351), the reduction trees (R344,
R345), results and copies (R346 to R348), and how an operation ends (R356, R360, R371). -/

namespace Sys2Proof.Machine

/-! ### Containers without decoding (R124, R349) -/

/-- A block as it stands: its map code, its base-array slot, its heap slot. -/
structure Raw where
  code : Nat
  base : Bytes
  heap : Bytes
  deriving DecidableEq, Repr, Inhabited

/-- Whether a block of a tensor in a format is escalated. -/
def rawEscalated (f code : Nat) : Bool := isZn f && f < code && code ≤ 4

/-- The blocks of a ZN tensor from block i on; esc escalated ones lie before it. -/
def readRawsZn (rd : Reader) (d : Desc) (base map : Bytes) : Nat → Nat → Nat → Except Err (List Raw)
  | _, _, 0 => .ok []
  | i, esc, n + 1 => do
    let code := mapCode map i
    let sz := containerBytes d.format
    let slot := slice base (i * sz) sz
    let up := rawEscalated d.format code
    let heap ← if up && esc < d.heapUsed then rd (d.heap + 128 * esc) 128 else pure []
    let mine := if up && field slot 0 4 = esc then [] else slot
    let r ← readRawsZn rd d base map (i + 1) (if up then esc + 1 else esc) n
    pure ({ code := code, base := mine, heap := heap } :: r)

/-- The blocks of a tensor (R124): those with a heap slot of their own carry no base-array slot, which is renumbered
(R120). -/
def readRaws (rd : Reader) (d : Desc) : Except Err (List Raw) := do
  if isZn d.format then do
    let base ← rd d.base d.baseBytes
    let map ← rd d.map d.mapBytes
    readRawsZn rd d base map 0 0 d.blocks
  else do
    let cs ← readContainers rd d
    pure (cs.map fun c => { code := d.format, base := (c.map (·.2)).getD [], heap := [] })

/-- Base array, map codes and heap of blocks, with heap slots numbered anew (R120). -/
def rawParts (f : Nat) : Nat → List Raw → Bytes × List Nat × Bytes
  | _, [] => ([], [], [])
  | used, r :: rest =>
    let up := rawEscalated f r.code
    let slot := if up && r.base.isEmpty then fit (containerBytes f) (toLe 4 used) else fit (containerBytes f) r.base
    let (b, m, h) := rawParts f (if up then used + 1 else used) rest
    (slot ++ b, r.code :: m, (if up then fit 128 r.heap else []) ++ h)

/-- Heap slots of blocks. -/
def rawHeap (f : Nat) (rs : List Raw) : Nat := (rs.filter fun r => rawEscalated f r.code).length

/-- The runs of memory that blocks make of a tensor (R124, R347). -/
def rawRuns (d : Desc) (rs : List Raw) : List (Nat × Bytes) :=
  if isZn d.format then
    let (b, m, h) := rawParts d.format 0 rs
    [(d.base, b), (d.map, toLe d.mapBytes (packCodes 4 m)), (d.heap, h), (d.addr + 56, toLe 4 (h.length / 128))]
  else tensorRuns d (rs.map fun r => (d.format, r.base))

/-- Blocks just encoded. -/
def rawOf (f : Nat) (b : Nat × Bytes) : Raw :=
  if rawEscalated f b.1 then { code := b.1, base := [], heap := fit 128 b.2 } else { code := b.1, base := b.2, heap := [] }

/-- Format and values of a block, and whether it was malformed. -/
def Raw.values (f : Nat) (r : Raw) : Nat × List Fl × Bool :=
  if !isZn f then blockValues f (some (f, r.base))
  else if r.code = f then blockValues f (some (f, r.base))
  else if rawEscalated f r.code && r.base.isEmpty && !r.heap.isEmpty then
    blockValues f (some (r.code, r.heap.take (containerBytes r.code)))
  else blockValues f none

/-- The body of a CONTRIB or RESULT (R354): blocks, HEAP_USED, base array, map padded to 64 B, heap slots. -/
def wireBody (f : Nat) (rs : List Raw) : Bytes :=
  let (b, m, h) := rawParts f 0 rs
  let map := if isZn f then toLe (ceilDiv rs.length 2) (packCodes 4 m) else []
  toLe 4 rs.length ++ toLe 4 (h.length / 128) ++ zeros 8 ++ b ++ fit (alignUp map.length 64) map ++ h

/-- A wire shard as a tensor within its message (R349). -/
def wireDesc (f blocks : Nat) (body : Bytes) : Desc :=
  let d : Desc := { (default : Desc) with format := f, elements := 64 * blocks, base := 16, heapUsed := field body 4 4 }
  let map := 16 + d.baseBytes
  { d with map := map, heap := map + alignUp d.mapBytes 64 }

/-- The blocks of a wire shard. -/
def wireRaws (f blocks : Nat) (body : Bytes) : List Raw :=
  match readRaws (fun a n => .ok (fit n (slice body a n))) (wireDesc f blocks body) with
  | .ok l => l
  | .error _ => []

/-- The values of blocks, in order. -/
def rawValues (f : Nat) (rs : List Raw) : List Fl := rs.flatMap fun r => (r.values f).2.1

/-- Malformed blocks. -/
def rawMalformed (f : Nat) (rs : List Raw) : Nat := (rs.filter fun r => (r.values f).2.2).length

/-! ### The operation (R334 to R338) -/

/-- What a data operation runs with. -/
structure CollCmd where
  op : Nat
  x : XCmd
  slot : Nat
  mask : Nat
  wf : Nat
  root : Nat
  src : Option Desc
  dst : Option Desc
  wireRes : Nat
  rank : Nat
  n : Nat
  idx : Nat
  cabinet : Nat
  ctx : Nat
  fanin : Nat
  inOrder : Bool

/-- Whether an operation reduces. -/
def isReduction (op : Nat) : Bool := op = 0x2010 || op = 0x2011

/-- Whether a wire format is allowed (R335). -/
def wireFormatOk (f : Nat) : Bool := f ≤ 4 || f = 10

/-- The checks of a data operation's ARGS and operation block (R157, R158, R335). -/
def State.collBegin (s : State) (c : Ctx) : Except Err XCmd := do
  let r := c.record
  let op := recOpcode r
  match reservedErr r [(0, 11), (16, 8)] with
  | some e => throw e
  | none => pure ()
  let (a, n) := opBlockRange r
  check [(2 < arg r 10 1, errField 10), (a % 64 != 0, errAlign 0), (n != 64, errRange 8)]
  let ob ← s.reader c a n
  check [(field ob 8 8 != 0, obField 8), (63 < field ob 16 1, obRange 16), (64 ≤ field ob 17 1, obField 17),
    (if isReduction op then !wireFormatOk (field ob 18 1) else field ob 18 1 != 0, obField 18), (field ob 19 1 != 0, obField 19),
    (op != 0x2013 && field ob 20 2 != 0, obField 20), (field ob 22 2 != 0, obField 22),
    (!isReduction op && field ob 40 8 != 0, obField 40), (field ob 40 8 % 64 != 0, obAlign 40),
    (!allZero (slice ob 48 16), obField 48)]
  let pol := policyOf c.policy
  match roundingOf (arg r 10 1) pol (field ob 0 8) (arg r 16 8) with
  | none => throw (errField 10)
  | some rnd => pure { ob := ob, pol := pol, rnd := rnd, step := arg r 16 8, opRange := (a, n), rd := s.reader c }

/-- A descriptor that an operation-block field names, or none for 0 where it may be absent. -/
def XCmd.descOpt (x : XCmd) (off : Nat) (mayLack : Bool) : Except Err (Option Desc) := do
  if field x.ob off 8 = 0 then do
    check [(!mayLack, obRange off)]
    pure none
  else do
    let d ← x.desc off
    pure (some d)

/-- Elements of a run of blocks of a tensor. -/
def Desc.elementsIn (d : Desc) (first blocks : Nat) : Nat := min (64 * blocks) (d.elements - 64 * first)

/-- What R336 asks of the tensors of an operation: SRC and DST of a subgroup of n at subgroup index i. -/
def shapeChecks (op n i : Nat) (src dst : Option Desc) : List (Bool × Err) :=
  match src, dst with
  | some a, some d =>
    let (f, k) := shardBlocks a.blocks n i
    let want := if op = 0x2010 || op = 0x2013 || op = 0x2014 then a.elements
      else if op = 0x2011 then a.elementsIn f k else n * a.elements
    [(d.residual != 0, descRange 32 24), (!isReduction op && d.format != a.format, descField 32 60),
     (op = 0x2012 && a.elements % 64 != 0, descRange 24 32),
     (op = 0x2014 && a.elements % (64 * n) != 0, descRange 24 32), (d.elements != want, descRange 32 32),
     (op = 0x2011 && d.elementBase != a.elementBase + 64 * f, descRange 32 40)]
  | some a, none => [(op = 0x2011 && (shardBlocks a.blocks n i).2 != 0, obRange 32)]
  | none, some d => [(d.residual != 0, descRange 32 24)]
  | none, none => []

/-- The operation of a started command of a group (R336). -/
def collTensors (c : Ctx) (g : Group) (x : XCmd) : Except Err CollCmd := do
  let op := recOpcode c.record
  let mask := field x.ob 17 1
  let rank := (g.rankOf g.self).getD 0
  let n := g.subSize mask
  let i := g.subIndex mask rank
  let root := field x.ob 20 2
  check [(op = 0x2013 && n ≤ root, obRange 20)]
  let src ← x.descOpt 24 (op = 0x2013 && i != root)
  let dst ← x.descOpt 32 (op = 0x2011 || (op = 0x2013 && i = root))
  check (shapeChecks op n i src dst)
  let wr := field x.ob 40 8
  let wrRange := if wr = 0 then [] else [(wr, 2 * ((src.map (·.elements)).getD 0))]
  x.noOverlap src.toList (dst.toList.map Desc.ranges ++ [wrRange])
  pure { op := op, x := x, slot := g.slot, mask := mask, wf := field x.ob 18 1, root := root, src := src, dst := dst
         wireRes := wr, rank := rank, n := n, idx := i, cabinet := c.cabinet, ctx := c.id, fanin := g.fanin
         inOrder := g.mode == 1 }

/-- The running collective of a group with what it runs with. -/
def State.collOf (s : State) (g : Group) : Option (CollOp × CollCmd) :=
  match g.op with
  | none => none
  | some op =>
    match s.ctx? op.ctx with
    | none => none
    | some c =>
      match (do
        let x ← s.collBegin c
        collTensors c g x : Except Err CollCmd) with
      | .ok k => some (op, k)
      | .error _ => none

/-- SHAPE_CHECK of an operation (R353): ELEMENTS and FORMAT of the operation's tensors, in this order
(notes/assumptions/61.md). -/
def CollCmd.shapeCheck (k : CollCmd) (c : Ctx) : BitVec 32 :=
  let part := fun (d : Option Desc) => toLe 8 ((d.map (·.elements)).getD 0) ++ toLe 1 ((d.map (·.format)).getD 0)
  let tensors :=
    if k.op = 0x2013 then (let d := if k.src.isSome then k.src else k.dst
                           part d ++ part d)
    else if k.op = 0x2011 then part k.src
    else part k.src ++ part k.dst
  BitVec.ofNat 32 (leNat (fcsOf (slice k.x.ob 16 8 ++ slice c.record 50 14 ++ tensors)))

/-! ### The running operation -/

/-- The running operation of a slot replaced. -/
def State.updOp (s : State) (slot : Nat) (f : CollOp → CollOp) : State :=
  s.updGroup slot fun g => { g with op := g.op.map f }

/-- Counts of an operation. -/
def Counts.toList (c : Counts) : List Nat := [c.saturated, c.escaped, c.escalated, c.nonfinite, c.flushed, c.malformed]

/-- The counts that a list holds. -/
def countsOf (l : List Nat) : Counts :=
  { saturated := l.getD 0 0, escaped := l.getD 1 0, escalated := l.getD 2 0, nonfinite := l.getD 3 0, flushed := l.getD 4 0
    malformed := l.getD 5 0 }

/-- Counts join the running operation's. -/
def State.addCounts (s : State) (slot : Nat) (n : Counts) : State :=
  s.updOp slot fun op => { op with counts := ((countsOf op.counts).add n).toList }

/-- A message of the operation goes to a subgroup index. -/
def State.sendPart (s : State) (k : CollCmd) (dstPos : Nat) (ty level shard chunk : Nat) (body : Bytes) : State :=
  match s.group? k.slot, s.ctx? k.ctx with
  | some g, some c =>
    let m := { g.message ty body with
      opSeq := (g.op.map (·.opSeq)).getD 0, opcode := k.op, level := level, shard := shard, chunk := chunk
      shapeCheck := k.shapeCheck c }
    s.sendMember k.slot (g.memberAt (g.subRank k.mask k.rank dstPos)) (some k.ctx) m
  | _, _ => s

/-- The other subgroup indices. -/
def CollCmd.peers (k : CollCmd) : List Nat := (List.range k.n).filter fun j => j != k.idx

/-! ### Wire encoding (R349 to R351) -/

/-- The tensor that a wire shard is encoded as. -/
def CollCmd.wireTensor (k : CollCmd) (src : Desc) (blocks : Nat) : Desc :=
  { src with
    format := k.wf, heapSlots := blocks, residual := 0
    tensorId := Nat.xor (Nat.xor src.tensorId 0x80000000) (k.rank * 16 % 2 ^ 32) }

/-- A run of FP32 values that begins at a block of SRC is encoded for the wire, with error feedback from WIRE_RES (R349,
R350, R135). -/
def State.wireEncode (s : State) (k : CollCmd) (src : Desc) (first blocks : Nat) (vals : List Fl) :
    Except Err (State × List Raw) := do
  let n := src.elementsIn first blocks
  let at_ := k.wireRes + 128 * first
  let res ← if k.wireRes = 0 || n = 0 then pure [] else s.readCab k.cabinet at_ (2 * n)
  let resV := (unpackCodes 16 (leNat res) (res.length / 2)).map Fp.of16
  let y := if res.isEmpty then vals else
    ((vals.take n).zip resV).map (fun p => Fp.add32 p.1 p.2) ++ vals.drop n
  let bs ← encodeBlocks (k.wireTensor src blocks) k.x.pol k.x.rnd first 0 (chunksOf 64 blocks y)
  let cs := bs.map fun b => (b.1, b.2.1)
  let dec := cs.flatMap fun c => (decodeContainer c.1 c.2).1
  let newRes := if res.isEmpty then [] else
    [(at_, ((y.zip dec).take n).flatMap fun p => toLe 2 (Fp.to16 (residualOf p.1 p.2)))]
  let t ← s.writeAll k.cabinet newRes
  pure (t.addCounts k.slot (sumCounts (bs.map fun b => b.2.2)), cs.map (rawOf k.wf))

/-! ### The trees (R344, R345) -/

/-- A value at a position: still the member's own SRC blocks, or a combination. -/
structure Part where
  own : Option (List Raw)
  vals : List Fl
  deriving DecidableEq, Repr, Inhabited

/-- Contributions of a combination of width w at position p (R344). -/
def combineTotal (fanin n p w : Nat) : Nat := ((List.range fanin).filter fun i => p + i * w < n).length

/-- An accumulation is created with the combiner's own value, and opens when its reservation is free (R154). -/
def State.startAcc (s : State) (k : CollCmd) (opSeq shard chunk level total : Nat) (vals : List Fl) : State :=
  let a : OrderedAcc :=
    { group := k.slot, opSeq := opSeq, shard := shard, chunk := chunk, level := level, total := total, nextIdx := 1
      acc := vals.map fun x => BitVec.ofNat 32 (Fp.to32 x), held := [], inOrder := k.inOrder, isOpen := false }
  let isOpen : Bool := decide (s.orderUsed + 2 * a.unit ≤ s.transform.benchOrder)
  { s with transform := { s.transform with accs := s.transform.accs ++ [{ a with isOpen := isOpen }] } }

/-- Malformed blocks of SRC that were decoded join the counts (R371). -/
def State.countOwn (s : State) (k : CollCmd) (p : Part) : State :=
  match p.own, k.src with
  | some rs, some src =>
    let m := rawMalformed src.format rs
    (s.addCounts k.slot { (default : Counts) with malformed := m }).bump 0x2201 1 m
  | _, _ => s

/-- A value that has been combined below a level goes on: combined at this level, sent, or, at the root, kept as the result
(R344). -/
def State.carry (s : State) (k : CollCmd) (src : Desc) (opSeq shard chunk first blocks : Nat) (p : Part) (level : Nat) :
    Nat → Except Err State
  | 0 => .ok s
  | fuel + 1 => do
    let w := k.fanin ^ level
    let pos := (k.idx + k.n - shard % k.n) % k.n
    if k.n ≤ w then
      let bs := p.vals.map fun x => BitVec.ofNat 32 (Fp.to32 x)
      pure ((s.countOwn k p).updOp k.slot fun op => { op with rootVals := putKey op.rootVals chunk bs })
    else if pos % (w * k.fanin) = 0 then
      let total := combineTotal k.fanin k.n pos w
      if total = 1 then s.carry k src opSeq shard chunk first blocks p (level + 1) fuel
      else pure ((s.countOwn k p).startAcc k opSeq shard chunk level total p.vals)
    else
      let dstPos := (pos - pos % (w * k.fanin) + shard) % k.n
      match p.own with
      | some rs =>
        if src.format = k.wf then pure (s.sendPart k dstPos 0x10 level shard chunk (wireBody k.wf rs))
        else do
          let (t, ws) ← s.wireEncode k src first blocks p.vals
          pure ((t.countOwn k p).sendPart k dstPos 0x10 level shard chunk (wireBody k.wf ws))
      | none => do
        let (t, ws) ← s.wireEncode k src first blocks p.vals
        pure (t.sendPart k dstPos 0x10 level shard chunk (wireBody k.wf ws))

/-- A member's own contribution to every chunk of every shard enters its tree. -/
def State.enterTrees (s : State) (k : CollCmd) (src : Desc) (opSeq : Nat) (raws : List Raw) : List (Nat × Nat) → Except Err State
  | [] => .ok s
  | (shard, chunk) :: rest => do
    let (f, n) := shardBlocks src.blocks k.n shard
    let first := f + 4096 * chunk
    let blocks := chunkBlocks n chunk
    let own := (raws.drop first).take blocks
    let t ← s.carry k src opSeq shard chunk first blocks { own := some own, vals := rawValues src.format own } 0 18
    t.enterTrees k src opSeq raws rest

/-- Every chunk of every shard of n. -/
def allChunks (blocks n : Nat) : List (Nat × Nat) :=
  (List.range n).flatMap fun j => (List.range (chunkCount (shardBlocks blocks n j).2)).map fun c => (j, c)

/-! ### Results and copies (R346 to R348) -/

/-- Containers received or made join the operation. -/
def State.addGathered (s : State) (slot part chunk : Nat) (body : Bytes) : State :=
  s.updOp slot fun op =>
    if op.gathered.any fun x => x.1 == part && x.2.1 == chunk then op
    else { op with gathered := op.gathered ++ [(part, chunk, body)] }

/-- Blocks of the parts that DST is assembled of: part number and blocks. -/
def CollCmd.parts (k : CollCmd) : List (Nat × Nat) :=
  match k.dst with
  | none => []
  | some d =>
    if k.op = 0x2010 then (List.range k.n).map fun j => (j, (shardBlocks d.blocks k.n j).2)
    else if k.op = 0x2012 || k.op = 0x2014 then (List.range k.n).map fun j => (j, d.blocks / k.n)
    else if k.op = 0x2013 then (if k.idx = k.root then [] else [(0, d.blocks)])
    else []

/-- The chunks of the parts that have not been gathered. -/
def CollCmd.missingParts (k : CollCmd) (op : CollOp) : List (Nat × Nat) :=
  k.parts.flatMap fun p => ((List.range (chunkCount p.2)).filter fun c =>
    !(op.gathered.any fun x => x.1 == p.1 && x.2.1 == c)).map fun c => (p.1, c)

/-- The blocks gathered, in the order of DST. -/
def CollCmd.assembled (k : CollCmd) (op : CollOp) (f : Nat) : List Raw :=
  k.parts.flatMap fun p => (List.range (chunkCount p.2)).flatMap fun c =>
    match op.gathered.find? fun x => x.1 == p.1 && x.2.1 == c with
    | some x => wireRaws f (chunkBlocks p.2 c) x.2.2
    | none => []

/-- The block at which escalated blocks exceed a number of heap slots. -/
def overflowBlock (f slots : Nat) : Nat → Nat → List Raw → Nat
  | i, _, [] => i
  | i, used, r :: rest =>
    if rawEscalated f r.code then (if slots ≤ used then i else overflowBlock f slots (i + 1) (used + 1) rest)
    else overflowBlock f slots (i + 1) used rest

/-- DST is written once every part is there (R347); an assembled ZN tensor that needs more heap slots than it has ends the
command (R348, R124). -/
def State.assemble (s : State) (k : CollCmd) (op : CollOp) : Except Err State :=
  match k.dst with
  | none => .ok (s.updOp k.slot fun op => { op with dstDone := true })
  | some d =>
    let rs := k.assembled op d.format
    if isZn d.format && d.heapSlots < rawHeap d.format rs then
      .error (if k.op = 0x2010 || k.op = 0x2012 then errLimit 2 (overflowBlock d.format d.heapSlots 0 0 rs)
        else descRange 32 52)
    else do
      let t ← s.writeAll k.cabinet (rawRuns d rs)
      pure (t.updOp k.slot fun op => { op with dstDone := true })

/-- Chunks of blocks go to the other members as RESULT, and are kept when keep says so. -/
def State.spread (s : State) (k : CollCmd) (f part shard : Nat) (tos : List Nat) (keep : Bool) (rs : List Raw) : State :=
  (List.range (chunkCount rs.length)).foldl (fun (s : State) c =>
    let body := wireBody f ((rs.drop (4096 * c)).take 4096)
    let s1 := tos.foldl (fun (s : State) dstPos => s.sendPart k dstPos 0x11 0 shard c body) s
    if keep then s1.addGathered k.slot part c body else s1) s

/-- The result of the member's own shard, once all its chunks are there (R346): encoded into DST, or encoded and spread. -/
def State.finishRoot (s : State) (k : CollCmd) (src : Desc) (op : CollOp) : Except Err State :=
  let (f, n) := shardBlocks src.blocks k.n k.idx
  let cs := List.range (chunkCount n)
  if !(cs.all fun c => op.rootVals.any fun p => p.1 == c) || op.dstDone then .ok s
  else
    let vals := (cs.flatMap fun c => lookupD op.rootVals c []).map fun v => Fp.of32 v.toNat
    if k.op = 0x2011 then
      match k.dst with
      | none => .ok (s.updOp k.slot fun op => { op with dstDone := true })
      | some d => do
        let (t, _, n) ← s.storeTensor k.cabinet d k.x.pol k.x.rnd (vals.take d.elements)
        pure ((t.addCounts k.slot n).updOp k.slot fun op => { op with dstDone := true })
    else
      match k.dst with
      | none => .ok s
      | some d =>
        if op.gathered.any fun x => x.1 == k.idx then .ok s
        else do
          let bs ← encodeBlocks { d with heapSlots := n } k.x.pol k.x.rnd f 0 (chunksOf 64 n vals)
          let rs := bs.map fun b => rawOf d.format (b.1, b.2.1)
          pure ((s.addCounts k.slot (sumCounts (bs.map fun b => b.2.2))).spread k d.format k.idx k.idx k.peers true rs)

/-- What has become complete goes on: the own shard's result, then DST. -/
def State.progressColl (s : State) (slot : Nat) : Except Err State := do
  match s.group? slot with
  | none => pure s
  | some g =>
    match s.collOf g with
    | none => pure s
    | some (op, k) =>
      let s1 ← match isReduction k.op, k.src with
        | true, some src => s.finishRoot k src op
        | _, _ => pure s
      match s1.group? slot with
      | none => pure s1
      | some g1 =>
        match g1.op with
        | none => pure s1
        | some op1 =>
          if op1.dstDone || k.op = 0x2011 || !(k.missingParts op1).isEmpty then pure s1 else s1.assemble k op1

/-! ### The end of an operation (R356, R360, R371) -/

/-- ENGINE_AREA of a collective's completion (R371). -/
def Group.area (g : Group) (op : CollOp) : Bytes :=
  (countsOf op.counts).bytes ++ toLe 4 g.epoch ++ toLe 4 (op.opSeq % 2 ^ 32)

/-- Whether a group message of a command waits for its acknowledgement. -/
def Conn.unackedOf (k : Conn) (ctx : Nat) : Bool :=
  (k.tx.any fun p => !p.acked && p.ctx == some ctx) || k.sendQueue.any fun p => p.ctx == some ctx

/-- Members whose acknowledgement of an operation's message is missing (R358). -/
def State.unackedMembers (s : State) (g : Group) (ctx : Nat) : List Nat :=
  g.others.filter fun m =>
    match s.conn? (g.conn m) with
    | some k => k.unackedOf ctx
    | none => false

/-- The collective of a slot ends with OK, or OK_WITH_COUNTS, once DST is written, nothing is left to combine, and every
message it sent is acknowledged. -/
def State.settleColl (s : State) (slot : Nat) : State :=
  match s.group? slot with
  | none => s
  | some g =>
    match g.op with
    | none => s
    | some op =>
      if !op.dstDone || op.held || (s.transform.accs.any fun a => a.group == slot && a.opSeq == op.opSeq) ||
          !(s.unackedMembers g op.ctx).isEmpty then s
      else
        (s.updGroup slot fun g => { g with op := none }).finish op.ctx (countsOf op.counts).status 0 (g.area op)

/-- The other members of an operation's subgroup. -/
def Group.subgroup (g : Group) (mask : Nat) : List Nat :=
  match g.rankOf g.self with
  | none => []
  | some r =>
    ((List.range (g.subSize mask)).map fun j => g.memberAt (g.subRank mask r j)).filter fun m => m != g.self

/-- ABANDON goes to the other members of an operation's subgroup (R356). -/
def State.sendAbandon (s : State) (slot opSeq mask st : Nat) : State :=
  match s.group? slot with
  | none => s
  | some g => s.sendMembers slot (g.subgroup mask) none { g.message 0x24 (toLe 2 st) with opSeq := opSeq }

/-- The operation block's AXES_MASK of a started command. -/
def State.maskOf (s : State) (ctx : Nat) : Nat :=
  match s.ctx? ctx with
  | none => 0
  | some c =>
    match s.reader c (opBlockRange c.record).1 64 with
    | .ok ob => field ob 17 1
    | .error _ => 0

/-- The collective of a slot ends with an error: its accumulations are freed, its DST and WIRE_RES take what the status leaves
them, and ABANDON goes out for a local reason (R356, R360, R367). -/
def State.failColl (s : State) (slot st detail : Nat) (abandon : Bool) : State :=
  match s.group? slot with
  | none => s
  | some g =>
    match g.op with
    | none => s
    | some op =>
      let s1 := (s.dropAccs slot op.opSeq).updGroup slot fun g => { g with op := none }
      let s2 := if abandon then s1.sendAbandon slot op.opSeq (s.maskOf op.ctx) st else s1
      { (s2.spoil op.ctx st).finish op.ctx st detail (g.area op) with fresh := s2.fresh + 2 }

/-- What a step of the running operation makes of the state, or the error that ends it (R356): an assembled DST that overflows
ends alike at every member, without ABANDON (R348). -/
def State.collStep (s : State) (slot : Nat) (r : Except Err State) : State :=
  match (do
    let t ← r
    t.progressColl slot : Except Err State) with
  | .ok t => t.settleColl slot
  | .error e =>
    let ctx := ((s.group? slot).bind (·.op)).map (·.ctx)
    let s1 := match ctx with
      | some id => s.reportErr id e
      | none => s
    s1.failColl slot e.status e.detail (!(e.status == stEscalationLimit && e.detail / 2 ^ 48 == 2))

/-! ### Starting (R337, R338, R367) -/

/-- What keeps a data operation from its group (R338): an error, or none and it may start or must wait. -/
def Group.refuses (g : Option Group) (c : Ctx) : Option Err :=
  match g with
  | none => some (errState 5 0x33)
  | some g =>
    if g.cabinet != c.cabinet || g.state < 2 then some (errState 5 0x33)
    else if g.queue != c.queue then some (errState 5 0x35)
    else if g.state = 4 then some { status := stPeerTimeout, detail := lossDetail 4 g.failRank }
    else none

/-- The operation enters its trees or sends its copies. -/
def State.enterOp (s : State) (k : CollCmd) (opSeq : Nat) : Except Err State := do
  match k.src with
  | none => pure s
  | some src =>
    let raws ← readRaws k.x.rd src
    if isReduction k.op then s.enterTrees k src opSeq raws (allChunks src.blocks k.n)
    else if k.op = 0x2012 then pure (s.spread k src.format k.idx k.idx k.peers true raws)
    else if k.op = 0x2013 then
      if k.idx = k.root then
        pure ((s.spread k src.format 0 k.root k.peers false raws).updOp k.slot fun op => { op with dstDone := true })
      else pure s
    else
      let per := src.blocks / k.n
      pure ((List.range k.n).foldl (fun (s : State) j =>
        let rs := (raws.drop (j * per)).take per
        if j = k.idx then s.spread k src.format k.idx k.idx [] true rs
        else s.spread k src.format k.idx k.idx [j] false rs) s)

/-- The operation begins with the next OP_SEQ of its group. -/
def State.beginOp (s : State) (slot ctx opSeq : Nat) : State :=
  let op : CollOp :=
    { ctx := ctx, opSeq := opSeq, received := [], rootVals := [], gathered := [], counts := [0, 0, 0, 0, 0, 0]
      dstDone := false, held := false, limitLeft := s.e 0x2701 1, limitFrom := some s.now }
  s.updGroup slot fun g => { g with opSeq := opSeq, op := some op }

/-- A data operation (R337, R338, R353, R356, R367): refused, held back while its group recovers, runs another or the member
holds no rank; or begun.  An OP_SEQ that a peer has abandoned ends at once. -/
def State.collective (s : State) (id op : Nat) : Result :=
  s.onCtx id (isCommand op) fun c =>
    match s.collBegin c with
    | .error e => s.commit (s.finishErr id e)
    | .ok x =>
      let slot := field x.ob 16 1
      match Group.refuses (s.group? slot) c, s.group? slot with
      | some e, _ => s.commit (s.finishErr id e)
      | none, none => s.idle
      | none, some g =>
        let mask := field x.ob 17 1
        if mask = 0 || 2 ^ g.axes ≤ mask then s.commit (s.finishErr id (obRange 17))
        else if g.state = 3 || g.op.isSome || (g.rankOf g.self).isNone then s.idle
        else
          let opSeq := g.opSeq + 1
          let s1 := s.beginOp slot id opSeq
          match g.abandoned.find? fun a => a.1 == opSeq with
          | some a =>
            s.commit ((s1.failColl slot stPeerTimeout (lossDetail 3 a.2) false).bump 0x2720 4 1)
          | none =>
            s.land (some id) (s1.collStep slot (do
              let k ← collTensors c g x
              s1.enterOp k opSeq))

/-- ALL_REDUCE (R346). -/
def execAllReduce (id : Nat) (s : State) : Result := s.collective id 0x2010
/-- REDUCE_SCATTER (R346). -/
def execReduceScatter (id : Nat) (s : State) : Result := s.collective id 0x2011
/-- ALL_GATHER (R347). -/
def execAllGather (id : Nat) (s : State) : Result := s.collective id 0x2012
/-- BROADCAST (R347). -/
def execBroadcast (id : Nat) (s : State) : Result := s.collective id 0x2013
/-- ALL_TO_ALL (R347). -/
def execAllToAll (id : Nat) (s : State) : Result := s.collective id 0x2014

/-! ### Receiving (R345, R346, R354) -/

/-- A group message that counts: its group is this slot's, its sender a member; one of an older epoch is dropped and counted
(R354). -/
def State.onMessage (s : State) (m : GroupIn) (f : Group → Result) : Result :=
  if s.faults.safe then s.idle else
  match s.group? m.slot with
  | none => s.idle
  | some g =>
    if g.groupId != m.groupId || g.members.length ≤ m.sender || m.sender == g.self then s.idle
    else if m.epoch < g.epoch then s.quiet (s.bump 0x2720 6 1)
    else f g

/-- A message of the running operation: of an operation not yet begun, it waits (its event comes again); with another shape,
the operation ends (R337, R338). -/
def State.onPart (s : State) (m : GroupIn) (f : Group → CollOp → CollCmd → Nat → Result) : Result :=
  s.onMessage m fun g =>
    match s.collOf g with
    | none => s.idle
    | some (op, k) =>
      match s.ctx? op.ctx with
      | none => s.idle
      | some c =>
        if op.opSeq != m.opSeq || op.held then s.idle
        else if m.opcode != k.op || m.shapeCheck != k.shapeCheck c then
          s.commit (s.failColl m.slot stStateConflict (5 * 256 + 0x34) true)
        else
          match g.rankOf m.sender with
          | none => s.idle
          | some r =>
            let q := g.subIndex k.mask r
            if g.subRank k.mask k.rank q = r then f g op k q else s.idle

/-- Sums of two runs of FP32 words. -/
def addWords (a b : List (BitVec 32)) : List (BitVec 32) :=
  (a.zip b).map fun p => BitVec.ofNat 32 (Fp.to32 (Fp.add32 (Fp.of32 p.1.toNat) (Fp.of32 p.2.toNat)))

/-- The contributions held that follow are combined (R153). -/
def OrderedAcc.drain (a : OrderedAcc) : Nat → OrderedAcc
  | 0 => a
  | n + 1 =>
    match a.held.find? fun h => h.1 == a.nextIdx with
    | none => a
    | some h =>
      OrderedAcc.drain { a with
        acc := addWords a.acc h.2, nextIdx := a.nextIdx + 1, held := a.held.filter fun x => x.1 != h.1 } n

/-- The accumulation with a contribution combined (R153, R156). -/
def OrderedAcc.combine (a : OrderedAcc) (v : List (BitVec 32)) : OrderedAcc :=
  OrderedAcc.drain { a with acc := addWords a.acc v, nextIdx := a.nextIdx + 1 } a.held.length

/-- The accumulation of the same name replaced. -/
def State.putAcc (s : State) (a : OrderedAcc) : State :=
  { s with transform := { s.transform with
      accs := updWhere (fun x => x.named a.group a.opSeq a.shard a.chunk a.level) (fun _ => a) s.transform.accs } }

/-- Bytes held above NEXT in the order share, and their peak (R153). -/
def State.notePeak (s : State) : State :=
  let h := sumNat (s.transform.accs.map fun a => a.held.length * a.unit)
  if s.e 0x2301 3 < h then s.put 0x2301 3 h else s

/-- An accumulation that has every contribution is done: its value goes on up the tree (R344). -/
def State.closeAcc (s : State) (k : CollCmd) (a : OrderedAcc) : Except Err State :=
  match k.src with
  | none => .ok s
  | some src =>
    let (f, n) := shardBlocks src.blocks k.n a.shard
    let s1 := { s with transform := { s.transform with
      accs := s.transform.accs.filter fun x => !x.named a.group a.opSeq a.shard a.chunk a.level } }
    s1.carry k src a.opSeq a.shard a.chunk (f + 4096 * a.chunk) (chunkBlocks n a.chunk)
      { own := none, vals := a.acc.map fun v => Fp.of32 v.toNat } (a.level + 1) 18

/-- A contribution is back-pressured: it is not accepted, and its event comes again (R155). -/
def State.backPressure (s : State) : Result := s.quiet (s.bump 0x2301 4 1)

/-- A contribution reaches its accumulation (R153 to R156). -/
def State.contribute (s : State) (k : CollCmd) (a : OrderedAcc) (i blocks : Nat) (m : GroupIn) : Result :=
  let v := (rawValues k.wf (wireRaws k.wf blocks m.body)).map fun x => BitVec.ofNat 32 (Fp.to32 x)
  let note := fun (op : CollOp) => { op with received := (m.shard, m.chunk, m.level, i) :: op.received }
  let canOpen : Bool := decide (s.orderUsed + 2 * a.unit ≤ s.transform.benchOrder)
  if !a.isOpen && !canOpen then s.backPressure
  else
    let a0 := { a with isOpen := true }
    let s0 := s.putAcc a0
    if !a.inOrder || i = a.nextIdx then
      let a1 := a0.combine v
      let s1 := (s0.putAcc a1).updOp m.slot note
      s.land (some k.ctx) (s1.collStep m.slot (if a1.nextIdx = a1.total then s1.closeAcc k a1 else .ok s1))
    else if s.transform.benchOrder < s0.orderUsed + a.unit then s.backPressure
    else s.quiet (((s0.putAcc { a0 with held := a0.held ++ [(i, v)] }).updOp m.slot note).notePeak)

/-- CONTRIB (R344, R345): the contribution of the sender's position to this member's accumulation. -/
def execContrib (m : GroupIn) (s : State) : Result :=
  s.onPart m fun _ op k q =>
    match k.src with
    | none => s.idle
    | some src =>
      let w := k.fanin ^ m.level
      let pos := (q + k.n - m.shard % k.n) % k.n
      let mine := (k.idx + k.n - m.shard % k.n) % k.n
      let i := pos / w % k.fanin
      let n := (shardBlocks src.blocks k.n m.shard).2
      let fits := isReduction k.op && m.shard < k.n && pos % w == 0 && i != 0 && pos - i * w == mine && i * w ≤ pos &&
        m.chunk < chunkCount n
      if !fits || op.received.contains (m.shard, m.chunk, m.level, i) then s.idle
      else
        match s.transform.accs.find? fun a => a.named m.slot m.opSeq m.shard m.chunk m.level with
        | none => s.idle
        | some a => s.contribute k a i (chunkBlocks n m.chunk) m

/-- RESULT (R346, R347): copied containers of a part of DST. -/
def execResult (m : GroupIn) (s : State) : Result :=
  s.onPart m fun _ op k q =>
    let part := if k.op = 0x2013 then 0 else q
    let fits := if k.op = 0x2010 then m.shard == q else if k.op = 0x2013 then q == k.root else k.op != 0x2011
    if !fits || !((k.missingParts op).contains (part, m.chunk)) then s.idle
    else
      let s1 := s.addGathered m.slot part m.chunk m.body
      s.land (some k.ctx) (s1.collStep m.slot (.ok s1))

/-- ABANDON (R356): the operation ends with PEER_TIMEOUT, reason ABANDONED; the last 64 are remembered. -/
def execAbandon (m : GroupIn) (s : State) : Result :=
  s.onMessage m fun g =>
    let r := (g.rankOf m.sender).getD 0xFFFF
    let s1 := s.updGroup m.slot fun g => { g with abandoned := ((m.opSeq, r) :: g.abandoned).take 64 }
    match g.op with
    | none => s.quiet s1
    | some op =>
      if op.opSeq != m.opSeq then s.quiet s1
      else s.commit ((s1.failColl m.slot stPeerTimeout (lossDetail 3 r) false).bump 0x2720 4 1)

/-! ### What an operation waits for (R358, R359) -/

/-- The ranks of contributions an operation has not received. -/
def CollCmd.missingContribs (k : CollCmd) (op : CollOp) : List Nat :=
  match isReduction k.op, k.src with
  | true, some src =>
    (allChunks src.blocks k.n).flatMap fun sc =>
      let pos := (k.idx + k.n - sc.1 % k.n) % k.n
      (List.range 16).flatMap fun level =>
        let w := k.fanin ^ level
        if k.n ≤ w || pos % (w * k.fanin) != 0 then []
        else ((List.range k.fanin).filter fun i =>
          i != 0 && pos + i * w < k.n && !op.received.contains (sc.1, sc.2, level, i)).map fun i => (pos + i * w + sc.1) % k.n
  | _, _ => []

/-- The members that the running operation waits on: for contributions, results, acknowledgements (R358). -/
def State.waitsOn (s : State) (g : Group) : List Nat :=
  match s.collOf g with
  | none => []
  | some (op, k) =>
    let from_ := if op.dstDone then [] else
      (k.missingParts op).map fun p => if k.op = 0x2013 then k.root else p.1
    let idxs := (k.missingContribs op ++ from_).filter fun j => j != k.idx
    ((idxs.map fun j => g.memberAt (g.subRank k.mask k.rank j)) ++ s.unackedMembers g op.ctx).eraseDups

/-- COLL_OP_LIMIT (R359): an operation that has run for its limit ends with PEER_TIMEOUT, reason STALLED, naming the lowest
rank it waits on. -/
def execCollOpLimit (slot : Nat) (s : State) : Result :=
  match s.group? slot with
  | none => s.idle
  | some g =>
    match g.op with
    | none => s.idle
    | some op =>
      match op.limitFrom with
      | none => s.idle
      | some t =>
        if s.faults.safe || op.held || s.now < t + op.limitLeft then s.idle
        else
          let r := minNat ((s.waitsOn g).filterMap fun m => g.rankOf m) 0xFFFF
          s.commit (s.failColl slot stPeerTimeout (lossDetail 2 r) false)

end Sys2Proof.Machine
end

