-- ==== Sys2Proof/Machine/SnapBase.lean ====
section
/-! DEFINITION. Snapshot sets: images and generations (R375, R380 to R386), the buddy mirror (R387, R388), snapshot messages
(R393 to R395), and the rollback of a member (R400 to R404). -/

namespace Sys2Proof.Machine

/-! ### Sets -/

/-- The snapshot set of a group slot. -/
def State.set? (s : State) (slot : Nat) : Option SnapSet := s.snap.sets.find? fun x => x.slot == slot

/-- The state with a set replaced. -/
def State.updSet (s : State) (slot : Nat) (f : SnapSet → SnapSet) : State :=
  { s with snap := { s.snap with sets := updWhere (fun x => x.slot == slot) f s.snap.sets } }

/-- A generation of a set by buffer. -/
def SnapSet.gen (x : SnapSet) (b : Nat) : Generation := x.gens.getD b default

/-- The state with a generation replaced. -/
def State.updGen (s : State) (slot b : Nat) (f : Generation → Generation) : State :=
  s.updSet slot fun x => { x with gens := updAt b f x.gens }

/-- A generation is held when it is COPYING or COMPLETE. -/
def Generation.isHeld (g : Generation) : Bool := g.state == 1 || g.state == 2

/-- The buffers whose generations are held, newest first. -/
def SnapSet.heldBuffers (x : SnapSet) : List Nat := [x.newest, 1 - x.newest].filter fun b => (x.gen b).isHeld

/-- A set is DETACHED (R379): its key slot is freed (R538), its pool writes are dropped. -/
def State.dropSet (s : State) (slot : Nat) : State :=
  match s.set? slot with
  | none => s
  | some x =>
    { s with
      snap := { s.snap with sets := s.snap.sets.filter fun y => y.slot != slot }
      zt := { s.zt with jobs := s.zt.jobs.filter fun j => j.slot != slot }
      trust := { s.trust with
        slots := s.trust.slots.filter fun k => k.slot != x.keySlot
        keyCache := s.trust.keyCache.filter (· != x.keySlot) } }

/-- A group slot becomes FREE, and its set DETACHED with it (R342, R379). -/
def State.leaveGroup (s : State) (slot : Nat) : State := (s.freeGroup slot).dropSet slot

/-! ### The image and its copies (R375, R383, R384) -/

/-- The cabinet address of an image granule. -/
def SnapSet.granuleAddr (x : SnapSet) (g : Nat) : Nat := (partAddr x.parts g).getD 0

/-- The cabinet address of a granule in a generation buffer. -/
def SnapSet.bufferAddr (x : SnapSet) (b g : Nat) : Nat := x.firnBase + b * x.imageMax + g * 65536

/-- The cabinet address of a reserve granule. -/
def SnapSet.reserveAddr (x : SnapSet) (i : Nat) : Nat := x.reserveBase + i * 65536

/-- Bytes are written over device pieces without write tracking. -/
def State.storeUntracked (s : State) : List (Nat × Nat) → Bytes → State
  | [], _ => s
  | (d, n) :: r, bs => (s.storeRaw d (bs.take n)).storeUntracked r (bs.drop n)

/-- The Snapshot engine writes cabinet memory: no generation tracks it. -/
def State.putUntracked (s : State) (cab a : Nat) (bs : Bytes) : State :=
  match s.reach cab a bs.length .write with
  | .error _ => s
  | .ok ps => (s.storeUntracked ps bs).logWrite cab a bs.length

/-- The cabinet address that a held generation's granule is read from: reserve, buffer, or, not yet copied, live state. -/
def SnapSet.sourceAddr (x : SnapSet) (b g : Nat) : Nat :=
  match (x.gen b).reserve.find? fun p => p.2 == g with
  | some p => x.reserveAddr p.1
  | none => if (x.gen b).copied.contains g then x.bufferAddr b g else x.granuleAddr g

/-- An uncorrectable read makes a generation DAMAGED (R386). -/
def State.damageGen (s : State) (x : SnapSet) (b : Nat) (e : Err) : State :=
  let s1 := match e.bad with
    | some u => s.reportUe u masterNone
    | none => s
  (s1.updGen x.slot b fun g => { g with state := 3, reserve := [] }).bump 0x2820 0x0A 1

/-- The member that a set's mirrors go to (R387): none while this member holds no rank. -/
def Group.buddy (g : Group) (stride : Nat) : Option Nat := (g.rankOf g.self).map fun r => g.memberAt ((r + stride) % g.ranks)

/-- The rank whose mirror a rank holds. -/
def Group.wardRank (g : Group) (stride r : Nat) : Nat := (r + g.ranks - stride % max g.ranks 1) % g.ranks

/-! ### Snapshot messages (R393 to R395) -/

/-- A snapshot message goes to a member. -/
def State.snapSend (s : State) (slot member ty step : Nat) (arg : Nat) (body : Bytes) : State :=
  match s.group? slot with
  | none => s
  | some g => s.sendMember slot member none { g.message ty body with channel := 1, opSeq := step, arg := arg }

/-- The cut record's part that MIRROR_DONE carries (R395). -/
def syncBody (vals : List (BitVec 64 × Bool)) : Bytes :=
  toLe 2 vals.length ++ vals.flatMap fun v => toLe 8 v.1.toNat ++ toLe 1 (b2n v.2) ++ zeros 7

/-- The recorded values that a MIRROR_DONE carries. -/
def readSyncBody (b : Bytes) : List (BitVec 64 × Bool) :=
  (List.range (field b 0 2)).map fun i => (BitVec.ofNat 64 (field b (2 + 16 * i) 8), field b (10 + 16 * i) 1 != 0)

/-- A granule in its buffer goes to the buddy (R387). -/
def State.mirrorGranule (s : State) (x : SnapSet) (b g : Nat) : State :=
  match (s.group? x.slot).bind fun q => q.buddy x.buddyStride with
  | none => s
  | some m =>
    match s.readCab x.cabinet (x.bufferAddr b g) 65536 with
    | .error _ => s
    | .ok bs => s.snapSend x.slot m 0x01 (x.gen b).step (g * 65536) bs

/-- The cut record follows the last granule (R387). -/
def State.mirrorDone (s : State) (x : SnapSet) (b : Nat) : State :=
  match (s.group? x.slot).bind fun q => q.buddy x.buddyStride with
  | none => s
  | some m => s.snapSend x.slot m 0x02 (x.gen b).step x.imageBytes (syncBody (x.gen b).syncVals)

/-- A generation with every granule in its buffer is COMPLETE (R383): COPY_SYNC is signalled, the mirror closed. -/
def State.completeGen (s : State) (slot b : Nat) : State :=
  match s.set? slot with
  | none => s
  | some x =>
    let g := x.gen b
    if g.state = 1 && x.granules.all fun i => g.copied.contains i then
      let s1 := (s.updGen slot b fun g => { g with state := 2 }).signalHandle x.copySync 3 (BitVec.ofNat 64 g.step)
      s1.mirrorDone x b
    else s

/-- A granule reaches a COPYING generation's buffer, from the reserve or from live state (R383), and its buddy (R387). -/
def State.copyInto (s : State) (slot b i : Nat) : State :=
  match s.set? slot with
  | none => s
  | some x =>
    let g := x.gen b
    if g.state != 1 || g.copied.contains i then s
    else match s.readCab x.cabinet (x.sourceAddr b i) 65536 with
      | .error e => s.damageGen x b e
      | .ok bs =>
        let s1 := s.putUntracked x.cabinet (x.bufferAddr b i) bs
        let s2 := s1.updGen slot b fun g =>
          { g with copied := g.copied ++ [i], reserve := g.reserve.filter fun p => p.2 != i }
        ((s2.bump 0x2820 0 1).mirrorGranule x b i).completeGen slot b

/-- Writers stalled on a granule go on once no generation lacks it (R384). -/
def State.freeStalls (s : State) (slot : Nat) : State :=
  s.updSet slot fun x => { x with stalls := x.stalls.filter fun y => x.gens.any fun g => g.lacks y.granule }

/-! ### Votes and targets (R399, R400) -/

/-- The four steps of a VOTE (R395): none of a member that cannot roll back (R404, R413). -/
def SnapSet.vote (x : SnapSet) : List Nat :=
  let held := if x.marksVoid || x.rollbackRefused then [] else x.heldBuffers.map fun b => (x.gen b).step
  let mirrors := sortNat ((x.mirrors.filter fun m => m.complete).map (·.step))
  [held.getD 0 0, held.getD 1 0, mirrors.getLastD 0, if 2 ≤ mirrors.length then mirrors.getD 0 0 else 0]

/-- The VOTE of a slot's member. -/
def State.voteOf (s : State) (slot : Nat) : List Nat :=
  match s.set? slot with
  | none => [0, 0, 0, 0]
  | some x => x.vote

/-- The acting steward (R362): the first steward rank whose device is not the subject of a confirmed loss. -/
def Group.actingSteward (g : Group) : Option Nat :=
  (g.stewards.map g.memberAt).find? fun m => !(((g.member m).map (·.confirmed)).getD true)

/-- Members whose VOTE the steward waits for. -/
def Group.voters (g : Group) : List Nat :=
  (List.range g.members.length).filter fun m => !(((g.member m).map (·.confirmed)).getD true)

/-- The target of a round (R400): over the members that hold a rank and have not been promoted since the last rollback; for
each rank lost, the holder of its mirror. -/
def Group.target (g : Group) (buddyStride : Nat) (votes : List (Nat × List Nat)) : Nat :=
  let vote := fun (m : Nat) => lookupD votes m [0, 0, 0, 0]
  let ms := ((List.range g.ranks).filter fun r => !g.unrolled.contains r).map g.memberAt
  let holders := g.unrolled.map fun r => vote (g.memberAt ((r + buddyStride) % g.ranks))
  let t := minNat (ms.map (fun m => (vote m).getD 0 0) ++ holders.map (·.getD 2 0)) 0
  if (holders.any fun h => t != h.getD 2 0 && t != h.getD 3 0) ||
     (ms.any fun m => t != (vote m).getD 0 0 && t != (vote m).getD 1 0) then 0 else t

/-! ### Rollback of a member (R401 to R404, R406) -/

/-- The collective that a group runs is discarded without a trace: its contributions are freed (R367). -/
def State.discardOp (s : State) (slot : Nat) : State :=
  match (s.group? slot).bind (·.op) with
  | none => s
  | some op => (s.dropAccs slot op.opSeq).updGroup slot fun g => { g with op := none }

/-- A started command vanishes without completion record, signal or error flag (R401); what it was writing is undefined where
the rollback does not restore it. -/
def State.vanish (s : State) (id : Nat) : State := ((s.spoil id stDiscardedReset).unhook id).dropCtx id

/-- The started commands of the listed queues (R401). -/
def State.listedCtxs (s : State) (x : SnapSet) : List Nat :=
  (s.contract.ctxs.filter fun c => x.queueList.any fun h => handleIndex h == c.queue).map (·.id)

/-- Granules are copied back from a generation of the set x as it stood in s0, or the first read that failed. -/
def State.copyBack (s : State) (s0 : State) (x : SnapSet) (b : Nat) : List Nat → Except Err State
  | [] => .ok s
  | g :: rest => do
    let bs ← s0.readCab x.cabinet (x.sourceAddr b g) 65536
    (s.putUntracked x.cabinet (x.granuleAddr g) bs).copyBack s0 x b rest

/-- A listed sync object takes its recorded value and error flag (R401). -/
def State.restoreSync (s : State) (h : Nat) (v : BitVec 64 × Bool) : State :=
  s.changeSync (handleCabinet h) (handleIndex h) fun o => { o with value := v.1, err := v.2 }

/-- Listed sync objects take recorded values. -/
def State.restoreSyncs (s : State) (hs : List Nat) (vals : List (BitVec 64 × Bool)) : State :=
  (hs.zip vals).foldl (fun (s : State) p => s.restoreSync p.1 p.2) s

/-- A listed queue returns to its mark and runs (R401). -/
def Queue.rewind (mark : Nat) (q : Queue) : Queue :=
  { q.newHead with head := mark, state := if q.state = 2 then 1 else q.state, recorded := 1 }

/-- The listed queues return to their marks. -/
def State.rewindQueues (s : State) (marks : List (Nat × Nat)) : State :=
  marks.foldl (fun (s : State) m => (s.updQueue m.1 (Queue.rewind m.2)).judgeHead m.1) s

/-- The recorded SCOPE 1 request takes the target of its round (R407). -/
def SnapSet.recordTarget (t : Nat) (x : SnapSet) : SnapSet :=
  { x with rollbackCtx := if t = 0 then none else x.rollbackCtx.map fun p => (p.1, p.2.1, some t) }

/-- A generation that has been rolled back to: what its uncopied granules hold is unwritten again (R386, R401). -/
def Generation.afterRollback (g : Generation) : Generation :=
  { g with dirty := if g.state = 2 then [] else g.dirty.filter fun i => !g.lacks i }

/-- A generation is freed (R386). -/
def Generation.free (_ : Generation) : Generation := default

/-- The mirror of a generation goes to its buddy anew (R403). -/
def State.reMirror (s : State) (slot b : Nat) : State :=
  match s.set? slot with
  | none => s
  | some x =>
    let s1 := s.updGen slot b fun g => { g with mirrorAcked := false }
    let s2 := ((x.gen b).copied).foldl (fun (s : State) g => s.mirrorGranule x b g) s1
    if (x.gen b).state = 2 then s2.mirrorDone x b else s2

/-- Whether the member at the buddy rank has been promoted since the last rollback (R403). -/
def Group.buddyPromoted (g : Group) (stride : Nat) : Bool :=
  match g.rankOf g.self with
  | none => false
  | some r => g.unrolled.contains ((r + stride) % g.ranks)

/-- The end of a rollback (R401, R402): ROLLBACK_SYNC advances, and the set is CUT. -/
def State.rollbackDone (s : State) (slot : Nat) : State :=
  match s.set? slot with
  | none => s
  | some x =>
    let s1 := s.updSet slot fun x => { x with state := 2, isSpare := false }
    let s2 := (s1.updGroup slot fun g => { g with unrolled := [] }).signalHandle x.rollbackSync 2 1
    s2.bump 0x2820 5 1

/-- A member that is no promoted spare rolls back to the generation of a step (R401).  A generation buffer that cannot be
read leaves its rollback incomplete (R413). -/
def State.rollbackTo (s : State) (slot t : Nat) : State :=
  match s.set? slot, s.group? slot with
  | some x, some grp =>
    match x.heldBuffers.find? fun b => (x.gen b).step == t with
    | none => s
    | some b =>
      let g := x.gen b
      let s1 := ((s.listedCtxs x).foldl State.vanish s).discardOp slot
      let touched := ((s1.set? slot).map (fun y => (y.gen b).dirty)).getD []
      let gs := if b = x.newest then touched else x.granules
      match s1.copyBack s x b gs with
      | .error e =>
        let s2 := match e.bad with
          | some u => s1.reportUe u masterNone
          | none => s1
        (s2.updSet slot fun x => { x with state := 3 }).failHandle x.rollbackSync
      | .ok s2 =>
        let other := 1 - b
        let s3 := s2.updSet slot fun x =>
          let gens := updAt b Generation.afterRollback x.gens
          { x.recordTarget t with
            newest := b, stalls := [], gens := if b = x.newest then gens else updAt other Generation.free gens }
        let s4 := (s3.restoreSyncs x.syncList g.syncVals).updGroup slot fun q =>
          { q with opSeq := g.opMark, abandoned := q.abandoned.filter fun a => a.1 ≤ g.opMark }
        let s5 := (s4.rewindQueues g.marks).rollbackDone slot
        let both := 2 * x.buddyStride % grp.ranks = 0
        if grp.buddyPromoted x.buddyStride && !both then s5.reMirror slot b else s5
  | _, _ => s

/-- A promoted spare asks the holder of its rank's mirror for it (R402). -/
def State.pullMirror (s : State) (slot t : Nat) : State :=
  match s.set? slot, s.group? slot with
  | some x, some g =>
    match g.buddy x.buddyStride with
    | none => s
    | some m =>
      (s.updSet slot fun x => { x.recordTarget t with state := 3, isSpare := true }).snapSend slot m 0x09 t t []
  | _, _ => s

/-- A ROLLBACK with no target (R404): the held collective ends with PEER_TIMEOUT, reason LOST, the listed queues halt, and
rollback is refused until the next cut; a recorded request of a round ends. -/
def State.rollbackNone (s : State) (slot : Nat) : State :=
  match s.group? slot with
  | none => s
  | some g =>
    let lost := g.unrolled.getLastD 0xFFFF
    let held := ((g.op.map (·.held)).getD false : Bool)
    let s1 := if held then s.failColl slot stPeerTimeout (lossDetail 1 lost) false else s
    let s2 := s1.updGroup slot fun g => { g with unrolled := [] }
    match s2.set? slot with
    | none => s2
    | some x =>
      let asked := s2.contract.ctxs.find? fun c =>
        x.rollbackCtx.any (fun p => p.1 == c.queue && p.2.1 == c.slot) && c.waiting && recOpcode c.record == 0x3011
      let s3 := match asked with
        | some c => s2.finishErr c.id (errState 5 0x44)
        | none => s2
      let s4 := x.queueList.foldl (fun (s : State) h => s.haltQueue (handleIndex h) stPeerTimeout) s3
      (s4.updSet slot fun x =>
        { x.recordTarget 0 with state := 2, isSpare := false, rollbackRefused := true }).failHandle x.rollbackSync

/-- A member takes the target of a round (R401, R402, R404). -/
def State.takeTarget (s : State) (slot t : Nat) : State :=
  match s.group? slot with
  | none => s
  | some g =>
    if t = 0 then s.rollbackNone slot
    else if (g.rankOf g.self).any g.unrolled.contains then s.pullMirror slot t
    else s.rollbackTo slot t

/-! ### Rounds (R399, R400) -/

/-- The steward that has every VOTE sends ROLLBACK (R400). -/
def State.tally (s : State) (slot : Nat) : State :=
  match s.group? slot with
  | none => s
  | some g =>
    match g.round with
    | none => s
    | some r =>
      if !(g.voters.all fun m => r.votes.any fun v => v.1 == m) then s
      else
        let t := match s.set? slot with
          | some x => g.target x.buddyStride r.votes
          | none => 0
        let s1 := s.updGroup slot fun g => { g with round := none }
        let s2 := g.others.foldl (fun (s : State) m => s.snapSend slot m 0x08 0 t []) s1
        s2.takeTarget slot t

/-- A VOTE reaches the steward. -/
def State.takeVote (s : State) (slot member : Nat) (steps : List Nat) : State :=
  (s.updGroup slot fun g =>
    { g with round := g.round.map fun r => { r with votes := putKey r.votes member steps } }).tally slot

/-- A member sends its VOTE to the acting steward (R399): held back while a firmware activation runs (R413). -/
def State.sendVote (s : State) (slot : Nat) : State :=
  if s.contract.activation = 1 then s.updGroup slot fun g => { g with voteOwed := true } else
  match s.group? slot with
  | none => s
  | some g =>
    let v := s.voteOf slot
    let s1 := s.updGroup slot fun g => { g with voteOwed := false }
    match g.actingSteward with
    | none => s1
    | some m => if m = g.self then s1.takeVote slot m v else s1.snapSend slot m 0x07 0 0 (v.flatMap (toLe 8))

/-- A rollback round begins at a member (R399): the acting steward opens it, and every member votes. -/
def State.beginRound (s : State) (slot : Nat) : State :=
  match s.group? slot with
  | none => s
  | some g =>
    let s1 := if g.actingSteward = some g.self then
        s.updGroup slot fun g => { g with round := some { start := s.now, limit := s.e 0x2801 0, votes := [] } }
      else s
    s1.sendVote slot

end Sys2Proof.Machine
end

