-- ==== Sys2Proof/Machine/Membership.lean ====
section
/-! DEFINITION. Membership of a group: joining (R331 to R333, R339 to R341), leaving (R343, R365), heartbeats (R357), and the loss
of a peer, from its declaration to the next view (R358, R361 to R367). -/

namespace Sys2Proof.Machine

/-! ### GROUP_JOIN (R331, R332, R339, R340) -/

/-- The fields of a group descriptor that are out of range (R331). -/
def groupDescBad (b : Bytes) : Bool :=
  let axes := field b 9 1
  let sizes := (List.range 6).map fun i => field b (16 + 2 * i) 2
  let n := prodNat (sizes.take axes)
  let stewards := (List.range 3).map fun i => field b (28 + 2 * i) 2
  let mtu := field b 38 2
  field b 0 8 = 0 || 63 < field b 8 1 || axes = 0 || 6 < axes || field b 10 1 < 2 || 64 < field b 10 1 || 1 < field b 11 1 ||
  1 < field b 12 1 || field b 13 1 = 0 || 8 < field b 13 1 || 1024 < field b 14 2 ||
  (sizes.any fun z => z = 0 || 32768 < z) || ((sizes.drop axes).any fun z => z != 1) ||
  (stewards.any fun r => n ≤ r) || stewards.eraseDups.length != 3 || 7 < field b 36 1 || field b 37 1 != 0 ||
  !(mtu = 1024 || mtu = 2048 || mtu = 4096) || !allZero (slice b 80 48) ||
  n + field b 14 2 < 2 || 32768 < n + field b 14 2

/-- A member entry (R332). -/
def memberEntry (b : Bytes) : Member :=
  { deviceId := slice b 0 16, epMask := field b 16 1, ipv6 := bit (field b 17 1) 0, addrs := slice b 32 64
    joined := false, isLost := false, confirmed := false, promoted := false }

/-- Whether a member entry is out of range (R332). -/
def memberEntryBad (b : Bytes) : Bool :=
  field b 16 1 = 0 || 15 < field b 16 1 || 1 < field b 17 1 || !allZero (slice b 18 14) || !allZero (slice b 96 32)

/-- The group that a descriptor and its member table describe, in FORMING. -/
def State.newGroup (s : State) (c : Ctx) (addr : Nat) (b table : Bytes) (self : Nat) : Group :=
  let n := prodNat (((List.range 6).map fun i => field b (16 + 2 * i) 2).take (field b 9 1))
  let all := chunksOf 128 (n + field b 14 2) table
  let g : Group := default
  { g with
    slot := field b 8 1, cabinet := c.cabinet, queue := c.queue, joinCtx := some c.id, syncHandle := arg c.record 8 4
    state := 1, groupId := field b 0 8, axes := field b 9 1, fanin := field b 10 1, mode := field b 11 1
    recovery := field b 12 1, quorum := field b 13 1, spares := field b 14 2
    sizes := (List.range 6).map fun i => field b (16 + 2 * i) 2
    stewards := (List.range 3).map fun i => field b (28 + 2 * i) 2
    subscriber := field b 34 2, service := field b 36 1, mtu := field b 38 2, secret := slice b 48 32
    members := all.map memberEntry, self := self, rankMap := List.range n, joinStart := s.now, formLimit := s.e 0x2701 0
    digest := fit 48 (Config.sha384 (putBytes b 48 (zeros 32) ++ table)), descAddr := addr, failRank := 0xFFFF }

/-- The ASCII bytes of "ZT group pair". -/
def labelPair : Bytes := [0x5A, 0x54, 0x20, 0x67, 0x72, 0x6F, 0x75, 0x70, 0x20, 0x70, 0x61, 0x69, 0x72]

/-- The address of one of the ports that carry a member's group traffic: which port serves a pair, the spec leaves open. -/
def Member.address (m : Member) (pick : Nat) : Bytes :=
  let ports := (List.range 4).filter fun p => bit m.epMask p
  slice m.addrs (16 * ports.getD (pick % max ports.length 1) 0) 16

/-- The connection of a group toward a member (R340): the lower member index is the initiator. -/
def State.groupConn (s : State) (g : Group) (m : Nat) : Conn :=
  let a := min g.self m
  let b := max g.self m
  let ma := (g.member g.self).getD default
  let mb := (g.member m).getD default
  let idOf := fun (i : Nat) => ((g.member i).map (·.deviceId)).getD []
  let pick := Config.portHash a b
  let k : Conn := default
  { k with
    index := g.conn m, cabinet := g.cabinet, state := if g.self < m then 2 else 1, role := if g.self < m then 0 else 1
    verMin := 1, verMax := 2, version := 2, ipv6 := ma.ipv6, mtu := g.mtu, subscriber := g.subscriber, service := g.service
    localIp := ma.address pick, peerIp := mb.address pick, peerConn := g.conn g.self
    secret := kdf256 g.secret labelPair (toLe 8 g.groupId ++ idOf a ++ idOf b)
    createdAt := s.now, connectLimit := s.e 0x2602 5, lastConnect := s.now, lastRx := s.now, lastTx := s.now
    cwnd := 256, cwndAt := s.now }

/-- CONNECT of a group connection (R296). -/
def State.connectMember (s : State) (k : Conn) : State :=
  let s1 := { s with zt := { s.zt with conns := s.zt.conns ++ [k] } }.cacheConn k.index
  if k.role = 0 then
    s1.sendControl k.index 0x20 (toLe 1 k.verMin ++ toLe 1 k.verMax ++ toLe 2 k.mtu ++ zeros 4)
  else s1

/-- What a member states of itself to the steward: its mode, firmware release and format policy (R354). -/
def State.joinFacts (s : State) (g : Group) : Bytes :=
  toLe 1 g.mode ++ toLe 4 (s.e 0x1001 0) ++ (List.range 7).flatMap fun i => toLe (entrySize 0x2200 i) (s.e 0x2200 i)

/-! ### Views (R341, R342, R365) -/

/-- The GROUP_JOIN of a slot ends, and GROUP_SECRET in its descriptor is zeroed (R333). -/
def State.endJoin (s : State) (slot st detail : Nat) : State :=
  match s.group? slot with
  | none => s
  | some g =>
    match g.joinCtx with
    | none => s
    | some id =>
      let s1 := (s.finish id st detail []).updGroup slot fun g => { g with joinCtx := none }
      s1.putCab g.cabinet (g.descAddr + 48) (zeros 32)

/-- DETAIL of a GROUP_JOIN that ends with OK (R334). -/
def Group.joinDetail (g : Group) : Nat := g.self * 2 ^ 32 + ((g.rankOf g.self).getD 0xFFFF) * 2 ^ 16 + g.slot

/-- The first VIEW applies: the group is ACTIVE (R341, R342). -/
def State.applyView (s : State) (slot epoch : Nat) (ranks : List Nat) : State :=
  let s1 := s.updGroup slot fun g => { g with state := 2, epoch := epoch, rankMap := ranks }
  match s1.group? slot with
  | none => s1
  | some g => (s1.signalView g).endJoin slot stOk g.joinDetail

/-- Every member has joined: the steward sends VIEW (R341). -/
def State.formed (s : State) (slot : Nat) : State :=
  match s.group? slot with
  | none => s
  | some g =>
    if g.state != 1 || g.actingSteward != some g.self || !(g.members.all (·.joined)) then s
    else
      let body := toLe 4 1 ++ toLe 2 g.ranks ++ (List.range g.ranks).flatMap fun r => toLe 2 r ++ toLe 2 (g.memberAt r)
      (s.sendMembers slot g.others none { g.message 0x02 body with epoch := 1 }).applyView slot 1 g.rankMap

/-- A member has joined, as the steward sees it. -/
def State.takeJoin (s : State) (slot member : Nat) : State :=
  (s.updGroup slot fun g => g.updMember member fun m => { m with joined := true }).formed slot

/-- The connections are set up and JOIN goes to the steward (R340, R341). -/
def State.startJoin (s : State) (g : Group) (id : Nat) : State :=
  let s1 := { s with coll := { s.coll with groups := s.coll.groups ++ [g] } }.updCtx id Ctx.startWait
  let s2 := (g.others.map (s.groupConn g)).foldl State.connectMember s1
  match g.actingSteward with
  | none => s2
  | some m => if m = g.self then s2.takeJoin g.slot g.self
    else s2.sendMember g.slot m none (g.message 0x01 (g.digest ++ s.joinFacts g))

/-- What a GROUP_JOIN makes of the state, or why it fails (R331, R332, R338 to R340, R510). -/
def State.joinGroup (s : State) (c : Ctx) : Except Err State := do
  let r := c.record
  let a := arg r 0 8
  match reservedErr r [(0, 12)] with
  | some e => throw e
  | none => pure ()
  check [(a % 64 != 0, errAlign 0)]
  let b ← s.readCab c.cabinet a 128
  let sub := (s.subscriber? (field b 34 2)).map (·.cabinet)
  check [(groupDescBad b || sub != some c.cabinet, errRange 0), (field b 40 8 % 64 != 0, errAlign 0)]
  match s.syncArgErr c.cabinet (arg r 8 4) with
  | some e => throw e
  | none => pure ()
  let n := prodNat (((List.range 6).map fun i => field b (16 + 2 * i) 2).take (field b 9 1)) + field b 14 2
  let table ← s.readCab c.cabinet (field b 40 8) (128 * n)
  let es := chunksOf 128 n table
  let ids := es.map fun e => slice e 0 16
  let self := ids.findIdx? fun i => i == toLe 16 (s.e 0x1000 4)
  check [(es.any memberEntryBad || ids.eraseDups.length != n || self.isNone, errRange 0),
    ((s.group? (field b 8 1)).isSome, errState 5 0x32), (field b 11 1 != b2n c.detMode, errState 5 0x30),
    (s.share c.cabinet 7 ≤ (s.coll.groups.filter fun g => g.cabinet == c.cabinet).length, errPlain stNoResource),
    (s.share c.cabinet 3 < (s.zt.conns.filter fun k => k.cabinet == c.cabinet).length + (n - 1), errPlain stNoResource)]
  pure (s.startJoin (s.newGroup c a b table (self.getD 0)) c.id)

/-- GROUP_JOIN (R331 to R333, R339 to R341): refused, with its secret zeroed, or begun; it ends at VIEW, REFUSE or
FORM_TIMEOUT. -/
def execGroupJoin (id : Nat) (s : State) : Result :=
  s.onCtx id (isCommand 0x2001) fun c =>
    match s.joinGroup c with
    | .ok t => s.land (some id) t
    | .error e =>
      let refused := e.status = stStateConflict
      let s1 := (s.finishErr id e).bump 0x2720 5 (b2n refused)
      let a := arg c.record 0 8
      s.land (some id) (if a % 64 = 0 then s1.putCab c.cabinet (a + 48) (zeros 32) else s1)

/-- The collective of a slot ends because the group goes away (R365). -/
def State.endOpExpelled (s : State) (slot : Nat) : State :=
  match s.group? slot with
  | none => s
  | some g => s.failColl slot stPeerTimeout (lossDetail 5 ((g.rankOf g.self).getD 0xFFFF)) false

/-- GROUP_LEAVE (R334, R342, R343): LEAVE goes to every other member, and the slot is FREE; a running collective ends as at
an expulsion. -/
def execGroupLeave (id : Nat) (s : State) : Result :=
  s.onCtx id (isCommand 0x2002) fun c =>
    match argsErr c.record [(0, 1)] [(63 < arg c.record 0 1, errRange 0)] with
    | some e => s.commit (s.finishErr id e)
    | none =>
      let slot := arg c.record 0 1
      match s.group? slot with
      | none => s.commit (s.finishErr id (errState 5 0x33))
      | some g =>
        if g.cabinet != c.cabinet || g.state < 2 then s.commit (s.finishErr id (errState 5 0x33))
        else
          let s1 := (s.endOpExpelled slot).sendMembers slot g.others none (g.message 0x25 [])
          s.commit ((s1.leaveGroup slot).finishOk id 0)

/-! ### Messages of the formation (R341) -/

/-- JOIN (R338, R341): the acting steward admits the joiner, or refuses one whose mode, firmware release or format policy is
not its own. -/
def execJoin (m : GroupIn) (s : State) : Result :=
  s.onMessage m fun g =>
    if g.state != 1 || g.actingSteward != some g.self then s.idle
    else
      let facts := m.body.drop 48
      let mine := s.joinFacts g
      let code := if facts.take 1 != mine.take 1 then 0x30 else if g.mode = 1 && facts != mine then 0x31 else 0
      if code = 0 then s.commit (s.takeJoin m.slot m.sender)
      else s.commit ((s.sendMember m.slot m.sender none (g.message 0x03 (toLe 1 code))).bump 0x2720 5 1)

/-- VIEW (R341, R342): the group is ACTIVE, and GROUP_JOIN ends with OK. -/
def execView (m : GroupIn) (s : State) : Result :=
  s.onMessage m fun g =>
    if g.state != 1 then s.idle
    else
      let pairs := (List.range (field m.body 4 2)).map fun i => (field m.body (6 + 4 * i) 2, field m.body (8 + 4 * i) 2)
      let ranks := (List.range g.ranks).map fun r => lookupD pairs r (g.memberAt r)
      s.land g.joinCtx (s.applyView m.slot (field m.body 0 4) ranks)

/-- REFUSE (R341): GROUP_JOIN ends with STATE_CONFLICT, and the slot is FREE. -/
def execRefuse (m : GroupIn) (s : State) : Result :=
  s.onMessage m fun g =>
    if g.state != 1 then s.idle
    else s.land g.joinCtx ((s.endJoin m.slot stStateConflict (5 * 256 + field m.body 0 1)).leaveGroup m.slot)

/-- FORM_TIMEOUT (R341): GROUP_JOIN ends with PEER_TIMEOUT, reason FORM, naming the lowest member index missing, which a
member other than the steward cannot know: there a free value. -/
def execFormTimeout (slot : Nat) (s : State) : Result :=
  match s.group? slot with
  | none => s.idle
  | some g =>
    if g.state != 1 || s.faults.safe || s.now < g.joinStart + g.formLimit then s.idle
    else
      let missing := if g.actingSteward = some g.self then (g.members.findIdx? fun m => !m.joined).getD 0
        else s.freeValue % max g.members.length 1
      s.land g.joinCtx ((s.drawn.endJoin slot stPeerTimeout (lossDetail 6 missing)).leaveGroup slot)

/-- COLL_HEARTBEAT (R357): a group connection that has carried no packet for COLL_HEARTBEAT carries a ZT ACK. -/
def execCollHeartbeat (conn : Nat) (s : State) : Result :=
  match s.conn? conn with
  | none => s.idle
  | some k =>
    if !k.isGroup || k.state != 3 || !s.ztRuns || s.now < k.lastTx + s.e 0x2700 3 then s.idle
    else if (s.group? (connGroup conn).1).isNone then s.idle
    else s.commit (s.sendAck conn)

/-! ### Confirming a loss and the next view (R362 to R367) -/

/-- NEW_VIEW applies at a member (R342, R365): the rank goes to the promoted spare, the connection to the lost device is cut;
a managed group begins a rollback round (R399).  The member it removes leaves the group. -/
def State.applyNewView (s : State) (slot epoch rank promoted : Nat) : State :=
  match s.group? slot with
  | none => s
  | some g =>
    let lost := g.memberAt rank
    if lost = g.self then (s.endOpExpelled slot).leaveGroup slot
    else
      let resume := fun (op : CollOp) => if op.held then op else { op with limitFrom := some s.now }
      let s1 := (s.cutConn (g.conn lost)).updGroup slot fun g =>
        { (g.updMember lost fun m => { m with isLost := true, confirmed := true }).updMember promoted
            (fun m => { m with promoted := true }) with
          rankMap := updAt rank (fun _ => promoted) g.rankMap, epoch := epoch, state := 2, reportAt := none
          escalated := false, op := g.op.map resume, unrolled := g.unrolled ++ [rank]
          reports := g.reports.filter fun r => r.subject != lost
          probes := g.probes.filter fun p => p.subject != lost }
      let s2 := match s1.group? slot with
        | some g => (s1.signalView g).bump 0x2720 2 1
        | none => s1
      if g.recovery = 1 then s2.beginRound slot else s2

/-- FAIL_VIEW applies at a member (R342, R367): its collective ends with PEER_TIMEOUT, reason NO_SPARE. -/
def State.applyFailView (s : State) (slot rank : Nat) : State :=
  (s.failColl slot stPeerTimeout (lossDetail 4 rank) false).updGroup slot fun g => { g with state := 4, failRank := rank }

/-- The spare that the steward promotes (R364): the lowest not promoted that it has heard from within COLL_TIMEOUT. -/
def State.chooseSpare (s : State) (g : Group) : Option Nat :=
  ((List.range g.members.length).drop g.ranks).find? fun m =>
    match g.member m, s.conn? (g.conn m) with
    | some x, some k => !x.promoted && !x.confirmed && (g.rankOf m).isNone && decide (s.now ≤ k.lastRx + s.e 0x2700 2)
    | _, _ => false

/-- The acting steward replaces a lost device (R364): NEW_VIEW to every member, then EXPEL to the lost device; without a
spare, FAIL_VIEW.  A lost spare is only expelled. -/
def State.replaceMember (s : State) (slot lost : Nat) : State :=
  match s.group? slot with
  | none => s
  | some g =>
    match g.rankOf lost with
    | none => (s.sendMember slot lost none (g.message 0x23 [])).cutConn (g.conn lost)
    | some rank =>
      match s.chooseSpare g with
      | none =>
        (s.sendMembers slot g.others none (g.message 0x05 (toLe 4 g.epoch ++ toLe 2 rank))).applyFailView slot rank
      | some p =>
        let body := toLe 4 (g.epoch + 1) ++ toLe 2 rank ++ toLe 2 p
        let s1 := s.sendMembers slot g.others none (g.message 0x04 body)
        let s2 := s1.sendMember slot lost none { g.message 0x23 [] with epoch := g.epoch + 1 }
        s2.applyNewView slot (g.epoch + 1) rank p

/-- A steward's place in the list of stewards. -/
def Group.stewardPlace (g : Group) : Option Nat := (g.stewards.map g.memberAt).findIdx? fun m => m == g.self

/-- Whether this member confirms the loss of a subject (R362, R363): as the acting steward, or, as a lower-listed steward, of
a steward listed above it. -/
def Group.mayConfirm (g : Group) (subject : Nat) : Bool :=
  match g.stewardPlace with
  | none => false
  | some k =>
    subject != g.self && (g.actingSteward == some g.self || ((g.stewards.take k).map g.memberAt).contains subject)

/-- Losses confirmed and not yet acted on, lowest rank first: those of ranks. -/
def Group.lostRanks (g : Group) : List Nat :=
  g.rankMap.filter fun m => ((g.member m).map (·.confirmed)).getD false

/-- The acting steward issues one view per confirmed loss (R367). -/
def State.issueViews (s : State) (slot : Nat) : Nat → State
  | 0 => s
  | n + 1 =>
    match s.group? slot with
    | none => s
    | some g =>
      if g.actingSteward != some g.self || !(g.state == 2 || g.state == 3) then s
      else match g.lostRanks with
        | [] => s
        | m :: _ => (s.replaceMember slot m).issueViews slot n

/-- A loss is confirmed (R363). -/
def State.confirmLoss (s : State) (slot m : Nat) : State :=
  match s.group? slot with
  | none => s
  | some g =>
    if ((g.member m).map (·.confirmed)).getD true then s
    else
      let s1 := s.updGroup slot fun g =>
        { g.updMember m (fun x => { x with confirmed := true }) with probes := g.probes.filter fun p => p.subject != m }
      if (g.rankOf m).isNone && g.actingSteward == some g.self then (s1.replaceMember slot m).tally slot
      else s1.issueViews slot (g.members.length + 1)

/-- Distinct members that report a subject. -/
def Group.reporters (g : Group) (subject : Nat) : List Nat :=
  ((g.reports.filter fun r => r.subject == subject).map (·.reporter)).eraseDups

/-- Reports are judged (R363): QUORUM confirms; the first report of a subject has it probed. -/
def State.judgeReports (s : State) (slot : Nat) : State :=
  match s.group? slot with
  | none => s
  | some g =>
    ((g.reports.map (·.subject)).eraseDups).foldl (fun (s : State) m =>
      match s.group? slot with
      | none => s
      | some g =>
        if !g.mayConfirm m || ((g.member m).map (·.confirmed)).getD true then s
        else if g.quorum ≤ (g.reporters m).length then s.confirmLoss slot m
        else if g.probes.any fun p => p.subject == m then s
        else
          let first := minNat ((g.reports.filter fun r => r.subject == m).map (·.time)) s.now
          let s1 := s.updGroup slot fun g => { g with probes := g.probes ++ [{ subject := m, since := first }] }
          s1.sendMember slot m none (g.message 0x21 [])) s

/-- A report reaches a steward (R363). -/
def State.takeReport (s : State) (slot subject reporter : Nat) : State :=
  (s.updGroup slot fun g =>
    if g.reports.any fun r => r.subject == subject && r.reporter == reporter then g
    else { g with reports := g.reports ++ [{ subject := subject, reporter := reporter, time := s.now }] }).judgeReports slot

/-! ### Declaring a loss (R358, R361, R366, R367) -/

/-- The operation stops its limit while the group recovers (R359), and is held in a managed group (R367). -/
def CollOp.pause (recovery now : Nat) (op : CollOp) : CollOp :=
  let left := match op.limitFrom with
    | some t => op.limitLeft - (now - t)
    | none => op.limitLeft
  { op with limitLeft := left, limitFrom := none, held := op.held || recovery == 1 }

/-- A collective that waits on a lost peer of a group that only reports ends with PEER_TIMEOUT, reason LOST (R367). -/
def State.endLostOp (s : State) (slot m : Nat) : State :=
  match s.group? slot with
  | none => s
  | some g =>
    if g.recovery = 0 && g.op.isSome && (s.waitsOn g).contains m then
      s.failColl slot stPeerTimeout (lossDetail 1 ((g.rankOf m).getD 0xFFFF)) false
    else s

/-- The time of the last packet heard from a member (R354). -/
def State.lastHeard (s : State) (g : Group) (m : Nat) : Nat := ((s.conn? (g.conn m)).map (·.lastRx)).getD 0

/-- This member declares a peer lost (R342, R361, R367): PEER_LOST, RECOVERING, and REPORT to the three stewards, in one
event. -/
def State.declareLost (s : State) (slot m : Nat) : State :=
  match s.group? slot with
  | none => s
  | some g =>
    if ((g.member m).map (·.isLost)).getD true || !(g.state == 2 || g.state == 3) then s
    else
      let waits := s.endLostOp slot m
      let s1 := waits.updGroup slot fun g =>
        { g.updMember m (fun x => { x with isLost := true }) with
          state := 3, reportAt := some (g.reportAt.getD s.now), op := g.op.map (CollOp.pause g.recovery s.now) }
      let s2 := s1.signalLost g
      let stewards := (g.stewards.map g.memberAt).eraseDups
      let tos := stewards.filter fun x => x != g.self
      let s3 := (s2.sendMembers slot tos none (g.message 0x20 (toLe 2 m ++ toLe 8 (s.lastHeard g m)))).bump 0x2720 1 tos.length
      if stewards.contains g.self then s3.takeReport slot m g.self else s3

/-- COLL_TIMEOUT (R358, R367): a peer that the running operation waits on has been silent for COLL_TIMEOUT, or its connection
has FAILED: it is declared lost.  An operation that comes to wait on a peer already lost ends. -/
def execCollTimeout (slot peer : Nat) (s : State) : Result :=
  match s.group? slot with
  | none => s.idle
  | some g =>
    if s.faults.safe || g.members.length ≤ peer || peer = g.self then s.idle
    else
      let waiting := (s.waitsOn g).contains peer
      let silent := decide (s.lastHeard g peer + s.e 0x2700 2 ≤ s.now)
      let failed := ((s.conn? (g.conn peer)).map (·.state)) == some 6
      if ((g.member peer).map (·.isLost)).getD true then
        (if g.recovery = 0 && waiting then s.commit (s.endLostOp slot peer) else s.idle)
      else if (waiting && silent) || failed then s.commit (s.declareLost slot peer)
      else s.idle

/-- LEAVE (R343): from a member that holds a rank, that rank's loss; a spare that leaves serves no more. -/
def execLeave (m : GroupIn) (s : State) : Result :=
  s.onMessage m fun g =>
    if (g.rankOf m.sender).isSome then s.commit (s.declareLost m.slot m.sender)
    else s.commit (s.cutConn (g.conn m.sender))

/-- REPORT (R363). -/
def execReport (m : GroupIn) (s : State) : Result :=
  s.onMessage m fun g =>
    if g.stewardPlace.isNone || !(g.state == 2 || g.state == 3) then s.idle
    else s.commit (s.takeReport m.slot (field m.body 0 2) m.sender)

/-- PROBE (R363): answered with PROBE_ACK. -/
def execProbe (m : GroupIn) (s : State) : Result :=
  s.onMessage m fun g => s.commit (s.sendMember m.slot m.sender none (g.message 0x22 []))

/-- PROBE_ACK (R363): the subject is kept, and each member that reported it is treated as lost in its place. -/
def execProbeAck (m : GroupIn) (s : State) : Result :=
  s.onMessage m fun g =>
    if !(g.probes.any fun p => p.subject == m.sender) then s.idle
    else
      let bad := (g.reporters m.sender).filter fun r => r != g.self
      let s1 := s.updGroup m.slot fun g =>
        { g with probes := g.probes.filter (fun p => p.subject != m.sender)
                 reports := g.reports.filter fun r => r.subject != m.sender }
      s.commit (bad.foldl (fun (s : State) r => s.confirmLoss m.slot r) s1)

/-- PROBE_TIMEOUT (R363): a subject has not answered within COLL_TIMEOUT of its first report. -/
def execProbeTimeout (slot subject : Nat) (s : State) : Result :=
  match s.group? slot with
  | none => s.idle
  | some g =>
    match g.probes.find? fun p => p.subject == subject with
    | none => s.idle
    | some p =>
      if s.faults.safe || s.now < p.since + s.e 0x2700 2 then s.idle else s.commit (s.confirmLoss slot subject)

/-- NEW_VIEW (R365, R367): views apply in epoch order, one that is ahead waits. -/
def execNewView (m : GroupIn) (s : State) : Result :=
  s.onMessage m fun g =>
    if field m.body 0 4 != g.epoch + 1 || !(g.state == 2 || g.state == 3) then s.idle
    else s.commit (s.applyNewView m.slot (field m.body 0 4) (field m.body 4 2) (field m.body 6 2))

/-- FAIL_VIEW (R367). -/
def execFailView (m : GroupIn) (s : State) : Result :=
  s.onMessage m fun g =>
    if !(g.state == 2 || g.state == 3) then s.idle else s.commit (s.applyFailView m.slot (field m.body 4 2))

/-- EXPEL (R365): the slot is FREE, and its collective ends with PEER_TIMEOUT, reason EXPELLED. -/
def execExpel (m : GroupIn) (s : State) : Result :=
  s.onMessage m fun g =>
    if g.state < 2 then s.idle else s.commit ((s.endOpExpelled m.slot).leaveGroup m.slot)

/-- COLL_ESCALATE (R366): a RECOVERING member without a view COLL_ESCALATE after its REPORT reports the group's loss to its tray
controller, once. -/
def execCollEscalate (slot : Nat) (s : State) : Result :=
  match s.group? slot with
  | none => s.idle
  | some g =>
    match g.reportAt with
    | none => s.idle
    | some t =>
      if s.faults.safe || g.state != 3 || g.escalated || s.now < t + s.e 0x2700 4 then s.idle
      else
        let s1 := (s.updGroup slot fun g => { g with escalated := true }).bump 0x2720 3 1
        s.commit (s1.raiseError (nonFatal 25 0x0E slot masterNone 4) none)

end Sys2Proof.Machine
end

