-- ==== Sys2Proof/Machine/Glacier.lean ====
section
/-! DEFINITION. The glacier drain: payloads and fragments (R389, R390), the pool and its manifests (R391, R396 to R398), and
the pool writes under way (R391, R392). -/

namespace Sys2Proof.Machine

/-! ### Arithmetic over GF(2⁸) (R390) -/

/-- A byte times g = 0x02 modulo 0x11D. -/
def gfDouble (a : Nat) : Nat := let d := 2 * a
  if 256 ≤ d then Nat.xor (d - 256) 0x1D else d

/-- A product in GF(2⁸), over the bits of b from the lowest. -/
def gfMulBits (a b : Nat) : Nat → Nat
  | 0 => 0
  | n + 1 => Nat.xor (if b % 2 = 1 then a else 0) (gfMulBits (gfDouble a) (b / 2) n)

/-- A product in GF(2⁸). -/
def gfMul (a b : Nat) : Nat := gfMulBits a b 8

/-- g to a power. -/
def gfPow (i : Nat) : Nat := (List.range i).foldl (fun v _ => gfDouble v) 1

/-- The inverse of a nonzero element: its 254th power. -/
def gfInv (a : Nat) : Nat := (List.range 254).foldl (fun v _ => gfMul v a) 1

/-- Bytes combined in pairs. -/
def zipBytes (f : Nat → Nat → Nat) (a b : Bytes) : Bytes := (a.zip b).map fun p => BitVec.ofNat 8 (f p.1.toNat p.2.toNat)

/-- Bytewise XOR. -/
def xorBytes (a b : Bytes) : Bytes := zipBytes Nat.xor a b

/-- Bytes times an element. -/
def scaleBytes (c : Nat) (a : Bytes) : Bytes := a.map fun b => BitVec.ofNat 8 (gfMul c b.toNat)

/-- P: the XOR of the data fragments (R390). -/
def fragP (n : Nat) (ds : List Bytes) : Bytes := ds.foldl xorBytes (zeros n)

/-- Q: the sum of gⁱ times the data fragments (R390). -/
def fragQ (n : Nat) (ds : List Bytes) : Bytes :=
  (ds.zip (List.range ds.length)).foldl (fun acc p => xorBytes acc (scaleBytes (gfPow p.2) p.1)) (zeros n)

/-! ### Payload (R389, R397) -/

/-- Fragment size (R390). -/
def fragSize (imageMax k : Nat) : Nat := alignUp (ceilDiv imageMax k) 65536

/-- Parts of an image that a range makes. -/
def SnapRange.partCount (e : SnapRange) : Nat := if e.kind = 3 then 4 else 1

/-- The tensor of a kind 3 range. -/
def SnapRange.tensor (e : SnapRange) : Desc := parseDesc e.base e.tdesc

/-- The parts of a range in the image: cabinet address and padded bytes (R375). -/
def SnapRange.parts (e : SnapRange) : List (Nat × Nat) :=
  if e.kind = 3 then
    let d := e.tensor
    [(d.base, alignUp d.baseBytes 65536), (d.map, alignUp d.mapBytes 65536), (d.heap, alignUp (128 * d.heapSlots) 65536),
     (d.residual, if d.residual = 0 then 0 else alignUp (2 * d.elements) 65536)]
  else [(e.base, e.len)]

/-- The logical shard of a range at a rank: first element, elements (R373). -/
def Group.shardOf (g : Group) (e : SnapRange) (r : Nat) : Nat × Nat :=
  if e.kind < 2 then (0, 0) else
  let (f, k) := shardBlocks (ceilDiv e.logical 64) (g.subSize e.shardAxes) (g.subIndex e.shardAxes r)
  (64 * f, min (64 * k) (e.logical - 64 * f))

/-- The designated writer of a range for a rank (R389). -/
def Group.writerOf (g : Group) (e : SnapRange) (r : Nat) : Nat :=
  if e.kind = 0 then r else if e.kind = 1 then 0
  else rankOn (g.subIndex e.shardAxes r) (g.named e.shardAxes)

/-- The bytes of a generation's image range, read from its buffer. -/
def State.bufferBytes (s : State) (x : SnapSet) (b off n : Nat) : Except Err Bytes :=
  s.readCab x.cabinet (x.firnBase + b * x.imageMax + off) n

/-- Escalated blocks that a block map counts. -/
def escalatedIn (d : Desc) (map : Bytes) : Nat :=
  if isZn d.format then ((List.range d.blocks).filter fun i => rawEscalated d.format (mapCode map i)).length else 0

/-- One range of a generation as the payload holds it: its bytes, and HEAP_USED of a kind 3 range (R397). -/
def State.shardBytes (s : State) (x : SnapSet) (b off : Nat) (e : SnapRange) : Except Err (Bytes × Nat) :=
  if e.kind = 3 then do
    let ps := e.parts.map (·.2)
    let n0 := ps.getD 0 0
    let n1 := ps.getD 1 0
    let n2 := ps.getD 2 0
    let base ← s.bufferBytes x b off n0
    let map ← s.bufferBytes x b (off + n0) n1
    let used := escalatedIn e.tensor map
    let hb := min n2 (alignUp (128 * used) 65536)
    let heap ← s.bufferBytes x b (off + n0 + n1) hb
    let heap := fit hb (heap.take (128 * used))
    let res ← s.bufferBytes x b (off + n0 + n1 + n2) (ps.getD 3 0)
    pure (base ++ map ++ heap ++ res, used)
  else do
    let bs ← s.bufferBytes x b off e.len
    pure (bs, 0)

/-- The shard entry of a range in a manifest (R397). -/
def shardEntry (g : Group) (r : Nat) (e : SnapRange) (off used : Nat) (bytes : Bytes) : Bytes :=
  let w := g.writerOf e r
  let ref := w != r
  let (f, n) := g.shardOf e r
  let d := e.tensor
  toLe 1 1 ++ toLe 1 e.kind ++ toLe 1 e.shardAxes ++ toLe 1 (b2n ref + (if e.kind = 3 && d.residual != 0 then 2 else 0))
    ++ toLe 4 e.regionId ++ toLe 8 f ++ toLe 8 n ++ toLe 8 e.logical ++ toLe 8 (if ref then w else off)
    ++ toLe 8 (if ref then 0 else bytes.length) ++ toLe 1 (if e.kind = 2 then e.elemBytes else if e.kind = 3 then d.format else 0)
    ++ zeros 3 ++ toLe 4 used ++ fit 48 (Config.sha384 bytes) ++ zeros 8

/-- The payload of a generation and its shard entries (R389, R397): off is the image offset, used the payload so far. -/
def State.payloadFrom (s : State) (g : Group) (r : Nat) (x : SnapSet) (b : Nat) :
    Nat → Nat → List SnapRange → Except Err (Bytes × Bytes)
  | _, _, [] => .ok ([], [])
  | off, sofar, e :: rest => do
    let (bytes, used) ← s.shardBytes x b off e
    let mine := g.writerOf e r == r
    let part := if mine then bytes else []
    let (p, es) ← s.payloadFrom g r x b (off + sumNat (e.parts.map (·.2))) (sofar + part.length) rest
    pure (part ++ p, shardEntry g r e sofar used bytes ++ es)

/-- The fragment entry of a manifest (R397). -/
def fragEntry (i holder : Nat) (frag : Bytes) : Bytes :=
  toLe 1 2 ++ toLe 1 i ++ zeros 2 ++ toLe 4 holder ++ zeros 48 ++ fit 48 (Config.sha384 frag) ++ zeros 8

/-- The header of a manifest without WRITTEN (R396). -/
def manifestHeader (g : Group) (x : SnapSet) (r step payload : Nat) : Bytes :=
  toLe 4 0x4E524946 ++ toLe 2 3 ++ toLe 2 (x.ranges.length + x.k + 2) ++ toLe 8 step ++ toLe 8 x.jobId ++ toLe 8 g.groupId
    ++ toLe 4 r ++ toLe 1 g.axes ++ toLe 1 x.k ++ toLe 1 g.fanin ++ toLe 1 g.mode ++ g.sizes.flatMap (toLe 2) ++ zeros 4
    ++ toLe 8 (fragSize x.imageMax x.k) ++ toLe 8 payload ++ zeros 56

/-- The ASCII bytes of "ZX9 manifest". -/
def labelManifest : Bytes := [0x5A, 0x58, 0x39, 0x20, 0x6D, 0x61, 0x6E, 0x69, 0x66, 0x65, 0x73, 0x74]

/-- The manifest key of a set (R398). -/
def SnapSet.manifestKey (x : SnapSet) : Bytes := kdf256 x.secret labelManifest (toLe 8 x.jobId)

/-! ### The pool (R391) -/

/-- Offset of a rank's area in the pool region (R391). -/
def SnapSet.areaOffset (x : SnapSet) (n step r : Nat) : Nat :=
  x.poolOffset + (step / x.drainEvery % x.poolSlots) * (n * x.rankArea) + r * x.rankArea

/-- The packets of a WRITE whose payload the packets carry. -/
def payloadPackets (mtu rkey remote : Nat) (bs : Bytes) : List TxPacket :=
  let n := max 1 (ceilDiv bs.length mtu)
  (List.range n).map fun i =>
    txPacket 1 (endFlags i n) (toLe 8 (remote + i * mtu) ++ toLe 4 rkey ++ zeros 4 ++ slice bs (i * mtu) mtu) 0 0 none

/-- The state of a cabinet's connection. -/
def State.connOf? (s : State) (cab i : Nat) : Option Nat :=
  match s.conn? i with
  | some k => if k.cabinet = cab then some k.state else none
  | none => none

/-- Whether a set's pool connection can be written through. -/
def State.poolOpen (s : State) (x : SnapSet) : Bool :=
  s.connOf? x.cabinet x.poolConn == some 3

/-- A write into the pool starts (R391). -/
def State.poolWrite (s : State) (x : SnapSet) (kind step rank fragment : Nat) (packets : Nat → List TxPacket) : State :=
  match s.conn? x.poolConn with
  | none => s
  | some k =>
    let j : PoolJob :=
      { id := s.zt.nextJob, conn := k.index, kind := kind, slot := x.slot, step := step, rank := rank, fragment := fragment
        firstPsn := none, lastPsn := none, respBound := none, failed := false }
    let own := fun (p : TxPacket) => { p with job := some j.id }
    { s with zt := { s.zt with jobs := s.zt.jobs ++ [j], nextJob := j.id + 1 } }.queueZt k.index ((packets k.mtu).map own)

/-! ### The drain (R391, R392) -/

/-- A drain is skipped and counted (R392). -/
def State.skipDrain (s : State) (slot step : Nat) : State :=
  (s.updSet slot fun x => { x with drains := x.drains.filter fun d => d.step != step }).bump 0x2820 4 1

/-- Whether a step is drained. -/
def SnapSet.drainsStep (x : SnapSet) (step : Nat) : Bool := x.k != 0 && step % x.drainEvery == 0

/-- The drain of a generation that is COMPLETE and mirrored starts with the zeroing of the manifest's header (R391); without
an open pool connection it is skipped (R413).  It waits while an activation runs, or the snowline holds the Snapshot class
back. -/
def State.startDrain (s : State) (slot b : Nat) : State :=
  match s.set? slot, s.group? slot with
  | some x, some g =>
    let gen := x.gen b
    match g.rankOf g.self with
    | none => s
    | some r =>
      if gen.state != 2 || !gen.mirrorAcked || gen.drained || !x.drainsStep gen.step || s.contract.activation = 1 ||
          !classAllowed s.effLevel 8 then s
      else
        let s1 := s.updGen slot b fun g => { g with drained := true }
        if !s.poolOpen x then s1.skipDrain slot gen.step
        else
          let run : DrainRun := { step := gen.step, buffer := b, stage := 0, durable := [], manifest := [] }
          (s1.updSet slot fun x => { x with drains := x.drains ++ [run] }).poolWrite x 0 gen.step r 0
            fun mtu => payloadPackets mtu x.poolRkey (x.areaOffset g.ranks gen.step r) (zeros 128)
  | _, _ => s

/-- The drains of a slot that can start do. -/
def State.startDrains (s : State) (slot : Nat) : State := (s.startDrain slot 0).startDrain slot 1

/-- The holder rank of fragment i of rank r (R390). -/
def SnapSet.holderRank (x : SnapSet) (n r i : Nat) : Nat := (r + (i + 1) * x.stripeStride) % n

/-- A fragment goes to its holder in messages of at most 1 MiB, then FRAGMENT_DONE (R390, R393). -/
def State.sendFragment (s : State) (slot member step i : Nat) (frag : Bytes) : State :=
  let n := ceilDiv frag.length 1048576
  ((List.range n).foldl (fun (s : State) c =>
    s.snapSend slot member 0x04 step (c * 1048576 * 256 + i) (slice frag (c * 1048576) 1048576)) s).snapSend slot member 0x05 step i []

/-- The stripe stage (R390): payload, fragments, digests; each fragment goes to its holder. -/
def State.stripe (s : State) (slot step : Nat) : State :=
  match s.set? slot, s.group? slot with
  | some x, some g =>
    match x.drains.find? (fun d => d.step == step), g.rankOf g.self with
    | some d, some r =>
      if (x.gen d.buffer).step != step || (x.gen d.buffer).state != 2 then s.skipDrain slot step else
      match s.payloadFrom g r x d.buffer 0 0 x.ranges with
      | .error e =>
        (match e.bad with
         | some u => s.reportUe u masterNone
         | none => s).skipDrain slot step
      | .ok (payload, entries) =>
        let f := fragSize x.imageMax x.k
        let ds := (List.range x.k).map fun i => fit f (slice payload (i * f) f)
        let frags := ds ++ [fragP f ds, fragQ f ds]
        let idx := (List.range frags.length).zip frags
        let fe := idx.flatMap fun p => fragEntry p.1 (x.holderRank g.ranks r p.1) p.2
        let m := manifestHeader g x r step payload.length ++ entries ++ fe
        let upd := fun (d : DrainRun) => { d with stage := 1, manifest := m }
        let s1 := s.updSet slot fun x => { x with drains := updWhere (fun d => d.step == step) upd x.drains }
        idx.foldl (fun (s : State) p => s.sendFragment slot (g.memberAt (x.holderRank g.ranks r p.1)) step p.1 p.2) s1
    | _, _ => s
  | _, _ => s

/-- A rank whose fragments are all in the pool writes its manifest (R391, R396). -/
def State.writeManifest (s : State) (slot step : Nat) : State :=
  match s.set? slot, s.group? slot with
  | some x, some g =>
    match x.drains.find? (fun d => d.step == step), g.rankOf g.self with
    | some d, some r =>
      if !s.poolOpen x then s.skipDrain slot step else
      let m := putBytes d.manifest 72 (toLe 8 s.now)
      let bytes := m ++ fit 48 (Config.hmac384 x.manifestKey m)
      let upd := fun (d : DrainRun) => { d with stage := 2 }
      (s.updSet slot fun x => { x with drains := updWhere (fun d => d.step == step) upd x.drains }).poolWrite x 2 step r 0
        fun mtu => payloadPackets mtu x.poolRkey (x.areaOffset g.ranks step r) bytes
    | _, _ => s
  | _, _ => s

/-- FRAGMENT_DURABLE reaches the rank that drains (R391): a failure skips its drain (R392). -/
def State.takeDurable (s : State) (slot step fragment failed : Nat) : State :=
  match s.set? slot with
  | none => s
  | some x =>
    match x.drains.find? fun d => d.step == step && d.stage == 1 with
    | none => s
    | some d =>
      if failed != 0 then s.skipDrain slot step
      else
        let ds := if d.durable.contains fragment then d.durable else fragment :: d.durable
        let upd := fun (d : DrainRun) => { d with durable := ds }
        let s1 := s.updSet slot fun x => { x with drains := updWhere (fun d => d.step == step) upd x.drains }
        if ds.length = x.k + 2 then s1.writeManifest slot step else s1

/-- A pool write has ended (R391, R392). -/
def State.jobEnd (s : State) (j : PoolJob) (ok : Bool) : State :=
  let s1 := { s with zt := { s.zt with jobs := s.zt.jobs.filter fun x => x.id != j.id } }
  match s1.set? j.slot, s1.group? j.slot with
  | some x, some g =>
    if j.kind = 1 then
      let gone := fun (f : StripeSlot) => f.rank == j.rank && f.fragment == j.fragment && f.step == j.step
      let s2 := s1.updSet j.slot fun x => { x with
        stripes := updWhere gone (fun f => { f with writing := false }) x.stripes }
      s2.snapSend j.slot (g.memberAt j.rank) 0x06 j.step j.fragment (toLe 1 (b2n !ok))
    else if !ok then s1.skipDrain j.slot j.step
    else if j.kind = 0 then s1.stripe j.slot j.step
    else
      (s1.updSet j.slot fun x => { x with
        drains := x.drains.filter fun d => d.step != j.step
        durableStep := max x.durableStep j.step }).signalHandle x.durableSync 3 (BitVec.ofNat 64 j.step)
  | _, _ => s1

/-- A pool write is judged (R312, R392): refused, its connection lost, or acknowledged with every packet of the peer below
that ACK's RESP_NEXT accepted.  Pool stages pause while a firmware activation runs (R413). -/
def State.settleJob (s : State) (j : PoolJob) : State :=
  if s.contract.activation = 1 then s else
  match s.conn? j.conn with
  | none => s.jobEnd j false
  | some k =>
    if j.failed || !(k.state == 3 || k.state == 4) then s.jobEnd j false
    else if k.sendQueue.any fun p => p.job == some j.id then s
    else if k.tx.any fun p => p.job == some j.id && !p.acked then s
    else match j.respBound with
      | none =>
        let b := k.peerRespNext
        if psnDiff k.expected b < 0 then s.updJob (some j.id) fun j => { j with respBound := some b.toNat } else s.jobEnd j true
      | some b => if psnDiff k.expected (BitVec.ofNat 32 b) < 0 then s else s.jobEnd j true

/-- The pool writes under way are judged. -/
def State.settleJobs (s : State) : State := s.zt.jobs.foldl State.settleJob s

/-- What a firmware activation held back goes on when it ends (R413): votes, drains, pool writes. -/
def State.resumeSnapshots (s : State) : State :=
  let s1 := (s.coll.groups.filter (·.voteOwed)).foldl (fun (s : State) g => s.sendVote g.slot) s
  (s1.snap.sets.foldl (fun (s : State) x => s.startDrains x.slot) s1).settleJobs

end Sys2Proof.Machine
end

