-- ==== Sys2Proof/Machine/Restore.lean ====
section
/-! DEFINITION. Restore from the pool (R408 to R412): manifests read back and judged (R398, R409), fragments rebuilt from parity,
and the ranges filled (R411). -/

namespace Sys2Proof.Machine

/-! ### What the pool holds -/

/-- The n bytes of the pool from an offset on, under a draw. -/
def poolBytes (draw off n : Nat) : Bytes := (List.range n).map fun i => Config.poolByte draw (off + i)

/-- A pool as a restore block describes it (R408). -/
structure OldPool where
  draw : Nat
  ranks : Nat
  slots : Nat
  k : Nat
  area : Nat
  offset : Nat
  deriving DecidableEq, Repr, Inhabited

/-- The pool that a restore reads. -/
def oldPool (draw : Nat) (blk : Bytes) : OldPool :=
  { draw := draw, ranks := field blk 0 4, slots := field blk 4 2, k := field blk 6 1, area := field blk 8 8
    offset := field blk 16 8 }

/-- Offset of an old rank's area in a slot (R391). -/
def OldPool.areaAt (p : OldPool) (q o : Nat) : Nat := p.offset + q * (p.ranks * p.area) + o * p.area

/-- The header and entries of the manifest in a slot and area, its tag following. -/
def OldPool.manifest (p : OldPool) (q o : Nat) : Bytes :=
  let a := p.areaAt q o
  let h := poolBytes p.draw a 128
  poolBytes p.draw a (min 65536 (128 + 112 * field h 6 2 + 48))

/-- STEP of a manifest. -/
def manStep (m : Bytes) : Nat := field m 8 8

/-- The shape that a manifest gives: AXES and sizes. -/
def manShape (m : Bytes) : Bytes := slice m 36 1 ++ slice m 40 12

/-- Whether a manifest is authentic but for its shape (R398). -/
def SnapSet.authentic (x : SnapSet) (m : Bytes) : Bool :=
  let n := 128 + 112 * field m 6 2
  decide (n + 48 ≤ m.length) && slice m n 48 == fit 48 (Config.hmac384 x.manifestKey (m.take n)) &&
  field m 0 4 == 0x4E524946 && field m 4 2 == 3 && field m 16 8 == x.jobId

/-- The entries of a manifest of a type. -/
def manEntries (m : Bytes) (ty : Nat) : List Bytes :=
  ((List.range (field m 6 2)).map fun i => slice m (128 + 112 * i) 112).filter fun e => field e 0 1 == ty

/-! ### Fragments (R390, R409) -/

/-- A fragment in the pool. -/
def OldPool.fragment (p : OldPool) (q o f i : Nat) : Bytes := poolBytes p.draw (p.areaAt q o + 65536 + i * f) f

/-- Fragments absent from a manifest or failing their digest (R409). -/
def OldPool.badFragments (p : OldPool) (q o : Nat) (m : Bytes) : List Nat :=
  let f := field m 56 8
  let es := manEntries m 2
  (List.range (p.k + 2)).filter fun i =>
    match es.find? fun e => field e 1 1 == i with
    | none => true
    | some e => fit 48 (Config.sha384 (p.fragment q o f i)) != slice e 56 48

/-- The data fragments, those in bad rebuilt from P and Q (R409): at most two are missing. -/
def rebuild (f k : Nat) (frag : Nat → Bytes) (bad : List Nat) : List Bytes :=
  let lost := bad.filter fun i => i < k
  let known := (List.range k).map fun i => if lost.contains i then zeros f else frag i
  let p := if bad.contains k then none else some (xorBytes (frag k) (fragP f known))
  let q := if bad.contains (k + 1) then none else some (xorBytes (frag (k + 1)) (fragQ f known))
  match lost, p, q with
  | [a], some p, _ => updAt a (fun _ => p) known
  | [a], none, some q => updAt a (fun _ => scaleBytes (gfInv (gfPow a)) q) known
  | [a, b], some p, some q =>
    let d := gfInv (Nat.xor (gfPow a) (gfPow b))
    let da := scaleBytes d (xorBytes q (scaleBytes (gfPow b) p))
    updAt b (fun _ => xorBytes p da) (updAt a (fun _ => da) known)
  | _, _, _ => known

/-- The payload of an old rank at a slot. -/
def OldPool.payload (p : OldPool) (q o : Nat) (m : Bytes) : Bytes :=
  let f := field m 56 8
  ((rebuild f p.k (p.fragment q o f) (p.badFragments q o m)).flatMap id).take (field m 64 8)

/-! ### Verification (R409, R410) -/

/-- What verification found: misses of each step, report records, fragments rebuilt. -/
structure Finding where
  steps : List (Nat × Nat)
  report : List Bytes
  rebuilt : Nat
  deriving DecidableEq, Repr, Inhabited

/-- A report record (R410). -/
def reportRecord (step rank region reason : Nat) : Bytes :=
  toLe 8 step ++ toLe 4 rank ++ toLe 4 region ++ toLe 1 reason ++ zeros 7

/-- A miss of a step. -/
def Finding.miss (v : Finding) (step rank region reason : Nat) : Finding :=
  { v with
    steps := putKey v.steps step (lookupD v.steps step 0 + 1), report := v.report ++ [reportRecord step rank region reason] }

/-- The authentic manifests of verified ranks: slot, rank, manifest. -/
def OldPool.found (p : OldPool) (x : SnapSet) (ranks : List Nat) : List (Nat × Nat × Bytes) :=
  ranks.flatMap fun o => (List.range p.slots).filterMap fun q =>
    let m := p.manifest q o
    if x.authentic m then some (q, o, m) else none

/-- Whether a manifest's shape is that of the other manifests of its step (R398). -/
def shapeAgrees (all : List (Nat × Nat × Bytes)) (m : Bytes) : Bool :=
  match all.find? fun a => manStep a.2.2 == manStep m with
  | some a => manShape a.2.2 == manShape m
  | none => true

/-- One slot of one old rank is verified (R409). -/
def OldPool.verifyOne (p : OldPool) (x : SnapSet) (all : List (Nat × Nat × Bytes)) (v : Finding) (o q : Nat) : Finding :=
  let m := p.manifest q o
  let st := manStep m
  if !x.authentic m || !shapeAgrees all m then v.miss st o 0xFFFFFFFF 2
  else
    let bad := p.badFragments q o m
    if 2 < bad.length then v.miss st o 0xFFFFFFFF 3
    else
      let payload := p.payload q o m
      let v1 := { v with
        steps := putKey v.steps st (lookupD v.steps st 0), rebuilt := v.rebuilt + (bad.filter fun i => i < p.k).length }
      ((manEntries m 1).filter fun e => !bit (field e 3 1) 0).foldl (fun (v : Finding) e =>
        let part := slice payload (field e 32 8) (field e 40 8)
        if fit 48 (Config.sha384 part) != slice e 56 48 then v.miss st o (field e 4 4) 4 else v) v1

/-- Old ranks that a new rank verifies (R409). -/
def OldPool.mine (p : OldPool) (r n : Nat) : List Nat := (List.range p.ranks).filter fun o => o % max n 1 == r

/-- A member's verification (R409): a step that some verified rank lacks counts one miss for each such rank. -/
def OldPool.verify (p : OldPool) (x : SnapSet) (r n : Nat) : Finding :=
  let ranks := p.mine r n
  let all := p.found x ranks
  let v := ranks.foldl (fun (v : Finding) o => (List.range p.slots).foldl (fun v q => p.verifyOne x all v o q) v)
    { steps := [], report := [], rebuilt := 0 }
  v.steps.foldl (fun (acc : Finding) st =>
    ranks.foldl (fun (acc : Finding) o =>
      if (List.range p.slots).any fun q => manStep (p.manifest q o) == st.1 then acc else acc.miss st.1 o 0xFFFFFFFF 1) acc) v

/-- The step that the steward chooses (R409, R410): the newest, at or below the limit, that every verdict lists with no
miss; a member that verifies no rank limits nothing. 0 for none. -/
def chooseStep (maxStep : Nat) (verdicts : List (List (Nat × Nat))) : Nat :=
  let lists := verdicts.filter fun v => !v.isEmpty
  let cands := (lists.headD []).filter fun p =>
    (maxStep = 0 || p.1 ≤ maxStep) && lists.all fun v => v.any fun q => q.1 == p.1 && q.2 == 0
  cands.foldl (fun acc p => max acc p.1) 0

/-- The report buffer (R410): counts of records and of records dropped, then the records. -/
def reportBytes (len : Nat) (records : List Bytes) : Bytes :=
  let room := (len - 8) / 24
  if len < 8 then [] else
  toLe 4 (min room records.length) ++ toLe 4 (records.length - room) ++ (records.take room).flatMap id

/-! ### Filling the ranges (R408, R411) -/

/-- The slot and manifest of an old rank at a step. -/
def OldPool.at? (p : OldPool) (x : SnapSet) (o step : Nat) : Option (Nat × Bytes) :=
  (List.range p.slots).findSome? fun q =>
    let m := p.manifest q o
    if x.authentic m && manStep m == step then some (q, m) else none

/-- The shard entry of a region in a manifest. -/
def manRegion (m : Bytes) (region : Nat) : Option Bytes := (manEntries m 1).find? fun e => field e 4 4 == region

/-- The shard of a region as an old rank's manifest gives it: its entry and bytes; a REFERENCE is read through its designated
writer (R411). -/
def OldPool.shard (p : OldPool) (x : SnapSet) (o step region : Nat) : Option (Bytes × Bytes) :=
  match p.at? x o step with
  | none => none
  | some (q, m) =>
    match manRegion m region with
    | none => none
    | some e =>
      if !bit (field e 3 1) 0 then some (e, slice (p.payload q o m) (field e 32 8) (field e 40 8))
      else match p.at? x (field e 32 8) step with
        | none => none
        | some (q2, m2) => (manRegion m2 region).map fun e2 =>
            (e2, slice (p.payload q2 (field e 32 8) m2) (field e2 32 8) (field e2 40 8))

/-- Whether a range is described by the manifests as the new set describes it (R408). -/
def SnapRange.describedBy (r : SnapRange) (m : Bytes) : Bool :=
  match manRegion m r.regionId with
  | none => false
  | some e => field e 1 1 == r.kind && field e 24 8 == r.logical &&
      (r.kind < 2 || field e 48 1 == (if r.kind = 2 then r.elemBytes else r.tensor.format))

/-- The old group's axes over which a range was sharded: (axis, stride, size). -/
def oldAxes (m : Bytes) (mask : Nat) : List (Nat × Nat × Nat) :=
  let sizes := (List.range 6).map fun i => field m (40 + 2 * i) 2
  ((List.range (field m 36 1)).filter fun k => bit mask k).map fun k => (k, prodNat (sizes.take k), sizes.getD k 1)

/-- The old shards of a region, from their designated writers, in shard order (R411). -/
def OldPool.shards (p : OldPool) (x : SnapSet) (m : Bytes) (step : Nat) (r : SnapRange) : List (Bytes × Bytes) :=
  let mask := ((manRegion m r.regionId).map fun e => field e 2 1).getD 0
  let axes := oldAxes m mask
  let n := prodNat (axes.map fun a => a.2.2)
  (List.range n).filterMap fun j => p.shard x (rankOn j axes) step r.regionId

/-- The bytes of elements of a kind 2 range, gathered from old shards. -/
def gatherElements (size first count : Nat) (shards : List (Bytes × Bytes)) : Bytes :=
  shards.flatMap fun s =>
    let f := field s.1 8 8
    let n := field s.1 16 8
    let lo := max f first
    let hi := min (f + n) (first + count)
    slice s.2 ((lo - f) * size) ((hi - lo) * size)

/-- The tensor that an old kind 3 shard's bytes hold: parts at their padded places. -/
def oldTensor (d : Desc) (e : Bytes) : Desc :=
  let d1 := { d with base := 0, elements := field e 16 8, elementBase := 0, heapUsed := field e 52 4, heapSlots := field e 52 4 }
  let m := alignUp d1.baseBytes 65536
  let h := m + alignUp d1.mapBytes 65536
  { d1 with map := m, heap := h, residual := h + alignUp (128 * d1.heapUsed) 65536 }

/-- The blocks and residual bytes of an old kind 3 shard. -/
def oldBlocks (d : Desc) (s : Bytes × Bytes) : List Raw × Bytes :=
  let t := oldTensor d s.1
  let rs := match readRaws (fun a n => .ok (fit n (slice s.2 a n))) t with
    | .ok l => l
    | .error _ => []
  (rs, if bit (field s.1 3 1) 1 then slice s.2 t.residual (2 * t.elements) else [])

/-- The blocks of a kind 3 range, gathered from old shards, with their residual bytes. -/
def gatherBlocks (d : Desc) (first count : Nat) (shards : List (Bytes × Bytes)) : List Raw × Bytes :=
  let parts := shards.map fun s =>
    let (rs, res) := oldBlocks d s
    let f := field s.1 8 8 / 64
    let lo := max f first
    let hi := min (f + rs.length) (first + count)
    ((rs.drop (lo - f)).take (hi - lo), slice res (128 * (lo - f)) (128 * (hi - lo)))
  (parts.flatMap (·.1), parts.flatMap (·.2))

/-- What filling has written so far: runs of memory, zeroed bytes, escalated blocks (R379, R411). -/
structure Filled where
  runs : List (Nat × Bytes)
  zeroed : Nat
  escalated : Nat
  deriving DecidableEq, Repr, Inhabited

/-- One range is filled from the chosen step (R411). -/
def OldPool.fillRange (p : OldPool) (x : SnapSet) (g : Group) (rank step : Nat) (m : Bytes) (r : SnapRange) (acc : Filled) :
    Except Err Filled :=
  if r.kind = 0 then
    let same := manShape m == toLe 1 g.axes ++ g.sizes.flatMap (toLe 2)
    if same then
      .ok { acc with runs := acc.runs ++ [(r.base, fit r.len (((p.shard x rank step r.regionId).map (·.2)).getD []))] }
    else .ok { acc with runs := acc.runs ++ [(r.base, zeros r.len)], zeroed := acc.zeroed + r.len }
  else if r.kind = 1 then
    .ok { acc with runs := acc.runs ++ [(r.base, fit r.len (((p.shard x 0 step r.regionId).map (·.2)).getD []))] }
  else
    let (f, n) := g.shardOf r rank
    let shards := p.shards x m step r
    if r.kind = 2 then .ok { acc with runs := acc.runs ++ [(r.base, gatherElements r.elemBytes f n shards)] }
    else
      let d := r.tensor
      let (rs, res) := gatherBlocks d (f / 64) (ceilDiv n 64) shards
      let used := rawHeap d.format rs
      if isZn d.format && d.heapSlots < used then
        .error (errLimit 2 (overflowBlock d.format d.heapSlots 0 0 rs))
      else
        let resRun := if d.residual = 0 || res.isEmpty then [] else [(d.residual, res.take (2 * d.elements))]
        .ok { acc with runs := acc.runs ++ rawRuns d rs ++ resRun, escalated := acc.escalated + used }

/-- Every range is filled, in range-table order. -/
def OldPool.fillRanges (p : OldPool) (x : SnapSet) (g : Group) (rank step : Nat) (m : Bytes) :
    List SnapRange → Filled → Except Err Filled
  | [], acc => .ok acc
  | r :: rest, acc => do
    let acc1 ← p.fillRange x g rank step m r acc
    p.fillRanges x g rank step m rest acc1

end Sys2Proof.Machine
end

