-- ==== Sys2Proof/Machine/Snapshot.lean ====
section
/-! DEFINITION. The Snapshot commands (R372 to R382, R406 to R412), the copies of generations (R383 to R386), the snapshot
messages (R387 to R395), and rounds (R399 to R404). -/

namespace Sys2Proof.Machine

/-! ### SNAP_ATTACH (R372 to R374) -/

/-- A range entry (R373), with its tensor descriptor's bytes. -/
def rangeEntry (b tdesc : Bytes) : SnapRange :=
  { base := field b 0 8, len := field b 8 8, kind := field b 16 1, shardAxes := field b 17 1, elemBytes := field b 18 1
    regionId := field b 20 4, logical := field b 24 8, tdesc := tdesc }

/-- The range entries of a table, with the tensor descriptors that they name. -/
def State.readRanges (s : State) (cab : Nat) : List Bytes → Except Err (List SnapRange)
  | [] => .ok []
  | b :: rest => do
    let td ← if field b 16 1 = 3 then s.readCab cab (field b 0 8) 64 else pure []
    let l ← s.readRanges cab rest
    pure (rangeEntry b td :: l)

/-- Whether a range entry is out of range (R373, R374). -/
def SnapRange.bad (g : Group) (r : Nat) (reserved : Nat) (e : SnapRange) : Bool :=
  let sharded := e.kind = 2 || e.kind = 3
  let d := e.tensor
  3 < e.kind || reserved != 0 || e.len % 65536 != 0 || (e.kind = 3 && e.len != 0) ||
  (if sharded then e.shardAxes = 0 || 2 ^ g.axes ≤ e.shardAxes else e.shardAxes != 0 || e.logical != 0) ||
  (if e.kind = 2 then !([1, 2, 4, 8].contains e.elemBytes) else e.elemBytes != 0) ||
  (e.kind = 2 && e.len < (g.shardOf e r).2 * e.elemBytes) ||
  (e.kind = 3 && ((descErr id e.tdesc d).isSome || !(isZn d.format || isMx d.format)))

/-- Whether a range entry is misaligned (R373, R374). -/
def SnapRange.misaligned (e : SnapRange) : Bool :=
  if e.kind = 3 then
    let d := e.tensor
    e.base % 64 != 0 || [d.base, d.map, d.heap, d.residual].any fun a => a % 65536 != 0
  else e.base % 65536 != 0

/-- Whether every page of a run translates to GDDR7 or the CXL tier (R374). -/
def State.inTiers (s : State) (cab : Nat) (p : Nat × Nat) : Bool :=
  (piecesOf p.1 p.2).all fun q =>
    match s.translate cab q.1 .write with
    | none => false
    | some d => s.inGddr d || (s.cxlPort d).isSome

/-- Whether any two runs of a list overlap. -/
def anyOverlap : List (Nat × Nat) → Bool
  | [] => false
  | a :: rest => (rest.any fun b => overlaps a.1 a.2 b.1 b.2) || anyOverlap rest

/-- The fixed fields of a set descriptor that are out of range for a group of n ranks (R372, R374). -/
def setDescBad (b : Bytes) (n : Nat) : Bool :=
  let k := field b 9 1
  let step := field b 16 2
  let f := fragSize (field b 24 8) k
  field b 0 8 = 0 || !(k = 0 || (4 ≤ k && k ≤ 16)) || field b 10 1 = 0 || 64 < field b 10 1 || 64 < field b 11 1 ||
  field b 12 1 = 0 || 16 < field b 12 1 || field b 13 1 != 0 || field b 14 2 = 0 || n ≤ field b 14 2 ||
  (if k = 0 then step != 0 || field b 18 2 != 0 || field b 20 4 != 0
   else step = 0 || n ≤ (k + 2) * step || field b 18 2 < 2 || 1024 < field b 18 2 || field b 20 4 = 0 || 2 ^ 20 < field b 20 4 ||
     field b 152 8 < 2 * (k + 2) * f || field b 32 8 < 65536 + (k + 2) * f) ||
  field b 24 8 % 65536 != 0 || 2 ^ 40 < field b 24 8 || field b 32 8 % 65536 != 0 || field b 40 8 % 65536 != 0 ||
  field b 120 8 < 2 * field b 24 8 || field b 136 8 < 2 * field b 24 8 || field b 168 8 < 64 * 2 ^ 20 ||
  field b 168 8 % 65536 != 0 || !allZero (slice b 192 64)

/-- The handles of a list in memory. -/
def handleList (b : Bytes) : List Nat := (chunksOf 4 (b.length / 4) b).map leNat

/-- The set that a descriptor describes, ATTACHED. -/
def newSet (b : Bytes) (c : Ctx) (ranges : List SnapRange) (syncs queues : List Nat) (keySlot : Nat) : SnapSet :=
  let x : SnapSet := default
  let parts := ranges.flatMap SnapRange.parts
  { x with
    slot := field b 8 1, cabinet := c.cabinet, state := 1, jobId := field b 0 8, k := field b 9 1, buddyStride := field b 14 2
    stripeStride := field b 16 2, poolSlots := field b 18 2, drainEvery := field b 20 4, imageMax := field b 24 8
    rankArea := field b 32 8, poolOffset := field b 40 8, secret := slice b 48 32, ranges := ranges, syncList := syncs
    queueList := queues, poolConn := field b 104 4, poolRkey := field b 108 4, firnBase := field b 112 8, firnLen := field b 120 8
    mirrorBase := field b 128 8, mirrorLen := field b 136 8, stripeBase := field b 144 8, stripeLen := field b 152 8
    reserveBase := field b 160 8, reserveLen := field b 168 8, copySync := field b 176 4, mirrorSync := field b 180 4
    durableSync := field b 184 4, rollbackSync := field b 188 4, parts := parts, imageBytes := sumNat (parts.map (·.2))
    gens := [default, default], mirrors := [default, default], keySlot := keySlot }

/-- A queue handle of a set's list: a submission queue of the cabinet. -/
def State.listedQueueErr (s : State) (cab h : Nat) : Option Err :=
  match s.queueHandleErr cab h with
  | some e => some e
  | none => if ((s.queue? (handleIndex h)).map (·.kind)) == some 1 then none else some (errPlain stBadHandle)

/-- The set that a SNAP_ATTACH describes, without its key slot, or why it attaches nothing (R372, R374, R378); tiers says
which runs lie in GDDR7 or the CXL tier. -/
def State.describedSet (s : State) (c : Ctx) (tiers : Nat × Nat → Bool) : Except Err SnapSet := do
  let r := c.record
  let cab := c.cabinet
  let a := arg r 0 8
  match reservedErr r [(0, 8)] with
  | some e => throw e
  | none => pure ()
  check [(a % 64 != 0, errAlign 0)]
  let b ← s.readCab cab a 256
  let slot := field b 8 1
  check [(63 < slot, errRange 0), ((s.set? slot).isSome, errState 5 0x40)]
  match s.group? slot with
  | none => throw (errState 5 0x43)
  | some g =>
    check [(g.cabinet != cab || g.state != 2, errState 5 0x43), (g.queue != c.queue, errState 5 0x45),
      (setDescBad b g.ranks, errRange 0), ([80, 88, 96].any fun o => field b o 8 % 64 != 0, errAlign 0)]
    let table ← s.readCab cab (field b 80 8) (32 * field b 10 1)
    let es := chunksOf 32 (field b 10 1) table
    let ranges ← s.readRanges cab es
    let syncB ← s.readCab cab (field b 88 8) (4 * field b 11 1)
    let queueB ← s.readCab cab (field b 96 8) (4 * field b 12 1)
    let syncs := handleList syncB
    let queues := handleList queueB
    match (syncs.findSome? (s.syncArgErr cab)).orElse fun _ =>
        ([176, 180, 184, 188].map fun o => field b o 4).findSome? (s.handleErr cab) with
    | some e => throw e
    | none => pure ()
    match queues.findSome? (s.listedQueueErr cab) with
    | some e => throw e
    | none => pure ()
    let rank := (g.rankOf g.self).getD 0
    let parts := ranges.flatMap SnapRange.parts
    let image := sumNat (parts.map (·.2))
    let stores := [112, 128, 144, 160].map fun o => (field b o 8, field b (o + 8) 8)
    check [((ranges.zip es).any fun p => p.1.bad g rank (field p.2 19 1), errRange 0), (ranges.any SnapRange.misaligned, errAlign 0),
      ((ranges.map (·.regionId)).eraseDups.length != ranges.length, errRange 0),
      (!queues.contains (queueHandle cab g.queue), errRange 0), ((parts ++ stores).any fun p => !tiers p, errRange 0),
      (anyOverlap (parts ++ stores), errRange 0), (field b 24 8 < image, errRange 0)]
    pure (newSet b c ranges syncs queues 0)

/-- What a SNAP_ATTACH makes of the state, with IMAGE_BYTES, or why it attaches nothing (R372, R374, R538). -/
def State.attachSet (s : State) (c : Ctx) : Except Err (State × Nat) := do
  let x ← s.describedSet c (s.inTiers c.cabinet)
  match pickFree s.freeValue (s.trust.slots.map (·.slot)) 4160 65536 with
  | none => throw (errPlain stNoResource)
  | some ks =>
    let key : KeySlot := { slot := ks, cabinet := c.cabinet, label := labelManifest, secret := x.secret }
    pure ({ s.drawn with
      trust := { s.trust with slots := s.trust.slots ++ [key] }
      snap := { s.snap with sets := s.snap.sets ++ [{ x with keySlot := ks }] } }, x.imageBytes)

/-- ENGINE_AREA of a Snapshot completion (R379). -/
def snapArea (n : Counts) (step : Nat) : Bytes := n.bytes ++ toLe 8 step

/-- SNAP_ATTACH (R372, R374): CHECKPOINT_SECRET is zeroed in the descriptor, whatever the status. -/
def execSnapAttach (id : Nat) (s : State) : Result :=
  s.onCtx id (isCommand 0x3001) fun c =>
    let a := arg c.record 0 8
    let t := match s.attachSet c with
      | .error e => s.finishErr id e
      | .ok (t, image) => t.finish id stOk image (snapArea {} 0)
    s.land (some id) (if a % 64 = 0 then t.putCab c.cabinet (a + 48) (zeros 32) else t)

/-! ### Commands on an attached set (R377, R378) -/

/-- A Snapshot command on a set that its queue may command. -/
def State.onSet (s : State) (id op : Nat) (named : List (Nat × Nat)) (slotAt : Nat) (checks : Bytes → List (Bool × Err))
    (f : Ctx → Group → SnapSet → Result) : Result :=
  s.onCtx id (isCommand op) fun c =>
    let slot := arg c.record slotAt 1
    match argsErr c.record named ((63 < slot, errRange slotAt) :: checks c.record) with
    | some e => s.commit (s.finishErr id e)
    | none =>
      match s.set? slot, s.group? slot with
      | some x, some g =>
        if x.cabinet != c.cabinet then s.commit (s.finishErr id (errState 5 0x41))
        else if g.queue != c.queue then s.commit (s.finishErr id (errState 5 0x45))
        else f c g x
      | _, _ => s.commit (s.finishErr id (errState 5 0x41))

/-- SNAP_DETACH (R377, R379). -/
def execSnapDetach (id : Nat) (s : State) : Result :=
  s.onSet id 0x3002 [(0, 1)] 0 (fun _ => []) fun _ _ x =>
    s.commit ((s.dropSet x.slot).finish id stOk 0 (snapArea {} 0))

/-- The marks, values and flags that a cut records (R381). -/
def State.cutRecord (s : State) (x : SnapSet) : List (Nat × Nat) × List (BitVec 64 × Bool) :=
  (x.queueList.map fun h => (handleIndex h, ((s.queue? (handleIndex h)).map (·.head)).getD 0),
   x.syncList.map fun h => match s.sync? (handleCabinet h) (handleIndex h) with
     | some o => (o.value, o.err)
     | none => (0, false))

/-- A new generation of a step, COPYING (R381, R386). -/
def State.cutGen (s : State) (x : SnapSet) (g : Group) (step : Nat) : Generation :=
  let (marks, vals) := s.cutRecord x
  { state := 1, step := step, copied := [], reserve := [], dirty := [], mirrorAcked := false, syncVals := vals, marks := marks
    opMark := g.opSeq, drained := false }

/-- A generation takes a buffer; the stripe stage that would read the buffer is abandoned (R382, R392). -/
def State.takeBuffer (s : State) (slot b : Nat) (gen : Generation) : State :=
  match s.set? slot with
  | none => s
  | some x =>
    let reading := (x.drains.filter fun d => d.buffer == b && d.stage == 0).map (·.step)
    let s1 := reading.foldl (fun (s : State) st => s.skipDrain slot st) s
    (s1.updSet slot fun x => { x with
      state := 2, newest := b, gens := updAt b (fun _ => gen) x.gens, marksVoid := false, rollbackRefused := false
      rollbackCtx := none, cutCtx := none }).completeGen slot b

/-- The buffer that the next cut takes (R382). -/
def SnapSet.nextBuffer (x : SnapSet) : Nat := if x.gens.any fun g => g.state != 0 then 1 - x.newest else 0

/-- SNAP_CUT (R380 to R382): once every earlier command of every listed queue has completed, and the buffer's mirror has been
acknowledged. -/
def execSnapCut (id : Nat) (s : State) : Result :=
  s.onSet id 0x3010 [(0, 1), (16, 8)] 0 (fun r => [(arg r 16 8 = 0, errRange 16)]) fun c g x =>
    let step := arg c.record 16 8
    if g.state != 2 then s.commit (s.finishErr id (errState 5 0x43))
    else if (x.gen x.newest).state != 0 && step ≤ (x.gen x.newest).step then s.commit (s.finishErr id (errState 5 0x42))
    else if x.state = 4 || (s.listedCtxs x).any (· < id) then s.idle
    else
      let b := x.nextBuffer
      let old := x.gen b
      if old.isHeld && !old.mirrorAcked then
        if x.cutCtx = some id then s.idle
        else s.quiet ((s.updSet x.slot fun x => { x with cutCtx := some id }).bump 0x2820 3 1)
      else
        s.commit ((s.takeBuffer x.slot b (s.cutGen x g step)).finish id stOk b (snapArea {} step))

/-- The image granules of the ranges that a predicate picks. -/
def rangeGranules (p : SnapRange → Bool) : Nat → List SnapRange → List Nat
  | _, [] => []
  | g, e :: rest =>
    let n := sumNat (e.parts.map (·.2)) / 65536
    (if p e then (List.range n).map (g + ·) else []) ++ rangeGranules p (g + n) rest

/-- SNAP_ROLLBACK with SCOPE 0 (R406): dirty granules of the named ranges come back; queues and objects stay. -/
def State.rollbackMember (s : State) (id : Nat) (x : SnapSet) (b region : Nat) : State :=
  let pick := fun (e : SnapRange) => region = 0xFFFFFFFF || e.regionId = region
  let gs := (rangeGranules pick 0 x.ranges).filter (x.gen b).dirty.contains
  match s.copyBack s x b gs with
  | .error e => s.finishErr id e
  | .ok t => t.finish id stOk (x.gen b).step (snapArea {} (x.gen b).step)

/-- A rollback round is asked of the acting steward (R407): a steward asks itself. -/
def State.requestRound (s : State) (slot : Nat) : State :=
  match s.group? slot with
  | none => s
  | some g =>
    match g.actingSteward with
    | none => s
    | some m =>
      if m != g.self then s.snapSend slot m 0x0A 0 0 []
      else if g.round.isSome then s
      else (g.others.foldl (fun (s : State) x => s.snapSend slot x 0x0A 0 0 []) s).beginRound slot

/-- SNAP_ROLLBACK (R406, R407): SCOPE 0 restores at once; SCOPE 1 asks for a round and waits for the rollback, or, reached
again after it, ends with the step restored. -/
def execSnapRollback (id : Nat) (s : State) : Result :=
  s.onSet id 0x3011 [(0, 2), (4, 4)] 0
    (fun r => [(1 < arg r 1 1, errRange 1), (arg r 1 1 = 1 && arg r 4 4 = 0xFFFFFFFF, errRange 4)]) fun c g x =>
    let region := arg c.record 4 4
    let whole := arg c.record 1 1 = 1
    match x.heldBuffers with
    | [] => s.commit (s.finishErr id (errState 5 0x44))
    | b :: _ =>
      if whole && g.state != 2 then s.commit (s.finishErr id (errState 5 0x43))
      else if x.marksVoid || x.rollbackRefused then s.commit (s.finishErr id (errState 5 0x44))
      else if !whole then
        if region != 0xFFFFFFFF && !(x.ranges.any fun e => e.regionId = region) then s.commit (s.finishErr id (errRange 4))
        else s.land (some id) (s.rollbackMember id x b region)
      else match x.rollbackCtx with
        | some (q, i, some t) =>
          if q = c.queue && i = c.slot then s.commit (s.finish id stOk t (snapArea {} t))
          else s.commit (((s.updSet x.slot fun x => { x with rollbackCtx := some (c.queue, c.slot, none) }).updCtx id
            Ctx.startWait).requestRound x.slot)
        | _ =>
          s.commit (((s.updSet x.slot fun x => { x with rollbackCtx := some (c.queue, c.slot, none) }).updCtx id
            Ctx.startWait).requestRound x.slot)

/-! ### Copies (R383 to R386) -/

/-- Whether background snapshot traffic moves (R383, R413): not in the hardware safe state, nor while the snowline refuses the
Snapshot class. -/
def State.snapTraffic (s : State) : Bool := !s.faults.safe && classAllowed s.effLevel 8

/-- The connections whose accepted packets stalled go on (R314). -/
def State.resumeZt (s : State) : State :=
  ((s.zt.conns.filter fun k => !k.accepted.isEmpty).map (·.index)).foldl State.runZt s

/-- GRANULE_COPY (R383): a granule reaches the buffer of every COPYING generation. -/
def execGranuleCopy (slot granule : Nat) (s : State) : Result :=
  match s.set? slot with
  | none => s.idle
  | some x =>
    if !s.snapTraffic || !x.granules.contains granule || !(x.gens.any fun g => g.state == 1 && !g.copied.contains granule) then
      s.idle
    else s.commit ((((s.copyInto slot 0 granule).copyInto slot 1 granule).freeStalls slot).resumeZt)

/-- Reserve granules in use. -/
def SnapSet.reserveUsed (x : SnapSet) : List Nat := x.gens.flatMap fun g => g.reserve.map (·.1)

/-- A stalled granule is copied into the fast reserve for one generation (R384). -/
def State.reserveCopy (s : State) (slot b i : Nat) : State :=
  match s.set? slot with
  | none => s
  | some x =>
    if !(x.gen b).lacks i then s else
    match lowestFree x.reserveUsed 0 (x.reserveLen / 65536) with
    | none => s
    | some r =>
      match s.readCab x.cabinet (x.granuleAddr i) 65536 with
      | .error e => s.damageGen x b e
      | .ok bs =>
        (s.putUntracked x.cabinet (x.reserveAddr r) bs).updGen slot b fun g => { g with reserve := g.reserve ++ [(r, i)] }

/-- COW_COPY (R384, R385): an urgent copy of a stalled granule into the fast reserve releases the writer; without a free
reserve granule the writer waits, counted once. -/
def execCowCopy (slot granule : Nat) (s : State) : Result :=
  match s.set? slot with
  | none => s.idle
  | some x =>
    if s.faults.safe || !(x.stalls.any fun y => y.granule == granule) || !(x.gens.any fun g => g.lacks granule) then s.idle
    else
      let need := (x.gens.filter fun g => g.lacks granule).length
      if x.reserveLen / 65536 < x.reserveUsed.length + need then
        let fresh := (x.stalls.filter fun y => y.granule == granule && !y.starved).length
        let mark := fun (y : Stall) => if y.granule == granule then { y with starved := true } else y
        if fresh = 0 then s.idle
        else s.quiet ((s.updSet slot fun x => { x with stalls := x.stalls.map mark }).bump 0x2820 2 fresh)
      else s.commit ((((s.reserveCopy slot 0 granule).reserveCopy slot 1 granule).freeStalls slot).resumeZt)

/-! ### Receiving (R393 to R395) -/

/-- A snapshot message of the present epoch from another member: an older one is dropped and counted (R393), one of an epoch
to come waits. -/
def State.onSnap (s : State) (m : SnapIn) (f : Group → SnapSet → Nat → Result) : Result :=
  if s.faults.safe then s.idle else
  match s.group? m.slot with
  | none => s.idle
  | some g =>
    if g.members.length ≤ m.sender || m.sender == g.self || g.state < 2 then s.idle
    else if m.epoch < g.epoch then s.quiet (s.bump 0x2720 6 1)
    else if g.epoch < m.epoch then s.idle
    else match s.set? m.slot with
      | none => s.idle
      | some x => f g x ((g.rankOf m.sender).getD 0xFFFF)

/-- A message of a stage that pauses while a firmware activation runs (R413). -/
def State.onStage (s : State) (m : SnapIn) (f : Group → SnapSet → Nat → Result) : Result :=
  if s.contract.activation = 1 then s.idle else s.onSnap m f

/-- The mirror slot that takes a step (R388): the slot that holds it, else the one without the newest complete mirror. -/
def SnapSet.mirrorSlotFor (x : SnapSet) (step : Nat) : Nat :=
  match x.mirrors.findIdx? fun m => m.step == step with
  | some i => i
  | none =>
    let a := x.mirrors.getD 0 default
    let b := x.mirrors.getD 1 default
    if a.complete && (!b.complete || b.step ≤ a.step) then 1 else 0

/-- A mirror slot's cabinet address. -/
def SnapSet.mirrorAddr (x : SnapSet) (i : Nat) : Nat := x.mirrorBase + i * (x.mirrorLen / 2)

/-- Whether a member's MIRROR_DATA is the image that this promoted spare asked for (R402). -/
def Group.sendsImage (g : Group) (x : SnapSet) (sender : Nat) : Bool :=
  x.isSpare && x.state == 3 && g.buddy x.buddyStride == some sender

/-- A MIRROR_DATA of the ward lands in a mirror slot (R388). -/
def State.landMirror (s : State) (x : SnapSet) (m : SnapIn) : State :=
  let i := x.mirrorSlotFor m.step
  let gs := (List.range (m.body.length / 65536)).map fun j => m.arg / 65536 + j
  let keep := fun (y : MirrorSlot) => if y.step == m.step && !y.complete then y else { (default : MirrorSlot) with step := m.step }
  let upd := fun (y : MirrorSlot) =>
    let y := keep y
    { y with granules := y.granules ++ gs.filter fun g => !y.granules.contains g }
  (s.putUntracked x.cabinet (x.mirrorAddr i + m.arg) m.body).updSet x.slot fun x => { x with mirrors := updAt i upd x.mirrors }

/-- MIRROR_DATA (R388, R402): granules of the ward's mirror, or of the image that a promoted spare loads. -/
def execMirrorData (m : SnapIn) (s : State) : Result :=
  s.onSnap m fun g x rank =>
    let n := m.body.length
    if n = 0 || n % 65536 != 0 || m.arg % 65536 != 0 then s.idle
    else if g.sendsImage x m.sender then
      let gs := (List.range (n / 65536)).filter fun j => x.granules.contains (m.arg / 65536 + j)
      s.commit (gs.foldl (fun (s : State) j =>
        s.putUntracked x.cabinet (x.granuleAddr (m.arg / 65536 + j)) (slice m.body (65536 * j) 65536)) s)
    else match g.rankOf g.self with
      | none => s.idle
      | some r =>
        if g.wardRank x.buddyStride r != rank || x.imageMax < m.arg + n then s.idle else s.commit (s.landMirror x m)

/-- A promoted spare holds its image: generation t is COPYING in its free buffer, and its rollback is done (R402).  Its group's
OP_SEQ, which no message carries, is a free value. -/
def State.spareLoaded (s : State) (g : Group) (x : SnapSet) (m : SnapIn) : State :=
  let vals := readSyncBody m.body
  let s1 := s.restoreSyncs x.syncList vals
  let seq := s.freeValue % 2 ^ 64
  let gen := { s1.cutGen x g m.step with syncVals := vals, opMark := seq }
  let s2 := (s1.drawn.updGroup x.slot fun g => { g with opSeq := seq, op := none }).takeBuffer x.slot x.nextBuffer gen
  (s2.updSet x.slot fun y => { y with rollbackCtx := x.rollbackCtx }).rollbackDone x.slot

/-- MIRROR_DONE (R388, R402): a mirror whose granules have all landed is complete and acknowledged; a spare's image is
loaded. -/
def execMirrorDone (m : SnapIn) (s : State) : Result :=
  s.onSnap m fun g x rank =>
    if g.sendsImage x m.sender then s.commit (s.spareLoaded g x m)
    else match g.rankOf g.self with
      | none => s.idle
      | some r =>
        if g.wardRank x.buddyStride r != rank then s.idle else
        let i := x.mirrorSlotFor m.step
        let y := x.mirrors.getD i default
        let all := (List.range (m.arg / 65536)).all fun j => (y.step == m.step && y.granules.contains j : Bool)
        if !all then s.idle
        else
          let fin : MirrorSlot :=
            { step := m.step, granules := y.granules, total := m.arg, complete := true, syncVals := readSyncBody m.body }
          s.commit ((s.updSet x.slot fun x => { x with mirrors := updAt i (fun _ => fin) x.mirrors }).snapSend m.slot m.sender 0x03
            m.step 0 [])

/-- MIRROR_ACK (R387, R391): MIRROR_SYNC is signalled, and the drain of a drained step starts. -/
def execMirrorAck (m : SnapIn) (s : State) : Result :=
  s.onSnap m fun _ x _ =>
    if !(x.gens.any fun g => g.isHeld && g.step == m.step) then s.idle
    else
      let ack := fun (g : Generation) => if g.isHeld && g.step == m.step then { g with mirrorAcked := true } else g
      let s1 := s.updSet x.slot fun x => { x with gens := x.gens.map ack, mirroredStep := max x.mirroredStep m.step }
      s.commit ((s1.signalHandle x.mirrorSync 3 (BitVec.ofNat 64 m.step)).startDrains x.slot)

/-- FRAGMENT (R390): fragment bytes land in the stripe slot of their step; where a step still being written to the pool holds
it, nothing lands (R392). -/
def execFragment (m : SnapIn) (s : State) : Result :=
  s.onStage m fun _ x rank =>
    let i := m.arg % 256
    let off := m.arg / 256
    let f := fragSize x.imageMax x.k
    let half := m.step / max x.drainEvery 1 % 2
    if x.k = 0 || x.k + 2 ≤ i || f < off + m.body.length then s.idle
    else
      let same := fun (y : StripeSlot) => y.fragment == i && y.step / max x.drainEvery 1 % 2 == half
      let busy := x.stripes.any fun y => same y && y.writing && y.step != m.step
      if busy then s.idle
      else
        let had := x.stripes.find? fun y => same y && y.step == m.step && y.rank == rank
        let y : StripeSlot := had.getD { rank := rank, fragment := i, step := m.step, landed := 0, writing := false }
        let y1 := { y with landed := y.landed + m.body.length }
        let a := x.stripeBase + half * ((x.k + 2) * f) + i * f + off
        s.commit ((s.putUntracked x.cabinet a m.body).updSet x.slot fun x =>
          { x with stripes := x.stripes.filter (fun y => !same y) ++ [y1] })

/-- FRAGMENT_DONE (R391): the holder writes the fragment into the pool; one that did not land is reported failed. -/
def execFragmentDone (m : SnapIn) (s : State) : Result :=
  s.onStage m fun g x rank =>
    let i := m.arg
    let f := fragSize x.imageMax x.k
    let half := m.step / max x.drainEvery 1 % 2
    let mine := fun (y : StripeSlot) => y.fragment == i && y.step == m.step && y.rank == rank
    let landed := x.stripes.any fun y => mine y && y.landed == f && !y.writing
    if x.k = 0 || !landed || !s.poolOpen x then s.commit (s.snapSend m.slot m.sender 0x06 m.step i [1])
    else
      let src := x.stripeBase + half * ((x.k + 2) * f) + i * f
      let s1 := s.updSet x.slot fun x => { x with stripes := updWhere mine (fun y => { y with writing := true }) x.stripes }
      s.commit (s1.poolWrite x 1 m.step rank i fun mtu =>
        writePackets mtu x.poolRkey (x.areaOffset g.ranks m.step rank + 65536 + i * f) src f [] none)

/-- FRAGMENT_DURABLE (R391, R392). -/
def execFragmentDurable (m : SnapIn) (s : State) : Result :=
  s.onStage m fun _ x _ => s.commit (s.takeDurable x.slot m.step m.arg (field m.body 0 1))

/-! ### Rounds (R399 to R404, R407) -/

/-- A snapshot message that needs no set of the receiver's: of the present epoch, from another member. -/
def State.onRound (s : State) (m : SnapIn) (f : Group → Result) : Result :=
  if s.faults.safe || s.contract.activation = 1 then s.idle else
  match s.group? m.slot with
  | none => s.idle
  | some g =>
    if g.members.length ≤ m.sender || m.sender == g.self || g.state < 2 then s.idle
    else if m.epoch < g.epoch then s.quiet (s.bump 0x2720 6 1)
    else if g.epoch < m.epoch then s.idle
    else f g

/-- VOTE (R399, R400): the steward collects it; the last has the target computed and ROLLBACK sent. -/
def execVote (m : SnapIn) (s : State) : Result :=
  s.onRound m fun g =>
    if g.round.isNone then s.idle
    else s.commit (s.takeVote m.slot m.sender ((List.range 4).map fun i => field m.body (8 * i) 8))

/-- ROLLBACK (R401, R402, R404): from the acting steward. -/
def execRollback (m : SnapIn) (s : State) : Result :=
  s.onRound m fun g =>
    if g.actingSteward != some m.sender then s.idle else s.commit (s.takeTarget m.slot m.arg)

/-- The granules of a mirror go to a promoted spare, then its cut record (R402); a granule that cannot be read ends the
stream. -/
def State.streamMirror (s : State) (x : SnapSet) (i member : Nat) (y : MirrorSlot) : List Nat → State
  | [] => s.snapSend x.slot member 0x02 y.step y.total (syncBody y.syncVals)
  | g :: rest =>
    match s.readCab x.cabinet (x.mirrorAddr i + g * 65536) 65536 with
    | .error e =>
      (match e.bad with
       | some u => s.reportUe u masterNone
       | none => s)
    | .ok bs => (s.snapSend x.slot member 0x01 y.step (g * 65536) bs).streamMirror x i member y rest

/-- PULL (R402): the holder streams its mirror of the step wanted; where the spare is also its buddy, its own mirror follows
(R403). -/
def execPull (m : SnapIn) (s : State) : Result :=
  s.onStage m fun g x _ =>
    match x.mirrors.findIdx? fun y => y.complete && y.step == m.arg with
    | none => s.idle
    | some i =>
      let y := x.mirrors.getD i default
      let s1 := s.streamMirror x i m.sender y (List.range (y.total / 65536))
      let both := g.buddy x.buddyStride == some m.sender
      match x.heldBuffers.find? fun b => (x.gen b).step == m.arg with
      | some b => s.commit (if both then s1.reMirror x.slot b else s1)
      | none => s.commit s1

/-- ROLLBACK_REQ (R399, R407): at the acting steward a request, which it relays and opens a round for; elsewhere the relay,
answered with a VOTE. -/
def execRollbackReq (m : SnapIn) (s : State) : Result :=
  s.onRound m fun g =>
    if g.actingSteward = some g.self then
      (if g.round.isSome then s.idle
       else s.commit ((g.others.foldl (fun (s : State) x => s.snapSend m.slot x 0x0A 0 0 []) s).beginRound m.slot))
    else if g.actingSteward = some m.sender then s.commit (s.sendVote m.slot)
    else s.idle

/-- VOTE_WAIT (R399): a member that has sent no VOTE is treated as lost, and voting restarts in the next epoch. -/
def execVoteWait (slot member : Nat) (s : State) : Result :=
  match s.group? slot with
  | none => s.idle
  | some g =>
    match g.round with
    | none => s.idle
    | some r =>
      if s.faults.safe || s.contract.activation = 1 || s.now < r.start + r.limit || !g.voters.contains member ||
          member = g.self || (r.votes.any fun v => v.1 == member) then s.idle
      else s.commit (s.confirmLoss slot member)

/-! ### Restore (R408 to R412) -/

/-- The fields of a restore block that are out of range (R408). -/
def restoreBlockBad (b : Bytes) : Bool :=
  field b 7 1 != 0 || !allZero (slice b 44 20) || 1048576 < field b 40 4 || field b 32 8 % 64 != 0

/-- A restore fails at a member: its set is ATTACHED again (R379, R410). -/
def State.failRestore (s : State) (slot : Nat) (e : Err) : State :=
  match s.set? slot with
  | none => s
  | some x =>
    let s1 := s.updSet slot fun x => { x with state := 1, restoreCtx := none }
    match x.restoreCtx with
    | some id => (s1.finishErr id e).bump 0x2820 7 1
    | none => s1

/-- The chosen step fills a member's ranges (R408, R411, R412). -/
def State.fillSet (s : State) (g : Group) (x : SnapSet) (id step : Nat) : Except Err State :=
  let p := oldPool x.restoreDraw x.restoreBlock
  match g.rankOf g.self with
  | none => .ok (s.finish id stOk step (snapArea {} step))
  | some rank =>
    match (List.range p.ranks).findSome? fun o => p.at? x o step with
    | none => .error (errRange 0)
    | some (_, m) =>
      if !(x.ranges.all fun r => r.describedBy m) then .error (errRange 0)
      else do
        let f ← p.fillRanges x g rank step m x.ranges { runs := [], zeroed := 0, escalated := 0 }
        let t ← s.writeAll x.cabinet f.runs
        let n : Counts := { escalated := f.escalated }
        let t1 := (x.syncList.foldl (fun (s : State) h => s.restoreSync h (0, false)) t).bump 0x2820 8 f.zeroed
        let gen := { t1.cutGen x g step with syncVals := x.syncList.map fun _ => (0, false) }
        pure ((t1.takeBuffer x.slot x.nextBuffer gen).finish id n.status step (snapArea n step))

/-- RESTORE_STEP at a member (R410, R411). -/
def State.takeRestore (s : State) (slot step : Nat) : Result :=
  match s.set? slot, s.group? slot with
  | some x, some g =>
    match x.restoreCtx with
    | none => s.idle
    | some id =>
      if step = 0 then
        s.commit (s.failRestore slot { status := stDigestMismatch, detail := x.restoreSteps })
      else match s.fillSet g x id step with
        | .error e => s.land (some id) (s.failRestore slot e)
        | .ok t => s.land (some id) ((t.updSet slot fun x => { x with state := 2, restoreCtx := none }).bump 0x2820 6 1)
  | _, _ => s.idle

/-- The verdicts that the steward waits for. -/
def Group.verdictsIn (g : Group) : Bool := g.rankMap.all fun m => g.verdicts.any fun v => v.1 == m

/-- A VERDICT reaches the steward (R409): the last has the step chosen and RESTORE_STEP sent; the steward fills its own
ranges too. -/
def State.takeVerdict (s : State) (slot member maxStep : Nat) (v : List (Nat × Nat)) : Result :=
  let s1 := s.updGroup slot fun g => { g with verdicts := putKey g.verdicts member v }
  match s1.group? slot with
  | none => s.idle
  | some g =>
    if !g.verdictsIn then s.commit s1
    else
      let step := chooseStep maxStep (g.verdicts.map (·.2))
      let s2 := g.others.foldl (fun (s : State) m => s.snapSend slot m 0x0C 0 step [])
        (s1.updGroup slot fun g => { g with verdicts := [] })
      match s2.takeRestore slot step with
      | .next t => s.land none t
      | o => o

/-- MAX_STEP of a slot's running SNAP_RESTORE (R377). -/
def State.restoreLimit (s : State) (x : SnapSet) : Nat :=
  match x.restoreCtx.bind s.ctx? with
  | some c => arg c.record 16 8
  | none => 0

/-- SNAP_RESTORE (R408 to R410): the member verifies its old ranks, writes its report, and sends VERDICT to the acting steward;
it ends at RESTORE_STEP. -/
def execSnapRestore (id : Nat) (s : State) : Result :=
  s.onSet id 0x3020 [(0, 9), (16, 8)] 8 (fun r => [(arg r 0 8 % 64 != 0, errAlign 0)]) fun c g x =>
    let stop := fun (e : Err) => s.commit (s.finishErr id e)
    if g.state != 2 then stop (errState 5 0x43)
    else if !(x.state == 1 || x.state == 2) then s.idle
    else match s.readCab c.cabinet (arg c.record 0 8) 64 with
      | .error e => stop e
      | .ok blk =>
        let pool := s.connOf? c.cabinet (field blk 24 4)
        if restoreBlockBad blk then stop (errRange 0)
        else if pool = some 6 then stop (errPlain stPeerTimeout)
        else if pool != some 3 then stop (errState 5 0x20)
        else
          let p := oldPool s.fresh blk
          let rank := g.rankOf g.self
          let v := match rank with
            | some r => p.verify x r g.ranks
            | none => { steps := [], report := [], rebuilt := 0 }
          let rep := if field blk 32 8 = 0 then [] else [(field blk 32 8, reportBytes (field blk 40 4) v.report)]
          match s.writeAll c.cabinet rep with
          | .error e => stop e
          | .ok t =>
            let t1 := ((t.drawn.updSet x.slot fun y => { y with
              state := 4, restoreCtx := some id, restoreBlock := blk, restoreDraw := s.fresh
              restoreSteps := v.steps.length }).updCtx id Ctx.startWait).bump 0x2820 9 v.rebuilt
            match rank, g.actingSteward with
            | some _, some m =>
              if m = g.self then
                (match t1.takeVerdict x.slot g.self (arg c.record 16 8) v.steps with
                 | .next u => s.land (some id) u
                 | o => o)
              else
                let body := toLe 2 v.steps.length ++ v.steps.flatMap fun q => toLe 8 q.1 ++ toLe 4 q.2 ++ zeros 4
                s.land (some id) (t1.snapSend x.slot m 0x0B 0 0 body)
            | _, _ => s.land (some id) t1

/-- VERDICT (R409). -/
def execVerdict (m : SnapIn) (s : State) : Result :=
  s.onStage m fun g x _ =>
    if g.actingSteward != some g.self || x.restoreCtx.isNone then s.idle
    else
      let v := (List.range (field m.body 0 2)).map fun i => (field m.body (2 + 16 * i) 8, field m.body (10 + 16 * i) 4)
      s.takeVerdict m.slot m.sender (s.restoreLimit x) v

/-- RESTORE_STEP (R410, R411): from the acting steward. -/
def execRestoreStep (m : SnapIn) (s : State) : Result :=
  s.onStage m fun g _ _ => if g.actingSteward != some m.sender then s.idle else s.takeRestore m.slot m.arg

end Sys2Proof.Machine
end

