-- ==== Sys2Proof/Machine/Reset.lean ====
section
/-! DEFINITION. Stopping a started command wherever it stands (R356, R370, R379, R413), and the end of a queue reset or deletion
(R82 to R84). -/

namespace Sys2Proof.Machine

/-! ### Stopping a command with all that it holds -/

/-- What a stopped command holds in the Collective and Snapshot engines: a GROUP_JOIN leaves its slot FREE (R333), a
SNAP_RESTORE its set ATTACHED (R379), a SNAP_CUT and a requested round nothing. -/
def State.unhold (s : State) (c : Ctx) : State :=
  let s1 := match s.coll.groups.find? fun g => g.joinCtx == some c.id with
    | some g => (s.putCab g.cabinet (g.descAddr + 48) (zeros 32)).leaveGroup g.slot
    | none => s
  let clear := fun (x : SnapSet) =>
    { x with
      state := if x.restoreCtx == some c.id then 1 else x.state
      restoreCtx := if x.restoreCtx == some c.id then none else x.restoreCtx
      cutCtx := if x.cutCtx == some c.id then none else x.cutCtx
      rollbackCtx := if x.rollbackCtx == some (c.queue, c.slot, none) then none else x.rollbackCtx }
  { s1 with snap := { s1.snap with sets := s1.snap.sets.map clear } }

/-- DETAIL in reset form: the running rung, and its incident's source and number; both 0 of a rung that is part of no incident
(R613). -/
def State.rungDetail (s : State) : Nat :=
  match s.faults.openInc with
  | none => 0x81 * 2 ^ 56
  | some inc =>
    0x81 * 2 ^ 56 + s.e 0x2F03 0 * 2 ^ 48 + (if inc.firstSource = 256 then 0 else inc.firstSource * 2 ^ 32 + inc.number)

/-- Whether the running rung has caught a command (R612). -/
def State.caught (s : State) (id : Nat) : Bool := s.faults.granulesDone.any fun p => p.1 == id

/-- A started command stops with a status; a collective that runs is abandoned (R356), its group stays ACTIVE (R370).  A command
that a rung has caught ends as the rung has it (R623). -/
def State.stopFull (s : State) (id st0 detail0 : Nat) (vanish : Bool) : State :=
  let st := if s.caught id then stDiscardedReset else st0
  let detail := if s.caught id then s.rungDetail else detail0
  match s.ctx? id with
  | none => s
  | some c =>
    match s.coll.groups.find? fun g => (g.op.map (·.ctx)) == some id with
    | some g =>
      let s1 := (s.failColl g.slot st detail true).unhook id
      (match s1.ctx? id with
       | some c1 => s1.completeCtx c1 vanish
       | none => s1)
    | none => (s.unhold c).stopCtx id st detail vanish

/-- Several started commands stop, oldest first. -/
def State.stopEach (s : State) (ids : List Nat) (st detail : Nat) (vanish : Bool) : State :=
  ids.foldl (fun s id => s.stopFull id st detail vanish) s

/-- The sets that list a queue find their marks void (R413). -/
def State.voidMarks (s : State) (h : Nat) : State :=
  let mark := fun (x : SnapSet) => if x.queueList.contains h then { x with marksVoid := true } else x
  { s with snap := { s.snap with sets := s.snap.sets.map mark } }

/-- The groups of a queue that is deleted leave (R342, R343). -/
def State.leaveGroupsOf (s : State) (qi : Nat) : State :=
  (s.coll.groups.filter fun g => g.queue == qi).foldl (fun (s : State) g =>
    (((s.endOpExpelled g.slot).sendMembers g.slot g.others none (g.message 0x25 [])).leaveGroup g.slot)) s

/-! ### The end of a queue reset or deletion -/

/-- The QUEUE_RESETs and QUEUE_DELETEs that wait for a queue end with OK. -/
def State.endQueueWaits (s : State) (h : Nat) : State :=
  (((s.contract.ctxs.filter fun c => c.waiting && !c.finished &&
      (isCommand 0xF012 s c || isCommand 0xF013 s c) && arg c.record 0 4 == h).map (·.id))).foldl
    (fun s id => s.finishOk id 0) s

/-- A submission queue's reset is done: HEAD and SQ_TAIL are 0, and it is RUNNING (R82), or SUSPENDED while a suspension
cause holds (R77). -/
def Queue.afterReset (q : Queue) : Queue :=
  { q.newHead with
    head := 0, tail := 0, state := if q.suspended then 3 else 1, recorded := 1, resetWithCq := false }

/-- A completion queue returns to its creation values (R82). -/
def Queue.freshCq (q : Queue) : Queue :=
  { q with head := 0, tail := 0, phase := true, state := 1, held := [], faultReported := false }

/-- Everything a queue in RESETTING or DELETING still has is discarded with DISCARDED_RESET (R82). -/
def State.discardQueue (s : State) (q : Queue) : State :=
  let ids := (s.started q.index).map (·.id)
  let s1 := s.stopEach ids stDiscardedReset 0 q.resetWithCq
  s1.discardPlaced q stDiscardedReset 0 q.resetWithCq q.head 0 ((q.resetTail + q.size - q.head) % q.size)

/-- QUEUE_RESET_COMPLETE (R82, R84): the commands of a queue in RESETTING or DELETING complete with DISCARDED_RESET, or
vanish with its completion queue; then the queue is RUNNING and empty, or UNCONFIGURED. -/
def execQueueResetComplete (qi : Nat) (s : State) : Result :=
  match s.queue? qi with
  | none => s.idle
  | some q =>
    if s.faults.safe || !(q.state == 4 || q.state == 5) then s.idle else
    if q.kind != 1 then
      (if q.state = 5 then s.commit ((s.removeQueue qi).endQueueWaits (queueHandle q.cabinet qi)) else s.idle)
    else
      let h := queueHandle q.cabinet qi
      let s1 := (s.discardQueue q).voidMarks h
      let s2 := if q.state = 5 then (s1.leaveGroupsOf qi).removeQueue qi else s1.updQueue qi Queue.afterReset
      let s3 := if q.resetWithCq then s2.updQueue q.cq Queue.freshCq else s2
      s.commit (s3.endQueueWaits h)

/-- QUEUE_RESET_TIMEOUT (R83): a reset still incomplete after 1 ms escalates to the engine rung on the instance of its
oldest started command; the rung is part of no incident (R613). -/
def execQueueResetTimeout (qi : Nat) (s : State) : Result :=
  match s.queue? qi with
  | none => s.idle
  | some q =>
    if s.faults.safe || !(q.state == 4 || q.state == 5) || s.now < q.resetStart + 1000000 then s.idle else
    match s.started qi with
    | [] => s.idle
    | c :: _ => s.commit (s.addIncident (newIncident 256 0 0 (s.ctxMaster c) 2 (some c.id)))

end Sys2Proof.Machine
end

