-- ==== Sys2Proof/Machine/Ports.lean ====
section
/-! DEFINITION. The host port and the accelerator ports (R451 to R485): configuration space, the function block in BAR0,
the GDDR7 aperture, the completions of DMA reads, peer windows, IDE streams and links. -/

namespace Sys2Proof.Machine

/-- One result, then the next command part on the state it answers. -/
def Result.andThen (r : Result) (f : State → Result) : Result :=
  match r with
  | .next t => f t
  | .fault x => .fault x
  | .refused x => .refused x

/-! ### Configuration space (R452, R453, R467) -/

/-- Bus Master Enable of a function changes (R467): cleared, its host requests are cut; set, what was held goes out; in the
hardware safe state nothing goes out (R602). -/
def State.setBme (s : State) (cab : Nat) (v : Bool) : State :=
  if (s.fn cab).bme == v then s
  else
    let s1 := s.setFn cab fun f => { f with bme := v }
    if s.faults.safe then s1 else if v then s1.liftFence cab else s1.cutHost cab stBusMasterOff

/-- Whether a function takes configuration requests: it exists, no FLR of it runs (R468), and the chip is neither in DEEP
nor waking (R594). -/
def State.configTaken (s : State) (cab : Nat) : Bool :=
  s.fnEnabled cab && (s.fn cab).flr.isNone && s.e 0x2E05 0 != 3 && s.e 0x2E05 0 != 4

/-- A base address with one half written; bits below the size read as 0 (R453). -/
def writeBase (log2 old : Nat) (high : Bool) (v : Nat) : Nat :=
  let x := if high then v * 2 ^ 32 + old % 2 ^ 32 else old / 2 ^ 32 * 2 ^ 32 + v
  x / 2 ^ log2 * 2 ^ log2

/-- The log2 of the size of a function's BAR0 (R453). -/
def bar0Log2 (cab : Nat) : Nat := if cab = 0 then 21 else 17

/-- MSI-X message control is written: vectors that were held by Function Mask alone go out. -/
def State.setMsix (s : State) (cab : Nat) (enable masked : Bool) : State :=
  let s1 := s.setFn cab fun f => { f with msixEnable := enable, msixAllMasked := masked }
  (s1.fn cab).pba.foldl (fun s v => s.releaseVector cab v) s1

/-- A configuration register of the PF's own: Device Control, Link Control, Device Control 2, SR-IOV and Resizable BAR
(R452, R462, R464, R466); the places of the capability registers are the model's (notes/assumptions/22.md). -/
def State.writePf (s : State) (reg v : Nat) : State :=
  let p := s.ports
  let set (q : Ports) : State := { s with ports := q }
  if reg = 0x18 then set { p with bar2 := writeBase p.bar2Log2 p.bar2 false v }
  else if reg = 0x1C then set { p with bar2 := writeBase p.bar2Log2 p.bar2 true v }
  else if reg = 0x78 then
    set { p with maxPayload := 128 * 2 ^ min (bits v 7 5) 5, maxReadReq := 128 * 2 ^ min (bits v 14 12) 5 }
  else if reg = 0x80 then set { p with rcb := if bit v 3 then 128 else 64 }
  else if reg = 0x98 then set { p with devCtl2 := bits v 3 0 }
  else if reg = 0x208 then set { p with vfEnable := bit v 0 }
  else if reg = 0x210 then (if p.vfEnable then s else set { p with numVfs := min (v % 65536) (s.e 0x2A00 5) })
  else if reg = 0x224 then set { p with vfBar0 := writeBase 17 p.vfBar0 false v }
  else if reg = 0x228 then set { p with vfBar0 := writeBase 17 p.vfBar0 true v }
  else if reg = 0x308 then
    (if (s.fn 0).mse || bits v 13 8 < 8 || 16 < bits v 13 8 then s
     else
      let n := 20 + bits v 13 8
      set { p with bar2Log2 := n, bar2 := p.bar2 / 2 ^ n * 2 ^ n })
  else s.setFn 0 fun f => { f with config := putKey f.config reg (BitVec.ofNat 32 v) }

/-- A configuration write takes effect (R452). -/
def State.writeConfig (s : State) (cab reg v : Nat) : State :=
  if reg = 0x04 then (s.setFn cab fun f => { f with mse := bit v 1 }).setBme cab (bit v 2)
  else if reg = 0x10 then (if cab = 0 || cab = 4095 && s.ports.hostSplit then
    s.setFn cab fun f => { f with bar0 := writeBase (bar0Log2 cab) f.bar0 false v } else s)
  else if reg = 0x14 then (if cab = 0 || cab = 4095 && s.ports.hostSplit then
    s.setFn cab fun f => { f with bar0 := writeBase (bar0Log2 cab) f.bar0 true v } else s)
  else if reg = 0x40 then s.setFn cab fun f =>
    { f with dstate := if bits v 1 0 = 3 then 3 else if bits v 1 0 = 0 then 0 else f.dstate }
  else if reg = 0xB0 then s.setMsix cab (bit v 31) (bit v 30)
  else if reg = 0x104 then s.setFn cab fun f => { f with aerStatus := f.aerStatus &&& ~~~(BitVec.ofNat 32 v) }
  else if cab = 0 then
    (if reg = 0x98 then (s.writePf reg v).setFn 0 fun f => { f with atomicEnable := bit v 6 } else s.writePf reg v)
  else if reg = 0x98 then s.setFn cab fun f => { f with atomicEnable := bit v 6 }
  else s.setFn cab fun f => { f with config := putKey f.config reg (BitVec.ofNat 32 v) }

/-- CONFIGURATION_WRITE (R452, R453, R467): a register of a function's configuration space takes its value. -/
def execConfigurationWrite (cab reg : Nat) (value : BitVec 32) (s : State) : Result :=
  if !s.configTaken cab then s.idle else s.commit (s.writeConfig cab reg value.toNat)

/-- BUS_MASTER_ENABLE (R467). -/
def execBusMasterEnable (cab : Nat) (enabled : Bool) (s : State) : Result :=
  if !s.configTaken cab then s.idle else s.commit (s.setBme cab enabled)

/-! ### The function block (R454 to R460) -/

/-- The event status and enables of a function change: the message is sent when the enabled status becomes nonzero
(R458). -/
def State.setEvents (s : State) (cab status enable : Nat) : State :=
  let f := s.fn cab
  let s1 := s.setFn cab fun f => { f with evStatus := status, evEnable := enable }
  if (f.evStatus &&& f.evEnable) == 0 && (status &&& enable) != 0 then s1.sendMsix cab f.evVector else s1

/-- An event register is written (R457). -/
def State.writeEvent (s : State) (cab o v : Nat) : State :=
  let f := s.fn cab
  let mask := if cab = 0 then 15 else 5
  if o = 0 then s.setEvents cab (f.evStatus &&& (15 - bits v 3 0)) f.evEnable
  else if o = 4 then s.setEvents cab f.evStatus (bits v 3 0 &&& mask)
  else if o = 8 then s.setFn cab fun f => { f with evVector := if cab = 0 then bits v 10 0 else bits v 5 0 }
  else s

/-- The response to a request of wrong length (R460). -/
def badMailbox : Bytes := [0x14, 0x80, 0, 0, 0, 0, 0, 5, 0, 0, 0, 0, 0, 0, 0, 0]

/-- A request of wrong length is answered at once (R460). -/
def State.refuseMailbox (s : State) (cab : Nat) : State :=
  let s1 := (s.bump 0x1006 2 1).bump 0x1006 3 1
  let s2 := { s1 with steral := { s1.steral with
    responses := { transport := if cab = 0 then 3 else 4, source := cab, bytes := badMailbox } :: s1.steral.responses } }
  (s2.setFn cab fun f => { f with response := fit 4080 badMailbox, respLen := 16, go := false }).raiseEvent cab 0

/-- A mailbox register is written (R459, R460). -/
def State.writeMailbox (s : State) (cab o v : Nat) : State :=
  let f := s.fn cab
  if f.go then s
  else if o < 0xFF0 then s.setFn cab fun f => { f with request := putBytes (fit 4080 f.request) o (toLe 4 v) }
  else if o = 0xFF0 then s.setFn cab fun f => { f with reqLen := bits v 12 0 }
  else if o = 0xFF4 && bit v 0 then
    (if f.reqLen = 0 || 4080 < f.reqLen then s.refuseMailbox cab else s.setFn cab fun f => { f with go := true })
  else s

/-- An MSI-X table entry is written (R454): a pending vector that its mask held goes out. -/
def State.writeMsix (s : State) (cab o v : Nat) : State :=
  let n := o / 16
  let old := ((s.fn cab).msixEntry n).toNat
  let i := 32 * (o % 16 / 4)
  let new := old - bits old (i + 31) i * 2 ^ i + v * 2 ^ i
  (s.setFn cab fun f => { f with msixTable := putKey f.msixTable n (BitVec.ofNat 128 new) }).releaseVector cab n

/-- A signal-page register is written (R67): VALUE and HANDLE are latched for the requester, OP applies. -/
def State.writeSignal (s : State) (cab requester o v : Nat) : Result :=
  let l := s.latchOf cab requester
  if o = 0 then s.quiet (s.setLatch { l with value := BitVec.ofNat 64 (l.value.toNat / 2 ^ 32 * 2 ^ 32 + v) })
  else if o = 4 then s.quiet (s.setLatch { l with value := BitVec.ofNat 64 (l.value.toNat % 2 ^ 32 + v * 2 ^ 32) })
  else if o = 8 then s.quiet (s.setLatch { l with handle := v })
  else if o = 12 then s.signalPage cab requester v
  else s.idle

/-- A doorbell of an NVMe queue is written (R488): queue q uses page P − 1 − q; the tail of its submission queue, the head of
its completion queue. -/
def State.nvmeDoorbell (s : State) (cab o v : Nat) : State :=
  match s.ctrl? cab with
  | none => s
  | some c =>
    let q := pagesOf cab - 1 - o / 64
    if !c.enabled || c.granted < q then s
    else if o % 64 = 0 then
      (match c.queue q false with
       | none => s.badDoorbell
       | some p =>
         if p.size ≤ v % 65536 then s.badDoorbell else
         s.updCtrl cab (NvmeCtrl.updQueue q false fun p =>
           { p with tail := v % 65536, readyAt := if p.readyAt.isSome || p.head = v % 65536 then p.readyAt else some s.now }))
    else if o % 64 = 4 then
      (match c.queue q true with
       | none => s.badDoorbell
       | some p =>
         if p.size ≤ v % 65536 then s.badDoorbell
         else (s.updCtrl cab (NvmeCtrl.updQueue q true fun p => { p with head := v % 65536 })).retryCqes cab)
    else s

/-- A doorbell page is written (R55, R488). -/
def State.writeDoorbell (s : State) (cab o v : Nat) : Result :=
  match s.contract.queues.find? fun q => q.cabinet == cab && q.page == o / 64 with
  | none => if s.cabServed cab then s.commit (s.nvmeDoorbell cab o v) else s.quiet s.badDoorbell
  | some q =>
    if o % 64 = 0 then execSqTail cab q.index (v % 65536) s
    else if o % 64 = 4 then execCqHead cab q.index (v % 65536) s
    else if o % 64 = 8 then
      let r := if bit v 1 then execReset cab q.index s else s.idle
      r.andThen fun t => if bit v 0 then execResume cab q.index t else t.idle
    else s.idle

/-- Where the regions of a function block begin: signal page, event registers, mailbox, MSI-X table, and the end of that
table (R454). -/
def blockLayout (cab : Nat) : Nat × Nat × Nat × Nat × Nat :=
  if cab = 0 then (0x100000, 0x101000, 0x102000, 0x110000, 0x118000) else (0x10000, 0x11000, 0x12000, 0x14000, 0x14400)

/-- One 4-byte word of a function block is written (R454). -/
def State.writeBlock (s : State) (cab o v : Nat) : Result :=
  let (sig, ev, mb, tab, tabEnd) := blockLayout cab
  if o < sig then s.writeDoorbell cab o v
  else if o < ev then s.writeSignal cab 0 (o - sig) v
  else if o < mb then s.commit (s.writeEvent cab (o - ev) v)
  else if o < mb + 0x2000 then s.commit (s.writeMailbox cab (o - mb) v)
  else if tab ≤ o && o < tabEnd then s.commit (s.writeMsix cab (o - tab) v)
  else s.idle

/-- A run of 4-byte words of a function block is written, lowest first. -/
def State.writeWords (s : State) (cab o v : Nat) : Nat → Result
  | 0 => s.idle
  | n + 1 => (s.writeBlock cab o (v % 2 ^ 32)).andThen fun t => t.writeWords cab (o + 4) (v / 2 ^ 32) n

/-- Whether an access to a function block has a form that the ZX9 accepts (R456). -/
def accessForm (cab o len : Nat) : Bool :=
  ((len == 4 || len == 8) && o % len == 0) || (len == 16 && o == (blockLayout cab).1)

/-- REGISTER_WRITE (R454 to R460): a register of a function's BAR0 is written; any other form of access is dropped and
counted (R456). -/
def execRegisterWrite (cab offset len value : Nat) (s : State) : Result :=
  if s.bar0Drops cab || !s.fnEnabled cab then s.idle
  else if !accessForm cab offset len then s.quiet s.badDoorbell
  else s.writeWords cab offset value (len / 4)

/-! ### The GDDR7 aperture (R461, R462) -/

/-- The device address of an aperture offset (R461). -/
def State.apertureAddr (s : State) (o : Nat) : Nat := gddrBase + s.e 0x2A01 0 + o

/-- Whether an access lies inside BAR2. -/
def State.inAperture (s : State) (o n : Nat) : Bool := n != 0 && o + n ≤ 2 ^ s.ports.bar2Log2

/-- Where the next completion of a read ends: at the last Read Completion Boundary that Max_Payload_Size reaches (R462). -/
def State.completionLen (s : State) (a n : Nat) : Nat :=
  let m := max s.ports.maxPayload 1
  let r := max s.ports.rcb 1
  if n ≤ m then n
  else if a < (a + m) / r * r then (a + m) / r * r - a else m

/-- The completions of a read, in address order; fuel bounds their number. -/
def State.completions (s : State) (a : Nat) (bs : Bytes) : Nat → List Bytes
  | 0 => []
  | n + 1 =>
    if bs.isEmpty then [] else
    let k := s.completionLen a bs.length
    bs.take k :: s.completions (a + k) (bs.drop k) n

/-- Completions are sent on a link. -/
def State.complete (s : State) (link status : Nat) (ds : List Bytes) : State :=
  { s with ports := { s.ports with
      completionsOut := (ds.map fun d => (link, status, d)).reverse ++ s.ports.completionsOut } }

/-- A read is answered with Completer Abort, which is counted (R462, R480). -/
def State.abortRead (s : State) (link : Nat) : State := (s.bump 0x2A06 3 1).complete link 4 [[]]

/-- APERTURE_READ (R461, R462); in the hardware safe state it completes with Completer Abort (R602). -/
def execApertureRead (offset len : Nat) (s : State) : Result :=
  if !s.inAperture offset len then s.idle
  else if s.faults.safe then s.quiet (s.complete 0 4 [[]]) else
  let a := s.apertureAddr offset
  if !(s.inGddr a && s.inGddr (a + len - 1)) then
    s.quiet ((s.note (sourceOf a) 0x02 a (masterFn 0) 0).abortRead 0)
  else match s.badUnit a len with
    | some u => s.quiet ((s.reportUe u (masterFn 0)).abortRead 0)
    | none => s.quiet (s.complete 0 0 (s.completions a (s.readDev a len) len))

/-- APERTURE_WRITE (R461): the bytes land in GDDR7 through the write tracking, or wait for the granule they meet
(R384). -/
def execApertureWrite (offset : Nat) (data : Bytes) (s : State) : Result :=
  if s.faults.safe || !s.inAperture offset data.length then s.idle else
  let a := s.apertureAddr offset
  if !(s.inGddr a && s.inGddr (a + data.length - 1)) then s.quiet (s.note (sourceOf a) 0x02 a (masterFn 0) 1)
  else s.land none (s.store a data)

/-! ### Completions of DMA reads (R464 to R466) -/

/-- Whether a link exists: 0 HP or HP0, 1 HP1 in mode 1, 2 + n APn. -/
def State.linkExists (s : State) (link : Nat) : Bool := link = 0 || (link = 1 && s.ports.hostSplit) || (2 ≤ link && link < 10)

/-- The outstanding request of a tag. -/
def State.request? (s : State) (link tag : Nat) : Option Request :=
  s.ports.requests.find? fun r => r.link == link && r.tag == tag

/-- The state without the request of a tag. -/
def State.dropRequest (s : State) (link tag : Nat) : State :=
  { s with ports := { s.ports with requests := s.ports.requests.filter fun r => !(r.link == link && r.tag == tag) } }

/-- A piece of a request's data has arrived: the request is over with its last byte. -/
def State.gotPiece (s : State) (r : Request) (n : Nat) : State :=
  if r.left ≤ n then s.dropRequest r.link r.tag
  else { s with ports := { s.ports with
    requests := updWhere (fun (x : Request) => x.link == r.link && x.tag == r.tag) (fun x => { x with left := x.left - n })
      s.ports.requests } }

/-- Whether a completion's Byte Count and Lower Address place its data inside the request (R464). -/
def Request.fits (r : Request) (byteCount lowerAddr n : Nat) : Bool :=
  0 < n && n ≤ byteCount && byteCount ≤ r.len && n ≤ r.left && (r.addr + (r.len - byteCount)) % 128 == lowerAddr

/-- A piece of data goes to its place (R464), or ends its command where it may not be written. -/
def State.placePiece (s : State) (r : Request) (id byteCount : Nat) (data : Bytes) : State :=
  let a := r.dest + (r.len - byteCount)
  match s.reach r.cabinet a data.length .write with
  | .error e => (s.dropRequest r.link r.tag).finishErr id e
  | .ok _ =>
    (((s.putCab r.cabinet a data).gotPiece r data.length).updCtx id fun c => { c with lastProgress := s.now }).readOn id

/-- COMPLETION_RECEIVED (R464 to R466): its data is placed; a failure or a poisoned completion ends the command (R465); one
for a tag without a request is discarded and counted (R466); one for a command that has been cut is discarded (R467). -/
def execCompletionReceived (link tag status : Nat) (poisoned : Bool) (byteCount lowerAddr : Nat) (data : Bytes) (s : State) :
    Result :=
  if !s.linkExists link then .fault .noSuchUnit
  else if s.faults.safe then s.idle
  else match s.request? link tag with
    | none => s.quiet (s.bump 0x2A06 1 1)
    | some r =>
      match r.ctx with
      | none => s.quiet (if status != 0 || poisoned then s.dropRequest link tag else s.gotPiece r data.length)
      | some id =>
        if status != 0 then s.commit (s.failRequest r stAccessFault r.source)
        else if poisoned then s.commit ((s.bump 0x2A06 2 1).failRequest r stEccUncorrectable (r.device + (r.len - byteCount)))
        else if !r.fits byteCount lowerAddr data.length then s.quiet (s.bump 0x2A06 1 1)
        else s.land (some id) (s.placePiece r id byteCount data)

/-- COMPLETION_TIMEOUT (R465, R466): the command ends, and the tag rests for the same time again. -/
def execCompletionTimeout (link tag : Nat) (s : State) : Result :=
  if !s.linkExists link then .fault .noSuchUnit
  else match s.request? link tag with
    | none => s.idle
    | some r =>
      if s.faults.safe || s.now < r.issuedAt + r.timeout then s.idle else
      let s1 := s.bump 0x2A06 0 1
      let s2 := { s1 with ports := { s1.ports with retiredTags := s1.ports.retiredTags ++ [(link, tag, s.now + r.timeout)] } }
      s.commit (s2.failRequest r stAccessFault r.source)

/-- TAG_REUSE_TIMEOUT (R466): the tag may be used again. -/
def execTagReuseTimeout (link tag : Nat) (s : State) : Result :=
  if !s.linkExists link then .fault .noSuchUnit
  else s.quiet { s with ports := { s.ports with
    retiredTags := s.ports.retiredTags.filter fun t => !(t.1 == link && t.2.1 == tag && t.2.2 ≤ s.now) } }

/-! ### Peer windows (R478 to R482) -/

/-- The active window of a port (R481). -/
def State.activeWin (s : State) (port w : Nat) : PeerWin := peerWin (s.e (0x2A48 + port) w)

/-- The lowest-numbered enabled window of a port that holds an address (R479). -/
def State.windowOf (s : State) (port x : Nat) : Option PeerWin :=
  ((List.range 64).map (s.activeWin port)).find? fun w => w.kind != 0 && w.base ≤ x && x < w.base + 2 ^ w.log2Size

/-- Whether a window's rights allow a TLP (R478). -/
def PeerWin.allows (w : PeerWin) (kind : Nat) : Bool :=
  if kind = 0 then bit w.rights 1 else if kind = 1 then bit w.rights 0 else bit w.rights 2

/-- A TLP that the ZX9 cannot serve (R480): posted, it is dropped; else its completion says so; both are counted and
reported. -/
def State.refuseTlp (s : State) (t : Tlp) (status : Nat) : State :=
  let s1 := (s.bump 0x2A06 (if status = 1 then 4 else 3) 1).note 13 0x03 t.addr (0x4000 + t.port) (b2n (t.kind == 0))
  if t.kind = 0 then s1 else s1.complete (2 + t.port) status [[]]

/-- The value an AtomicOp leaves (R480): FetchAdd, Swap, CAS. -/
def newValue (t : Tlp) (old : Nat) : Nat :=
  let x := field t.data 0 8
  if t.kind = 2 then (old + x) % 2 ^ 64 else if t.kind = 3 then x else if old = x then field t.data 8 8 else old

/-- The bytes that a write stores: those of a poisoned one are undefined. -/
def State.tlpData (s : State) (t : Tlp) : Bytes := if t.poisoned then s.undefinedBytes t.data.length else t.data

/-- A TLP that reaches cabinet memory (R479, R480). -/
def State.peerMemory (s : State) (t : Tlp) (cab a : Nat) : Result :=
  let need := if t.kind = 0 then Need.write else if t.kind = 1 then Need.read else Need.atomic
  let n := if t.kind = 0 then t.data.length else t.len
  if n = 0 then s.idle else
  match s.reach cab a n need with
  | .error _ => s.quiet (s.refuseTlp t 4)
  | .ok ps =>
    if t.kind = 0 then s.land none { s.putCab cab a (s.tlpData t) with fresh := s.fresh + 1 }
    else match s.badPiece ps with
      | some u => s.quiet ((s.reportUe u (0x4000 + t.port)).refuseTlp t 4)
      | none =>
        let old := s.readPieces ps
        if t.kind = 1 then s.quiet (s.complete (2 + t.port) 0 [old])
        else if (ps.any fun p => (s.linkOf p.1).isSome) && s.freeValue % 2 = 0 then
          s.quiet ((s.drawn).complete (2 + t.port) 1 [[]])
        else s.land none ({ s.putCab cab a (toLe 8 (newValue t (leNat old))) with fresh := s.fresh + 1 }.complete (2 + t.port) 0 [old])

/-- A TLP that is forwarded to a peer port (R479, R484): a port that is down or that may send nothing fails it. -/
def State.peerForward (s : State) (t : Tlp) (port a : Nat) : Result :=
  let n := if t.kind = 0 then t.data.length else t.len
  let dev := accelBase + port * accelSize + a
  if n = 0 then s.idle
  else if accelSize ≤ a || (s.linkErr 0 dev n .write).isSome then s.quiet (s.refuseTlp t 4)
  else if t.kind = 0 then s.land none { s.store dev (s.tlpData t) with fresh := s.fresh + 1 }
  else
    let old := s.readDev dev n
    if t.kind = 1 then s.quiet (s.complete (2 + t.port) 0 [old])
    else if s.freeValue % 2 = 0 then s.quiet (s.drawn.complete (2 + t.port) 1 [[]])
    else s.land none ({ s.store dev (toLe 8 (newValue t (leNat old))) with fresh := s.fresh + 1 }.complete (2 + t.port) 0 [old])

/-- The words of a write to a signal page, lowest first. -/
def State.signalWords (s : State) (cab requester o : Nat) (bs : Bytes) : Nat → Result
  | 0 => s.idle
  | n + 1 => (s.writeSignal cab requester o (leNat (bs.take 4))).andThen fun t => t.signalWords cab requester (o + 4) (bs.drop 4) n

/-- A TLP that reaches a signal page (R479, R456): reads return 0; accelerator n is requester n + 1. -/
def State.peerSignal (s : State) (t : Tlp) (cab o : Nat) : Result :=
  let n := if t.kind = 0 then t.data.length else t.len
  let form := ((n == 4 || n == 8) && o % n == 0) || (n == 16 && o == 0)
  if t.kind = 0 then
    (if form then s.signalWords cab (t.port + 1) o (s.tlpData t) (n / 4) else s.quiet s.badDoorbell)
  else if n = 16 || !form then s.quiet (s.refuseTlp t 4)
  else s.quiet (s.complete (2 + t.port) 0 [zeros n])

/-- A TLP is translated and served (R479, R480). -/
def State.serveTlp (s : State) (t : Tlp) : Result :=
  match s.windowOf t.port t.addr with
  | none => s.quiet (s.refuseTlp t 1)
  | some w =>
    let atomic := 2 ≤ t.kind
    if t.addrType != 0 || !w.allows t.kind || (atomic && (t.len != 8 || w.kind == 3)) then s.quiet (s.refuseTlp t 1)
    else
      let a := w.target + (t.addr - w.base)
      if w.kind = 1 then s.peerMemory t w.cabinet a
      else if w.kind = 2 then s.peerForward t w.peerPort a
      else s.peerSignal t w.cabinet a

/-- The state of an IDE stream: 0 unset, 1 key programmed, 2 Secure, 3 Insecure. -/
def State.ideState (s : State) (link stream : Nat) : Nat :=
  match s.ports.ide.find? fun i => i.link == link && i.stream == stream with
  | some i => i.state
  | none => 0

/-- The state with an IDE stream's state replaced. -/
def State.setIde (s : State) (link stream st : Nat) : State :=
  { s with ports := { s.ports with
      ide := { link := link, stream := stream, state := st } :: s.ports.ide.filter fun i => !(i.link == link && i.stream == stream) } }

/-- A request that a port does not take (R472, R602): a posted one is dropped, any other gets Unsupported Request. -/
def State.declineTlp (s : State) (t : Tlp) : Result :=
  if t.kind = 0 then s.idle else s.quiet (s.complete (2 + t.port) 1 [[]])

/-- PEER_TLP (R471, R472, R479, R480); in the hardware safe state it gets Unsupported Request (R602). -/
def execPeerTlp (t : Tlp) (s : State) : Result :=
  if 8 ≤ t.port then .fault .noSuchUnit
  else if 4 < t.kind then s.idle
  else if s.faults.safe then s.declineTlp t
  else
    let link := 2 + t.port
    let st := s.ideState link t.ideStream
    if st = 3 then s.idle
    else if st = 2 && !t.ideOk then
      s.quiet (((s.setIde link t.ideStream 3).bump 0x2A06 5 1).note 13 0x03 t.addr (0x4000 + t.port) (b2n (t.kind == 0)))
    else if s.e 0x2A05 1 = 1 && s.ideState link 0 != 2 then
      s.declineTlp t
    else s.serveTlp t

/-- WINDOW_GEN's effect (R481): the shadow set becomes the active set, all windows at once. -/
def actWindowGen : ActEffect := fun r s =>
  let s1 := (List.range 64).foldl (fun (s : State) w => s.put (0x2A48 + r.sub) w (s.e (0x2A40 + r.sub) w)) s
  .ok (s1.put 0x2A50 r.sub (reqVal r), false)

/-- WINDOW_GEN (R481). -/
def execWindowGen (r : ActReq) (s : State) : Result := s.act r 0x2A50 r.sub actWindowGen

/-! ### IDE and links (R470 to R477) -/

/-- IDE_KM (R470): KEY_PROG, K_SET_GO and K_SET_STOP, as PCIe IDE defines them, for the Link IDE stream of a link or a
selective stream of HP (notes/assumptions/23.md). -/
def execIdeKm (link : Nat) (message : Bytes) (s : State) : Result :=
  if !s.linkExists link then .fault .noSuchUnit else
  let obj := field message 0 1
  let stream := field message 3 1
  let st := s.ideState link stream
  if s.faults.safe || stream > (if link ≤ 1 then 4 else 0) then s.idle
  else if obj = 2 then s.quiet (s.setIde link stream (if st = 2 then 2 else 1))
  else if obj = 4 && st = 1 then s.quiet (s.setIde link stream 2)
  else if obj = 5 && st = 2 then s.quiet (s.setIde link stream 3)
  else s.idle

/-- The speed and the width that a link is to train to at the present stage (R474). -/
def State.linkTarget (s : State) (link : Nat) : Nat × Nat :=
  if 2 ≤ link then (s.e 0x2A02 (link - 2), 16)
  else if s.e 0x1003 0 = 0 then (1, 1)
  else (7, if s.ports.hostSplit then 8 else 16)

/-- The speed and width that a link reports. -/
def State.reportLink (s : State) (link speed width : Nat) : State :=
  let s1 := { s with ports := { s.ports with
    linkState := (if speed = 0 then [] else [(link, speed, width)]) ++ s.ports.linkState.filter fun (l : Nat × Nat × Nat) => l.1 != link } }
  if link = 0 then (s1.put 0x2A00 1 speed).put 0x2A00 2 width
  else if link = 1 then (s1.put 0x2A00 3 speed).put 0x2A00 4 width
  else (s1.put 0x2A03 (link - 2) speed).put 0x2A04 (link - 2) width

/-- Whether a link may train: its reset pin is high and its stage has come (R474, R659). -/
def State.mayTrain (s : State) (link : Nat) : Bool :=
  if 2 ≤ link then 2 ≤ s.e 0x1003 0 && s.pins.apPerstN.getD (link - 2) true
  else s.pins.perstN.getD link true && (link = 0 || 1 ≤ s.e 0x1003 0)

/-- LINK_TRAINED (R474, R475, R477): the link reports what it reached, LINK_DEGRADED when that is below its target; the
firmware enumerates an accelerator, whose populated bytes are its own. -/
def execLinkTrained (link speed width : Nat) (s : State) : Result :=
  if !s.linkExists link then .fault .noSuchUnit
  else if s.faults.safe || !s.mayTrain link || speed = 0 then s.idle
  else
    let (ts, tw) := s.linkTarget link
    let s1 := s.reportLink link speed width
    let s2 := if 2 ≤ link then
        { s1.drawn with ports := { s1.ports with
          apBytes := updAt (link - 2) (fun _ => s.freeValue % (accelSize + 1)) s1.ports.apBytes } }
      else s1
    s.commit (if speed < ts || width < tw then s2.raiseEvent 0 3 else s2)

/-- A link goes down: an accelerator's outstanding requests end (R477), its window is unpopulated, its streams are
unset. -/
def State.linkLost (s : State) (link : Nat) : State :=
  let s1 := (s.reportLink link 0 0).raiseEvent 0 3
  let s2 := { s1 with ports := { s1.ports with ide := s1.ports.ide.filter fun i => i.link != link } }
  if link < 2 then s2
  else
    let s3 := { s2 with ports := { s2.ports with apBytes := updAt (link - 2) (fun _ => 0) s2.ports.apBytes } }
    (s3.ports.requests.filter fun r => r.link == link).foldl (fun s r => s.failRequest r stAccessFault r.source) s3

/-- LINK_DOWN (R457, R477). -/
def execLinkDown (link : Nat) (s : State) : Result :=
  if !s.linkExists link then .fault .noSuchUnit else s.commit (s.linkLost link)

end Sys2Proof.Machine
end

