-- ==== Sys2Proof/Machine/NvmeAdmin.lean ====
section
/-! DEFINITION. The NVMe controllers (R486 to R490, R503 to R507): how an entry is fetched, PRPs, and the admin commands. -/

namespace Sys2Proof.Machine

/-! ### Status values (R490, R507, NVM Express Base 2.x) -/

def nvInvalidOpcode : Nat := nvmeStatus 0 0x01 1
def nvInvalidField : Nat := nvmeStatus 0 0x02 1
def nvInvalidNamespace : Nat := nvmeStatus 0 0x0B 1
def nvSequence : Nat := nvmeStatus 0 0x0C 1
def nvPrpOffset : Nat := nvmeStatus 0 0x13 1
def nvSqDeleted : Nat := nvmeStatus 0 0x08 0
def nvSelfTestBusy : Nat := nvmeStatus 1 0x1D 1
def nvCqInvalid : Nat := nvmeStatus 1 0x00 1
def nvQueueId : Nat := nvmeStatus 1 0x01 1
def nvQueueSize : Nat := nvmeStatus 1 0x02 1
def nvAerLimit : Nat := nvmeStatus 1 0x05 1
def nvVector : Nat := nvmeStatus 1 0x08 1
def nvLogPage : Nat := nvmeStatus 1 0x09 1
def nvQueueDeletion : Nat := nvmeStatus 1 0x0C 1
def nvNotSaveable : Nat := nvmeStatus 1 0x0D 1

/-- The status of a data transfer that fails (R507): it may be tried again when only a fence stopped it. -/
def transferStatus (e : Err) : Nat :=
  nvmeStatus 0 0x04 (if e.status = stHostLeaseLost || e.status = stBusMasterOff then 0 else 1)

/-! ### Fetching an entry -/

/-- Whether the controllers fetch: not in the hardware safe state (R602), asleep, during a firmware activation (R507),
while storage control restarts (R609), or for a cabinet that does not fetch (R521). -/
def State.nvmeFetches (s : State) (cab : Nat) : Bool :=
  !s.faults.safe && s.e 0x2E05 0 == 0 && s.contract.activation != 1 && !s.restarting 3 && s.fetchAllowed cab &&
  !s.faults.fencedUnits.contains 4

/-- The opcodes of R490. -/
def nvmeSupported (isAdmin : Bool) (op : Nat) : Bool :=
  if isAdmin then [0x00, 0x01, 0x02, 0x04, 0x05, 0x06, 0x08, 0x09, 0x0A, 0x0C, 0x14].contains op
  else [0x00, 0x01, 0x02, 0x08, 0x09].contains op

/-- The entry at the head of a submission queue of an enabled controller. -/
def State.sqEntry (s : State) (cab sqid : Nat) : Option (NvmeCtrl × IoPair × Bytes) :=
  match s.ctrl? cab with
  | none => none
  | some c =>
    if !c.enabled || c.shutdown != 0 then none else
    match c.queue sqid false with
    | none => none
    | some q =>
      if q.head = q.tail then none else
      match s.readCab cab (q.base + 64 * q.head) 64 with
      | .error _ => none
      | .ok r => some (c, q, r)

/-- The queue after its entry has been fetched. -/
def IoPair.fetched (now : Nat) (p : IoPair) : IoPair :=
  let h := (p.head + 1) % max p.size 1
  { p with head := h, readyAt := if h = p.tail then none else some now, holdCounted := false }

/-- The state after the entry at the head of a submission queue has been fetched. -/
def State.sqFetched (s : State) (cab sqid : Nat) : State := s.updCtrl cab (NvmeCtrl.updQueue sqid false (IoPair.fetched s.now))

/-- A fetched command completes. -/
def State.nvmeEnd (s : State) (cab sqid : Nat) (r : Bytes) (dw0 status : Nat) : State :=
  s.nvmeDone cab sqid (field r 2 2) (field r 4 4) (field r 40 8) dw0 status

/-- What an entry must be whatever it asks: fused operations and SGLs are absent (R487). -/
def entryForm (r : Bytes) : Bool := bits (field r 1 1) 1 0 == 0 && bits (field r 1 1) 7 6 == 0

/-- The entry at the head of a submission queue is fetched and f gives its effect, when it holds the opcode of the row; an
opcode that the controller does not support completes with Invalid Command Opcode, whichever row fetches it. -/
def State.fetchNvme (s : State) (cab sqid op : Nat) (f : NvmeCtrl → IoPair → Bytes → State → Result) : Result :=
  if !s.nvmeFetches cab then s.idle else
  match s.sqEntry cab sqid with
  | none => s.idle
  | some (c, q, r) =>
    let t := s.sqFetched cab sqid
    if !nvmeSupported (sqid == 0) (field r 0 1) then s.commit (t.nvmeEnd cab sqid r 0 nvInvalidOpcode)
    else if field r 0 1 != op then s.idle
    else if !entryForm r then s.commit (t.nvmeEnd cab sqid r 0 nvInvalidField)
    else f c q r t

/-- An admin command that completes with Dword 0 and a status. -/
def State.adminNow (s : State) (cab op : Nat) (f : NvmeCtrl → Bytes → State → State × Nat × Nat) : Result :=
  s.fetchNvme cab 0 op fun c _ r t =>
    let (u, dw0, st) := f c r t
    s.commit (u.nvmeEnd cab 0 r dw0 st)

/-! ### PRPs (R487, NVM Express Base 2.x) -/

/-- The runs that a PRP list names from an entry on, or the status it ends the command with. -/
def State.prpList (s : State) (cab a n : Nat) : Nat → Except Nat (List (Nat × Nat))
  | 0 => .ok []
  | k + 1 =>
    if n = 0 then .ok [] else
    match s.readCab cab a 8 with
    | .error e => .error (transferStatus e)
    | .ok b =>
      let e := leNat b
      if e % 4096 != 0 then .error nvPrpOffset
      else if (a + 8) % 4096 = 0 && 4096 < n then s.prpList cab e n k
      else match s.prpList cab (a + 8) (n - min n 4096) k with
        | .error x => .error x
        | .ok l => .ok ((e, min n 4096) :: l)

/-- The runs of cabinet memory that an entry's PRPs name for n bytes. -/
def State.prpRuns (s : State) (cab : Nat) (r : Bytes) (n : Nat) : Except Nat (List (Nat × Nat)) :=
  let p1 := field r 24 8
  let p2 := field r 32 8
  let first := min n (4096 - p1 % 4096)
  let rest := n - first
  if p1 % 4 != 0 then .error nvPrpOffset
  else if rest = 0 then .ok [(p1, first)]
  else if rest ≤ 4096 then (if p2 % 4096 != 0 then .error nvPrpOffset else .ok [(p1, first), (p2, rest)])
  else if p2 % 8 != 0 then .error nvPrpOffset
  else match s.prpList cab p2 rest (2 * (rest / 4096) + 4) with
    | .error x => .error x
    | .ok l => .ok ((p1, first) :: l)

/-- The bytes of runs of cabinet memory. -/
def State.prpRead (s : State) (cab : Nat) : List (Nat × Nat) → Except Nat Bytes
  | [] => .ok []
  | (a, n) :: rest =>
    match s.readCab cab a n with
    | .error e => .error (transferStatus e)
    | .ok b =>
      match s.prpRead cab rest with
      | .error x => .error x
      | .ok bs => .ok (b ++ bs)

/-- Bytes are written over runs of cabinet memory, all of which are checked first. -/
def State.prpWrite (s : State) (cab : Nat) (rs : List (Nat × Nat)) (bs : Bytes) : Except Nat State :=
  match rs.findSome? fun p => s.canWrite cab p.1 p.2 with
  | some e => .error (transferStatus e)
  | none => .ok ((rs.foldl (fun (acc : State × Bytes) p => (acc.1.putCab cab p.1 (acc.2.take p.2), acc.2.drop p.2)) (s, bs)).1)

/-- The data of a command in cabinet memory. -/
def State.dataIn (s : State) (cab : Nat) (r : Bytes) (n : Nat) : Except Nat Bytes :=
  match s.prpRuns cab r n with
  | .error x => .error x
  | .ok rs => s.prpRead cab rs

/-- The data of a command is written to cabinet memory. -/
def State.dataOut (s : State) (cab : Nat) (r : Bytes) (bs : Bytes) : Except Nat State :=
  match s.prpRuns cab r bs.length with
  | .error x => .error x
  | .ok rs => s.prpWrite cab rs bs

/-- An admin command whose data goes to cabinet memory, or waits for the granule it meets (R384). -/
def State.adminData (s : State) (cab op : Nat) (f : NvmeCtrl → Bytes → Except Nat Bytes) : Result :=
  s.fetchNvme cab 0 op fun c _ r t =>
    match f c r with
    | .error st => s.commit (t.nvmeEnd cab 0 r 0 st)
    | .ok bs =>
      match t.dataOut cab r bs with
      | .error st => s.commit (t.nvmeEnd cab 0 r 0 st)
      | .ok u => s.land none ({ u with fresh := u.fresh + 1 }.nvmeEnd cab 0 r 0 0)

/-! ### Queues (R489, R504) -/

/-- I/O queue pairs that the controller may create: what Number of Queues granted, at most S′ (R488). -/
def NvmeCtrl.queueLimit (c : NvmeCtrl) (isCq : Bool) : Nat :=
  let f := c.features.getD 2 0
  min c.granted ((if isCq then bits f 31 16 else bits f 15 0) + 1)

/-- What keeps an I/O queue from being created. -/
def NvmeCtrl.createError (c : NvmeCtrl) (cab : Nat) (r : Bytes) (isCq : Bool) : Option Nat :=
  let q := field r 40 2
  let cqid := field r 46 2
  if q = 0 || c.queueLimit isCq < q || (c.queue q isCq).isSome then some nvQueueId
  else if field r 42 2 = 0 then some nvQueueSize
  else if !bit (field r 44 2) 0 then some nvInvalidField
  else if field r 24 8 % 4096 != 0 then some nvPrpOffset
  else if isCq then (if vectorsOf cab ≤ field r 46 2 then some nvVector else none)
  else if cqid = 0 || (c.queue cqid true).isNone then some nvCqInvalid
  else none

/-- The I/O queue that a create command makes. -/
def createdPair (r : Bytes) (isCq : Bool) : IoPair :=
  { (default : IoPair) with
    qid := field r 40 2, isCq := isCq, base := field r 24 8, size := field r 42 2 + 1, phase := isCq
    cqid := if isCq then 0 else field r 46 2, vector := if isCq then field r 46 2 else 0
    irq := isCq && bit (field r 44 2) 1 }

/-- A create command's effect. -/
def State.createIo (s : State) (cab : Nat) (c : NvmeCtrl) (r : Bytes) (isCq : Bool) : State × Nat × Nat :=
  match c.createError cab r isCq with
  | some st => (s, 0, st)
  | none => ((s.updCtrl cab fun c => { c with pairs := c.pairs ++ [createdPair r isCq] }).noteChange cab, 0, 0)

/-- CREATE_IO_SQ (R489). -/
def execCreateIoSq (cab : Nat) (s : State) : Result := s.adminNow cab 0x01 fun c r t => t.createIo cab c r false

/-- CREATE_IO_CQ (R489, R490). -/
def execCreateIoCq (cab : Nat) (s : State) : Result := s.adminNow cab 0x05 fun c r t => t.createIo cab c r true

/-- The backing commands of NVMe commands that have ended: their reads are given up, their writes go on whole (R504). -/
def Namespace.release (mine : Nat × Nat → Bool) (n : Namespace) : Namespace :=
  let ofMine := fun (o : BackOp) => (o.cmd.map mine).getD false
  { n with ops := (n.ops.filter fun o => !(ofMine o && o.kind == 0)).map fun o => if ofMine o then { o with cmd := none } else o }

/-- The state in which the backing commands of a cabinet's NVMe commands that p picks serve none. -/
def State.releaseOps (s : State) (cab : Nat) (p : Nat × Nat → Bool) : State :=
  { s with storage := { s.storage with
      namespaces := updWhere (fun n => n.cabinet == cab) (Namespace.release p) s.storage.namespaces } }

/-- The commands of a submission queue end: Command Aborted due to SQ Deletion (R504). -/
def State.abortSq (s : State) (cab q : Nat) : State :=
  match s.ctrl? cab with
  | none => s
  | some c =>
    let mine := c.started.filter fun x => x.sqid == q
    let s1 := (s.updCtrl cab fun c => { c with started := c.started.filter fun x => x.sqid != q }).releaseOps cab fun k => k.1 == q
    mine.foldl (fun (s : State) x => s.nvmeDone cab q x.cid x.nsid (field x.bytes 40 8) 0 nvSqDeleted) s1

/-- DELETE_IO_SQ (R504). -/
def execDeleteIoSq (cab : Nat) (s : State) : Result :=
  s.adminNow cab 0x00 fun c r t =>
    let q := field r 40 2
    if q = 0 || (c.queue q false).isNone then (t, 0, nvQueueId)
    else
      (((t.abortSq cab q).updCtrl cab fun c => { c with pairs := c.pairs.filter fun p => !(p.qid == q && !p.isCq) }).noteChange cab,
        0, 0)

/-- DELETE_IO_CQ (R490): refused while a submission queue completes into it. -/
def execDeleteIoCq (cab : Nat) (s : State) : Result :=
  s.adminNow cab 0x04 fun c r t =>
    let q := field r 40 2
    if q = 0 || (c.queue q true).isNone then (t, 0, nvQueueId)
    else if c.pairs.any fun p => !p.isCq && p.cqid == q then (t, 0, nvQueueDeletion)
    else
      ((t.updCtrl cab fun c =>
        { c with pairs := c.pairs.filter fun p => !(p.qid == q && p.isCq)
                 heldCqes := c.heldCqes.filter fun h => h.1 != q }).noteChange cab, 0, 0)

/-! ### Identify and log pages (R490, R496, R501, R506) -/

/-- A namespace of a cabinet. -/
def State.ns? (s : State) (cab nsid : Nat) : Option Namespace :=
  s.storage.namespaces.find? fun n => n.cabinet == cab && n.nsid == nsid

/-- Bytes of one logical block. -/
def Namespace.blockBytes (n : Namespace) : Nat := 2 ^ field n.record 2 1

/-- Blocks of a namespace. -/
def Namespace.size (n : Namespace) : Nat := field n.record 16 8

/-- Bytes with values put at offsets: (offset, width, value). -/
def putFields (b : Bytes) (fs : List (Nat × Nat × Nat)) : Bytes := fs.foldl (fun b f => putBytes b f.1 (toLe f.2.1 f.2.2)) b

/-- Extended self-test time: the namespace bytes at 2 GB/s, in minutes rounded up (R506). -/
def State.edstt (s : State) (cab : Nat) : Nat :=
  ceilDiv (sumNat ((s.storage.namespaces.filter fun n => n.cabinet == cab).map fun n => n.size * n.blockBytes)) 120000000000

/-- The Identify Controller data: the fields that the spec gives; the rest is free. -/
def State.identifyCtrl (s : State) (cab : Nat) : Bytes :=
  putFields (s.undefinedBytes 4096) [
    (0, 2, 0x1E7A), (2, 2, 0x1E7A), (77, 1, 9), (78, 2, cab + 1), (256, 2, 0x10), (259, 1, 3), (262, 1, 63),
    (316, 2, s.edstt cab), (512, 1, 0x66), (513, 1, 0x44), (516, 4, 16), (520, 2, 0x0C),
    (525, 1, b2n (s.tiers.tierCacheGranted != 0))]

/-- The Identify Namespace data: the fields that the spec gives; the rest is free. -/
def State.identifyNs (s : State) (n : Namespace) : Bytes :=
  let unit := 262144 / n.blockBytes - 1
  putFields (s.undefinedBytes 4096) [
    (0, 8, n.size), (8, 8, n.size), (25, 1, 0), (26, 1, 0), (27, 1, 0), (28, 1, 0), (29, 1, 0), (36, 2, unit), (44, 2, unit),
    (128, 2, 0), (130, 1, field n.record 2 1)]

/-- The list of active namespaces above an identifier. -/
def State.identifyList (s : State) (cab above : Nat) : Bytes :=
  let ids := sortNat (((s.storage.namespaces.filter fun n => n.cabinet == cab).map (·.nsid)).filter fun i => above < i)
  fit 4096 (ids.flatMap (toLe 4))

/-- IDENTIFY (R490): CNS 00h namespace, 01h controller, 02h active namespaces, 03h namespace descriptors. -/
def execIdentify (cab : Nat) (s : State) : Result :=
  s.adminData cab 0x06 fun _ r =>
    let cns := field r 40 1
    let nsid := field r 4 4
    if cns = 1 then .ok (s.identifyCtrl cab)
    else if cns = 2 then .ok (s.identifyList cab nsid)
    else if cns = 0 || cns = 3 then
      (match s.ns? cab nsid with
       | none => .error nvInvalidNamespace
       | some n => .ok (if cns = 0 then s.identifyNs n else s.undefinedBytes 4096))
    else .error nvInvalidField

/-- An entry of the self-test log: result and code; the rest is free. -/
def selfTestEntry (free : Bytes) (e : Nat × Nat × Nat) : Bytes := putBytes free 0 (toLe 1 (e.1 * 16 + e.2.1))

/-- The Device Self-test log: the running test, then up to 20 results, newest first; an unused place says so. -/
def State.selfTestPage (s : State) (c : NvmeCtrl) : Bytes :=
  let free := s.undefinedBytes 28
  let es := (c.selfTestLog.take 20).map (selfTestEntry free)
  [BitVec.ofNat 8 c.selfTest] ++ (s.undefinedBytes 2).drop 1 ++ [0, 0] ++ es.flatten ++
    (List.replicate (20 - es.length) ([0x0F] ++ zeros 27)).flatten

/-- The whole of a log page (R490). -/
def State.logPage (s : State) (c : NvmeCtrl) (lid : Nat) : Option Bytes :=
  if lid = 1 then some (fit 4096 c.errorLog.flatten)
  else if lid = 2 then some (s.undefinedBytes 512)
  else if lid = 6 then some (s.selfTestPage c)
  else none

/-- GET_LOG_PAGE (R490). -/
def execGetLogPage (cab : Nat) (s : State) : Result :=
  s.adminData cab 0x02 fun c r =>
    match s.logPage c (field r 40 1) with
    | none => .error nvLogPage
    | some b =>
      let n := 4 * (field r 42 2 + field r 44 2 * 2 ^ 16 + 1)
      let o := field r 48 8
      if b.length < o || o % 4 != 0 || 4 * 2 ^ 18 < n then .error nvInvalidField else .ok (fit n (b.drop o))

/-! ### Features, events, self-test (R488, R490, R501, R503, R506) -/

/-- ABORT (R503): never aborts. -/
def execAbort (cab : Nat) (s : State) : Result := s.adminNow cab 0x08 fun _ _ t => (t.bump 0x2B03 3 1, 1, 0)

/-- The place of a feature in the controller's five. -/
def featureIndex (fid : Nat) : Option Nat :=
  if fid = 1 then some 0 else if fid = 6 then some 1 else if fid = 7 then some 2 else if fid = 8 then some 3
  else if fid = 0x0B then some 4 else none

/-- SET_FEATURES (R488, R490, R501). -/
def execSetFeatures (cab : Nat) (s : State) : Result :=
  s.adminNow cab 0x09 fun c r t =>
    let fid := field r 40 1
    let v := field r 44 4
    let set (x : Nat) (i : Nat) : State := (t.updCtrl cab fun c => { c with features := updAt i (fun _ => x) c.features }).noteChange cab
    match featureIndex fid with
    | none => (t, 0, nvInvalidField)
    | some i =>
      if bit (field r 40 4) 31 then (t, 0, nvNotSaveable)
      else if fid = 6 && bit v 0 && s.tiers.tierCacheGranted = 0 then (t, 0, nvInvalidField)
      else if fid = 7 then
        if !c.pairs.isEmpty then (t, 0, nvSequence)
        else if bits v 15 0 = 0xFFFF || bits v 31 16 = 0xFFFF then (t, 0, nvInvalidField)
        else
          let x := min (bits v 15 0) (c.granted - 1) + min (bits v 31 16) (c.granted - 1) * 2 ^ 16
          (set x i, x, 0)
      else (set v i, 0, 0)

/-- GET_FEATURES (R490): the current value; the default and saved values are those of reset; SEL 3 asks what it can. -/
def execGetFeatures (cab : Nat) (s : State) : Result :=
  s.adminNow cab 0x0A fun c r t =>
    match featureIndex (field r 40 1) with
    | none => (t, 0, nvInvalidField)
    | some i =>
      let sel := bits (field r 41 1) 2 0
      let reset := if i = 2 then (c.granted - 1) * 65537 else 0
      if sel = 0 then (t, c.features.getD i 0, 0)
      else if sel ≤ 2 then (t, reset, 0)
      else if sel = 3 then (t, 4, 0)
      else (t, 0, nvInvalidField)

/-- An asynchronous event is reported to the oldest outstanding request, or waits for one. -/
def State.asyncEvent (s : State) (cab dw0 : Nat) : State :=
  match s.ctrl? cab with
  | none => s
  | some c =>
    match c.aers with
    | [] => s.updCtrl cab fun c => { c with events := if c.events.contains dw0 then c.events else c.events ++ [dw0] }
    | a :: rest => (s.updCtrl cab fun c => { c with aers := rest }).nvmeDone cab 0 a 0 0 dw0 0

/-- ASYNCHRONOUS_EVENT_REQUEST (R490): held until an event, four at most. -/
def execAsynchronousEventRequest (cab : Nat) (s : State) : Result :=
  s.fetchNvme cab 0 0x0C fun c _ r t =>
    match c.events with
    | e :: rest => s.commit ((t.updCtrl cab fun c => { c with events := rest }).nvmeEnd cab 0 r e 0)
    | [] =>
      if 4 ≤ c.aers.length then s.commit (t.nvmeEnd cab 0 r 0 nvAerLimit)
      else s.commit (t.updCtrl cab fun c => { c with aers := c.aers ++ [field r 2 2] })

/-- A running self-test ends with a result. -/
def State.endSelfTest (s : State) (cab result : Nat) : State :=
  s.updCtrl cab fun c =>
    if c.selfTest = 0 then c
    else { c with selfTest := 0, selfTestLog := ((c.selfTest, result % 16, s.now) :: c.selfTestLog).take 20 }

/-- DEVICE_SELF_TEST (R506). -/
def execDeviceSelfTest (cab : Nat) (s : State) : Result :=
  s.adminNow cab 0x14 fun c r t =>
    let code := bits (field r 40 1) 3 0
    if code = 1 || code = 2 then
      (if c.selfTest != 0 then (t, 0, nvSelfTestBusy)
       else ((t.updCtrl cab fun c => { c with selfTest := code }).bump 0x2B03 6 1, 0, 0))
    else if code = 0xF then (t.endSelfTest cab 1, 0, 0)
    else (t, 0, nvInvalidField)

/-- SELF_TEST_DONE (R506): the running test of a controller ends with its result. -/
def execSelfTestDone (cab result : Nat) (s : State) : Result :=
  if s.faults.safe then s.idle else s.quiet (s.endSelfTest cab result)

/-! ### Enable and reset (R488, R505) -/

/-- The I/O queue pairs that an enable reserves doorbell pages for (R488). -/
def State.pairsGranted (s : State) (cab : Nat) : Nat :=
  let h := (s.queuesOf cab).foldl (fun m q => max m q.page) 1
  min (s.share cab 6) (pagesOf cab - 2 - h)

/-- The admin queues of a controller (R487): AQ bases and AQA of the cabinet's entries. -/
def State.adminPairs (s : State) (cab : Nat) : List IoPair :=
  let bases := s.ent cab 0x4005 0
  let aqa := s.ent cab 0x4005 1
  [{ (default : IoPair) with qid := 0, base := bits bases 63 0, size := bits aqa 11 0 + 1 },
   { (default : IoPair) with qid := 0, isCq := true, base := bits bases 127 64, size := bits aqa 27 16 + 1, phase := true, irq := true }]

/-- The controller of a cabinet is enabled (R488, R513). -/
def State.enableCtrl (s : State) (cab : Nat) : State :=
  let g := s.pairsGranted cab
  let c : NvmeCtrl := { (default : NvmeCtrl) with
    cabinet := cab, enabled := true, granted := g, shareAt := s.share cab 6, aqa := s.ent cab 0x4005 1
    admin := s.adminPairs cab, features := [0, 0, (g - 1) * 65537, 0, 0] }
  let old := (s.storage.ctrls.find? fun x => x.cabinet == cab).getD default
  let c := { c with selfTestLog := old.selfTestLog, errorLog := old.errorLog, errorCount := old.errorCount }
  let s1 := { s with storage := { s.storage with ctrls := c :: s.storage.ctrls.filter fun x => x.cabinet != cab } }
  ((s1.putEnt cab 0x4005 2 1).putEnt cab 0x4005 4 1).noteChange cab

/-- A controller is reset (R505): its commands end without entries, its I/O queues are gone, a self-test ends with result
2h; namespaces, journal and cache stay. -/
def State.resetCtrl (s : State) (cab : Nat) : State :=
  let s1 := (s.endSelfTest cab 2).releaseOps cab fun _ => true
  let s2 := s1.updCtrl cab fun c =>
    { c with enabled := false, shutdown := 0, granted := 0, admin := [], pairs := [], started := [], aers := [], events := []
             heldCqes := [] }
  (((s2.putEnt cab 0x4005 2 0).putEnt cab 0x4005 3 0).putEnt cab 0x4005 4 0).noteChange cab

/-- NVME_ENABLE's effect (R505, R642). -/
def actNvmeEnable : ActEffect := fun r s =>
  if s.e 0x1003 0 < 2 then .error (.state 1 2)
  else if reqVal r = 1 then
    .ok (if (s.ctrl? r.cabinet).any (·.enabled) then s else s.enableCtrl r.cabinet, false)
  else .ok (s.resetCtrl r.cabinet, false)

/-- NVME_ENABLE (R488, R505): CC.EN. -/
def execNvmeEnable (r : ActReq) (s : State) : Result := s.act r 0x4005 2 actNvmeEnable

end Sys2Proof.Machine
end

