-- ==== Sys2Proof/Machine/NvmeIo.lean ====
section
/-! DEFINITION. Namespaces and their backing (R491 to R502): atomic units, the journal, the tier cache, and the NVMe I/O
commands. -/

namespace Sys2Proof.Machine

/-- The state with a namespace replaced. -/
def State.updNs (s : State) (cab nsid : Nat) (f : Namespace → Namespace) : State :=
  { s with storage := { s.storage with
      namespaces := updWhere (fun n => n.cabinet == cab && n.nsid == nsid) f s.storage.namespaces } }

/-! ### Encryption (R502, R535) -/

/-- 256 bits of a branch or child key of the ladder (R534, R535); the PUF root is the key unit's own. -/
def ladderKey (parent label ctx : Bytes) (blocks : Nat) : Bytes :=
  (List.range blocks).flatMap fun i =>
    Config.cmac parent (toBe 4 (i + 1) ++ label ++ [0] ++ ctx ++ toBe 4 (128 * blocks))

/-- The ASCII bytes of "ZX9 device root". -/
def labelRoot : Bytes := [0x5A, 0x58, 0x39, 0x20, 0x64, 0x65, 0x76, 0x69, 0x63, 0x65, 0x20, 0x72, 0x6F, 0x6F, 0x74]
/-- The ASCII bytes of "storage". -/
def labelStorage : Bytes := [0x73, 0x74, 0x6F, 0x72, 0x61, 0x67, 0x65]
/-- The ASCII bytes of "ZX9 xts". -/
def labelXts : Bytes := [0x5A, 0x58, 0x39, 0x20, 0x78, 0x74, 0x73]

/-- The device root key (R535). -/
def deviceRootKey : Bytes := ladderKey (toLe 32 (Config.identity 0)) labelRoot (toLe 4 0) 2

/-- The key of a namespace (R502, R535). -/
def Namespace.key (n : Namespace) : Bytes :=
  ladderKey (ladderKey deviceRootKey labelStorage [] 2) labelXts
    (toLe 2 n.cabinet ++ toLe 4 n.nsid ++ toLe 4 (field n.record 12 4)) 4

/-- One block of plaintext encrypted: the tweak is the LBA (R502). -/
def Namespace.seal (n : Namespace) (lba : Nat) (b : Bytes) : Bytes := fit n.blockBytes (Config.xtsEncrypt n.key lba b)

/-- One block of ciphertext decrypted. -/
def Namespace.unseal (n : Namespace) (lba : Nat) (b : Bytes) : Bytes := fit n.blockBytes (Config.xtsDecrypt n.key lba b)

/-! ### The tier cache (R500, R501) -/

/-- The line of the tier cache that an LBA lies in. -/
def Namespace.lineOf (n : Namespace) (lba : Nat) : Nat := lba * n.blockBytes / 65536

/-- A line of the cache. -/
def State.line? (s : State) (n : Namespace) (lba : Nat) : Option CacheLine :=
  s.storage.cache.find? fun l => l.cabinet == n.cabinet && l.nsid == n.nsid && l.line == n.lineOf lba

/-- The device address of an LBA's ciphertext in a line (R500). -/
def State.cacheAddr (s : State) (n : Namespace) (l : CacheLine) (lba : Nat) : Nat :=
  s.tiers.tierCacheBase + 65536 * l.slot + lba * n.blockBytes % 65536

/-- The state with a line replaced. -/
def State.updLine (s : State) (l : CacheLine) : State :=
  { s with storage := { s.storage with cache := updWhere (fun x => x.slot == l.slot) (fun _ => l) s.storage.cache } }

/-- A place for a line: its own, a free one, or that of a line with nothing dirty in it. -/
def State.placeLine (s : State) (n : Namespace) (lba : Nat) : Option (State × CacheLine) :=
  match s.line? n lba with
  | some l => some (s, l)
  | none =>
    let slots := s.tiers.tierCacheGranted / 65536
    let fresh (s : State) (i : Nat) : State × CacheLine :=
      let l : CacheLine := { (default : CacheLine) with cabinet := n.cabinet, nsid := n.nsid, line := n.lineOf lba, slot := i }
      ({ s with storage := { s.storage with cache := s.storage.cache ++ [l] } }, l)
    match lowestFree (s.storage.cache.map (·.slot)) 0 slots with
    | some i => some (fresh s i)
    | none =>
      match s.storage.cache.find? fun l => l.dirty.isEmpty && l.lost.isEmpty with
      | none => none
      | some l =>
        some (fresh { s with storage := { s.storage with cache := s.storage.cache.filter fun x => x.slot != l.slot } } l.slot)

/-- A block's ciphertext goes into the cache, dirty with an order, or clean; none where no line has a place. -/
def State.cachePut (s : State) (n : Namespace) (lba : Nat) (b : Bytes) (dirty : Option Nat) : Option State :=
  match s.placeLine n lba with
  | none => none
  | some (s1, l) =>
    let keep := l.dirty.filter fun d => d.1 != lba
    let l' := { l with
      valid := if l.valid.contains lba then l.valid else l.valid ++ [lba]
      dirty := match dirty with
        | some o => keep ++ [(lba, o)]
        | none => keep
      lost := l.lost.filter (· != lba) }
    some ((s1.storeRaw (s1.cacheAddr n l lba) b).updLine l')

/-- Several blocks go into the cache, all or none. -/
def State.cachePutAll (s : State) (n : Namespace) (dirty : Option Nat) : List (Nat × Bytes) → Option State
  | [] => some s
  | (lba, b) :: rest =>
    match s.cachePut n lba b dirty with
    | none => none
    | some t => t.cachePutAll n dirty rest

/-- Blocks that have become durable elsewhere replace what the cache holds of them (R499). -/
def State.cacheRenew (s : State) (n : Namespace) (bs : List (Nat × Bytes)) : State :=
  bs.foldl (fun (s : State) p =>
    match s.line? n p.1 with
    | none => s
    | some l =>
      if l.valid.contains p.1 || l.lost.contains p.1 then (s.cachePut n p.1 p.2 none).getD s else s) s

/-- A line whose ciphertext of an LBA cannot be read: a clean block leaves the cache, a dirty one is lost until it is
written again (R500). -/
def CacheLine.unreadable (l : CacheLine) (lba : Nat) : CacheLine :=
  { l with valid := l.valid.filter (· != lba), dirty := l.dirty.filter fun d => d.1 != lba
           lost := if l.dirty.any fun d => d.1 == lba then l.lost ++ [lba] else l.lost }

/-- What the ZX9 itself holds of a block. -/
inductive Held where
  | nothing
  | journal (b : Bytes)
  | cache (b : Bytes)
  | lost
  deriving DecidableEq, Repr

/-- A block as the cache or a record not yet at home holds it (R497, R500): the cache holds the newest data. -/
def State.heldBlock (s : State) (n : Namespace) (lba : Nat) : Held :=
  let fromJournal := (n.journal.reverse.find? fun j => j.durable && !j.home && j.blocks.any fun b => b.1 == lba).bind fun j =>
    j.blocks.find? fun b => b.1 == lba
  let journal := match fromJournal with
    | some b => Held.journal b.2
    | none => Held.nothing
  match s.line? n lba with
  | none => journal
  | some l =>
    if l.lost.contains lba then .lost
    else if !l.valid.contains lba then journal
    else
      let a := s.cacheAddr n l lba
      if (s.badUnit a n.blockBytes).isNone then .cache (s.readDev a n.blockBytes)
      else if l.dirty.any fun d => d.1 == lba then .lost
      else journal

/-- The blocks of a range that the cache holds and that cannot be read leave it (R500). -/
def State.dropUnreadable (s : State) (n : Namespace) (lba count : Nat) : State :=
  (List.range count).foldl (fun (s : State) i =>
    match s.line? n (lba + i) with
    | none => s
    | some l =>
      if l.valid.contains (lba + i) && (s.badUnit (s.cacheAddr n l (lba + i)) n.blockBytes).isSome then
        s.updLine (l.unreadable (lba + i))
      else s) s

/-! ### What goes to the backing (R493, R494, R497, R498) -/

/-- A backing command is sent. -/
def State.sendBacking (s : State) (n : Namespace) (kind offset : Nat) (bytes : Bytes) : State :=
  let o : BackOut := { cabinet := n.cabinet, nsid := n.nsid, kind := kind, offset := offset, bytes := bytes }
  { s with storage := { s.storage with backingOut := o :: s.storage.backingOut } }

/-- Bytes of the ring of a namespace's journal (R497). -/
def Namespace.ring (n : Namespace) : Nat := field n.record 40 4 - 65536

/-- Bytes of the ring in use. -/
def Namespace.used (n : Namespace) : Nat := sumNat (n.journal.map (·.bytes))

/-- The header of a journal record (R498). -/
def Namespace.journalHeader (n : Namespace) (seqNo : Nat) (blocks : List (Nat × Bytes)) : Bytes :=
  let data := blocks.flatMap (·.2)
  let h := fit 4096 (toLe 4 0x4A535A58 ++ toLe 2 1 ++ toLe 2 0 ++ toLe 8 seqNo ++ toLe 8 ((blocks.map (·.1)).headD 0)
    ++ toLe 4 blocks.length ++ toLe 4 n.nsid ++ toLe 4 (field n.record 12 4) ++ toLe 4 data.length)
  putBytes h 40 (fit 48 (Config.sha384 (h ++ data)))

/-- The bytes and the place of a backing command. -/
def Namespace.image (n : Namespace) (o : BackOp) : Nat × Bytes :=
  let home := field n.record 24 8
  let first := (o.blocks.map (·.1)).headD o.lba
  if o.kind = 1 then
    (field n.record 32 8 + 65536, n.journalHeader (o.journalSeq.getD 0) o.blocks ++ o.blocks.flatMap (·.2))
  else if o.kind = 3 then (field n.record 32 8 + 4096 * (n.superSeq % 2), [])
  else (home + first * n.blockBytes, o.blocks.flatMap (·.2))

/-- A backing command is issued. -/
def State.issueOp (s : State) (cab nsid : Nat) (o : BackOp) : State :=
  match s.ns? cab nsid with
  | none => s
  | some n =>
    let o := { o with id := n.nextOp }
    let (a, bs) := n.image o
    (s.updNs cab nsid fun n => { n with ops := n.ops ++ [o], nextOp := n.nextOp + 1 }).sendBacking n o.kind a bs

/-- Whether a block waits for a write that is on its way to the backing. -/
def Namespace.writing (n : Namespace) (lba : Nat) : Bool :=
  (n.ops.any fun o => o.kind != 0 && o.blocks.any fun b => b.1 == lba) ||
  (n.journal.any fun j => !j.home && j.blocks.any fun b => b.1 == lba)

/-- An atomic unit is issued (R497): home with FUA when the target's own atomicity covers it, else as a journal record when
the ring has room; not while another write of its blocks is on its way. -/
def State.issueUnit (s : State) (cab nsid : Nat) (blocks : List (Nat × Bytes)) (cmd : Option (Nat × Nat))
    (cleans : List (Nat × Nat)) : Option State :=
  match s.ns? cab nsid with
  | none => none
  | some n =>
    let bytes := blocks.length * n.blockBytes
    if !n.up || blocks.any fun b => n.writing b.1 then none
    else if field n.record 1 1 = 0 && bytes ≤ n.atomicBytes then
      some (s.issueOp cab nsid { (default : BackOp) with kind := 2, blocks := blocks, cmd := cmd, cleans := cleans })
    else if n.ring < n.used + 4096 + bytes then none
    else
      let j : JournalUse :=
        { seqNo := n.seq, bytes := 4096 + bytes, blocks := blocks, durable := false, issued := false, home := false }
      some ((s.updNs cab nsid fun n => { n with journal := n.journal ++ [j], seq := n.seq + 1 }).issueOp cab nsid
        { (default : BackOp) with kind := 1, blocks := blocks, cmd := cmd, cleans := cleans, journalSeq := some n.seq })

/-- A durable record whose home write can be issued now: no earlier write of its blocks is on its way. -/
def Namespace.nextHome (n : Namespace) : Option JournalUse :=
  n.journal.find? fun j => j.durable && !j.issued &&
    j.blocks.all fun b =>
      !(n.ops.any fun o => o.kind == 2 && o.blocks.any fun x => x.1 == b.1) &&
      !(n.journal.any fun k => k.seqNo < j.seqNo && !k.home && k.blocks.any fun x => x.1 == b.1)

/-- The first command that holds units back. -/
def NvmeCtrl.nextUnits (c : NvmeCtrl) (nsid : Nat) : List NvmeCmd := c.started.filter fun x => x.nsid == nsid && !x.units.isEmpty

/-- The first unit that can be issued, of the oldest command that has one. -/
def State.issueNext (s : State) (cab nsid : Nat) : List NvmeCmd → Option State
  | [] => none
  | x :: rest =>
    match x.units with
    | [] => s.issueNext cab nsid rest
    | u :: us =>
      match s.issueUnit cab nsid u (some (x.sqid, x.cid)) [] with
      | none => s.issueNext cab nsid rest
      | some t =>
        some (t.updCtrl cab fun c =>
          { c with started := updWhere (fun y => y.sqid == x.sqid && y.cid == x.cid) (fun y => { y with units := us }) c.started })

/-- Home writes and units are issued as far as they can be; fuel bounds their number. -/
def State.pumpNs (s : State) (cab nsid : Nat) : Nat → State
  | 0 => s
  | k + 1 =>
    match s.ns? cab nsid with
    | none => s
    | some n =>
      if !n.up then s else
      match n.nextHome with
      | some j =>
        ((s.updNs cab nsid fun n =>
          { n with journal := updWhere (fun x => x.seqNo == j.seqNo) (fun x => { x with issued := true }) n.journal }).issueOp
            cab nsid { (default : BackOp) with kind := 2, blocks := j.blocks, journalSeq := some j.seqNo }).pumpNs cab nsid k
      | none =>
        match (s.ctrl? cab).bind fun c => s.issueNext cab nsid (c.nextUnits nsid) with
        | some t => t.pumpNs cab nsid k
        | none => s

/-! ### Commands that end, and what waits for them -/

/-- A started I/O command. -/
def State.nvmeCmd? (s : State) (cab sqid cid : Nat) : Option NvmeCmd :=
  (s.ctrl? cab).bind fun c => c.started.find? fun x => x.sqid == sqid && x.cid == cid

/-- A started I/O command completes; its backing writes go on whole. -/
def State.nvmeFinish (s : State) (cab sqid cid status : Nat) : State :=
  match s.nvmeCmd? cab sqid cid with
  | none => s
  | some x =>
    ((s.updCtrl cab fun c => { c with started := c.started.filter fun y => !(y.sqid == sqid && y.cid == cid) }).releaseOps cab
      fun k => k == (sqid, cid)).nvmeDone cab sqid cid x.nsid (field x.bytes 40 8) 0 status

/-- Whether a namespace holds dirty blocks written up to an order. -/
def State.dirtyUpTo (s : State) (cab nsid order : Nat) : Bool :=
  s.storage.cache.any fun l => l.cabinet == cab && l.nsid == nsid && l.dirty.any fun d => d.2 ≤ order

/-- Flushes whose writes are durable complete (R499). -/
def State.settleFlushes (s : State) (cab nsid : Nat) : State :=
  match s.ctrl? cab with
  | none => s
  | some c =>
    let ready := c.started.filter fun x => x.nsid == nsid && field x.bytes 0 1 == 0 && x.heldSince.isNone && !s.dirtyUpTo cab nsid x.flushMark
    ready.foldl (fun s x => s.nvmeFinish cab x.sqid x.cid 0) s

/-- A DELETING namespace whose commands and dirty blocks are gone is ABSENT: its key slot is free, and the controller reports
Namespace Attribute Changed (R491, R538). -/
def State.settleDelete (s : State) (cab nsid : Nat) : State :=
  match s.ns? cab nsid with
  | none => s
  | some n =>
    let busy := (s.ctrl? cab).any fun c => c.started.any fun x => x.nsid == nsid
    if n.state != 4 || busy || s.dirtyUpTo cab nsid (2 ^ 64) then s
    else
      let s1 := { s with
        storage := { s.storage with
          namespaces := s.storage.namespaces.filter fun x => !(x.cabinet == cab && x.nsid == nsid)
          cache := s.storage.cache.filter fun l => !(l.cabinet == cab && l.nsid == nsid) }
        trust := { s.trust with
          slots := s.trust.slots.filter fun k => k.slot != n.keySlot
          keyCache := s.trust.keyCache.filter (· != n.keySlot) } }
      s1.asyncEvent cab 0x00040002

/-- A controller whose shutdown was requested and whose work is done reports shutdown processing complete (R487). -/
def State.settleShutdown (s : State) (cab : Nat) : State :=
  match s.ctrl? cab with
  | none => s
  | some c =>
    let dirty := s.storage.cache.any fun l => l.cabinet == cab && !l.dirty.isEmpty
    if c.shutdown = 0 || !c.started.isEmpty || dirty then s else s.putEnt cab 0x4005 4 9

/-- What a storage event may have set free goes on. -/
def State.settleNs (s : State) (cab nsid : Nat) : State :=
  (((s.pumpNs cab nsid 4096).settleFlushes cab nsid).settleDelete cab nsid).settleShutdown cab

/-! ### Reads and writes (R496, R497, R499, R500) -/

/-- What an I/O command names, checked (R507): its namespace, first LBA and blocks. -/
def State.ioTarget (s : State) (cab : Nat) (r : Bytes) (blocks limit : Nat) : Except Nat Namespace :=
  match s.ns? cab (field r 4 4) with
  | none => .error nvInvalidNamespace
  | some n =>
    if n.state = 1 || n.state = 4 then .error (nvmeStatus 0 0x82 0)
    else if limit < blocks * n.blockBytes then .error nvInvalidField
    else if n.size < field r 40 8 + blocks then .error (nvmeStatus 0 0x80 1)
    else .ok n

/-- A fetched I/O command joins the started ones. -/
def State.startNvme (s : State) (cab sqid : Nat) (r : Bytes) (charge : Nat) (f : NvmeCmd → NvmeCmd) : State :=
  let x : NvmeCmd := { (default : NvmeCmd) with
    sqid := sqid, cid := field r 2 2, bytes := r, nsid := field r 4 4, charge := charge }
  s.updCtrl cab fun c => { c with started := c.started ++ [f x] }

/-- The charge of an NVMe I/O command (R571); the spec tabulates its bytes no more than those of other commands
(notes/assumptions/14.md). -/
def State.nvmeCharge (s : State) (r : Bytes) : Nat :=
  let e : Estimate :=
    { bytes := (List.range 23).map fun t => (t, Config.estimateBytes t r)
      ops := (List.range 7).map fun i => (6 + i, Config.estimateOps (6 + i) r) }
  let w := s.energy.windowLen
  s.energyOf e * w / max (max e.duration w) 1

/-- Whether an entry at the head of a queue has waited for ADMIT_MAX_HOLD (R576). -/
def State.nvmeAged (s : State) (q : IoPair) : Bool :=
  match q.readyAt with
  | some t => t + s.e 0x2E01 2 ≤ s.energy.windowStart
  | none => false

/-- Whether the budget admits an I/O command at the head of a queue (R574). -/
def State.nvmeFits (s : State) (r : Bytes) : Bool := !s.energy.negativeOnly && (s.nvmeCharge r : Int) ≤ s.energy.remaining

/-- The state after an I/O command has been fetched and charged (R574, R576): one that is admitted for its age alone is
counted. -/
def State.nvmeCharged (s : State) (cab sqid : Nat) (r : Bytes) : State :=
  let t := s.sqFetched cab sqid
  let charge := s.nvmeCharge r
  let t1 := { t with energy := { t.energy with
    remaining := t.energy.remaining - charge
    debited := t.energy.debited + charge
    negativeOnly := t.energy.negativeOnly || decide (t.energy.remaining < charge) } }
  if s.nvmeFits r then t1 else t1.bump 0x2E04 0x0C 1

/-- An I/O command is fetched and started when the budget admits it (R570, R574, R576); class STORAGE may start at every
level (R566). -/
def State.ioFetch (s : State) (cab sqid op : Nat) (f : Bytes → Nat → State → Result) : Result :=
  s.fetchNvme cab sqid op fun _ q r _ =>
    if sqid = 0 then s.idle
    else if !s.nvmeFits r && !s.nvmeAged q then
      (if q.holdCounted then s.idle
       else s.quiet ((s.updCtrl cab (NvmeCtrl.updQueue sqid false fun p => { p with holdCounted := true })).bump 0x2E04 11 1))
    else f r (s.nvmeCharge r) (s.nvmeCharged cab sqid r)

/-- The blocks of a range, each cut from a run of bytes. -/
def blocksOf (bs lba : Nat) : Nat → Bytes → List (Nat × Bytes)
  | 0, _ => []
  | k + 1, d => (lba, fit bs (d.take bs)) :: blocksOf bs (lba + 1) k (d.drop bs)

/-- The atomic units of a range of blocks: it is cut at 256 KiB boundaries of LBA space (R496). -/
def Namespace.unitsOf (n : Namespace) (bl : List (Nat × Bytes)) : List (List (Nat × Bytes)) :=
  let u := fun (b : Nat × Bytes) => b.1 * n.blockBytes / 262144
  ((bl.map u).eraseDups).map fun k => bl.filter fun b => u b == k

/-- Whether a write may stay in the cache (R499, R501): the volatile write cache is on, the namespace permits it, and FUA is
clear. -/
def State.writeCached (s : State) (cab : Nat) (n : Namespace) (r : Bytes) : Bool :=
  s.tiers.tierCacheGranted != 0 && bit (field n.record 3 1) 0 && !bit (field r 48 4) 30 &&
  ((s.ctrl? cab).map fun c => bit (c.features.getD 1 0) 0).getD false

/-- A write of blocks starts: into the cache, where it completes at once, or as atomic units (R497, R499). -/
def State.writeBlocks (s : State) (cab sqid : Nat) (r : Bytes) (charge : Nat) (n : Namespace) (plain : List (Nat × Bytes)) : State :=
  let bl := plain.map fun b => (b.1, n.seal b.1 b.2)
  let order := s.storage.cacheSeq + 1
  match if s.writeCached cab n r then s.cachePutAll n (some order) bl else none with
  | some t => ({ t with storage := { t.storage with cacheSeq := order } }).nvmeEnd cab sqid r 0 0
  | none =>
    let units := n.unitsOf bl
    (s.startNvme cab sqid r charge fun x =>
      { x with units := units, unitsLeft := units.length, heldSince := if n.up then none else some s.now }).pumpNs cab n.nsid 4096

/-- NVME_WRITE (R496, R497, R499). -/
def execNvmeWrite (cab sqid : Nat) (s : State) : Result :=
  s.ioFetch cab sqid 0x01 fun r charge t =>
    let k := field r 48 2 + 1
    match s.ioTarget cab r k 2097152 with
    | .error st => s.commit (t.nvmeEnd cab sqid r 0 st)
    | .ok n =>
      match s.dataIn cab r (k * n.blockBytes) with
      | .error st => s.commit (t.nvmeEnd cab sqid r 0 st)
      | .ok d => s.commit (t.writeBlocks cab sqid r charge n (blocksOf n.blockBytes (field r 40 8) k d))

/-- WRITE_ZEROES (R490, R496): up to 65,536 blocks of zeros. -/
def execWriteZeroes (cab sqid : Nat) (s : State) : Result :=
  s.ioFetch cab sqid 0x08 fun r charge t =>
    let k := field r 48 2 + 1
    match s.ioTarget cab r k (2 ^ 64) with
    | .error st => s.commit (t.nvmeEnd cab sqid r 0 st)
    | .ok n => s.commit (t.writeBlocks cab sqid r charge n ((List.range k).map fun i => (field r 40 8 + i, zeros n.blockBytes)))

/-- Sectors of 4 KiB that a list of LBAs lies in. -/
def Namespace.sectors (n : Namespace) (lbas : List Nat) : Nat := ((lbas.map fun l => l * n.blockBytes / 4096).eraseDups).length

/-- The plaintext of a read, from what the ZX9 holds over what the backing gave. -/
def State.readData (s : State) (n : Namespace) (home : List (Nat × Bytes)) : Bytes :=
  home.flatMap fun b => match s.heldBlock n b.1 with
    | .journal x => n.unseal b.1 x
    | .cache x => n.unseal b.1 x
    | _ => n.unseal b.1 b.2

/-- The LBAs of a range that the cache serves. -/
def State.cacheLbas (s : State) (n : Namespace) (lba k : Nat) : List Nat :=
  ((List.range k).map (lba + ·)).filter fun i => match s.heldBlock n i with
    | .cache _ => true
    | _ => false

/-- NVME_READ (R500, R502, R507): served from the tier cache, or read from the backing. -/
def execNvmeRead (cab sqid : Nat) (s : State) : Result :=
  s.ioFetch cab sqid 0x02 fun r charge t =>
    let k := field r 48 2 + 1
    let lba := field r 40 8
    match s.ioTarget cab r k 2097152 with
    | .error st => s.commit (t.nvmeEnd cab sqid r 0 st)
    | .ok n =>
      let range := (List.range k).map (lba + ·)
      let t := t.dropUnreadable n lba k
      if range.any fun i => s.heldBlock n i == .lost then s.commit (t.nvmeEnd cab sqid r 0 (nvmeStatus 2 0x81 1))
      else if range.all fun i => s.heldBlock n i != .nothing then
        (match t.dataOut cab r (s.readData n (range.map fun i => (i, []))) with
         | .error st => s.commit (t.nvmeEnd cab sqid r 0 st)
         | .ok u => s.land none ((u.bump 0x2B03 4 (n.sectors (s.cacheLbas n lba k))).nvmeEnd cab sqid r 0 0))
      else
        let t1 := t.startNvme cab sqid r charge fun x => { x with heldSince := if n.up then none else some s.now }
        s.commit (if n.up then t1.issueOp cab n.nsid
          { (default : BackOp) with kind := 0, lba := lba, count := k, cmd := some (sqid, field r 2 2) } else t1)

/-- NVME_FLUSH (R499): completes once every write completed before it is durable. -/
def execNvmeFlush (cab sqid : Nat) (s : State) : Result :=
  s.ioFetch cab sqid 0x00 fun r charge t =>
    match s.ioTarget cab (putBytes r 40 (zeros 8)) 0 0 with
    | .error st => s.commit (t.nvmeEnd cab sqid r 0 st)
    | .ok n =>
      s.commit ((t.startNvme cab sqid r charge fun x =>
        { x with flushMark := s.storage.cacheSeq, heldSince := if n.up then none else some s.now }).settleFlushes cab n.nsid)

/-- DATASET_MANAGEMENT (R490, R507): deallocation of ranges inside the namespace; what a deallocated block then reads as, the
backing decides. -/
def execDatasetManagement (cab sqid : Nat) (s : State) : Result :=
  s.ioFetch cab sqid 0x09 fun r _ t =>
    let k := field r 40 1 + 1
    let attrs := bits (field r 44 4) 2 0
    match s.ioTarget cab (putBytes r 40 (zeros 8)) 0 0 with
    | .error st => s.commit (t.nvmeEnd cab sqid r 0 st)
    | .ok n =>
      if attrs != 4 then s.commit (t.nvmeEnd cab sqid r 0 (if attrs = 0 then 0 else nvInvalidField)) else
      match s.dataIn cab r (16 * k) with
      | .error st => s.commit (t.nvmeEnd cab sqid r 0 st)
      | .ok d =>
        let ovl := (List.range k).any fun i => n.size < field d (16 * i + 8) 8 + field d (16 * i + 4) 4
        s.commit (t.nvmeEnd cab sqid r 0 (if ovl then nvmeStatus 0 0x80 1 else 0))

/-! ### The backing answers (R493 to R499) -/

/-- HOME_SEQ: every record up to it is at home (R497). -/
def Namespace.homeOf (n : Namespace) : Nat :=
  match n.journal.find? fun j => !j.home with
  | some j => j.seqNo - 1
  | none => n.seq - 1

/-- An atomic unit of a command is durable: the command completes with its last (R499). -/
def State.unitDurable (s : State) (cab : Nat) (cmd : Option (Nat × Nat)) : State :=
  match cmd with
  | none => s
  | some (q, i) =>
    match s.nvmeCmd? cab q i with
    | none => s
    | some x =>
      if x.unitsLeft ≤ 1 then s.nvmeFinish cab q i 0
      else s.updCtrl cab fun c =>
        { c with started := updWhere (fun y => y.sqid == q && y.cid == i) (fun y => { y with unitsLeft := y.unitsLeft - 1 }) c.started }

/-- Blocks that have been destaged are clean, unless they were written again since (R499). -/
def State.cleaned (s : State) (n : Namespace) (cs : List (Nat × Nat)) : State :=
  { s with storage := { s.storage with cache := s.storage.cache.map fun l =>
      if l.cabinet == n.cabinet && l.nsid == n.nsid then { l with dirty := l.dirty.filter fun d => !cs.contains d } else l } }

/-- A journal record is durable (R499), or never was written. -/
def Namespace.recordDurable (seqNo : Nat) (n : Namespace) : Namespace :=
  { n with journal := updWhere (fun j => j.seqNo == seqNo) (fun j => { j with durable := true }) n.journal }

/-- A record's blocks are at home. -/
def Namespace.recordHome (seqNo : Nat) (n : Namespace) : Namespace :=
  let m := { n with journal := updWhere (fun j => j.seqNo == seqNo) (fun j => { j with home := true }) n.journal }
  { m with homeSeq := m.homeOf }

/-- A superblock is durable: the ring space of the records it covers is free (R497). -/
def Namespace.superDurable (seqNo : Nat) (n : Namespace) : Namespace :=
  { n with superSeq := seqNo, journal := n.journal.filter fun j => seqNo < j.seqNo }

/-- What a host's write made durable replaces the cache's blocks; a destage wrote what the cache holds. -/
def State.cacheRenewUnless (s : State) (n : Namespace) (o : BackOp) : State :=
  if o.cleans.isEmpty then s.cacheRenew n o.blocks else s

/-- A write of the backing is durable (R494, R497). -/
def State.opDurable (s : State) (n : Namespace) (o : BackOp) : State :=
  let cab := n.cabinet
  let i := n.nsid
  if o.kind = 1 then
    ((((s.updNs cab i (Namespace.recordDurable (o.journalSeq.getD 0))).cacheRenewUnless n o).cleaned n o.cleans).bump 0x2B03 2 1).unitDurable
      cab o.cmd
  else if o.kind = 3 then s.updNs cab i (Namespace.superDurable (o.journalSeq.getD 0))
  else match o.journalSeq with
    | some q => s.updNs cab i (Namespace.recordHome q)
    | none => (((s.cacheRenewUnless n o).cleaned n o.cleans).bump 0x2B03 1 1).unitDurable cab o.cmd

/-- A read's data arrives: it is laid under what the ZX9 holds, decrypted and written (R500, R502). -/
def State.readArrived (s : State) (n : Namespace) (o : BackOp) (data : Bytes) : State :=
  let cab := n.cabinet
  match o.cmd with
  | none => s
  | some (q, i) =>
    match s.nvmeCmd? cab q i with
    | none => s
    | some x =>
      let bl := blocksOf n.blockBytes o.lba o.count data
      let range := bl.map (·.1)
      if range.any fun b => s.heldBlock n b == .lost then s.nvmeFinish cab q i (nvmeStatus 2 0x81 1) else
      match s.dataOut cab x.bytes (s.readData n bl) with
      | .error st => s.nvmeFinish cab q i st
      | .ok t =>
        let t1 := t.bump 0x2B03 4 (n.sectors (s.cacheLbas n o.lba o.count))
        let keep := bl.filter fun b => s.heldBlock n b.1 == .nothing
        let t2 := if bit (field n.record 3 1) 1 && s.tiers.tierCacheGranted != 0 then
            keep.foldl (fun (t : State) b => (t.cachePut n b.1 b.2 none).getD t) t1
          else t1
        t2.nvmeFinish cab q i 0

/-- A backing command is sent again (R493). -/
def State.resendOp (s : State) (n : Namespace) (o : BackOp) : State :=
  let (a, bs) := n.image o
  s.sendBacking n (if o.reading then 5 else o.kind) a (if o.reading then [] else bs)

/-- A backing connection is lost (R493, R495): what is outstanding waits for it. -/
def State.loseBacking (s : State) (cab nsid : Nat) : State :=
  let s1 := s.updNs cab nsid fun n => { n with up := false, lostAt := s.now, state := if n.state = 2 then 3 else n.state }
  s1.updCtrl cab fun c =>
    { c with started := updWhere (fun x => x.nsid == nsid && x.heldSince.isNone) (fun x => { x with heldSince := some s.now }) c.started }

/-- A failure that the target reports (R507): it ends the command it serves; what serves none is written again. -/
def State.opFailed (s : State) (n : Namespace) (o : BackOp) (status : Nat) : State :=
  let st := if o.kind = 0 && status = 1 then nvmeStatus 2 0x81 1 else nvmeStatus 0 0x06 1
  match o.cmd with
  | some (q, i) =>
    let s1 := if o.kind = 1 then s.updNs n.cabinet n.nsid fun m =>
        { m with journal := m.journal.map fun j => if some j.seqNo == o.journalSeq then { j with home := true } else j }
      else s
    s1.nvmeFinish n.cabinet q i st
  | none => (s.updNs n.cabinet n.nsid fun m => { m with ops := m.ops ++ [o] }).resendOp n o

/-- BACKING_RESPONSE (R493, R494, R507): status 0 is success, 1 a media error of a read, 2 a digest failure, which ends the
connection, any other an error of the target. -/
def execBackingResponse (cab nsid seqNo status : Nat) (data : Bytes) (s : State) : Result :=
  match s.ns? cab nsid with
  | none => s.idle
  | some n =>
    match n.ops.find? fun o => o.id == seqNo with
    | none => s.idle
    | some o =>
      if s.faults.safe || !n.up then s.idle
      else if status = 2 && field n.record 1 1 = 0 then s.quiet (s.loseBacking cab nsid)
      else
        let gone := s.updNs cab nsid fun n => { n with ops := n.ops.filter fun x => x.id != seqNo }
        if status != 0 then s.commit ((gone.opFailed n o status).settleNs cab nsid)
        else if o.kind = 0 then s.land none ((gone.readArrived n o data).settleNs cab nsid)
        else if field n.record 1 1 = 1 && !o.reading then
          s.quiet ((s.updNs cab nsid fun n =>
            { n with ops := updWhere (fun x => x.id == seqNo) (fun x => { x with reading := true }) n.ops }).sendBacking n 5 0 [])
        else s.commit ((gone.opDurable n o).settleNs cab nsid)

/-! ### The backing connection (R491, R493, R495, R498) -/

/-- Held reads are issued again when the backing is back; writes go on from their units. -/
def State.unhold1 (s : State) (cab nsid : Nat) (x : NvmeCmd) : State :=
  let s1 := s.updCtrl cab fun c =>
    { c with started := updWhere (fun y => y.sqid == x.sqid && y.cid == x.cid) (fun y => { y with heldSince := none }) c.started }
  let sent := (s.ns? cab nsid).any fun n => n.ops.any fun o => o.cmd == some (x.sqid, x.cid)
  if field x.bytes 0 1 = 2 && !sent then
    s1.issueOp cab nsid { (default : BackOp) with
      kind := 0, lba := field x.bytes 40 8, count := field x.bytes 48 2 + 1, cmd := some (x.sqid, x.cid) }
  else s1

/-- The records that a replay writes home, in SEQ order (R498): their digests verify and their SEQ exceeds HOME_SEQ. -/
def replayed (homeSeq : Nat) (js : List JournalRec) : List JournalRec :=
  let ok := js.filter fun j => j.tagOk && homeSeq < j.seqNo
  (sortNat (ok.map (·.seqNo)).eraseDups).filterMap fun q => ok.find? fun j => j.seqNo == q

/-- A namespace attaches: its journal is replayed and it is READY (R491, R498). -/
def State.attachNs (s : State) (n : Namespace) (atomicBytes homeSeq : Nat) (js : List JournalRec) : State :=
  let rs := replayed homeSeq js
  let last := (js.map (·.seqNo)).foldl max homeSeq
  let s1 := rs.foldl (fun (s : State) j =>
    s.sendBacking n 2 (field n.record 24 8 + j.slba * n.blockBytes) j.data) s
  (s1.bump 0x2B03 0 rs.length).updNs n.cabinet n.nsid fun n =>
    { n with state := if n.state = 1 then 2 else n.state, up := true, atomicBytes := atomicBytes, seq := last + 1, homeSeq := last
             superSeq := homeSeq, journal := [], lastKeepAlive := s.now }

/-- BACKING_CONNECTED (R491, R493, R495, R498): an ATTACHING namespace replays its journal; an UNREACHABLE one re-issues what
was outstanding and is READY again. -/
def execBackingConnected (cab nsid atomicBytes homeSeq : Nat) (journal : List JournalRec) (s : State) : Result :=
  match s.ns? cab nsid with
  | none => s.idle
  | some n =>
    if s.faults.safe || n.up then s.idle
    else if n.state = 1 then s.commit ((s.attachNs n atomicBytes homeSeq journal).settleNs cab nsid)
    else
      let s1 := (s.updNs cab nsid fun n =>
        { n with state := if n.state = 3 then 2 else n.state, up := true, atomicBytes := atomicBytes, lastKeepAlive := s.now }).bump
          0x2B03 5 1
      let s2 := n.ops.foldl (fun (s : State) o => s.resendOp n o) s1
      let mine := match s.ctrl? cab with
        | some c => c.started.filter fun (x : NvmeCmd) => x.nsid == nsid && x.heldSince.isSome
        | none => []
      s.commit ((mine.foldl (fun (s : State) x => s.unhold1 cab nsid x) s2).settleNs cab nsid)

/-- BACKING_CONNECTION_LOST (R491, R495). -/
def execBackingConnectionLost (cab nsid : Nat) (s : State) : Result :=
  match s.ns? cab nsid with
  | none => s.idle
  | some n => if n.up then s.quiet (s.loseBacking cab nsid) else s.idle

/-- BACKING_RECONNECT (R495): an attempt to reconnect, once per second. -/
def execBackingReconnect (cab nsid : Nat) (s : State) : Result :=
  match s.ns? cab nsid with
  | none => s.idle
  | some n =>
    if s.faults.safe || n.state != 3 || s.now < max n.lostAt n.lastReconnect + 1000000000 then s.idle
    else s.quiet ((s.updNs cab nsid fun n => { n with lastReconnect := s.now }).sendBacking n 6 0 [])

/-- BACKING_HOLD (R495): a command held for BACKING_HOLD completes with Transient Transport Error. -/
def execBackingHold (cab sqid cid : Nat) (s : State) : Result :=
  match s.nvmeCmd? cab sqid cid with
  | none => s.idle
  | some x =>
    match x.heldSince with
    | none => s.idle
    | some t =>
      if s.faults.safe || s.now < t + s.e 0x2B02 2 then s.idle
      else
        let dropMine := fun (n : Namespace) => { n with ops := n.ops.filter fun o => o.cmd != some (sqid, cid) }
        let s1 := s.updNs cab x.nsid dropMine
        s.commit ((s1.nvmeFinish cab sqid cid (nvmeStatus 0 0x22 0)).settleNs cab x.nsid)

/-- KEEP_ALIVE (R493): every third of the 15 s KATO, to an NVMe/TCP target. -/
def execKeepAlive (cab nsid : Nat) (s : State) : Result :=
  match s.ns? cab nsid with
  | none => s.idle
  | some n =>
    if s.faults.safe || !n.up || field n.record 1 1 != 0 || s.now < n.lastKeepAlive + 5000000000 then s.idle
    else s.quiet ((s.updNs cab nsid fun n => { n with lastKeepAlive := s.now }).sendBacking n 7 0 [])

/-- SUPERBLOCK_WRITE (R497): every 1 ms while home writes complete. -/
def execSuperblockWrite (cab nsid : Nat) (s : State) : Result :=
  match s.ns? cab nsid with
  | none => s.idle
  | some n =>
    if s.faults.safe || !n.up || n.homeSeq ≤ n.superSeq || s.now < n.lastSuper + 1000000 || n.ops.any (fun o => o.kind == 3) then s.idle
    else s.quiet ((s.updNs cab nsid fun n => { n with lastSuper := s.now }).issueOp cab nsid
      { (default : BackOp) with kind := 3, journalSeq := some n.homeSeq })

/-! ### Destaging (R499) -/

/-- The oldest dirty block of a namespace. -/
def State.oldestDirty (s : State) (cab nsid : Nat) : Option Nat :=
  let all := (s.storage.cache.filter fun l => l.cabinet == cab && l.nsid == nsid).flatMap (·.dirty)
  let o := minNat (all.map (·.2)) 0
  minOf ((all.filter fun d => d.2 == o).map (·.1))
where
  /-- The least of some numbers. -/
  minOf (l : List Nat) : Option Nat := (sortNat l).head?

/-- Blocks that the cache holds, from an LBA on in steps, inside its atomic unit. -/
def State.cachedRun (s : State) (n : Namespace) (up : Bool) (lba : Nat) : Nat → List (Nat × Bytes)
  | 0 => []
  | k + 1 =>
    match s.heldBlock n lba with
    | .cache b =>
      let next := if up then lba + 1 else lba - 1
      let inside := (up || lba != 0) && next * n.blockBytes / 262144 == lba * n.blockBytes / 262144
      (lba, b) :: (if inside then s.cachedRun n up next k else [])
    | _ => []

/-- The run of cached blocks round a block that a destage writes as one atomic unit (R496). -/
def State.destageRun (s : State) (n : Namespace) (lba : Nat) : List (Nat × Bytes) :=
  let k := 262144 / n.blockBytes
  ((s.cachedRun n false lba k).drop 1).reverse ++ s.cachedRun n true lba k

/-- DESTAGE (R499): the atomic unit round the oldest dirty block goes to the backing. -/
def execDestage (cab nsid : Nat) (s : State) : Result :=
  match s.ns? cab nsid, s.oldestDirty cab nsid with
  | some n, some lba =>
    if s.faults.safe || !n.up then s.idle else
    let s1 := s.dropUnreadable n lba 1
    let bl := s1.destageRun n lba
    let dirty := (s1.storage.cache.filter fun l => l.cabinet == cab && l.nsid == nsid).flatMap (·.dirty)
    if bl.isEmpty then s.quiet (s1.settleNs cab nsid)
    else match s1.issueUnit cab nsid bl none (dirty.filter fun d => bl.any fun b => b.1 == d.1) with
      | none => s.idle
      | some t => s.quiet t
  | _, _ => s.idle

/-! ### Applying a batch (R491, R492, R538), and shutdown (R487) -/

/-- The reason a namespace record is refused for by itself: 1 a reserved field, 2 a value out of range. -/
def State.nsRecordReason (s : State) (r : Bytes) : Nat :=
  let op := field r 0 1
  let tcp := field r 1 1 == 0
  if !(allZero (slice r 6 2) && allZero (slice r 47 1) && allZero (slice r 66 2) && allZero (slice r 76 4) &&
      allZero (slice r 96 32) && allZero (slice r 352 32) && field r 3 1 < 8) then 1
  else if op = 0 || 3 < op || 4095 < field r 4 2 || field r 8 4 = 0 || 16 < field r 8 4 then 2
  else if op != 1 then 0
  else if 1 < field r 1 1 || (field r 2 1 != 9 && field r 2 1 != 12) || field r 16 8 = 0 || 2 ^ 40 < field r 16 8 ||
      field r 24 8 % 4096 != 0 || field r 32 8 % 4096 != 0 || field r 40 4 % 65536 != 0 || field r 40 4 < 16777216 ||
      4294967296 - 65536 < field r 40 4 || 7 < field r 46 1 then 2
  else if !tcp && !((s.zt.conns.any fun k => k.index == field r 68 4 && k.cabinet == field r 4 2)) then 2
  else if tcp && !(s.packet.subscribers.any fun x => x.id == field r 44 2 && x.cabinet == field r 4 2) then 2
  else 0

/-- One record of a batch takes effect, or is refused with its reason. -/
def State.applyNs (s : State) (r : Bytes) : Except Nat State :=
  let reason := s.nsRecordReason r
  if reason != 0 then .error reason else
  let op := field r 0 1
  let cab := field r 4 2
  let nsid := field r 8 4
  match op, s.ns? cab nsid with
  | 1, some _ => .error 3
  | 1, none =>
    if 65536 ≤ s.storage.namespaces.length then .error 4 else
    (match pickFree s.freeValue (s.trust.slots.map (·.slot)) 4160 65536 with
     | none => .error 4
     | some slot =>
       let n : Namespace := { (default : Namespace) with cabinet := cab, nsid := nsid, record := r, state := 1, keySlot := slot }
       let key : KeySlot := { slot := slot, cabinet := cab, label := labelXts, secret := [] }
       .ok { s.drawn with
         storage := { s.storage with
           namespaces := s.storage.namespaces ++ [n]
           flashTable := s.storage.flashTable ++ [r] }
         trust := { s.trust with slots := s.trust.slots ++ [key] } })
  | 2, some n =>
    if n.state = 4 then .error 3 else
    .ok ({ s with storage := { s.storage with
      flashTable := s.storage.flashTable.filter fun x => !(field x 4 2 == cab && field x 8 4 == nsid) } }.updNs cab nsid fun n =>
        { n with state := 4 })
  | 3, some n =>
    if n.state = 4 then .error 3 else
    let set := fun (x : Bytes) => putBytes x 3 [BitVec.ofNat 8 (field r 3 1)]
    .ok ({ s with storage := { s.storage with
      flashTable := updWhere (fun x => field x 4 2 == cab && field x 8 4 == nsid) set s.storage.flashTable } }.updNs cab nsid fun n =>
        { n with record := set n.record })
  | _, _ => .error 3

/-- The records of a batch in order: wholly, or the first that fails and why. -/
def State.applyNsAll (s : State) (i : Nat) : List Bytes → Except (Nat × Nat) State
  | [] => .ok s
  | r :: rest =>
    match s.applyNs r with
    | .error reason => .error (i, reason)
    | .ok t => t.applyNsAll (i + 1) rest

/-- NS_APPLY's effect (R491, R492). -/
def actNsApply : ActEffect := fun _ s =>
  let n := s.e 0x2B01 1
  match s.readCab 0 (s.e 0x2B01 0) (384 * n) with
  | .error _ => .error .range
  | .ok bs =>
    match s.applyNsAll 0 (chunksOf 384 n bs) with
    | .error (i, reason) => .ok (s.put 0x2B01 3 (stageResult i reason), false)
    | .ok t =>
      let gone := (t.storage.namespaces.filter fun n => n.state == 4).map fun n => (n.cabinet, n.nsid)
      .ok (gone.foldl (fun (s : State) k => s.settleDelete k.1 k.2) (t.put 0x2B01 3 (stageResult 0xFFFFFFFF 0)), false)

/-- NS_APPLY (R491, R492). -/
def execNsApply (r : ActReq) (s : State) : Result := s.act r 0x2B01 2 actNsApply

/-- NVME_SHUTDOWN's effect (R487): CC.SHN; fetching stops, and the shutdown is complete once nothing is dirty. -/
def actNvmeShutdown : ActEffect := fun r s =>
  let v := reqVal r
  let s1 := s.putEnt r.cabinet 0x4005 3 v
  if v = 0 || !((s.ctrl? r.cabinet).any (·.enabled)) then .ok (s1, false)
  else
    .ok (((s1.updCtrl r.cabinet fun c => { c with shutdown := v }).putEnt r.cabinet 0x4005 4 5).settleShutdown r.cabinet, false)

/-- NVME_SHUTDOWN (R487). -/
def execNvmeShutdown (r : ActReq) (s : State) : Result := s.act r 0x4005 3 actNvmeShutdown

end Sys2Proof.Machine
end

