-- ==== Sys2Proof/Machine/Move.lean ====
section
/-! DEFINITION. The Move engine (R256 to R259): COPY, COPY_LIST, FILL, INVALIDATE; and the upkeep of the tiers: patrol
scrub and refresh (R244), CXL scrub and link events (R247, R248). -/

namespace Sys2Proof.Machine

/-- One run that a Move command copies. -/
structure CopyRun where
  src : Nat
  dst : Nat
  len : Nat
  deriving DecidableEq, Repr, Inhabited

/-- The first run whose destination may not be written, or whose source may not be read: every range is checked before any
write (R257). -/
def State.checkRuns (s : State) (cab : Nat) : List CopyRun → Except Err Unit
  | [] => .ok ()
  | r :: rest => do
    let _ ← s.reach cab r.src r.len .read
    let _ ← s.reach cab r.dst r.len .write
    s.checkRuns cab rest

/-- Destinations overlap each other or a source range (R257). -/
def runsClash (rs : List CopyRun) : Bool :=
  rangesClash (rs.map fun r => (r.src, r.len)) (rs.map fun r => [(r.dst, r.len)])

/-- The pieces of a run with the device address of each: (source, destination, bytes, device). -/
def State.runPieces (s : State) (cab : Nat) (r : CopyRun) : List (Nat × Nat × Nat × Nat) :=
  (piecesOf r.src r.len).filterMap fun p =>
    (s.translate cab p.1 .read).map fun d => (p.1, r.dst + (p.1 - r.src), p.2, d)

/-- Corrections that on-die ECC makes in a read are counted (R243). -/
def State.countCorrected (s : State) (dev n : Nat) : State :=
  s.bump 0x2500 2 ((s.tiers.correctable.filter fun u => overlaps u 64 dev n).length)

/-- The pieces that lie in the tiers are copied; t takes the writes, s gives the data. -/
def State.copyPieces (s : State) (cab : Nat) (t : State) : List (Nat × Nat × Nat × Nat) → Except Err State
  | [] => .ok t
  | (_, dst, n, dev) :: rest =>
    match s.badUnit dev n with
    | some u => .error { status := stEccUncorrectable, detail := u, bad := some u }
    | none => s.copyPieces cab ((t.putCab cab dst (s.readDev dev n)).countCorrected dev n) rest

/-- A Move command copies its runs: what lies in the tiers at once, what lies behind a PCIe link through DMA reads
(R464). -/
def State.moveRuns (s : State) (c : Ctx) (rs : List CopyRun) : Except Err State := do
  let ps := rs.flatMap (s.runPieces c.cabinet)
  let near := ps.filter fun p => (s.linkOf p.2.2.2).isNone
  let far := ps.filter fun p => (s.linkOf p.2.2.2).isSome
  let t ← s.copyPieces c.cabinet s near
  let t1 := t.updCtx c.id fun c =>
    { c with progress := sumNat (rs.map (·.len)), unread := far.map fun p => (p.1, p.2.1, p.2.2.1) }
  pure (t1.readOn c.id)

/-- A Move command's result. -/
def State.moveEnd (s : State) (id : Nat) (r : Except Err State) : Result :=
  match r with
  | .error e => s.commit (s.finishErr id e)
  | .ok t => s.land (some id) t

/-- Whether a Move command waits for its DMA reads already: its row has run. -/
def notReading (s : State) (c : Ctx) : Bool := !s.reading c.id

/-- The run of a COPY. -/
def copyRun (r : Bytes) : CopyRun := { src := arg r 0 8, dst := arg r 8 8, len := arg r 16 8 }

/-- COPY (R256, R257): LEN bytes from SRC to DST. -/
def execCopy (id : Nat) (s : State) : Result :=
  s.onCtx id (fun s c => isCommand 0x0001 s c && notReading s c) fun c =>
    let r := copyRun c.record
    s.moveEnd id (do
      check [(r.len = 0 || 2 ^ 40 < r.len, errRange 16), (runsClash [r], errRange 8)]
      s.checkRuns c.cabinet [r]
      s.moveRuns c [r])

/-- The runs of a COPY_LIST: entries of 32 bytes. -/
def listRuns : Nat → Bytes → List (CopyRun × Nat)
  | 0, _ => []
  | n + 1, bs => ({ src := field bs 0 8, dst := field bs 8 8, len := field bs 16 8 }, field bs 24 8) :: listRuns n (bs.drop 32)

/-- COPY_LIST (R256, R257): the entries in list order. -/
def execCopyList (id : Nat) (s : State) : Result :=
  s.onCtx id (fun s c => isCommand 0x0002 s c && notReading s c) fun c =>
    s.moveEnd id (do
      let list := arg c.record 0 8
      let n := arg c.record 8 4
      match reservedErr c.record [(0, 12)] with
      | some e => throw e
      | none => pure ()
      check [(list % 64 != 0, errAlign 0), (n = 0 || 65536 < n, errRange 8)]
      let bs ← s.readCab c.cabinet list (32 * n)
      let es := listRuns n bs
      check [(es.any fun e => e.2 != 0, errField 0), (es.any fun e => e.1.len = 0 || 2 ^ 32 < e.1.len, errRange 0),
        (runsClash (es.map (·.1)), errRange 0)]
      s.checkRuns c.cabinet (es.map (·.1))
      s.moveRuns c (es.map (·.1)))

/-- FILL (R256, R257): the pattern repeated. -/
def execFill (id : Nat) (s : State) : Result :=
  s.onCtx id (isCommand 0x0003) fun c =>
    let dst := arg c.record 0 8
    let n := arg c.record 8 8
    s.moveEnd id (do
      check [(dst % 8 != 0, errAlign 0), (n % 8 != 0, errAlign 8), (n = 0 || 2 ^ 40 < n, errRange 8)]
      let _ ← s.reach c.cabinet dst n .write
      let bs := (List.replicate (n / 8) (toLe 8 (arg c.record 16 8))).flatten
      pure ((s.putCab c.cabinet dst bs).finishOk id n))

/-- INVALIDATE (R255, R258, R673): no translation entry is kept from one access to the next, so every later access uses the
tables as they stand; the held completion records of the cabinet are tried again. -/
def execInvalidate (id : Nat) (s : State) : Result :=
  s.onCtx id (isCommand 0x0010) fun c =>
    let cab := arg c.record 0 2
    match argsErr c.record [(0, 2), (8, 16)] [
        (c.cabinet != 0, errPlain stSecurityRefused), (arg c.record 8 8 % 65536 != 0, errAlign 8),
        (arg c.record 16 8 % 65536 != 0, errAlign 16), ((s.cabinet? cab).isNone, errRange 0)] with
    | some e => s.commit (s.finishErr id e)
    | none => s.commit ((s.retryCqs cab).finishOk id 0)

/-! ### Upkeep of the tiers -/

/-- Whether GDDR7 answers: not in the hardware safe state, nor in self-refresh (R244, R602). -/
def State.gddrRuns (s : State) : Bool := !s.faults.safe && !s.tiers.selfRefresh

/-- PATROL_SCRUB (R244, R250): the next GDDR7 unit is read; a unit that on-die ECC corrected is written back, an
uncorrectable one is recorded. -/
def execPatrolScrub (s : State) : Result :=
  if !s.gddrRuns then s.idle else
  let u := gddrBase + s.tiers.scrubNext * 64
  let next := if (s.tiers.scrubNext + 1) * 64 < s.gddrBytes then s.tiers.scrubNext + 1 else 0
  let s1 := { s with tiers := { s.tiers with scrubNext := next } }
  if s.tiers.badUnits.contains u then s.quiet (s1.reportUe u masterNone)
  else if s.tiers.correctable.contains u then
    s.commit ((s1.bump 0x2500 2 1).storeRaw u (s.readDev u 64))
  else s.quiet s1

/-- The device address of an offset of a CXL port's device, when the interleave uses it (R246). -/
def State.cxlAddr (s : State) (p off : Nat) : Option Nat :=
  let a :=
    if s.tiers.interleave = 0 then cxlBase + p * 0x80000000000 + off
    else if s.tiers.interleave = 1 then
      cxlBase + (p / 2) * 0x100000000000 + (off / 4096 * 2 + p % 2) * 4096 + off % 4096
    else cxlBase + (off / 4096 * 4 + p) * 4096 + off % 4096
  if s.cxlPort a == some p then some a else none

/-- CXL_SCRUB (R248, R250): the next populated line of a port is read; nothing is written back. -/
def execCxlScrub (port : Nat) (s : State) : Result :=
  if 4 ≤ port then .fault .noSuchUnit
  else if s.faults.safe || 2 ≤ s.e 0x2E05 0 then s.idle
  else
    let k := s.tiers.cxlScrubNext.getD port 0
    match s.cxlAddr port (k * 64) with
    | none => s.quiet { s with tiers := { s.tiers with cxlScrubNext := s.tiers.cxlScrubNext.set port 0 } }
    | some a =>
      let s1 := { s with tiers := { s.tiers with cxlScrubNext := s.tiers.cxlScrubNext.set port (k + 1) } }
      s.quiet (match s.badUnit a 64 with
        | some u => s1.reportUe u masterNone
        | none => s1)

/-- GDDR7_REFRESH (R244). -/
def execGddr7Refresh (s : State) : Result :=
  if !s.gddrRuns then s.idle else s.quiet { s with tiers := { s.tiers with refreshes := s.tiers.refreshes + 1 } }

/-- CXL_TIMEOUT (R247): a CXL request of a started command has had no completion for CXL_TIMEOUT: it counts as
uncorrectable.  Which of the command's addresses it was is a free value. -/
def execCxlTimeout (id : Nat) (s : State) : Result :=
  s.onCtx id (fun s c => c.startTime + s.e 0x2501 6 ≤ s.now && s.tiers.cxlBytes.any (0 < ·)) fun _ =>
    let u := cxlBase + s.freeValue % (hostBase - cxlBase) / 64 * 64
    s.commit (s.drawn.finishErr id { status := stEccUncorrectable, detail := u, bad := some u })

/-- CXL_LINK_DOWN (R247): every access to the port's range is uncorrectable until the link retrains. -/
def execCxlLinkDown (port : Nat) (s : State) : Result :=
  if 4 ≤ port then .fault .noSuchUnit
  else s.quiet { s with tiers := { s.tiers with cxlUp := s.tiers.cxlUp.set port false } }

/-- CXL_LINK_RETRAINED (R247): the port's range is reached again. -/
def execCxlLinkRetrained (port : Nat) (s : State) : Result :=
  if 4 ≤ port then .fault .noSuchUnit
  else s.quiet { s with tiers := { s.tiers with cxlUp := s.tiers.cxlUp.set port true } }

end Sys2Proof.Machine
end

