-- ==== Sys2Proof/Machine/Sequence.lean ====
section
/-! DEFINITION. The Sequence engine: leases and their breaks (R262 to R268), loads, appends and commit records (R269 to
R272), shelves (R275 to R277), prefetch and staging (R274, R278 to R282). -/

namespace Sys2Proof.Machine

/-! ### Descriptors and leases -/

/-- STATE_CONFLICT with a code of R266. -/
def seqState (code : Nat) : Err := errState 5 code

/-- A descriptor is written back to memory (R262). -/
def State.putSeq (s : State) (cab a : Nat) (d : Seq) : Except Err State := s.writeAll cab [(a, d.bytes)]

/-- The resident copy of a descriptor changes. -/
def State.updResident (s : State) (cab a : Nat) (f : SeqDesc → SeqDesc) : State :=
  { s with tiers := { s.tiers with
      resident := updWhere (fun r => r.cabinet == cab && r.addr == a) f s.tiers.resident } }

/-- A broken lease leaves its descriptor UNLOCKED with BROKEN_LEASE (R264). -/
def Seq.broken (d : Seq) : Seq := { d with state := 1, note := setBit d.note 0 }

/-- A LOCKED descriptor in memory that is not resident, which a chip reset leaves behind, breaks when it is found
(R264). -/
def State.settleSeq (s : State) (cab a : Nat) : State :=
  if a % 64 != 0 || (s.resident? cab a).isSome then s else
  match s.readCab cab a 64 with
  | .error _ => s
  | .ok b =>
    let d := parseSeq b
    if d.state != 2 then s else
    match s.putSeq cab a d.broken with
    | .error _ => s
    | .ok t => t.bump 0x2503 3 1

/-- The handle of a command's queue, which a lease names as its owner (R263). -/
def ownerHandle (c : Ctx) : Nat := queueHandle c.cabinet c.queue

/-- The reset epoch of a command's queue (R263). -/
def State.epochOf (s : State) (c : Ctx) : Nat :=
  match s.queue? c.queue with
  | some q => q.epoch
  | none => 0

/-- Whether a command comes from the queue that holds a descriptor's lease (R266). -/
def State.owns (s : State) (c : Ctx) (d : Seq) : Bool :=
  d.state == 2 && d.leaseQueue == ownerHandle c && d.leaseEpoch == s.epochOf c

/-- The expiry of a lease of given length from now: 0 when it has no limit (R260). -/
def State.leaseEnd (s : State) (ms : Nat) : Nat := if ms = 0 then 0 else s.now + ms * 1000000

/-- The lease of a sequence is given to a command's queue: the new state and the acquire's DETAIL (R264, R267). -/
def State.lockSeq (s : State) (c : Ctx) (a : Nat) (d : Seq) (ms : Nat) : Except Err (State × Nat) := do
  let mine := (s.tiers.resident.filter fun r => r.cabinet == c.cabinet).length
  check [(65536 ≤ s.tiers.resident.length || s.share c.cabinet 8 ≤ mine, errPlain stNoResource)]
  let d' := { d with
    state := 2, note := clearBit d.note 0, leaseQueue := ownerHandle c, leaseEpoch := s.epochOf c
    leaseExpiry := s.leaseEnd ms }
  let t ← s.putSeq c.cabinet a d'
  let r : SeqDesc := { cabinet := c.cabinet, addr := a, bytes := d'.bytes, leaseMs := ms, waiters := [], leasePending := false }
  pure ({ t with tiers := { t.tiers with resident := t.tiers.resident ++ [r] } }, b2n (bit d.note 0) * 2 ^ 32 + d.committed)

/-- The waiting acquirers of an UNLOCKED sequence are served in the order they were accepted: the first that can take the
lease has it, the others wait on (R267). -/
def State.grantSeq (s : State) (cab a : Nat) : List Nat → State
  | [] => s
  | w :: rest =>
    match s.ctx? w, s.seqAt cab a with
    | some c, .ok d =>
      if c.finished then s.grantSeq cab a rest else
      match s.lockSeq c a d (arg c.record 8 4) with
      | .error e => (s.finishErr w e).grantSeq cab a rest
      | .ok (t, detail) =>
        (t.updResident cab a fun r => { r with waiters := rest }).finishOk w detail
    | _, _ => s.grantSeq cab a rest

/-- A LOCKED sequence becomes UNLOCKED, its descriptor written back, and the next acquirer is granted (R264, R267). -/
def State.unlockSeq (s : State) (r : SeqDesc) (d : Seq) : State :=
  let s1 := { s with tiers := { s.tiers with
    resident := s.tiers.resident.filter fun x => !(x.cabinet == r.cabinet && x.addr == r.addr) } }
  (s1.putCab r.cabinet r.addr d.bytes).grantSeq r.cabinet r.addr r.waiters

/-- A LOAD or APPEND under a lease that breaks stops (06, table of events). -/
def State.stopUsers (s : State) (r : SeqDesc) : State :=
  let owner := field r.bytes 40 4
  let ids := (s.contract.ctxs.filter fun c =>
    !c.finished && c.cabinet == r.cabinet && s.ctxEngine c == 4 && ownerHandle c == owner && arg c.record 0 8 == r.addr &&
    (recOpcode c.record == 0x4004 || recOpcode c.record == 0x4005)).map (·.id)
  ids.foldl (fun (s : State) id =>
    match s.ctx? id with
    | none => s
    | some c =>
      let t := (s.dests 4 c).foldl (fun (s : State) p => s.scrambleRun c.cabinet false p.1 p.2) s
      { t with fresh := t.fresh + 1 }.finish id stStateConflict (seqState 0x12).detail []) s

/-- A lease breaks (R264). -/
def State.breakSeq (s : State) (r : SeqDesc) : State :=
  ((s.stopUsers r).bump 0x2503 3 1).unlockSeq r (parseSeq r.bytes).broken

/-- Whether a lease has reached its expiry; none expires during a firmware activation (06, table of events). -/
def State.seqExpired (s : State) (r : SeqDesc) : Bool :=
  let t := field r.bytes 48 8
  t != 0 && t ≤ s.now && s.contract.activation != 1

/-- LEASE_BREAK (R264): the lease of a sequence breaks, because its owner's epoch advanced or its expiry passed. -/
def execLeaseBreak (cab desc : Nat) (s : State) : Result :=
  match s.resident? cab desc with
  | none => s.idle
  | some r =>
    if s.faults.safe || !(r.leasePending || s.seqExpired r) then s.idle else s.commit (s.breakSeq r)

/-- Expiries that fell within an activation move to its end + LEASE_MS (06, table of events). -/
def State.deferSeqLeases (s : State) : State :=
  { s with tiers := { s.tiers with resident := s.tiers.resident.map fun r =>
      let t := field r.bytes 48 8
      if t != 0 && t ≤ s.now then { r with bytes := putBytes r.bytes 48 (toLe 8 (s.leaseEnd r.leaseMs)) } else r } }

/-- Every sequence lease of a cabinet breaks (R518). -/
def State.breakLeases (s : State) (cab : Nat) : State :=
  (s.tiers.resident.filter fun r => r.cabinet == cab).foldl (fun (s : State) r =>
    match s.resident? r.cabinet r.addr with
    | none => s
    | some r' => ({ r' with waiters := [] } |> s.breakSeq)) s

/-- The resident descriptors of a cabinet are written back without breaking their leases (R522). -/
def State.writeBackSeqs (s : State) (cab : Nat) : State :=
  (s.tiers.resident.filter fun r => r.cabinet == cab).foldl (fun (s : State) r => s.putCab cab r.addr r.bytes) s

/-! ### The form of a Sequence command -/

/-- A command of the owner that names the sequence: its lease moves to now + LEASE_MS whatever comes of the command (R268),
and the descriptor is written back (R262). -/
def State.renewSeq (s : State) (c : Ctx) (a : Nat) (d : Seq) : Except Err (State × Seq) :=
  match s.resident? c.cabinet a with
  | none => .error (seqState 0x12)
  | some r =>
    if !s.owns c d then .error (seqState 0x12) else
    let d' := { d with leaseExpiry := s.leaseEnd r.leaseMs }
    match s.putSeq c.cabinet a d' with
    | .error e => .error e
    | .ok t => .ok (t.updResident c.cabinet a fun r => { r with bytes := d'.bytes }, d')

/-- A command that names a sequence moves its owner's lease, and no other's (R268). -/
def State.touchSeq (s : State) (c : Ctx) (a : Nat) (d : Seq) : State :=
  match s.renewSeq c a d with
  | .error _ => s
  | .ok (t, _) => t

/-- A Sequence command on a descriptor: the reserved bytes, the alignment of DESC, the descriptor settled, and its
fields. -/
def State.seqCmd (s : State) (id op : Nat) (named : List (Nat × Nat)) (f : Ctx → Nat → Seq → State → Except Err (State × Nat)) :
    Result :=
  s.onCtx id (isCommand op) fun c =>
    let a := arg c.record 0 8
    match argsErr c.record named [(a % 64 != 0, errAlign 0)] with
    | some e => s.commit (s.finishErr id e)
    | none =>
      let s1 := s.settleSeq c.cabinet a
      match s1.seqAt c.cabinet a with
      | .error e => s.commit (s1.finishErr id e)
      | .ok d =>
        let s2 := s1.touchSeq c a d
        match f c a d s2 with
        | .error e => s.land (some id) (s2.finishErr id e)
        | .ok (t, detail) => s.land (some id) (t.finishOk id detail)

/-- A command that only the owner may issue. -/
def State.ownerCmd (s : State) (id op : Nat) (named : List (Nat × Nat))
    (f : Ctx → Nat → Seq → State → Except Err (State × Nat)) : Result :=
  s.onCtx id (isCommand op) fun c =>
    let a := arg c.record 0 8
    match argsErr c.record named [(a % 64 != 0, errAlign 0)] with
    | some e => s.commit (s.finishErr id e)
    | none =>
      let s1 := s.settleSeq c.cabinet a
      match s1.seqAt c.cabinet a with
      | .error e => s.commit (s1.finishErr id e)
      | .ok d =>
        match s1.renewSeq c a d with
        | .error e => s.commit (s1.finishErr id e)
        | .ok (s2, d2) =>
          match f c a d2 s2 with
          | .error e => s.land (some id) (s2.finishErr id e)
          | .ok (t, detail) => s.land (some id) (t.finishOk id detail)

/-- The first field of a sequence descriptor at fault (R260, R261). -/
def State.seqErr (s : State) (cab : Nat) (d : Seq) : Except Err Unit := do
  check [(d.res != 0, errField 0), (d.table % 64 != 0, errAlign 0), (d.summary % 64 != 0, errAlign 0),
    (d.recBytes < 1024 || 262144 < d.recBytes || d.recBytes % 1024 != 0, errRange 0),
    (d.maxTokens < 256 || 4194304 < d.maxTokens || d.maxTokens % 256 != 0, errRange 0),
    (d.keyOffset % 64 != 0, errRange 0), (d.recBytes < d.keyOffset + d.heads * d.dim * d.keyWidth, errRange 0)]
  if d.summary = 0 then check [(d.heads != 0 || d.dim != 0, errRange 0)]
  else
    check [(d.heads = 0 || 128 < d.heads, errRange 0), (d.dim < 64 || 1024 < d.dim || d.dim % 64 != 0, errRange 0),
      (!(d.keyFormat == 4 || d.keyFormat == 10), errField 0)]
    let b ← s.readCab cab d.summary 64
    let t := parseDesc d.summary b
    match descErr (fun _ => 0) b t with
    | some e => throw e
    | none => check [(!(t.format == 4 || t.format == 10), errField 0),
        (t.elements != d.maxTokens / 256 * d.heads * d.dim, errRange 0)]

/-! ### Lease commands -/

/-- SEQ_INIT (R261, R264): UNINIT becomes UNLOCKED with nothing committed. -/
def execSeqInit (id : Nat) (s : State) : Result :=
  s.seqCmd id 0x4001 [(0, 8)] fun c a d s => do
    s.seqErr c.cabinet d
    check [(d.state != 0, seqState 0x10)]
    let t ← s.putSeq c.cabinet a { d with
      state := 1, committed := 0, note := 0, leaseQueue := 0, leaseEpoch := 0, leaseExpiry := 0, commits := 0 }
    pure (t, 0)

/-- SEQ_ACQUIRE joins the acquirers that wait for a LOCKED sequence, under the wait deadline (R267). -/
def State.waitSeq (s : State) (c : Ctx) (a : Nat) : State :=
  let deadline := s.now + s.deadlineOf c.cabinet (formOf (s.ctxEngine c) c.record)
  (s.updResident c.cabinet a fun r => { r with waiters := r.waiters ++ [c.id] }).updCtx c.id fun c =>
    { c with waiting := true, waitDeadline := some deadline }

/-- SEQ_ACQUIRE (R264, R267): UNLOCKED becomes LOCKED by the command's queue; with WAIT 1 on a LOCKED sequence it waits. -/
def execSeqAcquire (id : Nat) (s : State) : Result :=
  s.onCtx id (isCommand 0x4002) fun c =>
    let a := arg c.record 0 8
    let ms := arg c.record 8 4
    let wait := arg c.record 12 1
    match argsErr c.record [(0, 13)] [(a % 64 != 0, errAlign 0), (3600000 < ms, errRange 8), (1 < wait, errRange 12)] with
    | some e => s.commit (s.finishErr id e)
    | none =>
      let s1 := s.settleSeq c.cabinet a
      match s1.seqAt c.cabinet a with
      | .error e => s.commit (s1.finishErr id e)
      | .ok d =>
        if d.state = 1 then
          match s1.lockSeq c a d ms with
          | .error e => s.commit (s1.finishErr id e)
          | .ok (t, detail) => s.land (some id) (t.finishOk id detail)
        else
          let s2 := s1.touchSeq c a d
          if d.state = 2 && wait = 1 && (s1.resident? c.cabinet a).isSome then s.commit (s2.waitSeq c a)
          else s.land (some id) (s2.finishErr id (seqState 0x11))

/-- SEQ_RELEASE (R264): LOCKED by the caller becomes UNLOCKED. -/
def execSeqRelease (id : Nat) (s : State) : Result :=
  s.ownerCmd id 0x4003 [(0, 8)] fun c a d s =>
    match s.resident? c.cabinet a with
    | none => .error (seqState 0x12)
    | some r => .ok (s.unlockSeq r { d with state := 1 }, 0)

/-! ### Staging (R278, R280) -/

/-- A read that takes what is staged from staging, and the rest from the tier (R280). -/
def State.readStaged (s : State) (cab a n : Nat) : Except Err Bytes :=
  match s.reach cab a n .read with
  | .error e => .error e
  | .ok ps =>
    let fromTier := ps.filter fun p =>
      !(s.tiers.staged.any fun g => g.valid && g.cabinet == cab && g.source ≤ p.1 && p.1 + p.2 ≤ g.source + 65536)
    match s.badPiece fromTier with
    | some u => .error { status := stEccUncorrectable, detail := u, bad := some u }
    | none => .ok (s.readPieces ps)

/-- The staged granules that a consumer's reads use are counted and released (R278, R280). -/
def State.consume (s : State) (cab : Nat) (reads : List (Nat × Nat)) : State :=
  let devs := reads.flatMap fun r => (piecesOf r.1 r.2).filterMap fun p => (s.translate cab p.1 .read).map (·, p.2)
  let hit := fun (g : Staged) => g.cabinet == cab && devs.any fun p => overlaps g.source 65536 p.1 p.2
  { s with tiers := { s.tiers with staged := s.tiers.staged.filter fun g => !hit g } }.bump 0x2504 2
    ((s.tiers.staged.filter fun (g : Staged) => g.valid && hit g).length)

/-- Reads of several runs, one after the other. -/
def State.readRuns (s : State) (cab : Nat) : List (Nat × Nat) → Except Err (List Bytes)
  | [] => .ok []
  | (a, n) :: r => do
    let b ← s.readStaged cab a n
    let l ← s.readRuns cab r
    pure (b :: l)

/-! ### SEQ_LOAD -/

/-- The reads of a SEQ_LOAD: for each block, its tokens' slices (R269). -/
def loadReads (d : Seq) (off len : Nat) (b addr : Nat) : List (Nat × Nat) :=
  if len = d.recBytes then [(addr, d.tokensIn b * len)]
  else (List.range (d.tokensIn b)).map fun t => (addr + t * d.recBytes + off, len)

/-- Whether a list rises strictly. -/
def rising : List Nat → Bool
  | a :: b :: r => a < b && rising (b :: r)
  | _ => true

/-- The DETAIL of a fault in a continuation record, which the contract gives no form for: a free value. -/
def State.contErr (s : State) (st : Nat) : Err := { status := st, detail := s.freeValue % 2 ^ 64 }

/-- Data dealt out over runs. -/
def splitRuns : List (Nat × Nat) → Bytes → List (Nat × Bytes)
  | [], _ => []
  | (a, n) :: r, bs => (a, bs.take n) :: splitRuns r (bs.drop n)

/-- The limits of R269 on a load's slice and blocks. -/
def State.loadChecks (s : State) (d : Seq) (r k : Bytes) : List (Bool × Err) :=
  [(!allZero (slice k 17 47) || 1 < field k 16 1, s.contErr stBadField),
   ((field k 4 4 = 0 && field k 0 4 != 0) || field k 0 4 % 64 != 0 || field k 4 4 % 64 != 0 ||
     d.recBytes < field k 0 4 + loadLen d k, s.contErr stBadRange),
   (field k 8 8 != 0 && arg r 16 4 != 0, errRange 16), (d.blocks < arg r 20 4, errRange 20)]

/-- The blocks of a load with their addresses: committed, in ascending order, allocated (R269). -/
def State.loadSources (s : State) (cab : Nat) (d : Seq) (r k : Bytes) : Except Err (List (Nat × Nat)) := do
  let bs ← s.loadBlocks cab r k
  check [(field k 8 8 != 0 && !rising bs, s.contErr stBadRange), (bs.any fun b => d.blocks ≤ b, errRange 16)]
  let addrs ← s.blockAddrs cab d bs
  check [(addrs.any fun a => a = 0 || a % 65536 != 0, errRange 0)]
  pure (bs.zip addrs)

/-- SEQ_LOAD (R269, R281): committed blocks, or a slice of each of their records, go to LANDING. -/
def execSeqLoad (id : Nat) (s : State) : Result :=
  s.ownerCmd id 0x4004 [(0, 24)] fun c _ d s => do
    let k := c.conts.headD []
    check (s.loadChecks d c.record k)
    let bs ← s.loadSources c.cabinet d c.record k
    let reads := bs.flatMap fun p => loadReads d (field k 0 4) (loadLen d k) p.1 p.2
    let data ← s.readRuns c.cabinet reads
    let runs := loadRuns d (arg c.record 8 8) (loadLen d k) 0 (bs.map (·.1))
    let t ← s.writeAll c.cabinet (splitRuns runs data.flatten)
    pure (t.consume c.cabinet reads, data.flatten.length)

/-! ### SEQ_APPEND -/

/-- The keys of a record. -/
def Seq.keys (d : Seq) (bs : Bytes) : List Fl :=
  let n := d.heads * d.dim
  if d.keyWidth = 2 then (unpackCodes 16 (leNat (bs.take (2 * n))) n).map Fp.of16
  else (unpackCodes 32 (leNat (bs.take (4 * n))) n).map Fp.of32

/-- The sums of the keys of a block's tokens, by ascending token (R271). -/
def State.sumKeys (s : State) (cab : Nat) (d : Seq) (block : Nat) : Nat → Nat → List Fl → Except Err (List Fl)
  | 0, _, acc => .ok acc
  | n + 1, t, acc => do
    let bs ← s.readCab cab (block + t * d.recBytes + d.keyOffset) (d.heads * d.dim * d.keyWidth)
    s.sumKeys cab d block n (t + 1) ((acc.zip (d.keys bs)).map fun p => Fp.add32 p.1 p.2)

/-- The bytes of a block's summary in the summary's format (R271). -/
def summaryBytes (format : Nat) (sums : List Fl) : Bytes :=
  sums.flatMap fun x =>
    let m := Fp.mul32 x (.fin false 1 (-8))
    if format = 4 then toLe 2 (Fp.to16 (bf16Round .rne m).1) else toLe 4 (Fp.to32 m)

/-- The summaries of the blocks that an APPEND fills are written (R271). -/
def State.writeSummaries (s : State) (cab : Nat) (d : Seq) (sd : Desc) : List (Nat × Nat) → Except Err State
  | [] => .ok s
  | (b, addr) :: r => do
    let n := d.heads * d.dim
    let sums ← s.sumKeys cab d addr 256 0 (List.replicate n Fp.zero)
    let w := if sd.format = 4 then 2 else 4
    let t ← s.writeAll cab [(sd.base + b * n * w, summaryBytes sd.format sums)]
    t.writeSummaries cab d sd r

/-- The records of an APPEND are copied block by block. -/
def State.appendRecords (s : State) (cab : Nat) (d : Seq) (src : Nat) :
    List ((Nat × Nat × Nat) × Nat) → Except Err State
  | [] => .ok s
  | ((_, t0, m), addr) :: r => do
    let bs ← s.readCab cab src (m * d.recBytes)
    let t ← s.writeAll cab [(addr + t0 * d.recBytes, bs)]
    t.appendRecords cab d (src + m * d.recBytes) r

/-- Whether an earlier APPEND names the same descriptor and has not yet committed or been discarded (R270). -/
def State.appendWaits (s : State) (c : Ctx) : Bool :=
  s.contract.ctxs.any fun x =>
    x.id < c.id && !x.finished && x.cabinet == c.cabinet && isCommand 0x4005 s x && arg x.record 0 8 == arg c.record 0 8

/-- The blocks that an APPEND of n tokens touches, each with its part and its address (R270). -/
def State.appendTargets (s : State) (cab : Nat) (d : Seq) (n : Nat) : Except Err (List ((Nat × Nat × Nat) × Nat)) := do
  check [(n = 0 || 65536 < n, errRange 16), (d.maxTokens < d.committed + n, errRange 16)]
  let parts := d.appendParts n
  let addrs ← s.blockAddrs cab d (parts.map (·.1))
  check [(addrs.any fun b => b = 0 || b % 65536 != 0, errRange 0)]
  pure (parts.zip addrs)

/-- The summaries that an APPEND up to a length writes (R271). -/
def State.appendSummaries (s : State) (cab : Nat) (d : Seq) (new : Nat) (ts : List ((Nat × Nat × Nat) × Nat)) :
    Except Err State :=
  if d.summary = 0 then .ok s
  else do
    let b ← s.readCab cab d.summary 64
    s.writeSummaries cab d (parseDesc d.summary b)
      ((ts.map fun t => (t.1.1, t.2)).filter fun p => 256 * (p.1 + 1) ≤ new)

/-- A descriptor after a commit record (R272). -/
def Seq.commit (d : Seq) (n : Nat) : Seq := { d with committed := d.committed + n, commits := (d.commits + 1) % 2 ^ 64 }

/-- SEQ_APPEND (R270 to R272): the records, then the summaries of the blocks filled, then the commit record. -/
def execSeqAppend (id : Nat) (s : State) : Result :=
  match s.ctx? id with
  | none => s.idle
  | some x =>
    if s.appendWaits x then s.idle else
    s.ownerCmd id 0x4005 [(0, 20)] fun c a d s => do
      let n := arg c.record 16 4
      let ts ← s.appendTargets c.cabinet d n
      let t ← s.appendRecords c.cabinet d (arg c.record 8 8) ts
      let t1 ← t.appendSummaries c.cabinet d (d.committed + n) ts
      let t2 ← t1.putSeq c.cabinet a (d.commit n)
      pure ((t2.updResident c.cabinet a fun r => { r with bytes := (d.commit n).bytes }).bump 0x2503 4 1, d.committed + n)

/-! ### Shelves -/

/-- Shelf commands check their header with the alignment of SHELF, then their own arguments. -/
def State.shelfCmd (s : State) (id op : Nat) (f : Ctx → Except Err (State × Nat)) : Result :=
  s.onCtx id (isCommand op) fun c =>
    match f c with
    | .error e => s.commit (s.finishErr id e)
    | .ok (t, detail) => s.land (some id) (t.finishOk id detail)

/-- The landing image of an entry (R276): what is read, and what it becomes. -/
def State.imageOf (s : State) (cab land : Nat) (e : ShelfEntry) : Except Err (List (Nat × Bytes)) := do
  let d := e.desc
  let base ← s.readStaged cab d.base d.baseBytes
  let map ← if d.mapBytes = 0 then pure [] else s.readStaged cab d.map d.mapBytes
  let heap ← if d.heapUsed = 0 then pure [] else s.readStaged cab d.heap (128 * d.heapUsed)
  let o := land + e.landing
  pure [(o, imageDesc d e.bytes), (o + 64, base), (o + d.imageMap, map), (o + d.imageHeap, heap)]

/-- The landing images of several entries. -/
def State.imagesOf (s : State) (cab land : Nat) : List ShelfEntry → Except Err (List (Nat × Bytes))
  | [] => .ok []
  | e :: r => do
    let x ← s.imageOf cab land e
    let l ← s.imagesOf cab land r
    pure (x ++ l)

/-- The memory of an entry's tensor that is read. -/
def Desc.sourceRuns (d : Desc) : List (Nat × Nat) :=
  [(d.base, d.baseBytes), (d.map, d.mapBytes), (d.heap, 128 * d.heapUsed)].filter fun p => p.2 != 0

/-- SHELF_PAGE_IN (R276, R281): the landing image of each entry. -/
def execShelfPageIn (id : Nat) (s : State) : Result :=
  s.shelfCmd id 0x4010 fun c => do
    let r := c.record
    let first := arg r 16 4
    let n := arg r 20 2
    match argsErr r [(0, 23)] [(1 < arg r 22 1, errField 22), (n = 0 || 4096 < n, errRange 20)] with
    | some e => throw e
    | none => pure ()
    let (entries, table, landBytes) ← s.shelfHeader c.cabinet (arg r 0 8)
    check [(entries < first + n, errRange 16)]
    let es ← s.shelfEntries c.cabinet table first n
    let spans := es.map fun e => (e.landing, e.desc.imageBytes)
    check [(rangesClash [] (spans.map fun x => [x]), errRange 0), (spans.any fun x => landBytes < x.1 + x.2, errRange 0)]
    let ws ← s.imagesOf c.cabinet (arg r 8 8) es
    let t ← s.writeAll c.cabinet ws
    pure (t.consume c.cabinet (es.flatMap fun e => e.desc.sourceRuns), sumNat (ws.map fun w => w.2.length))

/-- SHELF_WRITE (R277, R124): the tensor of an entry is replaced in place from SRC. -/
def execShelfWrite (id : Nat) (s : State) : Result :=
  s.shelfCmd id 0x4011 fun c => do
    let r := c.record
    match argsErr r [(0, 12), (16, 8)] [(arg r 16 8 % 64 != 0, errAlign 16)] with
    | some e => throw e
    | none => pure ()
    let (entries, table, _) ← s.shelfHeader c.cabinet (arg r 0 8)
    check [(entries ≤ arg r 8 4, errRange 8)]
    let e ← s.shelfEntry c.cabinet table (arg r 8 4)
    let b ← s.readCab c.cabinet (arg r 16 8) 64
    let src := parseDesc (arg r 16 8) b
    match descErr (fun _ => 16) b src with
    | some x => throw x
    | none => pure ()
    check [(src.format != e.desc.format || src.layout != e.desc.layout, errField 16),
      (src.elements != e.desc.elements, errRange 16), (e.desc.heapSlots < src.heapUsed, errRange 16)]
    let ws ← copyRuns (s.readCab c.cabinet) src e.desc
    let t ← s.writeAll c.cabinet ws
    pure (t, 0)

/-! ### Prefetch (R274, R278, R282) -/

/-- Sequence-engine transfers in progress: started commands that move data, and prefetches that hold a slot (R274). -/
def State.seqTransfers (s : State) : Nat :=
  (s.contract.ctxs.filter fun c => !c.finished &&
    (isCommand 0x4004 s c || isCommand 0x4005 s c || isCommand 0x4010 s c || isCommand 0x4011 s c)).length +
  (s.tiers.prefetches.filter (·.started)).length

/-- Queued prefetches take slots, oldest first, while at least 4 are free (R274). -/
def State.startPrefetches (s : State) : State :=
  let free := 16 - s.seqTransfers
  let (l, _) := s.tiers.prefetches.foldl (fun (acc : List Prefetch × Nat) p =>
    if !p.started && 4 ≤ acc.2 then (acc.1 ++ [{ p with started := true }], acc.2 - 1) else (acc.1 ++ [p], acc.2)) ([], free)
  { s with tiers := { s.tiers with prefetches := l } }

/-- The 64 KiB granules of device memory under some runs of cabinet memory. -/
def State.granulesOf (s : State) (cab : Nat) (runs : List (Nat × Nat)) : List Nat :=
  (runs.flatMap fun r => (piecesOf r.1 r.2).filterMap fun p =>
    (s.translate cab p.1 .read).map fun d => d / 65536 * 65536).eraseDups

/-- A prefetch is queued, unless run-ahead is off (R278, R282). -/
def State.queuePrefetch (s : State) (cab : Nat) (runs : List (Nat × Nat)) : State :=
  if s.e 0x2504 0 = 0 then s else
  let p : Prefetch := { cabinet := cab, granules := s.granulesOf cab runs, started := false }
  State.startPrefetches { s with tiers := { s.tiers with prefetches := s.tiers.prefetches ++ [p] } }

/-- SEQ_PREFETCH (R278): the committed blocks named are queued to be read into staging; what cannot be read is no error. -/
def execSeqPrefetch (id : Nat) (s : State) : Result :=
  s.onCtx id (isCommand 0x4020) fun c =>
    let a := arg c.record 0 8
    match argsErr c.record [(0, 16)] [(a % 64 != 0, errAlign 0)] with
    | some e => s.commit (s.finishErr id e)
    | none =>
      let s1 := s.settleSeq c.cabinet a
      match s1.seqAt c.cabinet a with
      | .error _ => s.commit (s1.finishOk id 0)
      | .ok d =>
        let s2 := s1.touchSeq c a d
        let bs := (List.range (min (arg c.record 12 4) d.blocks)).map (arg c.record 8 4 + ·)
        let runs := (bs.filter (· < d.blocks)).filterMap fun b =>
          match s2.blockAddr c.cabinet d b with
          | .error _ => none
          | .ok x => if x = 0 then none else some (x, d.tokensIn b * d.recBytes)
        s.commit ((s2.queuePrefetch c.cabinet runs).finishOk id 0)

/-- SHELF_PREFETCH (R278): the tensors of the entries named are queued to be read into staging. -/
def execShelfPrefetch (id : Nat) (s : State) : Result :=
  s.onCtx id (isCommand 0x4021) fun c =>
    match argsErr c.record [(0, 16)] [(arg c.record 0 8 % 64 != 0, errAlign 0)] with
    | some e => s.commit (s.finishErr id e)
    | none =>
      let runs : List (Nat × Nat) := match s.shelfHeader c.cabinet (arg c.record 0 8) with
        | .error _ => []
        | .ok (entries, table, _) =>
          ((List.range (min (arg c.record 12 4) entries)).map (arg c.record 8 4 + ·)).flatMap fun i =>
            if entries ≤ i then [] else
            match s.shelfEntry c.cabinet table i with
            | .error _ => []
            | .ok e => e.desc.sourceRuns
      s.commit ((s.queuePrefetch c.cabinet runs).finishOk id 0)

/-- A granule has been read into staging, when it reads correctly and staging has room; an uncorrectable one is reported and
its copy discarded (R250). -/
def State.stageGranule (s : State) (cab g : Nat) : State :=
  match s.badUnit g 65536 with
  | some u => s.reportUe u masterNone
  | none =>
    if s.tiers.runaheadGranted < (s.tiers.staged.length + 1) * 65536 then s
    else if s.tiers.staged.any fun x => x.cabinet == cab && x.source == g && x.valid then s
    else { s with tiers := { s.tiers with
      staged := s.tiers.staged ++ [{ cabinet := cab, source := g, valid := true }] } }

/-- PREFETCH_TRANSFER_DONE (R274, R278): a running prefetch has read its granules; its slot is free. -/
def execPrefetchTransferDone (which : Nat) (s : State) : Result :=
  let s1 := s.startPrefetches
  match s1.tiers.prefetches[which]? with
  | none => s.idle
  | some p =>
    if !p.started || s.faults.safe then s.idle else
    let s2 := { s1 with tiers := { s1.tiers with prefetches := s1.tiers.prefetches.eraseIdx which } }
    let full := s2.tiers.runaheadGranted < (s2.tiers.staged.length + p.granules.length) * 65536
    let s3 := p.granules.foldl (fun (s : State) g => s.stageGranule p.cabinet g) s2
    s.quiet ((if full then s3.bump 0x2504 3 1 else s3).startPrefetches)

end Sys2Proof.Machine
end

