-- ==== Sys2Proof/Machine/Zt.lean ====
section
/-! DEFINITION. The commands of ZT: work requests (R308 to R313, R322, R324), received packets (R306, R314 to R327), and the
timers of connections and contexts (R296, R297, R300, R304, R305, R307). -/

namespace Sys2Proof.Machine

/-! ### Work requests (R308, R309) -/

/-- The first nonzero byte of a work request that its operation does not use (R308); bytes 0 to 7 and 12 to 19 are common to
all. -/
def workReserved (r : Bytes) (flags : Nat) (named : List (Nat × Nat)) : Option Err :=
  if (bit (field r 1 1) 3 && !bit flags 3) || (bit (field r 1 1) 4 && !bit flags 4) then some (errField 0x8001)
  else
    ((List.range 64).find? fun i =>
      !(i < 8 && i != 3) && !(12 ≤ i && i < 20) && field r i 1 != 0 &&
        !(named.any fun f => f.1 ≤ i && i < f.1 + f.2)).map fun i => errField (0x8000 + i)

/-- A connection of a cabinet. -/
def State.connOf (s : State) (cab i : Nat) : Option Conn :=
  match s.conn? i with
  | some k => if k.cabinet = cab then some k else none
  | none => none

/-- Whether an earlier data request of the same queue and connection has not entered the stream (R310). -/
def State.behind (s : State) (c : Ctx) : Bool :=
  s.contract.ctxs.any fun x => x.queue == c.queue && x.id < c.id && !x.finished && !x.issued && s.ctxEngine x == 6 &&
    field x.record 8 4 == field c.record 8 4 && 1 ≤ field x.record 0 1 && field x.record 0 1 ≤ 5

/-- A work request that reaches a connection (R302, R313): refused where check says so, held while the context is not
cached, else f. -/
def State.onConn (s : State) (c : Ctx) (refuse : Option Conn → Option Err) (f : Conn → Result) : Result :=
  let i := field c.record 8 4
  let k := s.connOf c.cabinet i
  match refuse k with
  | some e => s.commit (s.finishErr c.id e)
  | none =>
    match k with
    | none => s.commit (s.finishErr c.id (errPlain stBadHandle))
    | some k => if k.cached then f k else s.quiet (s.fetchConn i)

/-- What a data request finds of its connection (R313). -/
def dataRefusal (k : Option Conn) : Option Err :=
  match k with
  | none => some (errState 5 0x20)
  | some k =>
    if k.state = 6 then some (errPlain stPeerTimeout)
    else if k.state = 2 || k.state = 3 then none
    else some (errState 5 0x20)

/-- A request has entered its connection's stream (R310). -/
def Ctx.issue (c : Ctx) : Ctx := { c with issued := true }

/-- A data request (R308 to R313): its fields are checked; it enters the stream in ring order once its connection is
ESTABLISHED and cached; sync says whether it needs ZT 2. -/
def State.dataRequest (s : State) (id op flags : Nat) (named : Bytes → List (Nat × Nat)) (checks : Bytes → List (Bool × Err))
    (zt2 : Bytes → Bool) (packets : Conn → Bytes → List TxPacket) : Result :=
  s.onCtx id (isWork op) fun c =>
    let r := c.record
    if c.issued then s.idle else
    match workReserved r flags (named r) with
    | some e => s.commit (s.finishErr id e)
    | none =>
      match firstErr (checks r) with
      | some e => s.commit (s.finishErr id e)
      | none =>
        s.onConn c dataRefusal fun k =>
          if k.state != 3 || s.behind c then s.idle
          else if k.version = 1 && zt2 r then s.commit (s.finishErr id (errField (0x8000 + (if op = 5 then 0 else 1))))
          else s.commit (((s.updCtx id Ctx.issue).cacheConn k.index).queueZt k.index (packets k r))

/-- The checks of a remote signal operation (R308). -/
def remoteOpBad (r : Bytes) : Bool := field r 3 1 = 0 || 6 < field r 3 1

/-- WRITE (R309, R312): a message of packets with the local range, and with REMOTE_SIGNAL the signal extension on the
last. -/
def execWrite (id : Nat) (s : State) : Result :=
  let sig := fun (r : Bytes) => bit (field r 1 1) 3
  s.dataRequest id 0x01 8
    (fun r => [(8, 4), (20, 24)] ++ (if sig r then [(3, 1), (44, 16)] else []))
    (fun r => [(field r 40 4 = 0 || 2 ^ 30 < field r 40 4, errRange 0x8028), (sig r && remoteOpBad r, errField 0x8003)])
    sig
    (fun k r =>
      let ext := if sig r then slice r 44 4 ++ slice r 56 4 ++ slice r 3 1 ++ zeros 7 ++ slice r 48 8 else []
      writePackets k.mtu (field r 20 4) (field r 32 8) (field r 24 8) (field r 40 4) ext (some id))

/-- READ (R309, R312): one READ_REQ; its responses land in the local range. -/
def execRead (id : Nat) (s : State) : Result :=
  s.dataRequest id 0x02 0 (fun _ => [(8, 4), (20, 24)])
    (fun r => [(field r 40 4 = 0 || 2 ^ 30 < field r 40 4, errRange 0x8028)]) (fun _ => false)
    (fun _ r => [txPacket 0x02 0 (slice r 32 8 ++ slice r 20 4 ++ slice r 40 4) 0 0 (some id)])

/-- The ATOMIC_REQ of a request (R287). -/
def atomicPacket (id aop : Nat) (sync : Bool) (r : Bytes) : TxPacket :=
  let target := if sync then slice r 44 4 ++ zeros 4 else slice r 32 8
  txPacket 0x03 0 (target ++ slice r 20 4 ++ toLe 1 aop ++ slice r 3 1 ++ toLe 1 (b2n sync) ++ [0] ++ slice r 48 16) 0 0 (some id)

/-- Whether an atomic names a sync object (R308). -/
def syncTarget (r : Bytes) : Bool := bit (field r 1 1) 4

/-- The checks of an atomic on memory (R309). -/
def atomicChecks (r : Bytes) : List (Bool × Err) := [(!syncTarget r && field r 32 8 % 8 != 0, errAlign 0x8020)]

/-- FETCH_ADD (R309, R316): one ATOMIC_REQ on a word of the region or on a sync object. -/
def execFetchAdd (id : Nat) (s : State) : Result :=
  s.dataRequest id 0x03 16 (fun r => [(8, 4), (20, 4), (48, 8), (if syncTarget r then (44, 4) else (32, 8))]) atomicChecks
    syncTarget (fun _ r => [atomicPacket id 1 (syncTarget r) r])

/-- CMP_SWAP (R309, R316). -/
def execCmpSwap (id : Nat) (s : State) : Result :=
  s.dataRequest id 0x04 16 (fun r => [(8, 4), (20, 4), (48, 16), (if syncTarget r then (44, 4) else (32, 8))]) atomicChecks
    syncTarget (fun _ r => [atomicPacket id 2 (syncTarget r) r])

/-- SIGNAL (R309, R316): a signal operation on a remote sync object; a ZT 2 feature (R298). -/
def execSignal (id : Nat) (s : State) : Result :=
  s.dataRequest id 0x05 0 (fun _ => [(3, 1), (8, 4), (20, 4), (44, 12)])
    (fun r => [(remoteOpBad r, errField 0x8003)]) (fun _ => true) (fun _ r => [atomicPacket id 3 true r])

/-- WAIT (R309): it starts once its object holds the value, and ends at once; until then its queue waits. -/
def execWait (id : Nat) (s : State) : Result :=
  s.onCtx id (isWork 0x06) fun c =>
    match workReserved c.record 0 [(48, 8)] with
    | some e => s.commit (s.finishErr id e)
    | none => s.commit (s.finishZt id stOk 0)

/-! ### Connections (R295 to R297, R293) -/

/-- The fields of a connection descriptor that are out of range (R295). -/
def connDescBad (b : Bytes) : Bool :=
  1 < field b 4 1 || (field b 4 1 = 0 && field b 0 4 = 0xFFFFFFFF) || field b 5 1 = 0 || 2 < field b 5 1 ||
  field b 6 1 < field b 5 1 || 2 < field b 6 1 || 1 < field b 7 1 ||
  !(field b 8 2 = 1024 || field b 8 2 = 2048 || field b 8 2 = 4096) || 7 < field b 14 1 || field b 15 1 != 0 ||
  (field b 0 4 != 0xFFFFFFFF && 4194303 < field b 0 4) || !allZero (slice b 48 16) || !allZero (slice b 96 32) ||
  (field b 7 1 = 0 && !(allZero (slice b 20 12) && allZero (slice b 36 12)))

/-- The connection that a descriptor describes (R295). -/
def State.newConn (s : State) (i cab : Nat) (b : Bytes) : Conn :=
  let k : Conn := default
  { k with
    index := i, cabinet := cab, state := if field b 4 1 = 1 then 1 else 2, role := field b 4 1
    verMin := field b 5 1, verMax := field b 6 1, version := field b 6 1, ipv6 := bit (field b 7 1) 0
    mtu := field b 8 2, srcPort := field b 10 2, subscriber := field b 12 2, service := field b 14 1
    localIp := slice b 16 16, peerIp := slice b 32 16, peerConn := field b 0 4, secret := slice b 64 32
    createdAt := s.now, connectLimit := s.e 0x2602 5, lastConnect := s.now, lastRx := s.now, lastTx := s.now
    cwnd := if field b 6 1 = 1 then 64 else 256, cwndAt := s.now }

/-- A connection joins the table, its context in the cache (R299). -/
def State.addConn (s : State) (k : Conn) : State :=
  { s with zt := { s.zt with conns := s.zt.conns ++ [k] } }.cacheConn k.index

/-- CONNECT is sent (R296). -/
def State.sendConnect (s : State) (i : Nat) : State :=
  match s.conn? i with
  | none => s
  | some k =>
    (s.updConn i fun k => { k with lastConnect := s.now }).sendControl i 0x20
      (toLe 1 k.verMin ++ toLe 1 k.verMax ++ toLe 2 k.mtu ++ zeros 4)

/-- Connections that count against a cabinet's share (R340, pool 3). -/
def State.connCount (s : State) (cab : Nat) : Nat := (s.zt.conns.filter fun k => k.cabinet == cab).length

/-- What a CONN_CREATE makes of the state, or why it fails (R295, R299, R510). -/
def State.createConn (s : State) (c : Ctx) (b : Bytes) : Except Err (State × Nat) :=
  let sub := s.subscriber? (field b 12 2)
  if connDescBad b || (sub.map (·.cabinet)) != some c.cabinet then .error (errRange 0x8018)
  else if !s.tiers.backingInGddr && s.e 0x2601 4 = 0 then .error (errState 5 0x22)
  else if s.share c.cabinet 3 ≤ s.connCount c.cabinet then .error (errPlain stNoResource)
  else match pickFree s.freeValue (s.zt.conns.map (·.index)) 0 0x200000 with
    | none => .error (errPlain stNoResource)
    | some i =>
      let s1 := s.drawn.addConn (s.newConn i c.cabinet b)
      .ok (if field b 4 1 = 0 then s1.sendConnect i else s1, i)

/-- CONN_CREATE (R292, R295, R326): the descriptor is read, its SECRET zeroed whatever the status, and the connection made; it
waits while a firmware activation drains. -/
def execConnCreate (id : Nat) (s : State) : Result :=
  s.onCtx id (isWork 0x10) fun c =>
    if s.contract.activation = 1 then s.idle else
    let a := field c.record 24 8
    let t := match workReserved c.record 0 [(24, 8)] with
      | some e => s.finishErr id e
      | none =>
        if a % 64 != 0 then s.finishErr id (errAlign 0x8018) else
        match s.readCab c.cabinet a 128 with
        | .error e => s.finishErr id e
        | .ok b =>
          match s.createConn c b with
          | .error e => s.finishErr id e
          | .ok (t, i) => t.finishZt id stOk i
    s.land (some id) (t.putCab c.cabinet (a + 64) (zeros 32))

/-- CONN_CLOSE (R295, R297, R313): an ESTABLISHED connection enters CLOSING, and sends CLOSE once all it sent is
acknowledged. -/
def execConnClose (id : Nat) (s : State) : Result :=
  s.onCtx id (isWork 0x11) fun c =>
    match workReserved c.record 0 [(8, 4)] with
    | some e => s.commit (s.finishErr id e)
    | none =>
      s.onConn c (fun k => if (k.map (·.state)) == some 3 then none else some (errState 5 0x20)) fun k =>
        s.commit (((s.updConn k.index fun k => { k with state := 4 }).runSender k.index).finishZt id stOk 0)

/-- A connection returns to FREE, its packets in the miss bench dropped (R295, R327). -/
def State.freeConn (s : State) (i : Nat) : State :=
  { s with zt := { s.zt with
      conns := s.zt.conns.filter fun k => k.index != i
      missBench := s.zt.missBench.filter fun m => m.conn != i } }

/-- CONN_DESTROY (R295): the connection becomes FREE. -/
def execConnDestroy (id : Nat) (s : State) : Result :=
  s.onCtx id (isWork 0x12) fun c =>
    match workReserved c.record 0 [(8, 4)] with
    | some e => s.commit (s.finishErr id e)
    | none => s.onConn c (fun _ => none) fun k => s.commit ((s.freeConn k.index).finishZt id stOk 0).settleJobs

/-- CONN_REKEY (R293, R298): the sender moves to the next key generation. -/
def execConnRekey (id : Nat) (s : State) : Result :=
  s.onCtx id (isWork 0x13) fun c =>
    match workReserved c.record 0 [(8, 4)] with
    | some e => s.commit (s.finishErr id e)
    | none => s.onConn c (fun _ => none) fun k =>
      if k.version = 1 then s.commit (s.finishErr id (errField 0x8000))
      else
        let g := k.genTx + 1
        s.commit (((s.updConn k.index fun k => { k with genTx := g, pktsUnderGen := 0 }).bump 0x2603 2 1).finishZt id stOk g)

/-! ### Regions (R321, R322, R324) -/

/-- The checks of a REG (R322). -/
def State.regErr (s : State) (c : Ctx) : Option Err :=
  let r := c.record
  let base := field r 24 8
  let len := field r 48 8
  let rights := field r 56 8
  let bound := field r 8 4
  firstErr [
    (16 ≤ rights || (bit rights 3 && rights != 8), errRange 0x8038),
    (bit rights 3 && (len = 0 || 2 ^ 18 < base + len), errRange (if 2 ^ 18 ≤ base then 0x8018 else 0x8030)),
    (!bit rights 3 && (len = 0 || 2 ^ 48 < len), errRange 0x8030),
    (bit rights 2 && base % 8 != 0, errAlign 0x8018),
    (bound != 0xFFFFFFFF && (s.connOf c.cabinet bound).isNone, errPlain stBadHandle),
    (s.share c.cabinet 4 ≤ (s.zt.regions.filter fun x => x.cabinet == c.cabinet).length, errPlain stNoResource)]

/-- TAG of the next use of a region index (R321): it advances by 1 and skips 0. -/
def State.nextTag (s : State) (i : Nat) : Nat :=
  let t := (lookupD s.zt.tags i 0 + 1) % 2 ^ 14
  if t = 0 then 1 else t

/-- REG (R321, R322): a region becomes OPEN; DETAIL is its RKEY. -/
def execReg (id : Nat) (s : State) : Result :=
  s.onCtx id (isWork 0x20) fun c =>
    let r := c.record
    match workReserved r 0 [(8, 4), (24, 8), (48, 16)] with
    | some e => s.commit (s.finishErr id e)
    | none =>
      match s.regErr c, pickFree s.freeValue (s.zt.regions.map (·.index)) 0 262144 with
      | some e, _ => s.commit (s.finishErr id e)
      | none, none => s.commit (s.finishErr id (errPlain stNoResource))
      | none, some i =>
        let tag := s.nextTag i
        let bound := field r 8 4
        let x : ZtRegion :=
          { index := i, tag := tag, cabinet := c.cabinet, isClosing := false, base := field r 24 8, len := field r 48 8
            rights := field r 56 8, bound := if bound = 0xFFFFFFFF then none else some bound, inFlight := 0, revokeCtx := none }
        let s1 := { s.drawn with zt := { s.zt with regions := s.zt.regions ++ [x], tags := putKey s.zt.tags i tag } }
        s.commit (s1.finishZt id stOk (tag * 2 ^ 18 + i))

/-- REVOKE (R324, R313): an OPEN region enters CLOSING; the request ends when nothing is in flight there. -/
def execRevoke (id : Nat) (s : State) : Result :=
  s.onCtx id (isWork 0x21) fun c =>
    match workReserved c.record 0 [(20, 4)] with
    | some e => s.commit (s.finishErr id e)
    | none =>
      let key := field c.record 20 4
      match s.region? (rkeyIndex key) with
      | none => s.commit (s.finishErr id (errState 5 0x21))
      | some r =>
        if r.revokeCtx = some id then s.idle
        else if r.tag != rkeyTag key || r.cabinet != c.cabinet || r.isClosing then
          s.commit (s.finishErr id (errState 5 0x21))
        else s.quiet (s.updRegion r.index fun r => { r with isClosing := true, revokeCtx := some id })

/-- REGION_DRAINED (R324): the in-flight counter of a CLOSING region is zero, the region is FREE and its REVOKE ends. -/
def execRegionDrained (region : Nat) (s : State) : Result :=
  match s.region? region with
  | none => s.idle
  | some r =>
    if !r.isClosing || r.inFlight != 0 || !s.ztRuns then s.idle
    else
      let s1 := { s with zt := { s.zt with regions := s.zt.regions.filter fun x => x.index != region } }
      s.quiet (match r.revokeCtx with
        | some id => s1.finishZt id stOk 0
        | none => s1)

/-! ### Received packets (R286, R306, R314 to R327) -/

/-- A received packet takes its course; it may end the collective of its group (R358), or a write into the pool (R391). -/
def State.ztRow (s : State) (ty : Nat) (p : ZtIn) : Result :=
  if !s.ztRuns then s.idle else
  match s.ztPacket ty p with
  | .next t => s.commit (if 0x200000 ≤ p.conn then t.settleColl (connGroup p.conn).1 else t.settleJobs)
  | o => o

/-- WRITE_PACKET. -/
def execWritePacket (p : ZtIn) (s : State) : Result := s.ztRow 0x01 p
/-- READ_REQ. -/
def execReadReq (p : ZtIn) (s : State) : Result := s.ztRow 0x02 p
/-- ATOMIC_REQ. -/
def execAtomicReq (p : ZtIn) (s : State) : Result := s.ztRow 0x03 p
/-- READ_RESP. -/
def execReadResp (p : ZtIn) (s : State) : Result := s.ztRow 0x11 p
/-- ATOMIC_RESP. -/
def execAtomicResp (p : ZtIn) (s : State) : Result := s.ztRow 0x12 p
/-- ERROR_RESP. -/
def execErrorResp (p : ZtIn) (s : State) : Result := s.ztRow 0x13 p
/-- CONNECT. -/
def execConnect (p : ZtIn) (s : State) : Result := s.ztRow 0x20 p
/-- ACCEPT. -/
def execAccept (p : ZtIn) (s : State) : Result := s.ztRow 0x21 p
/-- CLOSE. -/
def execClose (p : ZtIn) (s : State) : Result := s.ztRow 0x22 p
/-- CLOSE_ACK. -/
def execCloseAck (p : ZtIn) (s : State) : Result := s.ztRow 0x23 p
/-- ACK. -/
def execAck (p : ZtIn) (s : State) : Result := s.ztRow 0x30 p

/-- UNMATCHED_DATAGRAM (R286, R327): a datagram of a reserved type, or one that fails the checks of R327, is dropped and
counted. -/
def execUnmatchedDatagram (_reservedType : Bool) (s : State) : Result :=
  if s.ztRuns then s.quiet (s.bump 0x2605 7 1) else s.idle

/-! ### Timers (R296, R297, R304, R305, R307) -/

/-- A packet of a connection that waits for its acknowledgement. -/
def Conn.waitingFor (k : Conn) (psn : BitVec 32) : Option TxPacket := k.tx.find? fun p => p.psn == psn && !p.acked

/-- CWND after a retransmission timeout (R303). -/
def Conn.backOff (k : Conn) (now : Nat) : Conn :=
  if now < k.cwndAt + k.srtt then k else { k with cwnd := max 16 (k.cwnd / 2), cwndAt := now }

/-- RETRANSMISSION_TIMEOUT (R303, R304): the packet is sent again with the next ATTEMPT, and its timeout doubles. -/
def execRetransmissionTimeout (conn : Nat) (psn : BitVec 32) (s : State) : Result :=
  match s.conn? conn with
  | none => s.idle
  | some k =>
    match k.waitingFor psn with
    | none => s.idle
    | some p =>
      if !s.ztRuns || s.now < p.sentAt + p.rto then s.idle
      else s.commit ((s.updConn conn fun k => k.backOff s.now).resend conn psn true).settleJobs

/-- RETRY_EXHAUSTION (R305): a packet unacknowledged for RETRY_LIMIT since its first transmission fails its connection. -/
def execRetryExhaustion (conn : Nat) (psn : BitVec 32) (s : State) : Result :=
  match s.conn? conn with
  | none => s.idle
  | some k =>
    match k.waitingFor psn with
    | none => s.idle
    | some p =>
      if !s.ztRuns || s.now < p.firstSent + s.e 0x2602 3 then s.idle else s.commit (s.failConn conn).settleJobs

/-- CONNECT_RESEND (R296): every 1 ms CONNECT is sent again, until CONNECT_TIMEOUT fails the connection. -/
def execConnectResend (conn : Nat) (s : State) : Result :=
  match s.conn? conn with
  | none => s.idle
  | some k =>
    if k.state != 2 || !s.ztRuns then s.idle
    else if k.createdAt + k.connectLimit ≤ s.now then s.commit (s.failConn conn).settleJobs
    else if s.now < k.lastConnect + 1000000 then s.idle
    else s.commit (s.sendConnect conn)

/-- CLOSE_RESEND (R297): every RTO_MAX CLOSE is sent again; 100 ms after the first without CLOSE_ACK the connection
fails. -/
def execCloseResend (conn : Nat) (s : State) : Result :=
  match s.conn? conn with
  | none => s.idle
  | some k =>
    match k.firstClose with
    | none => s.idle
    | some t =>
      if k.state != 4 || !s.ztRuns then s.idle
      else if t + 100000000 ≤ s.now then s.commit (s.failConn conn).settleJobs
      else if s.now < k.lastConnect + k.closeEvery then s.idle
      else
        s.commit ((s.updConn conn fun k => { k with lastConnect := s.now, closeEvery := s.e 0x2602 2 }).sendControl conn 0x22
          (toLe 4 k.nxt.toNat ++ zeros 4))

/-- ACK_DELAY (R307): an ACK goes out no later than ACK_DELAY after the first unacknowledged acceptance. -/
def execAckDelay (conn : Nat) (s : State) : Result :=
  match s.conn? conn with
  | none => s.idle
  | some k =>
    match k.firstUnackedAt with
    | none => s.idle
    | some t => if !s.ztRuns || s.now < t + k.ackLimit then s.idle else s.commit (s.sendAck conn)

/-! ### Contexts (R299, R300, R302) -/

/-- The packets of a connection leave the miss bench. -/
def State.unbench (s : State) (i : Nat) (drop : MissPkt → Bool) : State :=
  { s with zt := { s.zt with missBench := s.zt.missBench.filter fun m => !(m.conn == i && drop m) } }

/-- The packets that waited for a context are judged in their order. -/
def State.judgeBenched (s : State) (i : Nat) : State :=
  let ms := s.zt.missBench.filter fun m => m.conn == i
  ms.foldl (fun (s : State) m =>
    match s.conn? i with
    | none => s
    | some k => s.judgeZt k m.ty m.p) (s.unbench i fun _ => true)

/-- Data requests of a connection that have not entered its stream. -/
def State.unissued (s : State) (i : Nat) : List Ctx :=
  s.contract.ctxs.filter fun c => !c.finished && s.ctxEngine c == 6 && field c.record 8 4 == i && !c.issued &&
    1 ≤ field c.record 0 1 && field c.record 0 1 ≤ 0x13

/-- A fetch from a fenced backing store fails (R302): its requests end with HOST_LEASE_LOST, its packets are dropped. -/
def State.failFetch (s : State) (i : Nat) : State :=
  let n := (s.zt.missBench.filter fun m => m.conn == i).length
  let s1 := ((s.updConn i fun k => { k with fetching := false }).unbench i fun _ => true).bump 0x2601 6 n
  (s1.unissued i).foldl (fun (s : State) c => s.finishZt c.id stHostLeaseLost 0) s1

/-- CONTEXT_FETCH (R300, R302): a context arrives in the cache; what waited for it goes on. -/
def execContextFetch (conn : Nat) (s : State) : Result :=
  match s.conn? conn with
  | none => s.idle
  | some k =>
    if !k.fetching || !s.ztRuns then s.idle
    else if !s.tiers.backingInGddr && s.leaseFenced 0 then s.quiet (s.failFetch conn)
    else
      let t := (s.cacheConn conn).judgeBenched conn
      s.commit (if 0x200000 ≤ conn then t.settleColl (connGroup conn).1 else t.settleJobs)

/-- MISS_FETCH_LIMIT (R300): packets whose fetch has taken MISS_FETCH_LIMIT are dropped and counted. -/
def execMissFetchLimit (conn : Nat) (s : State) : Result :=
  let late := fun (m : MissPkt) => decide (m.arrived + s.e 0x2601 7 ≤ s.now)
  let n := (s.zt.missBench.filter fun m => m.conn == conn && late m).length
  if n = 0 || !s.ztRuns then s.idle else s.quiet ((s.unbench conn late).bump 0x2601 6 n)

end Sys2Proof.Machine
end

