-- ==== Sys2Proof/Machine/Cabinets.lean ====
section
/-! DEFINITION. Cabinets (R508 to R523, R528 to R531): the clearing of a cabinet by a function-level reset (R468, R469) or a
RELEASE (R518), shares, the freeze and its end, and the dirty log's swap. -/

namespace Sys2Proof.Machine

/-! ### What a function-level reset and a RELEASE clear (R468, R518) -/

/-- A cabinet's ZT regions are revoked (R324). -/
def ZtRegion.revoked (r : ZtRegion) : ZtRegion := { r with isClosing := true, revokeCtx := none }

/-- The groups of a cabinet leave without LEAVE (R342), its connections become FREE (R295), its regions are revoked
(R324). -/
def State.clearZt (s : State) (cab : Nat) : State :=
  let s1 := ((s.coll.groups.filter fun g => g.cabinet == cab).map (·.slot)).foldl State.leaveGroup s
  let s2 := ((s1.zt.conns.filter fun k => k.cabinet == cab).map (·.index)).foldl State.freeConn s1
  let s3 := { s2 with zt := { s2.zt with regions := updWhere (fun r => r.cabinet == cab) ZtRegion.revoked s2.zt.regions } }
  s3.settleJobs

/-- Whether the first byte of a queue's ring lies in host memory. -/
def State.ringInHost (s : State) (q : Queue) : Bool :=
  match s.translate q.cabinet q.ringBase .any with
  | some d => inHost d
  | none => false

/-- Records for completion queues in host memory are dropped (R468). -/
def State.closeHostCqs (s : State) (cab : Nat) : State :=
  { s with contract := { s.contract with
      queues := updWhere (fun q => q.cabinet == cab && q.kind == 0 && s.ringInHost q) (fun q => { q with state := 4, held := [] })
        s.contract.queues } }

/-- The records placed in a queue that are not started complete with a status (R468). -/
def discardRing (st : Nat) (closed : Bool) (s : State) (q : Queue) : State :=
  if q.kind != 1 || (closed && s.ringInHost q) then s
  else
    match s.queue? q.index with
    | none => s
    | some q => s.discardPlaced q st 0 false q.head 0 q.placed

/-- The queues and sync objects of a cabinet are gone; their epochs have advanced, and marks that name them are void
(R263, R413). -/
def State.clearQueues (s : State) (cab : Nat) : State :=
  let mine := s.queuesOf cab
  let s1 := mine.foldl (fun (s : State) q => (s.voidMarks (queueHandle cab q.index)).advanceEpoch q.index) s
  { s1 with contract := { s1.contract with
      queues := s1.contract.queues.filter fun q => q.cabinet != cab
      syncs := s1.contract.syncs.filter fun o => o.cabinet != cab } }

/-- The ladder of R468 after t0 + 1 µs for one cabinet: every command ends with the status, and what the cabinet holds is
gone; closed where host DMA is. -/
def State.clearCabinet (s : State) (cab st : Nat) (closed : Bool) : State :=
  let s1 := if closed then s.closeHostCqs cab else s
  let s2 := s1.stopEach ((s1.contract.ctxs.filter fun c => c.cabinet == cab).map (·.id)) st 0 false
  let s3 := (s2.queuesOf cab).foldl (discardRing st closed) s2
  let s4 := { s3 with contract := { s3.contract with ctxs := s3.contract.ctxs.filter fun c => c.cabinet != cab } }
  ((s4.clearZt cab).clearQueues cab).resetCtrl cab

/-- The requests that a function's mailbox carried are answered no more (R468). -/
def State.dropMailbox (s : State) (cab : Nat) : State :=
  let t := if cab = 0 then 3 else 4
  { s with steral := { s.steral with
      outstanding := s.steral.outstanding.filter fun o => !(o.transport == t && (t == 3 || o.source == cab))
      heldReqs := s.steral.heldReqs.filter fun h => !(h.2.2.2.transport == t && (t == 3 || h.2.2.2.source == cab)) } }

/-! ### Function-level reset (R468, R469, R594) -/

/-- The cabinets that a function-level reset reaches: its own, and with the PF's every enabled VF's (R469). -/
def State.flrScope (s : State) (cab : Nat) : List Nat :=
  if cab != 0 then [cab]
  else
    let known := (s.cabs.cabs.map (·.id) ++ s.ports.functions.map (·.cabinet)).eraseDups
    0 :: known.filter fun c => c != 0 && s.fnEnabled c && !(s.ports.hostSplit && c == 4095)

/-- The ladder of R468 for one cabinet: its commands end with DISCARDED_FLR and what it holds is gone; a FROZEN cabinet is
ASSIGNED again (R516). -/
def State.flrCabinet (s : State) (cab : Nat) : State :=
  ((s.clearCabinet cab stDiscardedFlr true).dropMailbox cab).updCabinet cab fun c => { c with state := if c.state = 3 then 1 else c.state }

/-- The PF's lease is UNARMED (R92), and its VF Enable is clear (R469). -/
def State.flrPf (s : State) : State :=
  let s1 := (s.putEnt 0 0x4004 2 0).putEnt 0 0x4004 3 0
  { s1 with
    contract := { s1.contract with fencedAt := dropKey s1.contract.fencedAt 0 }
    ports := { s1.ports with vfEnable := false } }

/-- The ladder runs for every cabinet in reach of a function. -/
def State.runFlr (s : State) (cab : Nat) : State :=
  let cabs := s.flrScope cab
  let s1 := cabs.foldl (fun (s : State) c => s.setFn c fun f => { f with flr := some s.now, flrDue := false }) s
  let s2 := cabs.foldl State.flrCabinet s1
  if cab = 0 then s2.flrPf else s2

/-- INITIATE_FUNCTION_LEVEL_RESET (R468, R469): from here the function's requests are refused; in RETAIN the ladder waits for
LOGIC_READY (R594). -/
def execInitiateFunctionLevelReset (cab : Nat) (s : State) : Result :=
  if s.faults.safe || !s.configTaken cab then s.idle
  else if s.e 0x2E05 0 != 0 then s.quiet (s.setFn cab fun f => { f with flr := some s.now, flrDue := true })
  else s.commit (s.runFlr cab)

/-- A function is at its reset values; of the PF, the port's own registers too. -/
def State.resetFunction (s : State) (cab : Nat) : State :=
  let s1 := { s with
    contract := { s.contract with latches := s.contract.latches.filter fun l => l.cabinet != cab }
    ports := { s.ports with functions := s.ports.functions.filter fun f => f.cabinet != cab } }
  if cab != 0 then s1
  else
    let p := Ports.reset
    { s1 with ports := { s1.ports with
        functions := p.functions ++ s1.ports.functions, vfEnable := p.vfEnable, numVfs := p.numVfs, vfBar0 := p.vfBar0
        bar2 := p.bar2, bar2Log2 := p.bar2Log2, maxPayload := p.maxPayload, maxReadReq := p.maxReadReq, rcb := p.rcb
        devCtl2 := p.devCtl2 } }

/-- FLR_COMPLETE (R468): configuration space and function block are at reset values, of every function that the PF's reset
took with it too (R469). -/
def execFlrComplete (cab : Nat) (s : State) : Result :=
  let f := s.fn cab
  if f.flr.isNone || f.flrDue then s.idle
  else
    let others := if cab = 0 then
        (s.ports.functions.filter fun g => g.cabinet != 0 && g.flr.isSome && !(s.ports.hostSplit && g.cabinet == 4095)).map (·.cabinet)
      else []
    s.quiet (((cab :: others).foldl State.resetFunction s).bump 0x2A06 6 1)

/-! ### Assignment and release (R516 to R519) -/

/-- The state of a cabinet: 0 FREE, 1 ASSIGNED, 2 FREEZING, 3 FROZEN, 4 RELEASING. -/
def State.cabState (s : State) (cab : Nat) : Nat :=
  match s.cabinet? cab with
  | some c => c.state
  | none => 0

/-- The ASCII bytes of "ZX9 cabinet". -/
def labelCabinet : Bytes := [0x5A, 0x58, 0x39, 0x20, 0x63, 0x61, 0x62, 0x69, 0x6E, 0x65, 0x74]

/-- A cabinet that was FREE is in a state, with its key's slot (R537). -/
def State.openCabinet (s : State) (cab state : Nat) : State :=
  let c : Cabinet := { (default : Cabinet) with id := cab, state := state }
  let key : KeySlot := { slot := 64 + cab, cabinet := cab, label := labelCabinet, secret := [] }
  { s with
    cabs := { s.cabs with cabs := s.cabs.cabs ++ [c] }
    trust := { s.trust with slots := s.trust.slots ++ [key] } }

/-- ASSIGN's effect (R516, R519). -/
def actAssign : ActEffect := fun r s =>
  if r.cabinet = 0 || s.cabState r.cabinet != 0 then .error (.state 2 0)
  else .ok ((s.openCabinet r.cabinet 1).bumpEnt r.cabinet 0x4000 3 1, false)

/-- ASSIGN (R516, R519). -/
def execAssign (r : ActReq) (s : State) : Result := s.act r 0x4000 1 actAssign

/-- RELEASE's effect (R516, R518): its commands end with DISCARDED_RESET, host DMA stays open, its sequence leases break, its
shares, RESIZE_SYNC and TRANS_ROOT are 0. -/
def actRelease : ActEffect := fun r s =>
  let c := r.cabinet
  if c = 0 || (s.cabState c != 1 && s.cabState c != 3) then .error (.state 2 0)
  else
    let s1 := (s.clearCabinet c stDiscardedReset false).breakLeases c
    let s2 := (List.range 8).foldl (fun (s : State) i => s.putEnt c 0x4001 (i + 1) 0) s1
    let s3 := (s2.putEnt c 0x4000 5 0).putEnt c 0x4003 3 0
    .ok (s3.updCabinet c fun x => { x with state := 4, releaseStart := s.now }, true)

/-- RELEASE (R518). -/
def execRelease (r : ActReq) (s : State) : Result := s.act r 0x4000 2 actRelease

/-- RELEASE_DONE (R516, R518, R537): the cabinet is FREE, and its key slot with it. -/
def execReleaseDone (cab : Nat) (s : State) : Result :=
  if s.cabState cab != 4 then s.idle
  else
    let s1 := { s with
      cabs := { s.cabs with cabs := s.cabs.cabs.filter fun c => c.id != cab }
      trust := { s.trust with
        slots := s.trust.slots.filter fun k => k.slot != 64 + cab
        keyCache := s.trust.keyCache.filter (· != 64 + cab) } }
    s.commit (s1.endActOk cab 0x4000 2)

/-! ### Shares (R510 to R514) -/

/-- SHARE's effect (R514): SHARE_GEN advances and RESIZE_SYNC takes MAX of it. -/
def actShare : ActEffect := fun r s =>
  let c := r.cabinet
  let s1 := (s.putEnt c 0x4001 r.sub (reqVal r)).bumpEnt c 0x4000 4 1
  let h := s1.ent c 0x4000 5
  .ok (if s1.syncValid c h then s1.signal c (handleIndex h) 3 (BitVec.ofNat 64 (s1.ent c 0x4000 4)) else s1, false)

/-- SHARE (R511, R512, R514). -/
def execShare (r : ActReq) (s : State) : Result := s.act r 0x4001 r.sub actShare

/-! ### The admin queue (R49, and ADMIN_ENABLE's entry) -/

/-- The admin rings of a cabinet translate for their accesses. -/
def State.adminRings (s : State) (cab : Nat) : Bool :=
  (s.canWrite cab (s.ent cab 0x4003 6) (64 * 2 ^ s.ent cab 0x4003 7)).isNone &&
  (match s.reach cab (s.ent cab 0x4003 4) (64 * 2 ^ s.ent cab 0x4003 5) .read with
   | .ok _ => true
   | .error _ => false)

/-- ADMIN_ENABLE's effect: the completion queue first, then the admin queue, each at the lowest free index, on pages 1 and 0
(R49, R488, R531, R642). -/
def actAdminEnable : ActEffect := fun r s =>
  let c := r.cabinet
  let mine := s.queuesOf c
  let used := s.contract.queues.map (·.index)
  if s.e 0x1003 0 < 2 then .error (.state 1 2)
  else if s.cabState c = 3 || (mine.any fun q => q.page ≤ 1) || s.share c 1 < mine.length + 2 || !s.adminRings c then .error (.state 2 0)
  else match lowestFree used 0 16384 with
    | none => .error (.state 2 0)
    | some i =>
      match lowestFree (i :: used) 0 16384 with
      | none => .error (.state 2 0)
      | some j =>
        let cq : Queue := { (default : Queue) with
          index := i, cabinet := c, kind := 0, ringBase := s.ent c 0x4003 6, n := s.ent c 0x4003 7, vector := s.ent c 0x4003 8
          page := 1, state := 1, phase := true }
        let sq : Queue := { (default : Queue) with
          index := j, cabinet := c, kind := 1, engine := 0x0F, ringBase := s.ent c 0x4003 4, n := s.ent c 0x4003 5, cq := i
          page := 0, state := 1 }
        .ok (((s.addQueue cq).addQueue sq).noteChange c, false)

/-- ADMIN_ENABLE (R49). -/
def execAdminEnable (r : ActReq) (s : State) : Result := s.act r 0x4003 9 actAdminEnable

/-! ### Suspension ends (R77, R528) -/

/-- A suspension cause ends for a queue: once no cause holds, it is in the state recorded. -/
def Queue.unsuspend (cause : Nat) (q : Queue) : Queue :=
  let q1 := q.setCause cause false
  if q1.state = 3 && !q1.suspended then { q1 with state := q1.recorded } else q1

/-- What a queue does when its suspension has ended: a reset that was written meanwhile begins (R77), or its head is judged
again. -/
def State.afterSuspension (s : State) (qi : Nat) : State :=
  match s.queue? qi with
  | none => s
  | some q =>
    if q.kind != 1 || q.state = 3 then s
    else if q.resetRecorded then s.beginReset qi false
    else s.judgeHead qi

/-- A suspension cause ends for the queues p picks. -/
def State.resumeQueues (s : State) (cause : Nat) (p : Queue → Bool) : State :=
  let mine := s.contract.queues.filter fun q => p q && q.kind == 1
  let s1 := { s with contract := { s.contract with
    queues := updWhere (fun q => p q && q.kind == 1) (Queue.unsuspend cause) s.contract.queues } }
  (mine.map (·.index)).foldl State.afterSuspension s1

/-! ### Freeze and its end (R520 to R522, R528) -/

/-- FREEZE's effect (R516, R521). -/
def actFreeze : ActEffect := fun r s =>
  if r.cabinet = 0 || s.cabState r.cabinet != 1 then .error (.state 2 0)
  else .ok (s.updCabinet r.cabinet fun c => { c with state := 2, freezeStart := s.now }, true)

/-- FREEZE (R521): answered when the cabinet is FROZEN, or when FREEZE_LIMIT has passed. -/
def execFreeze (r : ActReq) (s : State) : Result := s.act r 0x4007 0 actFreeze

/-- Whether every started command of a cabinet has completed. -/
def State.cabDrained (s : State) (cab : Nat) : Bool :=
  (s.contract.ctxs.all fun c => c.cabinet != cab) && !((s.ctrl? cab).any fun c => !c.started.isEmpty)

/-- FREEZE_DRAIN_DONE (R522, R531): queues SUSPENDED, descriptors written back, ZT as at an FLR, FROZEN. -/
def execFreezeDrainDone (cab : Nat) (s : State) : Result :=
  if s.cabState cab != 2 || s.faults.safe || s.contract.activation = 1 || !s.cabDrained cab then s.idle
  else
    let s1 := (s.suspendQueues 1 fun q => q.cabinet == cab).writeBackSeqs cab
    let s2 := (s1.clearZt cab).updCabinet cab fun c => { c with state := 3 }
    s.commit ((s2.putEnt cab 0x4007 2 1).endActOk cab 0x4007 0)

/-- A cabinet is ASSIGNED again: an expiry of its lease that fell due meanwhile moves (R520), its queues resume. -/
def State.thaw (s : State) (cab : Nat) : State :=
  let s1 := (s.updCabinet cab fun c => { c with state := 1 }).deferLeases fun c => c == cab
  s1.resumeQueues 1 fun q => q.cabinet == cab

/-- FREEZE_LIMIT (R522). -/
def execFreezeLimit (cab : Nat) (s : State) : Result :=
  match s.cabinet? cab with
  | none => s.idle
  | some c =>
    if c.state != 2 || s.now < c.freezeStart + s.e 0x2C01 1 then s.idle
    else
      s.commit (((s.thaw cab).putEnt cab 0x4007 2 2).endActOk cab 0x4007 0)

/-- UNFREEZE's effect (R516, R528). -/
def actUnfreeze : ActEffect := fun r s =>
  if s.cabState r.cabinet != 3 then .error (.state 2 0) else .ok (s.thaw r.cabinet, false)

/-- UNFREEZE (R528). -/
def execUnfreeze (r : ActReq) (s : State) : Result := s.act r 0x4007 1 actUnfreeze

/-! ### The dirty log and the migration key (R525, R530, R538) -/

/-- LOG_SWAP's effect (R530, R531). -/
def actLogSwap : ActEffect := fun r s =>
  let c := r.cabinet
  if s.ent c 0x4008 0 = 0 then .error (.state 2 0) else .ok (s.putEnt c 0x4008 6 (1 - s.ent c 0x4008 6), false)

/-- LOG_SWAP (R530). -/
def execLogSwap (r : ActReq) (s : State) : Result := s.act r 0x4008 5 actLogSwap

/-- The ASCII bytes of "ZX9 cabinet state". -/
def labelState : Bytes := labelCabinet ++ [0x20, 0x73, 0x74, 0x61, 0x74, 0x65]

/-- MIGRATION_SECRET's effect (R525, R538): the key takes a slot from 4,160 upward, once. -/
def actMigrationSecret : ActEffect := fun r s =>
  let has := s.trust.slots.any fun k => k.label == labelState
  if has then
    .ok ({ s with
      cabs := { s.cabs with migrationSecret := r.value }
      trust := { s.trust with slots := updWhere (fun k => k.label == labelState) (fun k => { k with secret := r.value }) s.trust.slots } },
      false)
  else match pickFree s.freeValue (s.trust.slots.map (·.slot)) 4160 65536 with
    | none => .error (.state 2 0)
    | some i =>
      let key : KeySlot := { slot := i, cabinet := 4096, label := labelState, secret := r.value }
      .ok ({ s.drawn with
        cabs := { s.cabs with migrationSecret := r.value }
        trust := { s.trust with slots := s.trust.slots ++ [key] } }, false)

/-- MIGRATION_SECRET (R525, R538). -/
def execMigrationSecret (r : ActReq) (s : State) : Result := s.act r 0x2C01 0 actMigrationSecret

end Sys2Proof.Machine
end

