-- ==== Sys2Proof/Machine/Migration.lean ====
section
/-! DEFINITION. SAVE and RESTORE (R524 to R527): the saved state of a cabinet, byte by byte, and how it is taken back. -/

namespace Sys2Proof.Machine

/-! ### The records (R525, R526) -/

/-- The configuration record of a cabinet (R526). -/
def State.configRecord (s : State) (c : Nat) : Bytes :=
  fit 128 (((List.range 8).flatMap fun i => toLe 4 (s.share c (i + 1)))
    ++ toLe 1 (s.ent c 0x4003 1) ++ toLe 1 (s.ent c 0x4003 2) ++ toLe 1 (s.ent c 0x4004 2)
    ++ toLe 1 (b2n ((s.queuesOf c).any fun q => q.page ≤ 1)) ++ toLe 4 (s.ent c 0x4000 5) ++ toLe 8 (s.ent c 0x4004 0)
    ++ toLe 4 (s.ent c 0x4000 4) ++ zeros 4 ++ toLe 8 (s.ent c 0x4003 4) ++ toLe 8 (s.ent c 0x4003 6) ++ toLe 1 (s.ent c 0x4003 5)
    ++ toLe 1 (s.ent c 0x4003 7) ++ toLe 2 (s.ent c 0x4003 8))

/-- A queue's record (R526). -/
def Queue.saved (q : Queue) : Bytes :=
  let sub := q.kind = 1
  fit 64 (toLe 4 (queueHandle q.cabinet q.index) ++ toLe 1 q.kind ++ toLe 1 q.engine ++ toLe 1 q.priority ++ toLe 1 q.n
    ++ toLe 1 (if q.state = 3 then q.recorded else q.state) ++ [0] ++ toLe 2 q.head ++ toLe 2 (if sub then q.tail else 0)
    ++ toLe 2 (if sub then 0 else q.tail) ++ toLe 2 q.lastStatus ++ toLe 2 q.vector
    ++ toLe 4 (if sub then queueHandle q.cabinet q.cq else 0) ++ toLe 8 q.ringBase ++ toLe 4 q.epoch ++ toLe 1 (b2n q.phase))

/-- A sync object's record (R525). -/
def SyncObj.saved (o : SyncObj) : Bytes := toLe 4 o.index ++ toLe 1 (b2n o.err) ++ zeros 3 ++ toLe 8 o.value.toNat ++ toLe 8 o.mirror

/-- The controller record of a cabinet (R526). -/
def State.ctrlRecord (s : State) (c : Nat) (pairs : Nat) : Bytes :=
  let k := (s.ctrl? c).getD default
  let sq := (k.queue 0 false).getD default
  let cq := (k.queue 0 true).getD default
  fit 64 (toLe 1 (b2n k.enabled) ++ toLe 1 k.shutdown ++ toLe 2 pairs ++ toLe 4 k.aqa ++ toLe 8 sq.base ++ toLe 8 cq.base
    ++ ((List.range 5).flatMap fun i => toLe 4 (k.features.getD i 0)) ++ toLe 2 sq.head ++ toLe 2 sq.tail ++ toLe 2 cq.head
    ++ toLe 2 (cq.tail % 32768 + 32768 * b2n cq.phase))

/-- The identifiers of a controller's I/O queues. -/
def State.pairIds (s : State) (c : Nat) : List Nat :=
  match s.ctrl? c with
  | none => []
  | some k => sortNat ((k.pairs.map (·.qid)).eraseDups)

/-- The entry of an I/O queue pair (R526). -/
def State.pairEntry (s : State) (c q : Nat) : Bytes :=
  let k := (s.ctrl? c).getD default
  let sq := (k.queue q false).getD default
  let cq := (k.queue q true).getD default
  toLe 8 sq.base ++ toLe 8 cq.base ++ toLe 2 q ++ toLe 2 (sq.size - 1) ++ toLe 2 (cq.size - 1)
    ++ toLe 2 (cq.vector % 2048 + 16384 * b2n cq.irq + 32768 * b2n cq.phase) ++ toLe 2 sq.head ++ toLe 2 sq.tail ++ toLe 2 cq.head
    ++ toLe 2 cq.tail

/-- The five sections of a cabinet's state: type, count, bytes (R525). -/
def State.sections (s : State) (c : Nat) : List (Nat × Nat × Bytes) :=
  let qs := s.queuesOf c
  let os := s.contract.syncs.filter fun o => o.cabinet == c
  let ps := s.pairIds c
  let ds := s.tiers.resident.filter fun r => r.cabinet == c
  [(1, 1, s.configRecord c), (2, qs.length, qs.flatMap Queue.saved), (3, os.length, os.flatMap SyncObj.saved),
   (4, ps.length, s.ctrlRecord c ps.length ++ ps.flatMap (s.pairEntry c)),
   (5, ds.length, ds.flatMap fun r => toLe 8 r.addr ++ r.bytes)]

/-- The entries of the section table, sections on 64-byte boundaries from an offset on, and the sections themselves. -/
def placeSections (off : Nat) : List (Nat × Nat × Bytes) → List (Nat × Bytes) × Bytes
  | [] => ([], [])
  | (ty, n, b) :: rest =>
    let o := alignUp off 64
    let r := placeSections (o + b.length) rest
    ((o, toLe 1 ty ++ zeros 3 ++ toLe 4 n ++ toLe 8 o) :: r.1, zeros (o - off) ++ b ++ r.2)

/-- The HMAC key of a cabinet's saved state (R525). -/
def State.stateKey (s : State) (c : Nat) : Bytes := kdf256 (fit 32 s.cabs.migrationSecret) labelState (toLe 2 c)

/-- The saved state of a cabinet (R525). -/
def State.savedState (s : State) (c : Nat) : Bytes :=
  let (table, body) := placeSections 208 (s.sections c)
  let total := 208 + body.length + 48
  let head := fit 128 (toLe 4 0x4241435A ++ toLe 2 1 ++ toLe 2 c ++ toLe 1 (lookupD s.contract.negotiated c 0) ++ toLe 1 5 ++ zeros 6
    ++ toLe 4 (s.e 0x1001 0) ++ zeros 4 ++ toLe 8 total ++ toLe 8 s.now)
  let m := head ++ table.flatMap (·.2) ++ body
  m ++ fit 48 (Config.hmac384 (s.stateKey c) m)

/-! ### SAVE (R524) -/

/-- SAVE's effect (R524): a buffer too short stays unwritten and SAVE_RESULT says what is needed. -/
def actSave : ActEffect := fun r s =>
  let c := r.cabinet
  if s.cabState c != 3 then .error (.state 2 0)
  else
    let b := s.savedState c
    let s0 := (s.updCabinet c fun x => { x with saved := true }).putEnt c 0x4007 7 0
    if s.ent c 0x4007 4 < b.length then .ok (s0.putEnt c 0x4007 6 (2 ^ 63 + b.length), false)
    else if (s.canWrite 0 (s.ent c 0x4007 3) b.length).isSome then .error .range
    else .ok ((s0.putCab 0 (s.ent c 0x4007 3) b).putEnt c 0x4007 6 b.length, false)

/-- SAVE (R524). -/
def execSave (r : ActReq) (s : State) : Result := s.act r 0x4007 5 actSave

/-! ### RESTORE (R527) -/

/-- A section of a saved state: its count and its bytes. -/
def sectionOf (b : Bytes) (i size extra : Nat) : Nat × Bytes :=
  let n := field b (128 + 16 * i + 4) 4
  (n, slice b (field b (128 + 16 * i + 8) 8) (extra + n * size))

/-- A queue read back from its record: SUSPENDED by the freeze, its recorded state that of the record. -/
def queueFrom (page : Nat) (r : Bytes) : Queue :=
  let sub := field r 4 1 == 1
  { (default : Queue) with
    index := handleIndex (field r 0 4), cabinet := handleCabinet (field r 0 4), kind := field r 4 1, engine := field r 5 1
    priority := field r 6 1, n := field r 7 1, state := if sub then 3 else field r 8 1, recorded := field r 8 1
    causeFreeze := sub, head := field r 10 2, tail := if sub then field r 12 2 else field r 14 2, lastStatus := field r 16 2
    vector := field r 18 2, cq := handleIndex (field r 20 4), ringBase := field r 24 8, epoch := field r 32 4
    phase := field r 36 1 == 1, page := page }

/-- Doorbell pages of restored queues: the admin rings on 0 and 1, every other on the lowest free one; the record holds none
(notes/assumptions/70.md). -/
def restorePages (adminCq : Nat) : Nat → List Bytes → List Queue
  | _, [] => []
  | next, r :: rest =>
    if field r 5 1 = 0x0F && field r 4 1 = 1 then queueFrom 0 r :: restorePages adminCq next rest
    else if field r 0 4 = adminCq then queueFrom 1 r :: restorePages adminCq next rest
    else queueFrom next r :: restorePages adminCq (next + 1) rest

/-- A sync object read back. -/
def syncFrom (c : Nat) (r : Bytes) : SyncObj :=
  { (default : SyncObj) with
    index := field r 0 4, cabinet := c, value := BitVec.ofNat 64 (field r 8 8), err := field r 4 1 == 1, mirror := field r 16 8 }

/-- An I/O queue pair read back; a side that the pair lacks has base 0. -/
def pairFrom (r : Bytes) : List IoPair :=
  let q := field r 16 2
  let fl := field r 22 2
  let sq : IoPair := { (default : IoPair) with
    qid := q, base := field r 0 8, size := field r 18 2 + 1, head := field r 24 2, tail := field r 26 2, cqid := q }
  let cq : IoPair := { (default : IoPair) with
    qid := q, isCq := true, base := field r 8 8, size := field r 20 2 + 1, head := field r 28 2, tail := field r 30 2
    phase := bit fl 15, vector := bits fl 10 0, irq := bit fl 14 }
  (if field r 0 8 = 0 then [] else [sq]) ++ (if field r 8 8 = 0 then [] else [cq])

/-- The controller read back. -/
def ctrlFrom (c granted share : Nat) (r : Bytes) (entries : List Bytes) : NvmeCtrl :=
  let aqa := field r 4 4
  let at' := field r 50 2
  { (default : NvmeCtrl) with
    cabinet := c, enabled := field r 0 1 == 1, shutdown := field r 1 1, granted := granted, shareAt := share, aqa := aqa
    admin := [
      { (default : IoPair) with qid := 0, base := field r 8 8, size := bits aqa 11 0 + 1, head := field r 44 2, tail := field r 46 2 },
      { (default : IoPair) with
        qid := 0, isCq := true, base := field r 16 8, size := bits aqa 27 16 + 1, head := field r 48 2, tail := bits at' 14 0
        phase := bit at' 15, irq := true }]
    features := (List.range 5).map fun i => field r (24 + 4 * i) 4
    pairs := entries.flatMap pairFrom }

/-- The reserved bytes of a saved state are 0 (R526). -/
def savedReserved (b cfg : Bytes) (qs os : List Bytes) (k : Bytes) (ps : List Bytes) : Bool :=
  allZero (slice b 10 6) && allZero (slice b 20 4) && allZero (slice b 40 88) &&
  ((List.range 5).all fun i => allZero (slice b (128 + 16 * i + 1) 3)) &&
  allZero (slice cfg 52 4) && allZero (slice cfg 76 52) &&
  (qs.all fun r => allZero (slice r 9 1) && allZero (slice r 37 27)) && (os.all fun r => allZero (slice r 5 3)) &&
  allZero (slice k 52 12) && (ps.all fun r => bits (field r 22 2) 13 11 == 0)

/-- What keeps a saved state from being restored (R527). -/
def State.restoreRefused (s : State) (c : Nat) (b cfg : Bytes) (qs os : List Bytes) (k : Bytes) (ps : List Bytes) : Bool :=
  let total := field b 24 8
  let m := b.take (total - 48)
  b.length < total || total < 256 || slice b (total - 48) 48 != fit 48 (Config.hmac384 (s.stateKey c) m) ||
  field b 0 4 != 0x4241435A || field b 4 2 != 1 || field b 6 2 != c || field b 8 1 < 2 || 4 < field b 8 1 ||
  ((List.range 8).any fun i => entryDefault 0 0x4001 (i + 1) < s.otherShares c (i + 1) + field cfg (4 * i) 4) ||
  (qs.any fun r => (s.queue? (handleIndex (field r 0 4))).isSome) ||
  (os.any fun r => s.contract.syncs.any fun o => o.index == field r 0 4) ||
  s.ent c 0x4003 3 == 0 || !savedReserved b cfg qs os k ps

/-- The configuration record takes effect. -/
def State.takeConfig (s : State) (c : Nat) (cfg : Bytes) : State :=
  let s1 := (List.range 8).foldl (fun (s : State) i => s.putEnt c 0x4001 (i + 1) (field cfg (4 * i) 4)) s
  [(0x4003, 1, 32, 1), (0x4003, 2, 33, 1), (0x4004, 2, 34, 1), (0x4000, 5, 36, 4), (0x4004, 0, 40, 8), (0x4000, 4, 48, 4),
   (0x4003, 4, 56, 8), (0x4003, 6, 64, 8), (0x4003, 5, 72, 1), (0x4003, 7, 73, 1), (0x4003, 8, 74, 2)].foldl
    (fun (s : State) (e : Nat × Nat × Nat × Nat) => s.putEnt c e.1 e.2.1 (field cfg e.2.2.1 e.2.2.2)) s1

/-- RESTORE's effect (R527): every object comes back with its handle, state, values and epochs; the cabinet is FROZEN.  The
lease period that renews a resident descriptor is not in its copy: it is a free value. -/
def actRestore : ActEffect := fun r s =>
  let c := r.cabinet
  if c = 0 || s.cabState c != 0 then .error (.state 2 0) else
  match s.readCab 0 (s.ent c 0x4007 8) (s.ent c 0x4007 9) with
  | .error _ => .error (.state 2 0)
  | .ok b =>
    let cfg := (sectionOf b 0 128 0).2
    let (nq, qb) := sectionOf b 1 64 0
    let (no, ob) := sectionOf b 2 24 0
    let (np, kb) := sectionOf b 3 32 64
    let (nd, db) := sectionOf b 4 72 0
    let qs := chunksOf 64 nq qb
    let os := chunksOf 24 no ob
    let ps := chunksOf 32 np (kb.drop 64)
    if s.restoreRefused c b cfg qs os (kb.take 64) ps then .error (.state 2 0)
    else
      let admin := qs.find? fun r => field r 5 1 == 0x0F && field r 4 1 == 1
      let queues := restorePages ((admin.map fun r => field r 20 4).getD 0) 2 qs
      let lease := s.freeValue % 2 ^ 32
      let ds := (chunksOf 72 nd db).map fun x =>
        ({ cabinet := c, addr := field x 0 8, bytes := slice x 8 64, leaseMs := lease, waiters := [], leasePending := false } : SeqDesc)
      let s1 := ((s.drawn.openCabinet c 3).takeConfig c cfg).putEnt c 0x4004 3 (if field cfg 34 1 = 1 then s.now else 0)
      let s2 := { s1 with
        contract := { s1.contract with
          queues := s1.contract.queues ++ queues
          syncs := s1.contract.syncs ++ os.map (syncFrom c)
          negotiated := putKey s1.contract.negotiated c (field b 8 1) }
        tiers := { s1.tiers with resident := s1.tiers.resident ++ ds } }
      let k := ctrlFrom c (s2.pairsGranted c) (s2.share c 6) (kb.take 64) ps
      let s3 := { s2 with storage := { s2.storage with ctrls := k :: s2.storage.ctrls.filter fun x => x.cabinet != c } }
      let bases := field kb 8 8 + field kb 16 8 * 2 ^ 64
      .ok ((((s3.putEnt c 0x4005 0 bases).putEnt c 0x4005 1 (field kb 4 4)).putEnt c 0x4005 2 (field kb 0 1)).putEnt c 0x4005 4
        (field kb 0 1), false)

/-- RESTORE (R527). -/
def execRestore (r : ActReq) (s : State) : Result := s.act r 0x4007 0x0A actRestore

end Sys2Proof.Machine
end

