-- ==== Sys2Proof/Machine/Trust.lean ====
section
/-! DEFINITION. Root of trust, keys and the cipher engine (R532 to R559): cipher requests and their keys, the lock, the
known-answer tests, the SVN floor, and the SPDM responder.  A request runs within the step that starts it, or, when its key
is not cached, within the step in which the key is derived; the transport and the storage front end apply their own keys
where they seal and open, since a wait changes timing only (R539, R559). -/

namespace Sys2Proof.Machine

/-! ### Slots and keys (R535, R537) -/

/-- The holder of a slot: firmware (4,096) of slots 0 to 63, else as assigned. -/
def State.slotHolder (s : State) (slot : Nat) : Option Nat :=
  if slot < 64 then some 4096
  else (s.trust.slots.find? fun k => k.slot == slot).map (·.cabinet)

/-- The ASCII bytes of "cabinet". -/
def labelCabBranch : Bytes := [0x63, 0x61, 0x62, 0x69, 0x6E, 0x65, 0x74]

/-- The key that a slot names: a ladder key, or a key derived from its imported secret (R535, R537).  The derivations of slots
0 to 63 are the firmware's own. -/
def State.slotKey (s : State) (slot : Nat) : Bytes :=
  if slot < 64 then toLe 32 (Config.identity (2 + slot))
  else if slot < 4160 then
    ladderKey (ladderKey deviceRootKey labelCabBranch [] 2) labelCabinet (toLe 2 (slot - 64) ++ toLe 4 (s.ent (slot - 64) 0x4000 3)) 2
  else match s.storage.namespaces.find? fun n => n.keySlot == slot with
    | some n => n.key
    | none =>
      match s.trust.slots.find? fun k => k.slot == slot with
      | some k => Config.derive k.secret k.label
      | none => []

/-- A key is the most recently used of the key cache, which holds 1,024. -/
def State.useKey (s : State) (slot : Nat) : State :=
  { s with trust := { s.trust with keyCache := (slot :: s.trust.keyCache.filter (· != slot)).take 1024 } }

/-! ### Cipher requests (R541 to R544) -/

/-- The state of the lock register: 0 QUEUE, 1 LOCKED, 2 DRAINING. -/
def State.lockState (s : State) : Nat := bits (s.e 0x2D03 1) 9 8

/-- HOLDER of the lock register. -/
def State.lockHolder (s : State) : Nat := bits (s.e 0x2D03 1) 23 16

/-- The lock register with its three fields (R543). -/
def State.setLock (s : State) (holder state pipe : Nat) : State := s.put 0x2D03 1 (holder * 65536 + state * 256 + pipe)

/-- The bytes a request reads: a GCM open reads the tag too. -/
def CipherReq.reads (r : CipherReq) : Nat := if r.op = 1 then r.len + 16 else r.len

/-- What a request's operation gives, none when a tag fails (R540). -/
def CipherReq.result (r : CipherReq) (key data : Bytes) : Option Bytes :=
  if r.op = 0 then some (fit (r.len + 16) (Config.gcmSeal key (toLe 12 r.iv) [] data))
  else if r.op = 1 then (Config.gcmOpen key (toLe 12 r.iv) [] data).map (fit r.len)
  else if r.op = 2 then some (fit r.len (Config.xtsEncrypt key r.iv data))
  else some (fit r.len (Config.xtsDecrypt key r.iv data))

/-- A started request has ended. -/
def State.endReq (s : State) (order : Nat) (failed : Bool) : State :=
  { s with trust := { s.trust with
      startedReqs := updWhere (fun r => r.order == order) (fun r => { r with ended := true, waitingKey := false, failed := failed })
        s.trust.startedReqs } }

/-- Whether every address of a run is populated. -/
def State.populatedRun (s : State) (a n : Nat) : Bool := n == 0 || (s.populated a && s.populated (a + n - 1))

/-- A started request runs on its pipe; an unreadable source or an address outside the map fails it. -/
def State.runReq (s : State) (r : CipherReq) : State :=
  let s := s.useKey r.slot
  if !s.populatedRun r.src r.reads || !s.populatedRun r.dst r.len then
    (s.note 8 0x02 r.src 0x5000 0).endReq r.order true
  else match s.badUnit r.src r.reads with
    | some u => (s.reportUe u 0x5000).endReq r.order true
    | none =>
      match r.result (s.slotKey r.slot) (s.readDev r.src r.reads) with
      | none => s.endReq r.order true
      | some bs => (s.storeRaw r.dst bs).endReq r.order false

/-- The results that return to their requesters: of each stream, the ended requests before the first that runs (R541). -/
def returned (blocked : List Nat) : List CipherReq → List CipherReq
  | [] => []
  | r :: l => if r.ended && !blocked.contains r.stream then r :: returned blocked l else returned (r.stream :: blocked) l

/-- Ended requests return to their requesters in the order of their streams. -/
def State.returnReqs (s : State) : State :=
  let out := returned [] s.trust.startedReqs
  { s with trust := { s.trust with
      startedReqs := s.trust.startedReqs.filter fun r => !(out.any fun x => x.order == r.order)
      doneReqs := (out.map fun r => (r.stream, r.order, r.failed)).reverse ++ s.trust.doneReqs } }

/-- A request starts on a pipe: it runs, or its key is derived first, which KEY_CACHE_MISSES counts (R539). -/
def State.startReq (s : State) (r : CipherReq) : State :=
  let cached := s.trust.keyCache.contains r.slot
  let s1 := { s with trust := { s.trust with
    waitingReqs := s.trust.waitingReqs.filter fun x => x.order != r.order
    startedReqs := s.trust.startedReqs ++ [{ r with waitingKey := !cached }] } }
  if cached then (s1.runReq r).returnReqs else s1.bump 0x2D02 2 1

/-- Whether any started request has not ended. -/
def State.cipherBusy (s : State) : Bool := s.trust.startedReqs.any fun r => !r.ended

/-- Whether the engine starts a request now (R544): in queue service any, while a pipe serves; while LOCKED the holder's, one
at a time, whose stream is the control cores'; while DRAINING none. -/
def State.mayStart (s : State) (r : CipherReq) : Bool :=
  !s.faults.safe && !s.faults.fencedUnits.contains 0 &&
  (if s.lockState = 0 then s.e 0x2D03 0 != 0 else s.lockState == 1 && r.stream == 2 && !s.cipherBusy)

/-- Requests that waited start, in the order in which they came. -/
def State.pumpReqs (s : State) : State :=
  s.trust.waitingReqs.foldl (fun (s : State) r => if s.mayStart r then s.startReq r else s) s

/-- CIPHER_REQUEST (R541, R542, R544): a slot that is not assigned, or another cabinet's, refuses it before any byte is
processed. -/
def execCipherRequest (r : CipherIn) (s : State) : Result :=
  if s.faults.safe then s.idle
  else if s.slotHolder r.slot != some r.cabinet then
    let s1 := s.note 8 0x0A 0 0x5000 4
    s.commit (match r.ctx with
      | some id => s1.finishErr id (errPlain stSecurityRefused)
      | none => s1)
  else
    let q : CipherReq :=
      { stream := r.stream, order := s.trust.nextReq, cabinet := r.cabinet, slot := r.slot, op := r.op, src := r.src, dst := r.dst
        len := r.len, iv := r.iv, ctx := r.ctx, ended := false, failed := false, waitingKey := false }
    s.commit { s with trust := { s.trust with
      nextReq := s.trust.nextReq + 1, waitingReqs := s.trust.waitingReqs ++ [q] } }.pumpReqs

/-! ### The lock (R543 to R546) -/

/-- The waiting acquirer that is granted next: recovery, root of trust, self-test (R545). -/
def nextHolder (l : List Nat) : Option Nat := [4, 2, 3].find? l.contains

/-- The lock is free: queue service, or DRAINING, and LOCKED once nothing runs, for a waiting acquirer (R543, R545). -/
def State.freeLock (s : State) : State :=
  match nextHolder s.trust.lockWaiters with
  | none => (s.setLock 0 0 0).pumpReqs
  | some h =>
    let s1 := { s with trust := { s.trust with lockWaiters := s.trust.lockWaiters.filter (· != h) } }
    if s1.cipherBusy then s1.setLock h 2 0
    else ({ s1 with trust := { s1.trust with lockedSince := s1.now } }.setLock h 1 0).pumpReqs

/-- A fatal error of chip scope. -/
def fatalChip (src cause addr master : Nat) : ErrorIn :=
  { source := src, severity := 2, address := addr, master := master, access := 4, privilegedAccess := false, causeCode := cause }

/-- A pipe fails its known-answer tests (R548). -/
def State.failPipe (s : State) (p : Nat) : State :=
  ((s.put 0x2D03 0 (clearBit (s.e 0x2D03 0) p)).bump 0x2D03 4 1).note 8 0x08 p 0x5000 4

/-- No pipe is left in service (R548). -/
def State.checkPipes (s : State) : State :=
  if s.e 0x2D03 0 = 0 then s.raiseError (fatalChip 8 0x16 0 0x5000) none else s

/-- The tests of all 16 pipes under holder 3 (R547, R548): those that pass serve, those that fail do not. -/
def State.testPipes (s : State) (passing : Nat) : State :=
  let s1 := s.put 0x2D03 0 (s.e 0x2D03 0 ||| passing)
  (((List.range 16).filter fun p => !bit passing p).foldl State.failPipe s1).checkPipes

/-- Every started request has ended while the engine drains: it is LOCKED (R543); a CIPHER_KAT_RUN that waited for that runs and
ends. -/
def State.settleLock (s : State) : State :=
  if s.lockState != 2 || s.cipherBusy then s
  else
    let s1 := { s with trust := { s.trust with lockedSince := s.now } }.setLock s.lockHolder 1 0
    match s1.lockHolder, s1.trust.katPassing with
    | 3, some p =>
      let s2 := { s1 with trust := { s1.trust with katPassing := none } }.testPipes p
      if s2.faults.safe then s2 else (s2.freeLock).endActOk 0 0x2D03 3
    | _, _ => s1.pumpReqs

/-- CIPHER_LOCK_ACQUIRE (R543, R545): the root of trust, the self-test or recovery asks for the lock. -/
def execCipherLockAcquire (holder : Nat) (s : State) : Result :=
  if s.faults.safe || holder < 2 || 4 < holder then s.idle
  else if s.lockState = 0 then s.commit (s.setLock holder 2 0).settleLock
  else if s.lockHolder = holder || s.trust.lockWaiters.contains holder then s.idle
  else s.quiet { s with trust := { s.trust with lockWaiters := s.trust.lockWaiters ++ [holder] } }

/-- CIPHER_LOCK_RELEASE (R543, R545): by the holder. -/
def execCipherLockRelease (holder : Nat) (s : State) : Result :=
  if s.faults.safe || s.lockState != 1 || s.lockHolder != holder then s.idle else s.commit s.freeLock

/-- LOCK_LIMIT (R546): the holder's running request fails, the engine returns to queue service, and the overrun is reported. -/
def execLockLimit (s : State) : Result :=
  if s.faults.safe || s.lockState != 1 || s.lockHolder < 3 || s.now < s.trust.lockedSince + s.e 0x2D03 5 then s.idle
  else
    let run := (s.trust.startedReqs.filter fun r => !r.ended).map (·.order)
    let s1 := (run.foldl (fun (s : State) o => s.endReq o true) s).returnReqs
    s.commit ((s1.freeLock.bump 0x2D03 6 1).note 8 0x09 0 0x5000 4)

/-- KEY_DERIVATION (R535, R539): the key is cached and the requests that waited for it run. -/
def execKeyDerivation (slot : Nat) (s : State) : Result :=
  let mine := s.trust.startedReqs.filter fun r => r.waitingKey && r.slot == slot
  if s.faults.safe || s.faults.fencedUnits.contains 1 || mine.isEmpty then s.idle
  else s.commit (((mine.foldl State.runReq (s.useKey slot)).returnReqs).settleLock).pumpReqs

/-! ### Known-answer tests (R547, R548) -/

/-- CIPHER_KAT_PERIOD (R547, R548): one pipe, withdrawn from queue service, runs its tests; a pipe that is out of service stays
so. -/
def execCipherKatPeriod (pass : Bool) (s : State) : Result :=
  if s.faults.safe || s.lockState != 0 || s.faults.fencedUnits.contains 0 then s.idle
  else
    let p := s.trust.katPipe
    let s1 := { s with trust := { s.trust with katPipe := (p + 1) % 16 } }
    s.commit (if pass then s1 else (s1.failPipe p).checkPipes)

/-- CIPHER_KAT_RUN's effect: refused while the lock is held; the tests run once the engine has drained. -/
def actKatRun (passing : Nat) : ActEffect := fun _ s =>
  if s.lockState != 0 then .error (.state 2 0)
  else
    let s1 := { s with trust := { s.trust with katPassing := some passing } }.setLock 3 2 0
    if s1.cipherBusy then .ok (s1, true)
    else .ok (s1.settleLock, false)

/-- CIPHER_KAT_RUN (R547, R548). -/
def execCipherKatRun (r : ActReq) (passing : BitVec 16) (s : State) : Result := s.act r 0x2D03 3 (actKatRun passing.toNat)

/-! ### The SVN floor (R552) -/

/-- Measurements have changed after boot (R558). -/
def State.measChanged (s : State) (n : Nat) : State := s.bump 0x2D04 3 n

/-- SVN_COMMIT's effect: the floor rises to RUNNING_SVN, in both devices; measurement 3 changes (R552, R558). -/
def actSvnCommit : ActEffect := fun _ s =>
  let f := max (s.e 0x2D01 7) (s.e 0x2D01 6)
  let same := f == s.e 0x2D01 7 && s.trust.floorTagOk
  let s1 := { s with trust := { s.trust with floor := f, floorTagOk := true } }.put 0x2D01 7 f
  .ok (if same then s1 else s1.measChanged 1, false)

/-- SVN_COMMIT (R552). -/
def execSvnCommit (r : ActReq) (s : State) : Result := s.act r 0x2D01 8 actSvnCommit

/-! ### SPDM (R556 to R558)

Request and response codes, error codes and the fields of a message body are those of DMTF DSP0274, which the spec names and
does not restate (notes/assumptions/24.md). -/

/-- A response is sent on a transport. -/
def State.spdmSend (s : State) (t code : Nat) (payload : Bytes) : State :=
  { s with trust := { s.trust with spdmOut := (t, code, payload) :: s.trust.spdmOut } }

/-- An ERROR response. -/
def State.spdmError (s : State) (t code : Nat) : State := s.spdmSend t 0x7F (toLe 1 code)

/-- Whether the responder runs and hears a transport: from stage B1, outside the hardware safe state, and on the management port
only with MGMT_IP set (R602, R625, R641). -/
def State.spdmServes (s : State) (t : Nat) : Bool :=
  !s.faults.safe && 1 ≤ s.e 0x1003 0 && t < 3 && !(t == 1 && s.e 0x1006 0 == 0)

/-- One request to the DRBG, which reseeds after 2^20 (R536). -/
def State.drbg (s : State) : State :=
  { s.drawn with trust := { s.trust with drbgRequests := (s.trust.drbgRequests + 1) % 1048576 } }

/-- A request is answered; before algorithms are negotiated on its transport it is unexpected. -/
def State.spdm (s : State) (t : Nat) (f : State → State) : Result :=
  if !s.spdmServes t then s.idle
  else if !s.trust.negotiatedAlgs.contains t then s.quiet (s.spdmError t 0x04)
  else s.quiet (f s)

/-- NEGOTIATE_ALGORITHMS (R556): RSAPSS-3072, SHA-384, secp384r1 and AES-256-GCM. -/
def execNegotiateAlgorithms (t : Nat) (s : State) : Result :=
  if !s.spdmServes t then s.idle
  else
    let s1 := { s with trust := { s.trust with negotiatedAlgs := (t :: s.trust.negotiatedAlgs.filter (· != t)) } }
    s.quiet (s1.spdmSend t 0x63 (toLe 4 0x40 ++ toLe 4 0x02 ++ toLe 2 0x10 ++ toLe 2 0x02))

/-- GET_CERTIFICATE (R554, R556): a portion of the RSA chain in slot 0. -/
def execGetCertificate (t offset len : Nat) (s : State) : Result :=
  s.spdm t fun s =>
    if !s.trust.bundleOk then s.spdmError t 0x05
    else if Config.certChain.length ≤ offset then s.spdmError t 0x01
    else
      let part := slice Config.certChain offset len
      s.spdmSend t 0x02 ([0, 0] ++ toLe 2 part.length ++ toLe 2 (Config.certChain.length - offset - part.length) ++ part)

/-- CHALLENGE (R556): a signed answer with a fresh nonce. -/
def execChallenge (t : Nat) (nonce : Bytes) (s : State) : Result :=
  s.spdm t fun s =>
    let body := Config.sha384 Config.certChain ++ Config.random s.fresh 32
    s.drbg.spdmSend t 0x03 (body ++ Config.sign 0 (nonce ++ body))

/-- The content of a measurement block, raw values laid out in the order in which R558 lists them. -/
def State.measValue (s : State) (i : Nat) : Bytes :=
  if i = 1 then toLe 48 (Config.identity 1)
  else if i = 2 then fit 48 s.trust.runningDigest
  else if i = 3 then
    toLe 4 (s.e 0x1001 0) ++ toLe 4 (s.e 0x2D01 6) ++ toLe 4 (s.e 0x2D01 7) ++ toLe 1 (b2n s.trust.floorTagOk)
  else if i = 4 then
    (if s.e 0x1004 1 = 0xFF then zeros 48 else Config.sha384 s.trust.appliedProfile)
  else if i = 5 then
    toLe 1 (b2n s.ports.hostSplit) ++ toLe 1 (s.e 0x1004 0) ++ toLe 1 (s.e 0x2D01 0) ++ toLe 1 (s.e 0x2D01 9)
  else if i = 6 then toLe 1 (s.e 0x2D04 2) ++ toLe 16 (s.e 0x1000 5) ++ toLe 16 (s.e 0x1000 6)
  else if i = 7 then toLe 1 (if s.e 0x1004 1 = 3 then 1 else 0)
  else toLe 4 s.trust.meas

/-- A measurement block: a SHA-384 digest, or a raw value (R558). -/
def State.measBlock (s : State) (i : Nat) : Bytes :=
  let v := s.measValue i
  let raw := i == 3 || (5 ≤ i && i ≤ 8)
  toLe 1 i ++ [1] ++ toLe 2 (v.length + 3) ++ toLe 1 (if raw then 0x80 + i else i) ++ toLe 2 v.length ++ v

/-- GET_MEASUREMENTS (R558): the number of blocks, all blocks, or one; signed when a nonce comes with the request. -/
def execGetMeasurements (t operation : Nat) (nonce : Bytes) (s : State) : Result :=
  s.spdm t fun s =>
    if operation != 255 && 8 < operation then s.spdmError t 0x01
    else
      let which := if operation = 0 then [] else if operation = 255 then [1, 2, 3, 4, 5, 6, 7, 8] else [operation]
      let blocks := which.flatMap s.measBlock
      let count := if operation = 0 then 8 else which.length
      let body := toLe 1 count ++ toLe 3 blocks.length ++ blocks ++ Config.random s.fresh 32
      s.drbg.spdmSend t 0x60 (body ++ if nonce.isEmpty then [] else Config.sign 0 (nonce ++ body))

/-- KEY_EXCHANGE (R536, R556): a session opens, at most 16 at once; the next is refused with Busy. -/
def execKeyExchange (t : Nat) (exchange : Bytes) (s : State) : Result :=
  s.spdm t fun s =>
    match lowestFree (s.trust.sessions.map (·.id)) 0 16 with
    | none => s.spdmError t 0x03
    | some i =>
      if 16 ≤ s.trust.sessions.length then s.spdmError t 0x03
      else
        let body := toLe 2 i ++ Config.random s.fresh 128
        let x : SpdmSession := { id := i, transport := t }
        let s1 : State := { s with trust := { s.trust with sessions := s.trust.sessions ++ [x] } }
        ((s1.put 0x2D04 1 s1.trust.sessions.length).drbg).spdmSend t 0x64 (body ++ Config.sign 0 (exchange ++ body))

/-- END_SESSION (R556): its place is free again. -/
def execEndSession (session : Nat) (s : State) : Result :=
  match s.trust.sessions.find? fun x => x.id == session with
  | none => s.idle
  | some x =>
    if !s.spdmServes x.transport then s.idle
    else
      let s1 := { s with trust := { s.trust with sessions := s.trust.sessions.filter fun y => y.id != session } }
      s.quiet ((s1.put 0x2D04 1 s1.trust.sessions.length).spdmSend x.transport 0x6C [])

/-- VENDOR_DEFINED_REQUEST (R557): standard ID PCI-SIG, vendor ID 0x1E7A, type 0x0001 asks for the signed transcript, which is
being prepared; another request is not supported. -/
def execVendorDefinedRequest (t : Nat) (request : Bytes) (s : State) : Result :=
  s.spdm t fun s =>
    if field request 0 2 = 0x0003 && field request 2 1 = 2 && field request 3 2 = 0x1E7A && field request 7 2 = 0x0001 then
      let s1 : State := { s with trust := { s.trust with transcripts := s.trust.transcripts ++ [(t, s.now, request)] } }
      s1.spdmError t 0x42
    else s.spdmError t 0x07

/-- RESPOND_IF_READY (R557): the signature is ready at the latest 3 s after the request; whether before is open. -/
def execRespondIfReady (t : Nat) (s : State) : Result :=
  s.spdm t fun s =>
    match s.trust.transcripts.find? fun x => x.1 == t with
    | none => s.spdmError t 0x04
    | some x =>
      if s.now < x.2.1 + 3000000000 && s.freeValue % 2 = 0 then s.drawn.spdmError t 0x42
      else
        let s1 : State := { s with
          fresh := s.fresh + 1
          trust := { s.trust with transcripts := s.trust.transcripts.erase x } }
        s1.spdmSend t 0x7E (Config.sign 1 (x.2.2 ++ [1, 2, 3, 4, 5, 6, 7, 8].flatMap s.measBlock))

end Sys2Proof.Machine
end

