-- ==== Sys2Proof/Machine/Power.lean ====
section
/-! DEFINITION. Energy and power, what the rows share: the snowline level and emergencies (R566 to R569, R578), the power
states with their refusers and their entry (R581 to R583), the wake, and the request for a firmware activation (R578, R651). -/

namespace Sys2Proof.Machine

/-! ### The snowline (R566 to R569) -/

/-- Whether any sensor reads a temperature or more, in units of 1/65536 °C. -/
def State.anyAt (s : State) (t : Nat) : Bool := s.energy.temps.any fun x => (t : Int) ≤ x

/-- Whether every sensor reads at least 3 °C below a threshold. -/
def State.allBelow (s : State) (t : Nat) : Bool := s.energy.temps.all fun x => x + 3 * 65536 ≤ (t : Int)

/-- The threshold of a row: THRESH_WARM, THRESH_SHED, 106 °C. -/
def State.rowThreshold (s : State) (row : Nat) : Nat :=
  if row = 1 then s.e 0x2E00 4 else if row = 2 then s.e 0x2E00 5 else 106 * 65536

/-- What else than temperature enters a row. -/
def State.rowOther (s : State) (row : Nat) : Bool :=
  if row = 1 then 3 ≤ s.energy.overCapWindows
  else if row = 3 then s.energy.limiterL3 || s.energy.regulatorWarn
  else false

/-- Whether a row's entry condition holds. -/
def State.rowHolds (s : State) (row : Nat) : Bool := s.anyAt (s.rowThreshold row) || s.rowOther row

/-- Whether a row's entry condition is false with the margin that a fall needs. -/
def State.rowClear (s : State) (row : Nat) : Bool := s.allBelow (s.rowThreshold row) && !s.rowOther row

/-- The highest row whose entry condition holds. -/
def State.enteredRow (s : State) : Nat :=
  if s.rowHolds 3 then 3 else if s.rowHolds 2 then 2 else if s.rowHolds 1 then 1 else 0

/-- An emergency begins or ends (R578): it takes every committed rate (R19), and it ends a drain that has not handed over to the new image, and the activation is
pending again (R580). -/
def State.refreshEmergency (s : State) : State :=
  let on := s.e 0x2E00 0 == 3 || s.energy.pacing
  let was := s.e 0x2E00 2 == 1
  if on == was then s
  else if on then
    let s1 := s.zeroRates.put 0x2E00 2 1
    if s1.contract.activation = 1 then
      ({ s1 with contract := { s1.contract with activation := 2 } }.put 0x2E07 0 1).bump 0x2E07 1 1
    else s1
  else
    let s1 := s.put 0x2E00 2 0
    { s1 with energy := { s1.energy with emergencyEndedAt := s.now } }

/-- The levels follow their conditions: the measured level rises at once (R566), the effective one is held by SNOWLINE_MIN (R567)
and by a power component that restarts (R609); level 3 takes its rail ceiling at once and is an exception of R19 (R569). -/
def State.refreshSnowline (s : State) : State :=
  let lvl := max s.energy.measuredLevel s.enteredRow
  let since := (List.range 3).map fun i =>
    if s.rowClear (i + 1) then (match s.energy.clearSince.getD i none with
      | some t => some t
      | none => some s.now)
    else none
  let s1 := { s with energy := { s.energy with measuredLevel := lvl, clearSince := since } }
  let eff := max (max lvl (s.e 0x2E00 1)) (if s.restarting 0 then 2 else 0)
  let old := s.e 0x2E00 0
  let s2 := if eff = old then s1 else (s1.put 0x2E00 0 eff).bump 0x2E00 3 1
  let s3 := if eff = 3 && old != 3 then (s2.put 0x2E01 5 (min (s2.e 0x2E01 5) 600)).zeroRates else s2
  s3.refreshEmergency

/-! ### Firmware activation (R578 to R580, R623, R651) -/

/-- An activation is pending (R578). -/
def State.deferActivation (s : State) : State :=
  ({ s with contract := { s.contract with activation := 2 } }.put 0x2E07 0 1).bump 0x2E07 1 1

/-- An activation's drain begins: every submission queue is SUSPENDED (R77, R85). -/
def State.startDraining (s : State) : State :=
  ({ s with contract := { s.contract with activation := 1, activationStart := s.now, draining := true } }.put 0x2E07 0 0).suspendQueues 0 fun _ => true

/-- Whether an activation may start now: ACTIVE, no emergency, and the ladder idle (R578, R594, R623). -/
def State.mayActivate (s : State) : Bool := s.e 0x2E05 0 == 0 && s.e 0x2E00 2 == 0 && s.faults.openInc.isNone

/-- FW_ACTIVATE's effect (R651): refused without a staged image, or while an activation is under way or pending. -/
def actFwActivate : ActEffect := fun _ s =>
  if s.e 0x1001 1 = 0 then .error (.state 2 0)
  else if s.contract.activation != 0 then .error (.state 3 0)
  else .ok (if s.mayActivate then s.startDraining else s.deferActivation, true)

/-! ### Power states (R581 to R583) -/

/-- Whether anything has started, or is ready and awaits admission (R582, refuser 3). -/
def State.workPresent (s : State) : Bool :=
  !s.contract.ctxs.isEmpty || (s.contract.queues.any fun q => q.state == 1 && q.readyAt.isSome) ||
  s.storage.ctrls.any fun c => !c.started.isEmpty || c.pairs.any fun p => p.readyAt.isSome

/-- Whether a set copies, mirrors or drains (refuser 6). -/
def SnapSet.busy (x : SnapSet) : Bool :=
  !x.drains.isEmpty || x.gens.any fun g => g.state == 1 || (g.state == 2 && !g.mirrorAcked && x.buddyStride != 0)

/-- Whether storage holds dirty lines, held commands or journal records not at home (refuser 7). -/
def State.storageBusy (s : State) : Bool :=
  (s.storage.cache.any fun l => !l.dirty.isEmpty) ||
  (s.storage.ctrls.any fun c => c.started.any fun x => x.heldSince.isSome) ||
  s.storage.namespaces.any fun n => n.journal.any fun j => !j.home

/-- Whether a function of HP is not in D3hot, or PME_Turn_Off has not been acknowledged (refuser 8). -/
def State.hostAwake (s : State) : Bool :=
  !s.ports.pmeAcked || (s.fn 0).dstate != 3 ||
  (s.ports.vfEnable && (List.range s.ports.numVfs).any fun i => (s.fn (i + 1)).dstate != 3)

/-- The first refuser that objects to a request (R581, R582). -/
def State.refuser (s : State) (deep : Bool) : Option Nat :=
  if s.e 0x2E00 2 = 1 then some 1
  else if s.contract.activation != 0 then some 2
  else if s.workPresent then some 3
  else if !s.coll.groups.isEmpty then some 4
  else if s.zt.conns.any fun k => k.state != 5 && k.state != 6 then some 5
  else if s.snap.sets.any SnapSet.busy then some 6
  else if s.storageBusy then some 7
  else if deep && s.hostAwake then some 8
  else none

/-- Memory of the core die that DEEP loses: below always-on SRAM (R241, R583, R586). -/
def sleepLost (c : Host.Cell) : Bool := decide (c.1 < aonBase)

/-- POWER_STATE_REQ's effect (R581, R583): a refusal is counted under its refuser; entry suspends every queue, and for DEEP saves
what the core die holds. -/
def actPowerStateReq : ActEffect := fun r s =>
  let v := reqVal r
  if s.e 0x2E05 0 != 0 then .error (.state 2 0)
  else match s.refuser (v == 3) with
    | some n =>
      .error (.counted ((s.bump 0x2E06 n 1).put 0x2E06 9 (leNat (toLe 8 s.now ++ toLe 1 n ++ toLe 1 v ++ zeros 6))))
    | none =>
      let s1 := (s.put 0x2E05 0 1).suspendQueues 2 fun _ => true
      let saved := if v = 3 then s.mem.filter sleepLost else []
      .ok ({ s1 with energy := { s1.energy with
        enteringTarget := v, saveAreaOk := v == 3, savedSram := saved, railBefore := s.e 0x2E01 5 } }, true)

/-- The chip sleeps (R585, R586). -/
def State.fallAsleep (s : State) : State :=
  let deep := s.energy.enteringTarget == 3
  let s1 := s.put 0x2E05 0 s.energy.enteringTarget
  let s2 := { s1 with tiers := { s1.tiers with selfRefresh := true } }
  if deep then
    let s3 := (s2.ports.linkState.map (·.1)).foldl (fun (s : State) l => s.reportLink l 0 0) s2
    { s3 with
      mem := s3.mem.filter fun c => !sleepLost c
      tiers := { s3.tiers with cxlUp := [false, false, false, false] }
      trust := { s3.trust with keyCache := [], drbgRequests := 0 } }
  else s2.put 0x2E01 5 550

/-- A wake event is latched (R588, R590, R594): the ladder of the state entered, or being entered, begins. -/
def State.startWake (s : State) (source : Nat) : State :=
  let left := s.e 0x2E05 0
  let ladder := if left = 1 then s.energy.enteringTarget else left
  let s1 := (s.put 0x2E05 0 4).put 0x2E05 4 (leNat (toLe 8 s.now ++ toLe 1 source ++ toLe 1 left ++ zeros 6))
  let s2 := { s1 with energy := { s1.energy with wakeAt := s.now, wakeFrom := ladder, wakeSource := source, wakeStep := 0 } }
  if left = 1 then s2.endActOk 0 0x2E05 1 else s2

/-- Whether a wake source wakes the chip now (R588, R660, R670). -/
def State.wakes (s : State) (source : Nat) : Bool :=
  let st := s.e 0x2E05 0
  !s.faults.safe && s.pins.resetN && source < 6 && bit (s.e 0x2E05 2) source &&
  (st == 1 || st == 2 || st == 3) && !(source == 4 && (if st = 1 then s.energy.enteringTarget else st) != 2)

end Sys2Proof.Machine
end

