-- ==== Sys2Proof/Machine/Ladder.lean ====
section
/-! DEFINITION. The reset ladder (R610 to R620): what a rung does to the commands it has caught and to its domain, dumps, the
chip reset with what it keeps (R602, R621, R658), and the boot ROM (R533, R550 to R554, R637, R657). -/

namespace Sys2Proof.Machine

/-! ### Records as the dictionary and a dump show them -/

/-- A first-error record (R599, R600). -/
def FirstErr.bytes (r : FirstErr) : Bytes :=
  toLe 8 r.address ++ toLe 2 r.master ++ toLe 1 r.access ++ toLe 1 r.severity ++ toLe 2 r.count
    ++ toLe 1 (b2n r.overflow + 2 * b2n r.privilegedAccess + 4 * b2n r.mergedFlag) ++ toLe 1 r.causeCode ++ toLe 8 r.time ++ zeros 8

/-- An incident record (R618). -/
def Incident.bytes (i : Incident) : Bytes :=
  toLe 4 i.number ++ toLe 1 i.firstSource ++ toLe 1 i.severity ++ toLe 1 i.scope ++ toLe 1 i.rungReached ++ toLe 8 i.openTime
    ++ toLe 8 i.closeTime ++ toLe 2 i.target ++ zeros 2 ++ toLe 4 i.merged ++ toLe 4 i.caught ++ i.rungStart.flatMap (toLe 4) ++ zeros 8

/-- The record of a source, zeros when it has none. -/
def State.firstErrorOf (s : State) (src : Nat) : Bytes :=
  match s.faults.firstErrors.find? fun r => r.source == src with
  | some r => r.bytes
  | none => zeros 32

/-- INCIDENT: the open incident, or the last one closed (R618); a rung that is part of no incident shows none. -/
def State.incidentShown (s : State) : Option Incident :=
  match s.faults.openInc with
  | some i => if i.firstSource = 256 then s.faults.lastInc else some i
  | none => s.faults.lastInc

/-- The bytes of INCIDENT. -/
def State.incidentBytes (s : State) : Bytes :=
  match s.incidentShown with
  | some i => i.bytes
  | none => zeros 64

/-! ### Dumps (R619, R620) -/

/-- A caught command in a dump. -/
def State.caughtBytes (s : State) (p : Nat × Nat) : Bytes :=
  match s.ctx? p.1 with
  | none => zeros 16
  | some c =>
    let f := formOf (s.ctxEngine c) c.record
    toLe 4 (queueHandle c.cabinet c.queue) ++ toLe 4 f.cmdId ++ toLe 2 (recOpcode c.record) ++ toLe 1 (s.e 0x2F03 0) ++ [0] ++ toLe 4 p.2

/-- The trapping core in a dump: GA and GB, guards, PRIV ports 0 to 10, LINK. -/
def State.coreBytes (s : State) (core : Nat) : Bytes :=
  match s.cores.cores[64 + core]? with
  | none => zeros 512
  | some c =>
    let word := fun (w : BitVec 32) => toLe 4 w.toNat
    let privs := (List.range 11).flatMap fun p => word (s.readPort c (17 * 32 + p))
    let guards := (List.range 8).foldl (fun v i => v + b2n (c.grd.getD i false) * 2 ^ i) 0
    fit 512 (c.ga.flatMap word ++ c.gb.flatMap word ++ toLe 4 guards ++ privs ++ word (c.port 13 0))

/-- A dump of a kind (1 component trap, 2 chip rung, 3 safe state) for a core, or 0xFF (R620). -/
def State.dumpBytes (s : State) (kind core : Nat) : Bytes :=
  let number := match s.incidentShown with
    | some i => i.number
    | none => 0
  toLe 4 0x504D5544 ++ toLe 2 1 ++ toLe 1 kind ++ toLe 1 core ++ toLe 8 s.now ++ toLe 4 (s.e 0x1001 0) ++ toLe 4 number ++ zeros 40
    ++ toLe 8 (s.e 0x2F00 0) ++ toLe 1 (s.e 0x2F00 3) ++ zeros 55
    ++ (List.range 32).flatMap s.firstErrorOf
    ++ s.incidentBytes
    ++ fit 1024 ((s.faults.granulesDone.take 64).flatMap s.caughtBytes)
    ++ (if kind = 3 then zeros 512 else s.coreBytes core)
    ++ s.undefinedBytes 5440

/-- A dump's bytes stand in always-on SRAM. -/
def State.placeDump (s : State) (slot kind core : Nat) : State :=
  let s1 := s.storeRaw (dumpBase + 8192 * slot) (s.dumpBytes kind core)
  let kept := s1.faults.dumps.filter fun d => d.slot != slot
  let d : Dump := { slot := slot, order := s1.faults.dumpOrder }
  let s2 := { s1 with
    fresh := s1.fresh + 1
    faults := { s1.faults with dumps := kept ++ [d], dumpOrder := s1.faults.dumpOrder + 1 } }
  s2.put 0x2F07 0 (kept.length + 1)

/-- The dump taken longest ago. -/
def oldestDump : List Dump → Option Dump
  | [] => none
  | d :: l => match oldestDump l with
    | some x => if x.order < d.order then some x else some d
    | none => some d

/-- A dump is written (R619): into a free slot, or over the oldest, unless that is held; then it is lost. -/
def State.writeDump (s : State) (kind core : Nat) : State :=
  match lowestFree (s.faults.dumps.map (·.slot)) 0 4 with
  | some i => s.placeDump i kind core
  | none =>
    match oldestDump s.faults.dumps with
    | none => s
    | some d =>
      if bit (s.e 0x2F07 4) d.slot then (s.bump 0x2F07 6 1).trayNotice 4 0xFF (s.e 0x2F07 6 + 1)
      else s.placeDump d.slot kind core

/-! ### A rung's domain is reset and released (R610, R612 to R614) -/

/-- The tiles of a quadrant leave service until its retest (R614). -/
def State.beginRetest (s : State) (q : Nat) : State :=
  let s1 := s.put 0x2300 1 ((List.range 16).foldl (fun v i => clearBit v (16 * q + i)) (s.e 0x2300 1))
  { s1 with transform := { s1.transform with quadrantRetest := s1.transform.quadrantRetest.filter (· != q) ++ [q] } }

/-- The requests that an engine rung of the cipher engine finds started fail, and the lock is free (R559). -/
def State.resetCipher (s : State) : State :=
  let run := (s.trust.startedReqs.filter fun r => !r.ended).map (·.order)
  ((run.foldl (fun (s : State) o => s.endReq o true) s).returnReqs).freeLock

/-- The started NVMe commands of a storage front end that is reset end with Internal Error. -/
def State.resetStorage (s : State) : State :=
  (s.storage.ctrls.flatMap fun c => c.started.map fun x => (c.cabinet, x.sqid, x.cid)).foldl
    (fun (s : State) k => (s.releaseOps k.1 fun o => o == (k.2.1, k.2.2)).nvmeFinish k.1 k.2.1 k.2.2 (nvmeStatus 0 0x06 0)) s

/-- The packets that a packet path under reset holds are gone; its rules and records stay. -/
def State.resetPacket (s : State) : State :=
  { s with packet := { s.packet with
      frags := [], fragWait := [], excQueue := [], shapers := [], queues := [], drrPort := [], loopback := [], rxWaiting := []
      previous := none } }

/-- The packets that a ZT pipeline under reset holds are gone; its contexts lie in their backing store. -/
def State.resetZtUnit (s : State) : State :=
  { s with zt := { s.zt with missBench := [], conns := s.zt.conns.map fun (k : Conn) => { k with reorder := [], cached := false, fetching := false } } }

/-- An engine-level unit is reset (R601, R610). -/
def State.resetUnit (s : State) (u : Nat) : State :=
  if u = 0 then s.resetCipher
  else if u = 1 then { s with trust := { s.trust with keyCache := [] } }
  else if u = 2 then s.resetZtUnit
  else if u = 3 then s.resetPacket
  else if u = 4 then s.resetStorage
  else s

/-- A domain is released: its fence ends; tiles go to a retest; an engine-level unit is reset (R612, R614). -/
def State.releaseDomain (s : State) (rung target : Nat) : State :=
  let i := target % 4096
  let f := s.faults
  if rung = 3 then
    let own := fun (x : Nat) => x / 5 != i
    { s with faults := { f with fencedQuads := f.fencedQuads.filter (· != i), fencedInsts := f.fencedInsts.filter own } }.beginRetest i
  else if rung = 2 then
    if target / 4096 = 0 then
      let s1 := { s with faults := { f with fencedInsts := f.fencedInsts.filter (· != i) } }
      if i % 5 = 1 then s1.beginRetest (i / 5) else s1
    else { s with faults := { f with fencedUnits := f.fencedUnits.filter (· != i) } }.resetUnit i
  else s

/-- The commands that a rung has caught complete with DISCARDED_RESET, and the epoch of each queue that had one advances
(R613). -/
def State.stopCaught (s : State) : State :=
  let mine := s.contract.ctxs.filter fun c => s.caught c.id
  let s1 := s.stopEach (mine.map (·.id)) stDiscardedReset s.rungDetail false
  (mine.map (·.queue)).eraseDups.foldl State.advanceEpoch s1

/-- Whether a queued incident's domain lies in one that has been reset (R616). -/
def coveredBy (rung target : Nat) (ctx : Option Nat) (q : Incident) : Bool :=
  if rung = 3 then q.firstRung ≤ 3 && masterQuadrant q.target == some (target % 4096)
  else if rung = 2 then
    q.firstRung ≤ 2 && (q.target == target ||
      (target / 4096 == 0 && target % 5 == 1 && q.target / 4096 == 1 && masterQuadrant q.target == some (target / 5)))
  else rung == 1 && q.firstRung == 1 && q.ctx.isSome && q.ctx == ctx

/-- The open incident closes, and the first queued one whose domain has not been reset meanwhile opens (R616). -/
def State.closeIncident (s : State) (inc : Incident) (rung : Nat) : State :=
  let rest := s.faults.queuedInc.filter fun q => !coveredBy rung inc.target inc.ctx q
  let s1 := { s with faults := { s.faults with
    openInc := none, queuedInc := rest.drop 1, granulesDone := []
    lastInc := if inc.firstSource = 256 then s.faults.lastInc else some { inc with closeTime := s.now } } }.put 0x2F03 0 0
  match rest with
  | [] => s1
  | q :: _ => s1.openIncident q

/-! ### Chip reset (R602, R621, R658) -/

/-- Cells of device memory that a chip reset keeps: always-on SRAM, CXL media, and what lies outside the ZX9.  GDDR7 and the core
die's SRAM are undefined after it (notes/assumptions/2.md). -/
def keptCell (c : Host.Cell) : Bool := (decide (aonBase ≤ c.1) && decide (c.1 < 0xA240000)) || decide (cxlBase ≤ c.1)

/-- Entries that a chip reset keeps (R621): SAFE_STATE_COUNT, PROFILE_OVERRIDE, TRAY_NOTICE, the dumps held, and
BOOT_PREFERENCE, which is stored in flash. -/
def keptEntries : List Nat :=
  [entryKey 0 0x2F05 2, entryKey 0 0x1004 2, entryKey 0 0x2F06 0, entryKey 0 0x2F07 0, entryKey 0 0x2D01 1]

/-- Everything but the always-on island at its reset values. -/
def State.chipReset (s : State) : State :=
  let r := State.reset
  { r with
    pending := s.pending
    now := s.now
    fresh := s.fresh
    dict := s.dict.filter fun p => keptEntries.contains p.1
    mem := s.mem.filter keptCell
    tiers := { r.tiers with cxlBytes := s.tiers.cxlBytes, refreshes := s.tiers.refreshes }
    storage := { r.storage with flashTable := s.storage.flashTable }
    trust := { r.trust with
      pufOk := s.trust.pufOk, flash := s.trust.flash, floor := s.trust.floor, floorTagOk := s.trust.floorTagOk
      bundleOk := s.trust.bundleStored, bundleStored := s.trust.bundleStored, dieOk := s.trust.dieOk, profiles := s.trust.profiles }
    energy := { r.energy with
      temps := s.energy.temps, latchedComp := s.energy.latchedComp, regulatorMw := s.energy.regulatorMw
      emergencyEndedAt := s.now, windowStart := s.now }
    faults := { r.faults with
      dumps := s.faults.dumps, dumpOrder := s.faults.dumpOrder, noticeUnacked := s.faults.noticeUnacked }
    pins := { s.pins with apPerstN := r.pins.apPerstN, thermtripN := true } }.refreshFaultN

/-! ### The boot ROM (R533, R550 to R554, R637, R657) -/

/-- The status code of a firmware image against the floor in force (R532, R552, R553). -/
def FlashImage.code (floor : Nat) (i : FlashImage) : Nat :=
  if !i.present then 8 else if !i.headerOk then 3 else if !i.digestOk then 4 else if !i.rsaOk then 5 else if !i.slhOk then 6
  else if i.svn < floor then 7 else 1

/-- The order in which the images are tried (R553). -/
def bootOrder (preference relA relB : Nat) : List Nat :=
  if preference = 1 then [0, 1] else if preference = 2 then [1, 0] else if relA < relB then [1, 0] else [0, 1]

/-- The floor in force: a record whose tag fails counts as 0 (R552). -/
def State.floorInForce (s : State) : Nat := if s.trust.floorTagOk then s.trust.floor else 0

/-- The images are examined in order until one passes (R553). -/
def State.tryImages (s : State) : List Nat → State
  | [] => s
  | i :: rest =>
    let img := s.trust.flash.getD i default
    let code := img.code s.floorInForce
    let s1 := s.put 0x2D01 (2 + i) code
    if code = 1 then s1.put 0x2D01 0 i else s1.tryImages rest

/-- The profile that is selected, verified (R554, R637). -/
def State.bootProfile (s : State) : State :=
  let n := if s.e 0x1004 2 = 0xFF then s.pins.profileSel else s.e 0x1004 2
  match s.trust.profiles[n]? with
  | some (true, payload) =>
    ({ s with trust := { s.trust with appliedProfile := payload } }.put 0x1004 1 n).put 0x2D01 9 0
  | _ => ((s.put 0x1004 1 0xFF).put 0x2D01 9 1)

/-- With the root reconstructed: images, profile, die records and the floor (R550 to R554). -/
def State.bootImages (s : State) : State :=
  let rel := fun (i : Nat) =>
    let img := s.trust.flash.getD i default
    if img.present && img.headerOk then img.release else 0
  let s1 := ((s.put 0x2D01 4 (rel 0)).put 0x2D01 5 (rel 1)).put 0x2D01 7 s.floorInForce
  let s2 := s1.put 0x2D04 2 (b2n (s.trust.dieOk.getD 0 false) + 2 * b2n (s.trust.dieOk.getD 1 false))
  s2.bootProfile.tryImages (bootOrder (s.e 0x2D01 1) (rel 0) (rel 1))

/-- Reset is released (R533, R534, R641, R657): the straps are sampled, stage B0 begins, the PUF root is reconstructed with the helper
data of device 0 or 1; when both fail, B0 is held and nothing is loaded. -/
def State.bootRom (s : State) : State :=
  let s1 := { s with
    ports := { s.ports with hostSplit := s.pins.hostSplit }
    pins := { s.pins with i3cAddr := 80 + s.pins.i3cSel } }
  let s2 := (((s1.put 0x2A00 0 (b2n s.pins.hostSplit)).put 0x2A00 5 (if s.pins.hostSplit then 4094 else 4095)).put 0x1004 0
    s.pins.profileSel).put 0x1003 1 s.now
  if s.trust.pufOk.any id then
    { s2 with trust := { s2.trust with rootReady := true } }.put 0x2D00 0 1 |>.bootImages
  else (s2.put 0x2D00 0 2).raiseError (fatalChip 20 0x17 0 masterNone) none

/-- The chip rung's reset: everything but the always-on island is reset and released; the rung ends at stage B1 (R610, R621). -/
def State.chipRung (s : State) : State :=
  let s1 := (if s.faults.safe then s else s.writeDump 2 0xFF).chipReset.bootRom
  { s1 with faults := { s1.faults with rungStartedAt := s.faults.rungStartedAt } }.put 0x2F03 0 4

/-! ### Acts of the fault entries -/

/-- FAULT_CLEAR's effect (R595, R623): refused for a bit of an incident that is open or queued. -/
def actFaultClear : ActEffect := fun r s =>
  let v := reqVal r
  let busy := s.faults.openInc.toList ++ s.faults.queuedInc
  if busy.any fun i => bit v i.firstSource || bit v (32 + i.firstSource) then .error (.state 2 0)
  else
    let st := (List.range 64).foldl (fun w i => if bit v i then clearBit w i else w) (s.e 0x2F00 0)
    let s1 := s.put 0x2F00 0 st
    let held := fun (src : Nat) => bit st src || bit st (32 + src)
    let s2 := { s1 with faults := { s1.faults with
      firstErrors := s1.faults.firstErrors.filter fun x => held x.source
      pendingMerged := s1.faults.pendingMerged.filter held } }
    .ok ((if st = 0 then s2.put 0x2F00 3 0xFF else s2).refreshFaultN, false)

/-- The target of a RESET_REQUEST as its rung names it, none when out of range. -/
def requestTarget (rung target : Nat) : Option Nat :=
  let k := target / 4096
  let i := target % 4096
  if rung = 4 then some 0xF000
  else if rung = 2 then (if (k = 0 && i < 20) || (k = 5 && i < 5) then some target else none)
  else if k = 6 && i < 4 then some target
  else if k = 0 && i < 20 then some (0x6000 + i / 5)
  else if k = 1 && i < 64 then some (0x6000 + i / 16)
  else none

/-- RESET_REQUEST's effect (R603, R610, R618). -/
def actResetRequest : ActEffect := fun r s =>
  let v := reqVal r
  let rung := bits v 31 24
  if s.faults.safe && rung != 4 then .error (.state 5 0)
  else match requestTarget rung (bits v 15 0) with
    | none => .error .range
    | some t =>
      let inc := newIncident 0xFF 0 0 t rung none
      if s.faults.safe then
        .ok (if s.e 0x2F03 0 = 4 then s else if s.faults.openInc.isSome then s.startRung 4 else s.openIncident inc, false)
      else .ok (s.addIncident inc, false)

/-- TRAY_NOTICE_ACK's effect (R597, R622). -/
def actNoticeAck : ActEffect := fun _ s =>
  .ok ({ s with faults := { s.faults with noticeUnacked := false } }.refreshFaultN, false)

/-- DUMP_DISCARD's effect (R619): the slot is free. -/
def actDumpDiscard : ActEffect := fun r s =>
  let kept := s.faults.dumps.filter fun d => d.slot != reqVal r
  .ok ({ s with faults := { s.faults with dumps := kept } }.put 0x2F07 0 kept.length, false)

end Sys2Proof.Machine
end

