-- ==== Sys2Proof/Machine/Steral.lean ====
section
/-! DEFINITION. Steral requests (R624 to R634): READ, WRITE and DESCRIBE of any entry, the requests held across a firmware
activation, acts that run on past 1 s, the telemetry latch (R645), flow export (R647, R648), the management port's address
answers (R625), and PLDM (R649, R650). -/

namespace Sys2Proof.Machine

/-! ### Values that an entry derives from the state -/

/-- Members of a group beyond its ranks that have not been promoted. -/
def Group.sparesLeft (g : Group) : Nat := ((g.members.drop g.ranks).filter fun m => !m.promoted).length

/-- The group entries 0x2710 to 0x2713 of a slot. -/
def State.groupEntry (s : State) (idx slot : Nat) : Nat :=
  match s.group? slot with
  | none => if idx = 0x2712 then 0xFFFF else 0
  | some g =>
    if idx = 0x2710 then g.state else if idx = 0x2711 then g.epoch else if idx = 0x2712 then (g.rankOf g.self).getD 0xFFFF
    else g.sparesLeft

/-- The snapshot-set entries 0x2810 to 0x2814 of a slot. -/
def State.setEntry (s : State) (idx slot : Nat) : Nat :=
  match s.set? slot with
  | none => 0
  | some x =>
    if idx = 0x2810 then x.state
    else if idx = 0x2811 then (match x.gens[x.newest]? with
      | some g => if g.state = 0 then 0 else g.step
      | none => 0)
    else if idx = 0x2812 then x.mirroredStep else if idx = 0x2813 then x.durableStep else x.imageBytes

/-- What a cabinet holds of a pool (R510, 0x4002). -/
def State.poolUse (s : State) (cab pool : Nat) : Nat :=
  if pool = 1 then (s.queuesOf cab).length
  else if pool = 2 then (s.contract.syncs.filter fun o => o.cabinet == cab).length
  else if pool = 3 then s.connCount cab
  else if pool = 4 then (s.zt.regions.filter fun x => x.cabinet == cab).length
  else if pool = 5 then s.subscribersOf cab
  else if pool = 6 then
    (match s.ctrl? cab with
     | some c => if c.enabled then c.granted else 0
     | none => 0)
  else if pool = 7 then (s.coll.groups.filter fun g => g.cabinet == cab).length
  else (s.tiers.resident.filter fun r => r.cabinet == cab).length

/-- The I/O queue pairs that enabled controllers hold. -/
def State.pairsInUse (s : State) : Nat := sumNat (s.storage.ctrls.map fun c => if c.enabled then c.granted else 0)

/-- The chunk of the selected dump (R619). -/
def State.dumpChunk (s : State) : Nat :=
  s.readNat (dumpBase + 8192 * s.e 0x2F07 1 + s.e 0x2F07 2) 1024

/-- Whether an entry is a counter of 0x3000 to 0x3FFF, which reads as its latched copy (R645). -/
def isTelemetry (idx sub : Nat) : Bool := (0x3010 ≤ idx && idx ≤ 0x3020) || (idx == 0x3100 && sub == 7)

/-- The latched copy of a telemetry counter. -/
def State.latched (s : State) (idx sub : Nat) : Nat :=
  match s.steral.latchedCounters.find? fun c => c.1 == idx && c.2.1 == sub with
  | some c => c.2.2
  | none => 0

/-- The value that a READ of an entry returns. -/
def State.readValue (s : State) (cab idx sub : Nat) : Nat :=
  if idx = 0x2104 && sub = 1 then 16384 - s.contract.queues.length
  else if idx = 0x2104 && sub = 3 then 262144 - s.contract.syncs.length
  else if idx = 0x2503 && sub = 2 then s.tiers.resident.length
  else if idx = 0x2601 && sub = 2 then s.zt.conns.length
  else if idx = 0x2604 && sub = 1 then s.zt.regions.length
  else if idx = 0x2700 && sub = 1 then s.coll.groups.length
  else if 0x2710 ≤ idx && idx ≤ 0x2713 then s.groupEntry idx sub
  else if 0x2810 ≤ idx && idx ≤ 0x2814 then s.setEntry idx sub
  else if idx = 0x2901 && sub = 8 then exactInUse s.packet.committed s.packet.shadow
  else if idx = 0x2902 && sub = 3 then s.packet.frags.length
  else if idx = 0x2B00 && sub = 2 then 65536 - s.pairsInUse
  else if idx = 0x2B01 && sub = 4 then s.storage.namespaces.length
  else if idx = 0x2C00 && sub = 1 then (s.cabs.cabs.filter fun c => c.state != 0).length
  else if idx = 0x2D02 && sub = 1 then
    61376 - (s.trust.slots.filter fun k => 4160 ≤ k.slot).length
  else if idx = 0x2F01 then leNat (s.firstErrorOf sub)
  else if idx = 0x2F02 && sub = 0 then leNat s.incidentBytes
  else if idx = 0x2F07 && sub = 3 then s.dumpChunk
  else if isTelemetry idx sub then s.latched idx sub
  else if idx = 0x3030 then (if sub = 4 then 0 else s.freeValue % 1000001)
  else if idx = 0x4000 && sub = 0 then s.cabState cab
  else if idx = 0x4002 then s.poolUse cab sub
  else s.ent cab idx sub

/-- The payload of a READ (R629): a wo or act entry reads as zeros. -/
def State.readPayload (s : State) (cab idx sub : Nat) : Bytes :=
  match entryRow idx sub with
  | none => []
  | some e => if e.access == .wo || e.access == .act then zeros e.ty.size else toLe e.ty.size (s.readValue cab idx sub)

/-! ### DESCRIBE (R629) -/

/-- The lowest and highest value that an entry's range states, zero where it states none. -/
def State.rangeOf (s : State) (cab idx sub : Nat) (r : EntryRow) : Nat × Nat :=
  match r.range with
  | .any => (0, 0)
  | .between lo hi => (if r.access == .act && r.ty == .bool then 1 else lo, hi)
  | .multiple _ lo hi => (lo, hi)
  | .zeroOr _ hi => (0, hi)
  | .orValue lo hi x => (min lo x, max hi x)
  | .mask m => (0, m)
  | .special k =>
    if k = 2 then (0, entryDefault 0 0x4001 sub)
    else if k = 5 then (0, 68719476736 - 2 ^ s.ports.bar2Log2)
    else if k = 7 then ((s.e idx sub + 1) % 65536, (s.e idx sub + 1) % 65536)
    else if k = 8 then (0, vectorsOf cab - 1)
    else if k = 11 then (s.e 0x2E00 4, 102 * 65536)
    else (0, 0)

/-- The 40 bytes that DESCRIBE answers: the fields that R629 lists fill 32 of them, the rest are open (notes/assumptions/52.md). -/
def State.describeBytes (s : State) (cab idx sub : Nat) : Bytes :=
  match entryRow idx sub with
  | none => []
  | some r =>
    let w := match rightsRow cab idx sub with
      | some x => x.writers
      | none => r.writers
    let rng := s.rangeOf cab idx sub r
    toLe 1 r.ty.code ++ toLe 1 r.access.code ++ toLe 1 w ++ zeros 5 ++ toLe 8 (entryDefault cab idx sub)
      ++ toLe 8 rng.1 ++ toLe 8 rng.2 ++ s.undefinedBytes 8

/-! ### The effect of a WRITE -/

/-- Whether a message can be sent: without addresses it cannot; whether the collector is reached, only the network shows. -/
def State.canExport (s : State) : Bool := s.e 0x1006 0 != 0 && s.e 0x3100 1 != 0 && s.freeValue % 2 == 0

/-- A flow-export template goes out (R648); one that cannot be sent is counted. -/
def State.sendTemplate (s : State) : State :=
  let fields := [(148, 8), (10, 4), (2, 8), (1, 8), (156, 8), (157, 8), (136, 1)]
  let template := toBe 2 256 ++ toBe 2 7 ++ fields.flatMap fun (f : Nat × Nat) => toBe 2 f.1 ++ toBe 2 f.2
  let msg := toBe 2 10 ++ toBe 2 (20 + template.length) ++ toBe 4 (s.now / 1000000000) ++ toBe 4 s.packet.ipfixSeq
    ++ toBe 4 (s.e 0x3100 3) ++ toBe 2 2 ++ toBe 2 (4 + template.length) ++ template
  if s.canExport then { s.drawn with packet := { s.packet with templateAt := s.now, ipfixOut := msg :: s.packet.ipfixOut } }
  else { s.drawn with packet := { s.packet with templateAt := s.now } }.bump 0x3100 7 1

/-- What follows the new value of an entry at once. -/
def State.afterWrite (s : State) (idx sub old v : Nat) : State :=
  if idx = 0x2E00 then s.refreshSnowline
  else if idx = 0x2200 then s.bump 0x2201 0 1
  else if idx = 0x2F00 && sub = 2 then s.refreshFaultN
  else if idx = 0x3100 && sub = 0 && old = 0 && v = 1 then s.sendTemplate
  else s

/-- A write of an entry that only takes a value: BACKING_HOST_ADDR is refused while contexts are in use, the dirty log's
area while the log runs (13, per-cabinet entries). -/
def plainWrite (idx sub : Nat) : ActEffect := fun r s =>
  let v := reqVal r
  if idx = 0x2601 && sub = 4 && !s.zt.conns.isEmpty then .error (.state 2 0)
  else if idx = 0x4008 && 1 ≤ sub && sub ≤ 4 && s.ent r.cabinet 0x4008 0 = 1 then .error (.state 2 0)
  else .ok ((s.putEnt r.cabinet idx sub v).afterWrite idx sub (s.ent r.cabinet idx sub) v, false)

/-- TELEMETRY_LATCH's effect (R645).  Codeword corrections and busy steps are measured, not modelled: their copies advance
by values that are open. -/
def actTelemetryLatch : ActEffect := fun _ s =>
  let ports := [0x3010, 0x3011, 0x3012, 0x3013, 0x3014].flatMap fun idx => (List.range 4).map fun p => (idx, p, s.e idx p)
  let open4 := [0x3015, 0x3016, 0x3020].flatMap fun idx =>
    (List.range 4).map fun p => (idx, p, (s.latched idx p + Config.freeNat (s.fresh + 4 * (idx % 16) + p)) % 2 ^ 64)
  let s1 : State := { s with
    fresh := s.fresh + 64
    steral := { s.steral with latchedCounters := ports ++ open4 ++ [(0x3100, 7, s.e 0x3100 7)] } }
  .ok (s1.put 0x3000 1 s.now, false)

/-- The outcome of a CIPHER_KAT_RUN that comes as a plain write is open. -/
def actKatOpen : ActEffect := fun r s => actKatRun (s.freeValue % 65536) r s.drawn

/-- The acts of the entries below 0x2D00. -/
def actLow (idx sub : Nat) : Option ActEffect :=
  if idx = 0x1005 && sub = 0 then some actFwActivate
  else if idx = 0x2102 then
    (if sub = 1 then some actRenew else if sub = 4 then some actLeaseRelease else if sub = 5 then some actAdopt else none)
  else if idx = 0x2300 && sub = 3 then some actSelfcheckRun
  else if idx = 0x2401 && sub = 1 then some actImageCacheFlush
  else if idx = 0x2901 then
    (if sub = 3 then some actRuleStage else if sub = 4 then some actRuleCommit else if sub = 5 then some actRuleDiscard else none)
  else if idx = 0x2907 && sub = 2 then some actTmApply
  else if idx = 0x2A50 then some actWindowGen
  else if idx = 0x2B01 && sub = 2 then some actNsApply
  else if idx = 0x2C01 && sub = 0 then some actMigrationSecret
  else none

/-- The acts of the entries from 0x2D00 to 0x3FFF. -/
def actHigh (idx sub : Nat) : Option ActEffect :=
  if idx = 0x2D01 && sub = 8 then some actSvnCommit
  else if idx = 0x2D03 && sub = 3 then some actKatOpen
  else if idx = 0x2E05 && sub = 1 then some actPowerStateReq
  else if idx = 0x2F00 && sub = 1 then some actFaultClear
  else if idx = 0x2F03 && sub = 0x0B then some actResetRequest
  else if idx = 0x2F06 && sub = 1 then some actNoticeAck
  else if idx = 0x2F07 && sub = 5 then some actDumpDiscard
  else if idx = 0x3000 && sub = 0 then some actTelemetryLatch
  else none

/-- The acts of the per-cabinet entries. -/
def actCab (idx sub : Nat) : Option ActEffect :=
  if idx = 0x4000 then (if sub = 1 then some actAssign else if sub = 2 then some actRelease else none)
  else if idx = 0x4001 then some actShare
  else if idx = 0x4003 && sub = 9 then some actAdminEnable
  else if idx = 0x4004 then
    (if sub = 1 then some actRenew else if sub = 4 then some actLeaseRelease else if sub = 5 then some actAdopt else none)
  else if idx = 0x4005 then (if sub = 2 then some actNvmeEnable else if sub = 3 then some actNvmeShutdown else none)
  else if idx = 0x4007 then
    (if sub = 0 then some actFreeze else if sub = 1 then some actUnfreeze else if sub = 5 then some actSave
     else if sub = 0x0A then some actRestore else none)
  else if idx = 0x4008 && sub = 5 then some actLogSwap
  else none

/-- The effect of a WRITE of any entry. -/
def writeEffect (idx sub : Nat) : ActEffect :=
  let special := if idx < 0x2D00 then actLow idx sub else if idx < 0x4000 then actHigh idx sub else actCab idx sub
  match special with
  | some f => f
  | none => plainWrite idx sub

/-! ### Requests -/

/-- A request is judged, takes effect and is answered (R628 to R631). -/
def State.serveReq (s : State) (r0 : ActReq) (op idx sub : Nat) : State :=
  let r := { r0 with sub := sub }
  if op = 2 then s.serveWrite r idx sub (writeEffect idx sub)
  else match s.judge r op idx sub with
    | (0, _) =>
      if op = 1 then (if idx = 0x3030 then s.drawn else s).respond r 1 idx sub 0 (s.readPayload r.cabinet idx sub)
      else s.drawn.respond r op idx sub 0 (s.describeBytes r.cabinet idx sub)
    | (4, l) => s.respond r op idx sub 4 (l.flatMap (toLe 1))
    | (code, _) => s.respond r op idx sub code []

/-- A firmware activation's drain has ended, whatever ended it: queues return from SUSPENDED (R85), leases that fell due move
(R97, 06), snapshots go on (R413), and the requests held are answered in the order in which they came (R633). -/
def State.settleDrain (s : State) : State :=
  if !s.contract.draining || s.contract.activation = 1 then s
  else
    let held := s.steral.heldReqs
    let s1 : State := { s with
      contract := { s.contract with draining := false }
      steral := { s.steral with heldReqs := [] } }
    let s2 := if s1.faults.safe then s1
      else (((s1.resumeQueues 0 fun _ => true).resumeSnapshots).deferLeases fun _ => true).deferSeqLeases
    held.foldl (fun (s : State) h => s.serveReq h.2.2.2 h.1 h.2.1 h.2.2.1) s2

/-- A result after which the end of a drain is settled. -/
def State.settled (s t : State) : Result := s.commit t.settleDrain

/-- Entries whose acts an activation refuses instead of holding them (R450). -/
def refusedInDrain (idx sub : Nat) : Bool := (idx == 0x2901 && 3 ≤ sub && sub ≤ 5) || (idx == 0x2907 && sub == 2)

/-- A write that acts, beside which a drain may end. -/
def State.actSettled (s : State) (r : ActReq) (idx sub : Nat) (eff : ActEffect) : Result :=
  if s.unreachable r then s.idle
  else if s.contract.activation = 1 && r.transport != 5 then s.quiet (s.holdReq r 2 idx sub)
  else s.settled (s.serveWrite r idx sub eff)

/-- STERAL_READ (R628, R629). -/
def execSteralRead (r : ActReq) (idx sub : Nat) (s : State) : Result :=
  if s.unreachable r then s.idle else s.quiet (s.serveReq r 1 idx sub)

/-- STERAL_WRITE (R628 to R631, R633): held while an activation drains. -/
def execSteralWrite (r : ActReq) (idx sub : Nat) (s : State) : Result :=
  if s.unreachable r then s.idle
  else if s.contract.activation = 1 && r.transport != 5 && !refusedInDrain idx sub then
    s.quiet (s.holdReq { r with sub := sub } 2 idx sub)
  else s.settled (s.serveReq r 2 idx sub)

/-- DESCRIBE (R629, R634). -/
def execDescribe (r : ActReq) (idx sub : Nat) (s : State) : Result :=
  if s.unreachable r then s.idle else s.quiet (s.serveReq r 3 idx sub)

/-- TELEMETRY_LATCH (R645). -/
def execTelemetryLatch (r : ActReq) (s : State) : Result := s.act r 0x3000 0 actTelemetryLatch

/-- IN_PROGRESS_RESPONSE (R631): an act that still runs 1 s after its request was accepted is answered. -/
def execInProgressResponse (transport source tag : Nat) (s : State) : Result :=
  match s.steral.outstanding.find? fun o => o.isAct && o.transport == transport && o.source == source && o.tag == tag with
  | none => s.idle
  | some o =>
    if s.now < o.accepted + 1000000000 then s.idle
    else
      let s1 := { s with steral := { s.steral with outstanding := s.steral.outstanding.erase o } }
      s.quiet (s1.respond
        { transport := o.transport, source := o.source, version := o.version, tag := o.tag, cabinet := o.cabinet, sub := o.sub
          value := [] } 2 o.index o.sub 8 [])

/-! ### The management port's addresses (R625, R627) -/

/-- MGMT_IP as it lies in bytes. -/
def State.mgmtIp (s : State) : Bytes := toLe 16 (s.e 0x1006 0)

/-- Whether MGMT_IP is an IPv4 address: laid out as LOCAL_IP of R295, with the rest zero. -/
def State.mgmtV4 (s : State) : Bool := allZero (s.mgmtIp.drop 4)

/-- MAC of the management port. -/
def State.mgmtMac (s : State) : Bytes := toLe 6 (s.e 0x1006 4)

/-- A frame leaves the management port, padded to the shortest frame. -/
def State.sendMgmt (s : State) (dst : Bytes) (ty : Nat) (payload : Bytes) : State :=
  let f := ethFrame dst s.mgmtMac 0 ty payload
  let padded := f ++ zeros (60 - f.length)
  { s with steral := { s.steral with mgmtOut := withFcs padded :: s.steral.mgmtOut } }

/-- ARP_REQUEST (R625): a request for MGMT_IP is answered to its sender (RFC 826). -/
def execArpRequest (frame : Bytes) (s : State) : Result :=
  let a := frame.drop 14
  if s.e 0x1006 0 = 0 || !s.mgmtV4 || slice frame 12 2 != [0x08, 0x06] ||
      a.take 8 != [0, 1, 0x08, 0, 6, 4, 0, 1] || slice a 24 4 != s.mgmtIp.take 4 then s.idle
  else
    let reply := [0, 1, 0x08, 0, 6, 4, 0, 2] ++ s.mgmtMac ++ s.mgmtIp.take 4 ++ fit 6 (slice a 8 6) ++ fit 4 (slice a 14 4)
    s.quiet (s.sendMgmt (slice frame 6 6) 0x0806 reply)

/-- The pseudo-header of an ICMPv6 message. -/
def icmp6Pseudo (src dst : Bytes) (len : Nat) : Bytes := fit 16 src ++ fit 16 dst ++ toBe 4 len ++ toBe 4 58

/-- NEIGHBOR_SOLICITATION (R625): a solicitation of MGMT_IP is answered to its sender (RFC 4861). -/
def execNeighborSolicitation (frame : Bytes) (s : State) : Result :=
  let ip := frame.drop 14
  let len := fieldBe ip 4 2
  let icmp := slice ip 40 len
  let src := slice ip 8 16
  let dst := slice ip 24 16
  if s.e 0x1006 0 = 0 || s.mgmtV4 || slice frame 12 2 != [0x86, 0xDD] || slice ip 6 2 != [58, 255] ||
      icmp.length < 24 || icmp.take 2 != [135, 0] || slice icmp 8 16 != s.mgmtIp ||
      foldSum (inetSum (icmp6Pseudo src dst len ++ icmp)) != 0xFFFF then s.idle
  else
    let body := [136, 0, 0, 0, 0x60, 0, 0, 0] ++ s.mgmtIp ++ [2, 1] ++ s.mgmtMac
    let na := putBytes body 2 (toBe 2 (inetChecksum (icmp6Pseudo s.mgmtIp src body.length ++ body)))
    let hdr := putBytes (ipHeader true s.mgmtIp src 58 0 0 na.length) 7 [255]
    s.quiet (s.sendMgmt (slice frame 6 6) 0x86DD (hdr ++ na))

/-! ### Flow export (R647, R648) -/

/-- Device time as RFC 7011 dateTimeNanoseconds: seconds since 1900 and a binary fraction. -/
def ntpTime (t : Nat) : Bytes := toBe 4 (t / 1000000000 + 2208988800) ++ toBe 4 (t % 1000000000 * 4294967296 / 1000000000)

/-- A record as Template 256 lists it: 45 octets. -/
def FlowRec.bytes (r : FlowRec) (reason : Nat) : Bytes :=
  toBe 8 r.id ++ toBe 4 r.inPort ++ toBe 8 r.packets ++ toBe 8 r.octets ++ ntpTime r.first ++ ntpTime r.last ++ toBe 1 reason

/-- Whether the export runs: enabled, from stage B1, awake, outside the hardware safe state, its component running (R609). -/
def State.exports (s : State) : Bool :=
  s.e 0x3100 0 == 1 && !s.faults.safe && 1 ≤ s.e 0x1003 0 && s.e 0x2E05 0 ≤ 1 && !s.restarting 6

/-- A flow record is exported and its deltas restart; a message that cannot be sent is counted, and the record keeps
counting. -/
def State.exportFlow (s : State) (r : FlowRec) (reason : Nat) : State :=
  if !s.canExport then s.drawn.bump 0x3100 7 1
  else
    let rec45 := r.bytes reason
    let msg := toBe 2 10 ++ toBe 2 (20 + rec45.length) ++ toBe 4 (s.now / 1000000000) ++ toBe 4 s.packet.ipfixSeq
      ++ toBe 4 (s.e 0x3100 3) ++ toBe 2 256 ++ toBe 2 (4 + rec45.length) ++ rec45
    { s.drawn with packet := { s.packet with
        ipfixSeq := (s.packet.ipfixSeq + 1) % 2 ^ 32
        ipfixOut := msg :: s.packet.ipfixOut
        flows := updWhere (fun (x : FlowRec) => x.id == r.id) (fun x => { x with packets := 0, octets := 0, lastExport := s.now })
          s.packet.flows } }

/-- A flow's record, when it has counted packets and a time has passed. -/
def State.exportWhen (s : State) (flow reason : Nat) (due : FlowRec → Bool) : Result :=
  match s.packet.flows.find? fun r => r.id == flow with
  | none => s.idle
  | some r => if !s.exports || r.packets = 0 || !due r then s.idle else s.quiet (s.exportFlow r reason)

/-- IPFIX_ACTIVE_TIMEOUT (R648). -/
def execIpfixActiveTimeout (flow : Nat) (s : State) : Result :=
  s.exportWhen flow 2 fun r => r.first + s.e 0x3100 4 ≤ s.now

/-- IPFIX_IDLE_TIMEOUT (R648). -/
def execIpfixIdleTimeout (flow : Nat) (s : State) : Result :=
  s.exportWhen flow 1 fun r => r.last + s.e 0x3100 5 ≤ s.now

/-- IPFIX_TEMPLATE_REFRESH (R648). -/
def execIpfixTemplateRefresh (s : State) : Result :=
  if !s.exports || s.now < s.packet.templateAt + s.e 0x3100 6 then s.idle else s.quiet s.sendTemplate

/-! ### PLDM (R649, R650)

Completion codes and answer forms are those of DMTF DSP0267 and DSP0248, which the spec names and does not restate
(notes/assumptions/26.md). -/

/-- A PLDM answer or request of the terminus goes out. -/
def State.pldm (s : State) (code : Nat) (data : Bytes) : State :=
  { s with steral := { s.steral with pldmOut := (code, data) :: s.steral.pldmOut } }

/-- The flash device that takes component 1 (R650). -/
def State.updateDevice (s : State) : Nat :=
  if s.e 0x1003 0 = 0 then (if s.e 0x2D01 3 < s.e 0x2D01 2 then 0 else 1) else 1 - s.trust.runningSlot

/-- What a flash device holds is replaced. -/
def State.setFlash (s : State) (dev : Nat) (i : FlashImage) : State :=
  { s with trust := { s.trust with flash := s.trust.flash.set dev i } }

/-- REQUEST_UPDATE (R650): one agent holds update mode. -/
def execRequestUpdate (agent component size maxTransfer : Nat) (s : State) : Result :=
  if s.faults.safe then s.idle
  else match s.steral.update with
    | some _ => s.quiet (s.pldm 0x81 [])
    | none =>
      if component = 0 || 3 < component || maxTransfer = 0 then s.quiet (s.pldm 0x02 [])
      else
        let u : Update :=
          { agent := agent, component := component, size := size, received := [], maxTransfer := maxTransfer, verified := false }
        s.quiet ({ s with steral := { s.steral with update := some u } }.pldm 0 [0, 0, 0])

/-- REQUEST_FIRMWARE_DATA (R650): a chunk of min(the agent's maximum, 4,096) bytes arrives and is written; an image that is
partly written fails its check. -/
def execRequestFirmwareData (data : Bytes) (s : State) : Result :=
  match s.steral.update with
  | none => s.idle
  | some u =>
    let n := min (min u.maxTransfer 4096) (u.size - u.received.length)
    if s.faults.safe || n = 0 || data.length != n then s.idle
    else
      let s1 := { s with steral := { s.steral with update := some { u with received := u.received ++ data } } }
      let dev := s.updateDevice
      s.quiet (if u.component = 1 then s1.setFlash dev { (s.trust.flash.getD dev default) with digestOk := false } else s1)

/-- A profile has been written to both devices: PROFILE_ID and payload of its image (R551, R636). -/
def State.writeProfile (s : State) (u : Update) (headerOk ok : Bool) : State :=
  let id := field u.received 20 4
  if !headerOk || 3 < id then s
  else { s with trust := { s.trust with profiles := s.trust.profiles.set id (ok, u.received.drop 16896) } }

/-- VERIFY_COMPLETE (R555, R650): the image, received whole, is verified; a firmware image that passes awaits activation.  An
update that fails its verification ends. -/
def execVerifyComplete (image : FlashIn) (s : State) : Result :=
  match s.steral.update with
  | none => s.idle
  | some u =>
    if s.faults.safe || u.verified || u.received.length < u.size then s.idle
    else
      let img : FlashImage :=
        { present := true, headerOk := image.headerOk, digestOk := image.digestOk, rsaOk := image.rsaOk, slhOk := image.slhOk
          release := image.release, svn := image.svn, digest := image.digest }
      let code := img.code (if u.component = 1 then s.floorInForce else 0)
      let ok := code == 1
      let dev := s.updateDevice
      let s1 := if u.component = 1 then
          let s2 := (s.setFlash dev img).put 0x2D01 (2 + dev) (if ok then 2 else code)
          let s3 := s2.put 0x2D01 (4 + dev) (if image.headerOk then image.release else 0)
          if ok then s3.put 0x1001 1 image.release else s3
        else if u.component = 2 then s.writeProfile u image.headerOk ok
        else { s with trust := { s.trust with bundleStored := ok } }
      let left := if ok then some { u with verified := true } else none
      s.quiet ({ s1 with steral := { s1.steral with update := left } }.pldm (if ok then 0 else 1) [])

/-- ACTIVATE_FIRMWARE (R651): the update ends; a verified component 1 starts a self-contained activation once firmware runs. -/
def execActivateFirmware (agent : Nat) (s : State) : Result :=
  if s.faults.safe then s.idle
  else match s.steral.update with
    | none => s.quiet (s.pldm 0x80 [])
    | some u =>
      if u.agent != agent then s.quiet (s.pldm 0x80 [])
      else if !u.verified then s.quiet (s.pldm 0x85 [])
      else
        let s1 := { s with steral := { s.steral with update := none } }
        if u.component != 1 || s.e 0x1003 0 = 0 then s.commit (s1.pldm 0 [0, 0])
        else if s.contract.activation != 0 then s.quiet (s.pldm 0x84 [])
        else
          let s2 := if s1.mayActivate then s1.startDraining else s1.deferActivation
          s.commit (s2.drawn.pldm 0 (toLe 2 s.freeValue))

/-- The readings of the sensors, in the order in which R649 lists them. -/
def State.sensorReading (s : State) (i : Nat) : Option Nat :=
  if i = 0 then some (s.e 0x2E01 3)
  else if i ≤ 6 then some (s.e 0x2E03 i)
  else if i ≤ 10 then some (s.e 0x2000 (i - 6))
  else if i = 11 then some (s.e 0x1003 0)
  else if i = 12 then some (s.e 0x2E00 0)
  else if i = 13 then some (s.e 0x2F05 0)
  else none

/-- GET_SENSOR_READING (R649): from stage B1. -/
def execGetSensorReading (sensor : Nat) (s : State) : Result :=
  if s.faults.safe || s.e 0x1003 0 = 0 then s.idle
  else match s.sensorReading sensor with
    | none => s.quiet (s.pldm 0x80 [])
    | some v => s.quiet (s.pldm 0 (toLe 4 v))

end Sys2Proof.Machine
end

