-- ==== Sys2Proof/Machine/Energy.lean ====
section
/-! DEFINITION. Energy and power, the rows (R560 to R594): the control loops, the hardware limiter and comparators, budget
windows, firmware activation, and the power states with the wake ladder. -/

namespace Sys2Proof.Machine

/-! ### Control loops (R560, R561, R564) -/

/-- Whether the power and thermal component runs: from stage B1, outside the hardware safe state, not while it restarts, and not
asleep (R585, R602, R609, R641). -/
def State.loopsRun (s : State) : Bool := !s.faults.safe && 1 ≤ s.e 0x1003 0 && !s.restarting 0 && s.e 0x2E05 0 ≤ 1

/-- An iteration of a loop ends: whether it is due at all, whether it missed its deadline, and whether the loop is then more than 10
periods behind (R564). -/
structure LoopTurn where
  due : Bool
  start : Nat
  missed : Bool
  behind : Bool
  deriving DecidableEq, Repr

/-- The turn of a loop at a time. -/
def loopTurn (start : Option Nat) (done period now : Nat) : LoopTurn :=
  let st := start.getD now
  { due := decide (st + done * period ≤ now), start := st, missed := decide (st + (done + 1) * period < now)
    behind := decide (done + 11 < (now - st) / period) }

/-- A missed deadline is counted; a loop that falls behind is reported once (R564). -/
def State.noteTurn (s : State) (t : LoopTurn) (was : Bool) : State :=
  let s1 := s.bump 0x2E04 0x0D (b2n t.missed)
  if t.behind && !was then s1.note 19 0x0F 0 masterNone 4 else s1

/-- The energy that the package has drawn since the last poll, at the power read then (R560, R565). -/
def State.accrue (s : State) : State :=
  { s with energy := { s.energy with
      windowEnergy := s.energy.windowEnergy + s.energy.regulatorMw * (s.now - s.energy.polledAt), polledAt := s.now } }

/-- The regulators have been read: package power is their sum in mW, and a warning is an entry condition of level 3 (R560, R566). -/
def State.pollRegulators (s : State) (readings : List Nat) (warning : Bool) : State :=
  let s1 := s.accrue
  { s1 with energy := { s1.energy with regulatorMw := sumNat readings, regulatorWarn := warning } }.refreshSnowline

/-- A quadrant runs below its committed rate. -/
def State.rateShort (s : State) : Bool := (List.range 4).any fun q => s.e 0x2000 (q + 1) < s.e 0x2003 (q + 1)

/-- The set point that an iteration leaves: at most two steps of 5 mV away, inside 0.55 V to 0.85 V and the level's ceiling, and not
lower while a quadrant is short of its committed rate; which of these, the ZX9 chooses (R560, R569).  In stage B2 it is held at
0.68 V (R16). -/
def State.nextRail (s : State) : Nat :=
  if s.e 0x1003 0 = 2 then s.e 0x2E01 5 else
  let rail := s.e 0x2E01 5
  let k := s.freeValue % 5
  if k < 2 then (if s.rateShort then rail else max 550 (rail - 5 * (k + 1)))
  else max rail (min (rail + 5 * (k - 2)) (railCeiling (s.e 0x2E00 0)))

/-- POWER_LOOP (R560, R564). -/
def execPowerLoop (readings : List Nat) (warning : Bool) (s : State) : Result :=
  let e := s.energy
  let t := loopTurn e.powerStart e.powerDone 100000 s.now
  if !s.loopsRun || !t.due then s.idle
  else
    let s1 := (s.pollRegulators readings warning).noteTurn t e.powerBehind
    let s2 : State := { s1 with energy := { s1.energy with
      powerStart := some t.start, powerDone := e.powerDone + 1, powerBehind := t.behind } }
    s.settled (s2.drawn.put 0x2E01 5 s2.nextRail)

/-- PMB_ALERT_N (R655, R670): the regulators are polled at once; ignored in the hardware safe state. -/
def execPmbAlertN (readings : List Nat) (warning : Bool) (s : State) : Result :=
  if !s.loopsRun then s.idle else s.settled (s.pollRegulators readings warning)

/-- The hottest of some sensors. -/
def hottest (l : List Int) : Int :=
  match l with
  | [] => 0
  | x :: r => r.foldl max x

/-- The sensors have been read: 16 on the core die, four per quadrant, and four on each I/O die (R561). -/
def State.readSensors (s : State) (readings : List Int) : State :=
  let temps := (List.range 24).map fun i => readings.getD i (s.energy.temps.getD i 0)
  let s1 : State := { s with energy := { s.energy with temps := temps } }
  (List.range 6).foldl (fun (s : State) i => s.put 0x2E03 (i + 1) (unsigned 32 (hottest ((temps.drop (4 * i)).take 4)))) s1

/-- THERMAL_LOOP (R561, R564, R566): outside its iterations the always-on island still sees the sensors (R585, R603). -/
def execThermalLoop (readings : List Int) (s : State) : Result :=
  let e := s.energy
  let t := loopTurn e.thermalStart e.thermalDone 1000000 s.now
  let s1 := s.readSensors readings
  if !s.loopsRun || !t.due then s.quiet s1
  else
    let s2 := s1.noteTurn t e.thermalBehind
    s.settled { s2 with energy := { s2.energy with
      thermalStart := some t.start, thermalDone := e.thermalDone + 1, thermalBehind := t.behind } }.refreshSnowline

/-- SNOWLINE_FALL (R566): the level's condition has been false, with its margin, for 10 ms. -/
def execSnowlineFall (s : State) : Result :=
  let m := s.energy.measuredLevel
  match s.energy.clearSince.getD (m - 1) none with
  | none => s.idle
  | some t =>
    if !s.loopsRun || m = 0 || !s.rowClear m || s.now < t + 10000000 then s.idle
    else s.settled ({ s with energy := { s.energy with measuredLevel := m - 1 } }.refreshSnowline.resumeSnapshots)

/-! ### The hardware limiter and the comparators (R562, R563) -/

/-- POWER_LIMITER (R562): the always-on island sees a package power. -/
def execPowerLimiter (packageMw : Nat) (s : State) : Result :=
  if s.faults.safe then s.idle
  else
    let since := if packageMw ≤ 600000 then none else match s.energy.over600Since with
      | some t => some t
      | none => some s.now
    let long := match since with
      | some t => decide (t + 10000000 ≤ s.now)
      | none => false
    s.settled { s with energy := { s.energy with
      over600Since := since, limiterL3 := long, pacing := s.energy.pacing || decide (720000 < packageMw) || long } }.refreshSnowline

/-- LIMITER_PACING_END (R562, R578): package power is back within the limit that the limiter paced to. -/
def execLimiterPacingEnd (s : State) : Result :=
  if s.faults.safe || !s.energy.pacing then s.idle
  else
    s.settled { s with energy := { s.energy with
      pacing := false, limiterL3 := false
      over600Since := if s.energy.limiterL3 then none else s.energy.over600Since } }.refreshSnowline

/-- 110 °C, in units of 1/65536 °C. -/
def tripPoint : Int := 110 * 65536

/-- THERMAL_TRIP (R563, R661): a comparator that is armed latches, THERMTRIP_N goes low, and the hardware safe state is forced. -/
def execThermalTrip (sensor : Nat) (s : State) : Result :=
  if 24 ≤ sensor then .fault .noSuchUnit
  else if s.energy.latchedComp.contains sensor then s.idle
  else
    let s1 : State := { s with
      energy := { s.energy with
        latchedComp := s.energy.latchedComp ++ [sensor]
        temps := updAt sensor (fun x => max x tripPoint) s.energy.temps }
      pins := { s.pins with thermtripN := false } }
    s.settled (s1.raiseError (fatalChip 19 0x14 0 masterNone) none)

/-- COMPARATOR_REARM (R563). -/
def execComparatorRearm (sensor : Nat) (s : State) : Result :=
  if 24 ≤ sensor then .fault .noSuchUnit
  else if !s.energy.latchedComp.contains sensor then s.idle
  else s.quiet { s with energy := { s.energy with
    latchedComp := s.energy.latchedComp.filter (· != sensor)
    temps := updAt sensor (fun x => min x (tripPoint - 1)) s.energy.temps } }

/-! ### Budget windows (R565, R573) -/

/-- The charges of the commands still running. -/
def State.runningCharges (s : State) : Nat :=
  sumNat ((s.contract.ctxs.filter fun c => !c.finished).map (·.charge)) +
  sumNat (s.storage.ctrls.flatMap fun c => c.started.map (·.charge))

/-- P_fixed in µW, of an energy in pJ, debits in fJ and a time in ns. -/
def fixedPower (energy debited elapsed : Nat) : Nat := (energy * 1000 - debited) / max elapsed 1

/-- The budget of a window in fJ, of a cap in W, P_fixed in µW, a length in ns and the running charges (R573). -/
def windowBudget (capW fixedUw len running : Nat) : Int := ((capW * 1000000 : Int) - fixedUw) * len - running

/-- BUDGET_WINDOW (R571, R573, R576). -/
def execBudgetWindow (s : State) : Result :=
  if !s.loopsRun || s.restarting 1 then s.idle
  else
    let s1 := s.accrue
    let e := s1.energy
    let elapsed := max (s1.now - e.windowStart) 1
    let pf := fixedPower e.windowEnergy e.debited elapsed
    let run := s1.runningCharges
    let mw := e.windowEnergy / elapsed
    let len := s1.e 0x2E01 1
    let cap := s1.e 0x2E01 0
    let s2 : State := { s1 with energy := { e with
      windowStart := s1.now, windowLen := len, windowEnergy := 0, capW := cap, debited := run, negativeOnly := false
      remaining := windowBudget cap pf len run
      overCapWindows := if e.capW * 1000 < mw then e.overCapWindows + 1 else 0 } }
    s.settled ((s2.put 0x2E01 3 mw).put 0x2E01 4 (pf / 1000)).refreshSnowline

/-! ### Firmware activation (R85, R555, R578 to R580, R651) -/

/-- FW_ACTIVATE (R651). -/
def execFwActivate (r : ActReq) (s : State) : Result := s.act r 0x1005 0 actFwActivate

/-- The new image has taken control (R555, R558, R650, R651). -/
def State.takeControl (s : State) : State :=
  let dev := 1 - s.trust.runningSlot
  let img := s.trust.flash.getD dev default
  let s1 := ((((s.put 0x1001 0 (s.e 0x1001 1)).put 0x1001 1 0).bump 0x1005 1 1).put 0x2D01 6 img.svn).put 0x2E07 0 0
  { s1 with
    contract := { s1.contract with activation := 0 }
    trust := { s1.trust with runningSlot := dev, runningDigest := img.digest, keyCache := [], meas := s1.trust.meas + 1 } }.measChanged 3

/-- ACTIVATION_DRAIN_DONE (R85, R651): every engine has reached a command boundary. -/
def execActivationDrainDone (s : State) : Result :=
  if s.contract.activation != 1 || s.faults.safe || !(s.contract.ctxs.all fun c => c.finished) then s.idle
  else s.settled (s.takeControl.endActOk 0 0x1005 0)

/-- ACTIVATION_DEFER (R578, R594, R623): no emergency has been active for 100 ms. -/
def execActivationDefer (s : State) : Result :=
  if s.contract.activation != 2 || !s.mayActivate || s.faults.safe || s.now < s.energy.emergencyEndedAt + 100000000 then s.idle
  else s.quiet s.startDraining

/-- ACTIVATION_ABANDONED (R651): the drain has not ended within 5 s. -/
def execActivationAbandoned (s : State) : Result :=
  if s.contract.activation != 1 || s.now < s.contract.activationStart + 5000000000 then s.idle
  else
    let s1 := { s with contract := { s.contract with activation := 0 } }.put 0x2E07 0 2
    s.settled (s1.endAct 0 0x1005 0 8 [])

/-! ### Power states (R581 to R594) -/

/-- POWER_STATE_REQ (R581, R583). -/
def execPowerStateReq (r : ActReq) (s : State) : Result := s.act r 0x2E05 1 actPowerStateReq

/-- ENTRY_COMPLETE (R583, R585, R586). -/
def execEntryComplete (s : State) : Result :=
  if s.e 0x2E05 0 != 1 || s.faults.safe then s.idle
  else s.commit (s.fallAsleep.endActOk 0 0x2E05 1)

/-- WAKE_EVENT (R588, R590, R594, R660): an enabled wake source; others wake nothing. -/
def execWakeEvent (source : Nat) (s : State) : Result := if s.wakes source then s.quiet (s.startWake source) else s.idle

/-- PME_TURN_OFF (R582): acknowledged on HP. -/
def execPmeTurnOff (s : State) : Result :=
  if s.faults.safe || !(s.ports.linkState.any fun l => l.1 == 0) then s.idle
  else s.quiet { s with ports := { s.ports with pmeAcked := true } }

/-- The limit of a ready signal after t0 (R590, R591): 0 RAIL, 1 CLOCK, 2 MEM, 3 LOGIC. -/
def readyLimit (deep : Bool) (signal : Nat) : Nat :=
  if deep then [10000000, 11000000, 20000000, 40000000].getD signal 0 else [1500000, 1500000, 2500000, 3000000].getD signal 0

/-- Whether a ready signal comes in its turn and within its limit. -/
def State.readyNow (s : State) (signal : Nat) : Bool :=
  !s.faults.safe && s.e 0x2E05 0 == 4 && s.energy.wakeStep == signal &&
  decide (s.now ≤ s.energy.wakeAt + readyLimit (s.energy.wakeFrom == 3) signal)

/-- The next step of the wake ladder has been reached. -/
def State.readied (s : State) : State := { s with energy := { s.energy with wakeStep := s.energy.wakeStep + 1 } }

/-- RAIL_READY (R590, R591): the core rail is at its set point. -/
def execRailReady (s : State) : Result :=
  if !s.readyNow 0 then s.idle else s.quiet (s.readied.put 0x2E01 5 s.energy.railBefore)

/-- CLOCK_READY (R590, R591). -/
def execClockReady (s : State) : Result := if !s.readyNow 1 then s.idle else s.quiet s.readied

/-- MEM_READY (R590, R591): GDDR7 is out of self-refresh. -/
def execMemReady (s : State) : Result :=
  if !s.readyNow 2 then s.idle
  else s.quiet { s.readied with tiers := { s.tiers with selfRefresh := false } }

/-- Base of the save area (R279, R583): the 256 MiB above the firmware copy area, the lowest reservation. -/
def State.saveArea (s : State) : Nat := gddrBase + s.gddrBytes - s.e 0x2504 4 + 67108864

/-- Whether the save area reads back as it was written (R592). -/
def State.saveAreaGood (s : State) : Bool :=
  s.energy.saveAreaOk && !(s.tiers.badUnits.any fun u => within u s.saveArea 268435456)

/-- SRAM takes back the contents that the save area kept (R591). -/
def State.restoreSram (s : State) : State :=
  { s with
    mem := s.energy.savedSram.foldl (fun m c => Memory.put m c.1 c.2) s.mem
    energy := { s.energy with savedSram := [], saveAreaOk := false } }

/-- The signal-page writes that arrived asleep apply, in order (R594). -/
def State.applyPending (s : State) : State :=
  s.energy.pendingSignals.foldl (fun (s : State) p => s.applySignal p.1 p.2.2.1 p.2.2.2.1 p.2.2.2.2)
    { s with energy := { s.energy with pendingSignals := [] } }

/-- The function-level resets that waited for LOGIC_READY run (R594). -/
def State.runDueFlrs (s : State) : State :=
  ((s.ports.functions.filter (·.flrDue)).map (·.cabinet)).foldl State.runFlr s

/-- The chip is ACTIVE (R587, R590, R591, R593): queues leave SUSPENDED, leases that fell due move, the commitment window, the
control loops and the budget window restart. -/
def State.goActive (s : State) : State :=
  let deep := s.energy.wakeFrom == 3
  let s1 := (s.put 0x2E05 0 0).put 0x2003 5 (s.now + s.fabric.windowLength)
  let s2 : State := { s1 with
    energy := { s1.energy with
      wakeStep := 0, powerStart := none, powerDone := 0, thermalStart := none, thermalDone := 0, windowStart := s.now
      polledAt := s.now, windowEnergy := 0, debited := 0 }
    ports := { s1.ports with
      pmeAcked := false, pmeSignalled := s1.ports.pmeSignalled || (deep && s1.energy.wakeSource != 0) } }
  ((s2.resumeQueues 2 fun _ => true).deferLeases fun _ => true).applyPending.runDueFlrs

/-- LOGIC_READY (R590 to R593): from DEEP, SRAM is restored from a verified save area, or the chip is reset. -/
def execLogicReady (s : State) : Result :=
  if !s.readyNow 3 then s.idle
  else if s.energy.wakeFrom = 3 then
    (if s.saveAreaGood then s.settled s.restoreSram.goActive
     else s.settled (s.raiseError (fatalChip 20 0x18 0 masterNone) none))
  else s.settled s.goActive

/-- WAKE_READY (R590, R591): a ready signal has missed its limit. -/
def execWakeReady (signal : Nat) (s : State) : Result :=
  if s.faults.safe || s.e 0x2E05 0 != 4 || 4 ≤ signal || s.energy.wakeStep != signal ||
      s.now ≤ s.energy.wakeAt + readyLimit (s.energy.wakeFrom == 3) signal then s.idle
  else s.settled (s.raiseError (fatalChip 21 0x19 0 masterNone) none)

end Sys2Proof.Machine
end

