-- ==== Sys2Proof/Machine/Faults.lean ====
section
/-! DEFINITION. Fault collection and recovery, the rows (R595 to R623): error pins, hang detection, the firmware components, and
the rungs of the reset ladder with their deadlines. -/

namespace Sys2Proof.Machine

/-! ### Error pins (R595, R596) -/

/-- An error report has a severity of its cause code, and cause codes run from 0x01 to 0x1C (R596). -/
def errorProper (e : ErrorIn) : Bool :=
  sourceDefined e.source && 1 ≤ e.causeCode && e.causeCode ≤ 0x1C && e.severity == causeSeverity e.causeCode

/-- A tile whose self-check failed is offline (R596, cause SELFCHECK). -/
def State.selfcheckTile (s : State) (e : ErrorIn) : State :=
  if e.causeCode = 0x07 && e.master / 4096 = 1 then s.put 0x2300 1 (clearBit (s.e 0x2300 1) (e.master % 4096)) else s

/-- ERROR_PIN (R595, R596): reserved sources have no pins. -/
def execErrorPin (e : ErrorIn) (s : State) : Result :=
  if !errorProper e then s.idle else s.settled ((s.raiseError e none).selfcheckTile e)

/-! ### Hang detection (R604) -/

/-- The source that reports for the unit that runs a command (R595). -/
def State.ctxSource (s : State) (c : Ctx) : Nat :=
  let e := s.ctxEngine c
  if e < 5 then c.instNo else if e = 6 then 10 else if e = 7 || e = 8 then 11 else 16

/-- Whether the time of a command is not counted: its queue SUSPENDED or HALTED, a peer or responder waited for, a link's
completions outstanding, a write-tracking stall (R604). -/
def State.hangExempt (s : State) (c : Ctx) : Bool :=
  (match s.queue? c.queue with
   | some q => q.state != 1
   | none => true) ||
  s.ctxEngine c == 2 || (s.ctxEngine c == 6 && c.issued) ||
  (s.ports.requests.any fun r => r.ctx == some c.id) ||
  s.snap.sets.any fun x => (x.stalls.any fun y => y.ctx == some c.id) || x.cutCtx == some c.id

/-- Whether a rung has a command in hand, or an incident that waits names it. -/
def State.inLadder (s : State) (id : Nat) : Bool :=
  s.caught id || (s.faults.openInc.toList ++ s.faults.queuedInc).any fun i => i.ctx == some id

/-- Whether a command is a Control command (R604, R570). -/
def State.isControl (s : State) (c : Ctx) : Bool := s.ctxEngine c != 6 && bits (recOpcode c.record) 15 12 == 0xF

/-! ### Firmware components (R606 to R609) -/

/-- The started commands that a component handles: Control commands (the scheduler), connection and region requests (transport
control), joins and leaves (the group steward). -/
def State.handledBy (s : State) (core : Nat) (c : Ctx) : Bool :=
  !c.finished &&
  (if core = 1 then s.isControl c
   else if core = 2 then s.ctxEngine c == 6 && classOf 6 c.record == 0
   else if core = 4 then s.ctxEngine c == 2 && (recOpcode c.record == 0x2001 || recOpcode c.record == 0x2002)
   else false)

/-- The pending Steral requests of the dictionary server are refused (R607, R629). -/
def State.refusePending (s : State) : State :=
  let outs := s.steral.outstanding
  let held := s.steral.heldReqs
  let s1 := { s with steral := { s.steral with outstanding := [], heldReqs := [] } }
  let s2 := outs.foldl (fun (s : State) o =>
    s.respond { transport := o.transport, source := o.source, version := o.version, tag := o.tag, cabinet := o.cabinet
                sub := o.sub, value := [] } 2 o.index o.sub 4 [4, 0]) s1
  held.foldl (fun (s : State) h => s.respond h.2.2.2 h.1 h.2.1 h.2.2.1 4 [4, 0]) s2

/-- The component of a control core. -/
def State.component? (s : State) (core : Nat) : Option Component := s.faults.components.find? fun c => c.core == core

/-- The component of a control core is replaced. -/
def State.updComponent (s : State) (core : Nat) (f : Component → Component) : State :=
  { s with faults := { s.faults with components := updWhere (fun c => c.core == core) f s.faults.components } }

/-- A component has trapped or missed its check-in (R607, R608): dump, report, its work failed, its reload begun; the third time
within 10 s is CONTROL_FAILURE. -/
def State.failComponent (s : State) (core : Nat) : State :=
  let times := match s.component? core with
    | some c => c.trapTimes
    | none => []
  let recent := (s.now :: times).filter fun t => s.now < t + 10000000000
  let s1 := (s.writeDump 1 core).note 16 0x0C 0 (0x2000 + core) 4
  let ids := (s1.contract.ctxs.filter fun c => s1.handledBy core c).map (·.id)
  let s2 := s1.stopEach ids stFirmwareFault 0 false
  let s3 := if core = 7 then s2.refusePending else s2
  let s4 := s3.updComponent core fun c => { c with restarting := true, restartAt := s.now, trapTimes := recent }
  let s5 := if core = 0 then s4.refreshSnowline else s4
  if 3 ≤ recent.length then s5.raiseError (fatalChip 16 0x13 0 (0x2000 + core)) none else s5

/-- Whether the components run: from stage B1, outside the hardware safe state. -/
def State.componentsRun (s : State) : Bool := !s.faults.safe && 1 ≤ s.e 0x1003 0

/-- COMPONENT_CHECKIN (R607, R608): a component's check-in has not come in time. -/
def execComponentCheckin (core : Nat) (s : State) : Result :=
  match s.component? core with
  | none => .fault .noSuchUnit
  | some c =>
    if !s.componentsRun || c.restarting || s.now < c.lastCheckin + s.e 0x2F04 1 then s.idle
    else s.settled (s.failComponent core)

/-- COMPONENT_RESTART (R607): the component runs again. -/
def execComponentRestart (core : Nat) (s : State) : Result :=
  match s.component? core with
  | none => .fault .noSuchUnit
  | some c =>
    if !s.componentsRun || !c.restarting then s.idle
    else
      let s1 := (s.updComponent core fun c => { c with restarting := false, lastCheckin := s.now }).bump 0x2F04 (4 + core) 1
      s.settled (if core = 0 then s1.refreshSnowline else s1)

/-- MONITOR_WATCHDOG (R605). -/
def execMonitorWatchdog (core : Nat) (s : State) : Result :=
  match s.faults.watchdogs[core]? with
  | none => .fault .noSuchUnit
  | some t =>
    if !s.componentsRun || s.now < t + s.e 0x2F04 2 then s.idle
    else s.settled (s.raiseError (fatalChip 16 0x13 0 (0x2000 + core)) none)

/-- ENGINE_HANG_LIMIT (R604): a command has made no progress; of a Control command its component answers (R607). -/
def execEngineHangLimit (id : Nat) (s : State) : Result :=
  match s.ctx? id with
  | none => s.idle
  | some c =>
    if s.faults.safe || c.finished || c.waiting || s.now < c.lastProgress + s.e 0x2F04 0 || s.hangExempt c || s.inLadder id then
      s.idle
    else if s.isControl c then
      (if s.restarting 1 then s.idle else s.settled (s.failComponent 1))
    else
      s.settled ((s.bump 0x2F04 3 1).raiseError (nonFatal (s.ctxSource c) 0x04 0 (s.ctxMaster c) 4) (some id))

/-! ### Rungs (R610 to R616) -/

/-- The code of the running rung. -/
def State.rung (s : State) : Nat := s.e 0x2F03 0

/-- RUNG_COMPLETE (R610, R613, R614, R616, R621): the domain has been reset and is released; the chip rung's end is stage B1. -/
def execRungComplete (s : State) : Result :=
  match s.faults.openInc with
  | none => s.idle
  | some inc =>
    if s.rung = 4 then s.commit s.chipRung
    else if s.rung = 0 || 4 < s.rung || s.faults.safe then s.idle
    else s.settled ((s.stopCaught.releaseDomain s.rung inc.target).closeIncident inc s.rung)

/-- The rung after one that has missed its deadline, and its target (R610). -/
def State.escalation (s : State) (inc : Incident) : Nat × Nat :=
  if s.rung = 1 then
    (2, match inc.ctx.bind s.ctx? with
      | some c => s.ctxMaster c
      | none => (match masterQuadrant inc.target with
        | some q => 5 * q + 1
        | none => inc.target))
  else if s.rung = 2 && inc.target / 4096 = 0 then (3, inc.target)
  else (4, 0xF000)

/-- RUNG_DEADLINE (R610, R615): the next rung starts; after the chip rung the tray controller must power-cycle. -/
def execRungDeadline (s : State) : Result :=
  let r := s.rung
  if r = 0 || 4 < r || s.now < s.faults.rungStartedAt + s.e 0x2F03 r then s.idle
  else if r = 4 then s.settled ((s.trayNotice 2 0xFF 0).put 0x2F03 0 5)
  else if s.faults.safe then s.idle
  else match s.faults.openInc with
    | none => s.idle
    | some inc =>
      let next := s.escalation inc
      let s1 := { s with faults := { s.faults with openInc := some { inc with target := next.2 } } }
      s.settled (s1.startRung next.1)

/-- QUADRANT_RETEST (R614): a quadrant's tiles have run the reference set. -/
def execQuadrantRetest (q : Nat) (pass : BitVec 16) (s : State) : Result :=
  if 4 ≤ q then .fault .noSuchUnit
  else if s.faults.safe || !s.transform.quadrantRetest.contains q then s.idle
  else
    let m := BitVec.ofNat 64 (pass.toNat * 2 ^ (16 * q))
    let s1 := (s.judgeTiles ((List.range 16).map (16 * q + ·)) m).put 0x2300 4 s.now
    let s2 := if s1.e 0x2300 1 = 0 then s1.put 0x2300 2 3 else s1
    s.commit { s2 with transform := { s2.transform with quadrantRetest := s2.transform.quadrantRetest.filter (· != q) } }

/-! ### The end of the hardware safe state (R603) -/

/-- Whether every sensor reads below THRESH_WARM. -/
def State.cooled (s : State) : Bool := s.energy.temps.all fun t => t < (s.e 0x2E00 4 : Int)

/-- SAFE_STATE_EXIT (R603, R619): the always-on island writes its dump and starts the chip rung. -/
def execSafeStateExit (s : State) : Result :=
  let hot := (s.faults.safeCause == 0x14 || !s.energy.latchedComp.isEmpty) && !s.cooled
  if !s.faults.safe || s.e 0x2F05 1 != 1 || s.faults.safeCause = 0x17 || hot || 4 ≤ s.rung then s.idle
  else
    let s1 := if s.faults.safeDumped then s else s.writeDump 3 0xFF
    let s2 : State := { s1 with faults := { s1.faults with safeDumped := true } }
    s.settled (if s2.faults.openInc.isSome then s2.startRung 4
      else s2.openIncident (newIncident 19 2 3 0xF000 4 none))

/-! ### Writes of the fault entries -/

/-- FAULT_CLEAR (R595, R623). -/
def execFaultClear (r : ActReq) (s : State) : Result := s.act r 0x2F00 1 actFaultClear

/-- RESET_REQUEST (R603, R610, R618). -/
def execResetRequest (r : ActReq) (s : State) : Result := s.actSettled r 0x2F03 0x0B actResetRequest

/-- TRAY_NOTICE_ACK (R597, R622). -/
def execTrayNoticeAck (r : ActReq) (s : State) : Result := s.act r 0x2F06 1 actNoticeAck

/-- DUMP_DISCARD (R619). -/
def execDumpDiscard (r : ActReq) (s : State) : Result := s.act r 0x2F07 5 actDumpDiscard

end Sys2Proof.Machine
end

