-- ==== Sys2Proof/Machine/Bringup.lean ====
section
/-! DEFINITION. Bring-up and pins (R636 to R644, R655 to R670): the stored profile, the GDDR7 reservations (R279), stages B1 to
B3 with their limits, power goods and rails, RESET_N and PERST_N. -/

namespace Sys2Proof.Machine

/-! ### The stored profile (R636 to R639) -/

/-- One record of a profile. -/
structure ProfileRec where
  index : Nat
  sub : Nat
  stageB2 : Bool
  cabinet : Nat
  value : Bytes
  deriving DecidableEq, Repr

/-- The records of a payload past its header. -/
def profileRecs : Nat → Bytes → List ProfileRec
  | 0, _ => []
  | n + 1, bs =>
    if bs.length < 8 then [] else
    let len := field bs 6 2
    { index := field bs 0 2, sub := field bs 2 1, stageB2 := bit (field bs 3 1) 0, cabinet := field bs 4 2
      value := slice bs 8 len } :: profileRecs n (bs.drop (8 + alignUp len 8))

/-- A record is applied as a write that holds every class, and counted; the first that is refused is kept (R638, R639). -/
def State.applyRecord (s : State) (number : Nat) (x : ProfileRec) : State :=
  let r : ActReq :=
    { transport := 5, source := 0, version := 0x14, tag := 0, cabinet := x.cabinet, sub := x.sub, value := x.value }
  match s.tryWrite r x.index x.sub (writeEffect x.index x.sub) with
  | (t, 0, _, _) => t.bump 0x1004 3 1
  | (t, code, _, _) =>
    let t1 := if t.e 0x1004 4 = 0 then t.put 0x1004 5 (leNat (toLe 4 number ++ toLe 1 code)) else t
    t1.bump 0x1004 4 1

/-- The records of a stage are applied in payload order, those of the other stage passed over. -/
def State.applyRecords (s : State) (b2 : Bool) (n : Nat) : List ProfileRec → State
  | [] => s
  | x :: rest => (if x.stageB2 == b2 then s.applyRecord n x else s).applyRecords b2 (n + 1) rest

/-- The profile's records of a stage are applied; none without a verified profile (R554). -/
def State.applyProfile (s : State) (b2 : Bool) : State :=
  let p := s.trust.appliedProfile
  s.applyRecords b2 0 (profileRecs (field p 4 4) (p.drop 16))

/-! ### GDDR7 reservations (R279) -/

/-- The reservations' granularity, 2 MiB. -/
def resAlign : Nat := 2097152

/-- The largest multiple of 2 MiB that is not above a value. -/
def down2M (v : Nat) : Nat := v / resAlign * resAlign

/-- Offset at which the reservations above the tier cache end: run-ahead staging, ZT backing store, packet buffer. -/
def upperEnd (top runAhead ztStore packets : Nat) : Nat := down2M (down2M (top - runAhead) - ztStore - packets)

/-- The sizes granted to tier cache and run-ahead staging, so that 8 GiB stay free below the save area and the firmware copy
area (R279). -/
def grantedSizes (top runAhead ztStore packets cache : Nat) : Nat × Nat :=
  let low := 8589934592 + 335544320
  let room := upperEnd top runAhead ztStore packets
  (min cache (room - low),
   if low ≤ room then runAhead else min runAhead (top - (alignUp (low + packets) resAlign + ztStore)))

/-- The reservations are laid out from the top of GDDR7 (R279, R501); a reduction is reported. -/
def State.layoutGddr (s : State) : State :=
  let top := s.gddrBytes
  let runAhead := s.e 0x2504 1
  let ztStore := if s.e 0x2601 3 = 0 then 1073741824 else 0
  let packets := s.e 0x2908 0 + 268435456
  let cache := if s.e 0x2B02 1 = 0 then s.e 0x2B02 0 else 0
  let g := grantedSizes top runAhead ztStore packets cache
  let cacheAt := down2M (upperEnd top g.2 ztStore packets - g.1)
  let s1 := (((s.put 0x2504 4 (top - (cacheAt - 335544320))).put 0x2504 5 g.2).put 0x2B02 4 g.1)
  let s2 := { s1 with tiers := { s1.tiers with
    runaheadGranted := g.2, tierCacheGranted := g.1, tierCacheBase := gddrBase + cacheAt } }
  if g.1 < cache || g.2 < runAhead then s2.note 5 0x1A 0 masterNone 4 else s2

/-- The settings that hold from a chip reset on (R152, R246, R283, R299, R449, R500, R627). -/
def State.takeSettings (s : State) : State :=
  { s with
    transform := { s.transform with benchOrder := s.e 0x2301 0, benchTransport := s.e 0x2301 1, benchStaging := s.e 0x2301 2 }
    tiers := { s.tiers with
      interleave := s.e 0x2501 5, backingInGddr := s.e 0x2601 3 == 0, pktBuffer := s.e 0x2908 0
      cacheInGddr := s.e 0x2B02 1 == 0 }
    zt := { s.zt with udpPort := s.e 0x2600 2 }
    steral := { s.steral with mgmtUdpPort := s.e 0x1006 1, mgmtEid := s.e 0x1006 5 } }

/-! ### Stages (R641 to R644) -/

/-- A stage is entered now; STAGE_TIMES keeps the time of each. -/
def State.enterStage (s : State) (n : Nat) : State :=
  let times := toLe 32 (s.e 0x1003 1)
  (s.put 0x1003 0 n).put 0x1003 1 (leNat (putBytes times (8 * n) (toLe 8 s.now)))

/-- When a stage was entered. -/
def State.stageTime (s : State) (n : Nat) : Nat := field (toLe 32 (s.e 0x1003 1)) (8 * n) 8

/-- Whether the chip is held in reset: RESET_N low, a rail out of its window, or no power. -/
def State.heldInReset (s : State) : Bool := !s.pins.resetN || s.pins.selfReset || !s.pins.powered

/-- What the monitors program at start-up (R606): a region for code with X and R, one for private data with R and W, and rings and
device windows without X, all locked; their pages, and the division of the others, are the firmware's. -/
def bootRegion (draw core i : Nat) : Region :=
  let v := Config.freeNat (draw + 16 * core + i)
  { base := BitVec.ofNat 20 v, limit := BitVec.ofNat 20 (v / 2 ^ 20), lock := true
    x := i == 0, w := i == 1 || (1 < i && bit v 40), r := i ≤ 1 || bit v 41 }

/-- The monitors have started: regions are programmed and locked, watchdogs and check-ins run (R605 to R607). -/
def State.startMonitors (s : State) : State :=
  let setup := fun (c : Core) =>
    if c.id < 64 then c else { c with regions := (List.range 16).map (bootRegion s.fresh (c.id - 64)) }
  { s with
    fresh := s.fresh + 128
    cores := { s.cores with cores := s.cores.cores.map setup }
    faults := { s.faults with
      components := s.faults.components.map fun (c : Component) => { c with lastCheckin := s.now, restarting := false }
      watchdogs := s.faults.watchdogs.map fun _ => s.now } }

/-- The image that was booted runs (R553, R635). -/
def State.runImage (s : State) : State :=
  let slot := s.e 0x2D01 0
  let img := s.trust.flash.getD slot default
  ({ s with trust := { s.trust with runningSlot := slot, runningDigest := img.digest } }.put 0x1001 0 img.release).put 0x2D01 6 img.svn

/-- STAGE_B1 (R545, R547, R553, R638, R641): the image that the boot ROM has verified runs; the root of trust takes the lock and tests
the pipes; the profile is applied and the settings of the chip reset taken; the chip rung ends here (R610). -/
def execStageB1 (passing : BitVec 16) (s : State) : Result :=
  if s.heldInReset || s.faults.safe || s.e 0x1003 0 != 0 || s.e 0x2D00 0 != 1 || s.e 0x2D01 (2 + s.e 0x2D01 0) != 1 then s.idle
  else
    let s1 := (s.enterStage 1).runImage.startMonitors
    let s2 := if s1.e 0x2F03 0 = 4 then s1.put 0x2F03 0 0 else s1
    let s3 := ({ s2 with trust := { s2.trust with lockedSince := s2.now } }.setLock 2 1 0).testPipes passing.toNat
    s.settled (if s3.faults.safe then s3 else (s3.applyProfile false).takeSettings.layoutGddr)

/-- Populated bytes of the CXL tier's ranges, as (base, size), under the mapping in force (R246). -/
def State.cxlRanges (s : State) : List (Nat × Nat) :=
  let c := s.cxlCap
  if s.tiers.interleave = 0 then (List.range 4).map fun p => (cxlBase + p * 0x80000000000, c p)
  else if s.tiers.interleave = 1 then
    [(cxlBase, 2 * min (c 0) (c 1)), (cxlBase + 0x100000000000, 2 * min (c 2) (c 3))]
  else [(cxlBase, 4 * min (min (c 0) (c 1)) (min (c 2) (c 3)))]

/-- The highest-addressed populated range of the CXL tier. -/
def State.topCxlRange (s : State) : Nat × Nat := ((s.cxlRanges.filter fun r => r.2 != 0).getLast?).getD (cxlBase, 0)

/-- The CXL ports have enumerated: capacities are reported, and with TIER_CACHE_LOCATION 1 the tier cache is placed (R246, R500,
R501). -/
def State.enumerateCxl (s : State) : State :=
  let caps := (List.range 4).map s.cxlCap
  let tier := sumNat (s.cxlRanges.map (·.2))
  let s1 := (List.range 4).foldl (fun (s : State) p => s.put 0x2501 (p + 1) (s.cxlCap p)) s
  let s2 := (s1.put 0x2501 9 (sumNat caps - tier))
  let s3 := { s2 with tiers := { s2.tiers with cxlEnumerated := true } }
  if s.tiers.cacheInGddr then s3
  else
    let (base, size) := s.topCxlRange
    let n := min (min (s.e 0x2B02 0) (tier / 2)) size / 65536 * 65536
    { s3 with tiers := { s3.tiers with tierCacheGranted := n, tierCacheBase := base + size - n } }.put 0x2B02 4 n

/-- STAGE_B2 (R16, R190, R449, R545, R638, R641, R662): the lock is released, the accelerators' resets too; the core rail is held at
0.68 V; the profile's B2 records apply, and the rules they load are version 0; the self-check starts. -/
def execStageB2 (s : State) : Result :=
  if s.heldInReset || s.faults.safe || s.e 0x1003 0 != 1 || s.e 0x1003 2 = 1 then s.idle
  else
    let s1 := s.enterStage 2
    let s2 := if s1.lockState = 1 && s1.lockHolder = 2 then s1.freeLock else s1
    let s3 := { s2 with pins := { s2.pins with apPerstN := List.replicate 8 true } }.enumerateCxl.put 0x2E01 5 680
    let s4 := (s3.applyProfile true).put 0x2901 0 0
    let s5 := { s4 with packet := { s4.packet with previous := none } }
    s.settled ({ s5 with transform := { s5.transform with selfcheckBy := 1, selfcheckStart := s5.now } }.put 0x2300 2 1)

/-- A record of the namespace table attaches (R491, R492). -/
def State.attachRecord (s : State) (r : Bytes) : State :=
  match pickFree s.freeValue (s.trust.slots.map (·.slot)) 4160 65536 with
  | none => s
  | some slot =>
    let n : Namespace :=
      { (default : Namespace) with cabinet := field r 4 2, nsid := field r 8 4, record := r, state := 1, keySlot := slot }
    let key : KeySlot := { slot := slot, cabinet := field r 4 2, label := labelXts, secret := [] }
    { s.drawn with
      storage := { s.storage with namespaces := s.storage.namespaces ++ [n] }
      trust := { s.trust with slots := s.trust.slots ++ [key] } }

/-- Stage B3 is entered: every namespace of the table attaches (R492). -/
def State.enterB3 (s : State) : State := s.storage.flashTable.foldl State.attachRecord (s.enterStage 3)

/-- STAGE_B3 (R643): the self-check has passed, the CXL ports have enumerated and the links have trained or given up. -/
def execStageB3 (s : State) : Result :=
  if s.heldInReset || s.faults.safe || s.e 0x1003 0 != 2 || s.e 0x2300 2 != 2 || !s.tiers.cxlEnumerated then s.idle
  else s.settled s.enterB3

/-- B2_LIMIT (R644): 1 s after entry to B1 the ZX9 stays there, with STAGE_FAULT 1. -/
def execB2Limit (s : State) : Result :=
  if s.heldInReset || s.faults.safe || s.e 0x1003 0 != 1 || s.e 0x1003 2 != 0 || s.now < s.stageTime 1 + 1000000000 then s.idle
  else s.settled ((s.put 0x1003 2 1).note 5 0x1B 0 masterNone 4)

/-- B3_LIMIT (R643): 10 s after entry to B2 the ZX9 enters B3 with the links that have trained, with STAGE_FAULT 3; not after a
self-check that no tile passed (R644). -/
def execB3Limit (s : State) : Result :=
  if s.heldInReset || s.faults.safe || s.e 0x1003 0 != 2 || s.e 0x1003 2 != 0 || s.now < s.stageTime 2 + 10000000000 then s.idle
  else s.settled (((s.enterB3.put 0x1003 2 3).raiseEvent 0 3).note 24 0x1B 0 masterNone 4)

/-! ### Power goods and rails (R655, R658, R662, R665, R669) -/

/-- The AP_REFCLK outputs run while both power goods are high (R662). -/
def State.refreshRefclk (s : State) : State :=
  { s with pins := { s.pins with apRefclk := s.pins.aonPwrgood && s.pins.pwrgood } }

/-- AON_PWRGOOD_RISE (R669): the always-on island starts, and device time with it. -/
def execAonPwrgoodRise (s : State) : Result :=
  if s.pins.aonPwrgood then s.idle
  else
    s.quiet { s with
      now := 0
      pins := { s.pins with aonPwrgood := true, powered := true, faultN := true, thermtripN := true } }.refreshRefclk

/-- AON_PWRGOOD_FALL (R658, R670): a power-on reset of the whole package; always-on SRAM is lost with it. -/
def execAonPwrgoodFall (s : State) : Result :=
  if !s.pins.aonPwrgood then s.idle
  else
    let r := s.chipReset
    s.commit { r with
      now := 0
      dict := r.dict.filter fun p => p.1 == entryKey 0 0x2D01 1
      mem := r.mem.filter fun c => decide (cxlBase ≤ c.1)
      energy := { r.energy with emergencyEndedAt := 0, windowStart := 0 }
      faults := State.reset.faults
      pins := { r.pins with aonPwrgood := false, powered := false, faultN := true, thermtripN := true, i3cIbi := [] } }.refreshRefclk

/-- PWRGOOD_RISE (R662, R669). -/
def execPwrgoodRise (s : State) : Result :=
  if s.pins.pwrgood then s.idle else s.quiet { s with pins := { s.pins with pwrgood := true } }.refreshRefclk

/-- POWER_LOSS: a fatal error of chip scope (R602, R665), of a chip that is not held in reset. -/
def State.powerLoss (s : State) : State :=
  if s.pins.resetN && s.pins.powered then s.raiseError (fatalChip 21 0x15 0 masterNone) none else s

/-- PWRGOOD_FALL (R602, R665, R669): PWRGOOD falls, or the monitor of a rail finds it outside its window and holds the ZX9 in reset. -/
def execPwrgoodFall (rail : Option Nat) (s : State) : Result :=
  match rail with
  | none =>
    if !s.pins.pwrgood then s.idle
    else s.settled { s.powerLoss with pins := { s.powerLoss.pins with pwrgood := false } }.refreshRefclk
  | some r =>
    if 7 ≤ r then .fault .noSuchUnit
    else if s.pins.railsOut.contains r then s.idle
    else s.settled { s.powerLoss with pins := { s.powerLoss.pins with railsOut := s.pins.railsOut ++ [r], selfReset := true } }

/-- RAIL_BACK_IN_WINDOW (R665): with the last rail back, the ZX9 leaves the reset it held itself in; it boots when RESET_N is
high. -/
def execRailBackInWindow (rail : Nat) (s : State) : Result :=
  if 7 ≤ rail then .fault .noSuchUnit
  else if !s.pins.railsOut.contains rail then s.idle
  else
    let out := s.pins.railsOut.filter (· != rail)
    let s1 := { s with pins := { s.pins with railsOut := out, selfReset := !out.isEmpty } }
    if !out.isEmpty then s.quiet s1
    else s.commit (if s1.pins.resetN && s1.pins.powered then s1.chipReset.bootRom else s1.chipReset)

/-! ### RESET_N and PERST_N (R657 to R659, R670) -/

/-- RESET_N_ASSERT (R658): everything but the always-on island is reset; a chip rung that runs restarts at the rise (R670). -/
def execResetNAssert (s : State) : Result :=
  if !s.pins.resetN then s.idle
  else
    let s1 := { s with pins := { s.pins with resetN := false } }.chipReset
    s.commit (if s.e 0x2F03 0 = 4 then s1.put 0x2F03 0 4 else s1)

/-- RESET_N_RELEASE (R533, R641, R657, R669): the boot ROM starts stage B0, unless a rail holds the ZX9 in reset (R665). -/
def execResetNRelease (s : State) : Result :=
  if s.pins.resetN || !s.pins.powered then s.idle
  else
    let s1 := { s with
      pins := { s.pins with resetN := true }
      faults := { s.faults with rungStartedAt := if s.e 0x2F03 0 = 4 then s.now else s.faults.rungStartedAt } }
    if s1.pins.selfReset then s.quiet s1 else s.commit s1.bootRom

/-- The functions of a host port: the PF and every VF, or the second-host function (R451, R659). -/
def State.perstFunctions (s : State) (which : Nat) : List Nat :=
  if which = 1 then [4095]
  else 0 :: (((s.cabs.cabs.map (·.id) ++ s.ports.functions.map (·.cabinet)).eraseDups).filter fun c =>
    c != 0 && !(s.ports.hostSplit && c == 4095))

/-- PERST_N_ASSERT (R659, R670): the link goes down, and its functions are reset as by a function-level reset; in the hardware safe
state the link alone goes down; asleep, the ladder waits for LOGIC_READY (R594). -/
def execPerstNAssert (which : Nat) (s : State) : Result :=
  if 2 ≤ which then .fault .noSuchUnit
  else if !s.pins.perstN.getD which true then s.idle
  else
    let s1 := { s with pins := { s.pins with perstN := s.pins.perstN.set which false } }
    if !s.linkExists which then s.quiet s1
    else
      let s2 := s1.linkLost which
      let cabs := s.perstFunctions which
      if s.faults.safe then s.quiet s2
      else if s.e 0x2E05 0 != 0 then
        s.quiet (cabs.foldl (fun (s : State) c => s.setFn c fun f => { f with flr := some s.now, flrDue := true }) s2)
      else
        s.commit (cabs.foldl State.resetFunction (s2.runFlr (if which = 0 then 0 else 4095)))

/-- PERST_N_RELEASE (R659): the link may train. -/
def execPerstNRelease (which : Nat) (s : State) : Result :=
  if 2 ≤ which then .fault .noSuchUnit
  else s.quiet { s with pins := { s.pins with perstN := s.pins.perstN.set which true } }

end Sys2Proof.Machine
end

