-- ==== Sys2Proof/Machine/Dispatch.lean ====
section
/-! DEFINITION. What each command does: one arm per command, in the order of the table, each one direct call of the
command's meaning. -/

namespace Sys2Proof.Machine

/-- The effect of a command on everything but the queue of waiting commands. -/
def exec (i : Instr) (s : State) : Host.Outcome State Fault Refusal :=
  match i with
  | .measuredRateUpdate steps => Sys2Proof.Machine.execMeasuredRateUpdate steps s
  | .minRateUpdate => Sys2Proof.Machine.execMinRateUpdate s
  | .rateFloor quadrant => Sys2Proof.Machine.execRateFloor quadrant s
  | .commitWindowBoundary => Sys2Proof.Machine.execCommitWindowBoundary s
  | .crossingTransfer crossing next => Sys2Proof.Machine.execCrossingTransfer crossing next s
  | .crossingHang crossing => Sys2Proof.Machine.execCrossingHang crossing s
  | .arbiterGrant arbiter raised => Sys2Proof.Machine.execArbiterGrant arbiter raised s
  | .sqTail cabinet queue tail => Sys2Proof.Machine.execSqTail cabinet queue tail s
  | .cqHead cabinet queue head => Sys2Proof.Machine.execCqHead cabinet queue head s
  | .reset cabinet queue => Sys2Proof.Machine.execReset cabinet queue s
  | .resume cabinet queue => Sys2Proof.Machine.execResume cabinet queue s
  | .set cabinet requester => Sys2Proof.Machine.execSet cabinet requester s
  | .add cabinet requester => Sys2Proof.Machine.execAdd cabinet requester s
  | .max cabinet requester => Sys2Proof.Machine.execMax cabinet requester s
  | .or cabinet requester => Sys2Proof.Machine.execOr cabinet requester s
  | .setError cabinet requester => Sys2Proof.Machine.execSetError cabinet requester s
  | .clearError cabinet requester => Sys2Proof.Machine.execClearError cabinet requester s
  | .headRecordReadFailure queue => Sys2Proof.Machine.execHeadRecordReadFailure queue s
  | .commandAdmission queue => Sys2Proof.Machine.execCommandAdmission queue s
  | .commandCompletion ctx => Sys2Proof.Machine.execCommandCompletion ctx s
  | .waitDeadline queue => Sys2Proof.Machine.execWaitDeadline queue s
  | .nop ctx => Sys2Proof.Machine.execNop ctx s
  | .syncOnly ctx => Sys2Proof.Machine.execSyncOnly ctx s
  | .flush ctx => Sys2Proof.Machine.execFlush ctx s
  | .negotiate ctx => Sys2Proof.Machine.execNegotiate ctx s
  | .queueCreate ctx => Sys2Proof.Machine.execQueueCreate ctx s
  | .queueDelete ctx => Sys2Proof.Machine.execQueueDelete ctx s
  | .queueReset ctx => Sys2Proof.Machine.execQueueReset ctx s
  | .queueResume ctx => Sys2Proof.Machine.execQueueResume ctx s
  | .queueQuery ctx => Sys2Proof.Machine.execQueueQuery ctx s
  | .syncAlloc ctx => Sys2Proof.Machine.execSyncAlloc ctx s
  | .syncFree ctx => Sys2Proof.Machine.execSyncFree ctx s
  | .syncSet ctx => Sys2Proof.Machine.execSyncSet ctx s
  | .queueResetComplete queue => Sys2Proof.Machine.execQueueResetComplete queue s
  | .queueResetTimeout queue => Sys2Proof.Machine.execQueueResetTimeout queue s
  | .circleScan => Sys2Proof.Machine.execCircleScan s
  | .hostLeaseRenew req => Sys2Proof.Machine.execHostLeaseRenew req s
  | .hostLeaseRelease req => Sys2Proof.Machine.execHostLeaseRelease req s
  | .adopt req => Sys2Proof.Machine.execAdopt req s
  | .hostLeaseExpiry cabinet => Sys2Proof.Machine.execHostLeaseExpiry cabinet s
  | .quantize ctx => Sys2Proof.Machine.execQuantize ctx s
  | .dequantize ctx => Sys2Proof.Machine.execDequantize ctx s
  | .escalate ctx => Sys2Proof.Machine.execEscalate ctx s
  | .reduce ctx => Sys2Proof.Machine.execReduce ctx s
  | .sumSquares ctx => Sys2Proof.Machine.execSumSquares ctx s
  | .adamw ctx => Sys2Proof.Machine.execAdamw ctx s
  | .lion ctx => Sys2Proof.Machine.execLion ctx s
  | .sgdMomentum ctx => Sys2Proof.Machine.execSgdMomentum ctx s
  | .factored ctx => Sys2Proof.Machine.execFactored ctx s
  | .blockScore ctx => Sys2Proof.Machine.execBlockScore ctx s
  | .adapterApply ctx => Sys2Proof.Machine.execAdapterApply ctx s
  | .kernelLaunch ctx => Sys2Proof.Machine.execKernelLaunch ctx s
  | .selfcheckRun req => Sys2Proof.Machine.execSelfcheckRun req s
  | .selfcheckComplete matching => Sys2Proof.Machine.execSelfcheckComplete matching s
  | .accumulationOpen group opSeq shard chunk level => Sys2Proof.Machine.execAccumulationOpen group opSeq shard chunk level s
  | .wordIssue core => Sys2Proof.Machine.execWordIssue core s
  | .addTrigger core alu t => Sys2Proof.Machine.execAddTrigger core alu t s
  | .sub core alu t => Sys2Proof.Machine.execSub core alu t s
  | .and core alu t => Sys2Proof.Machine.execAnd core alu t s
  | .orTrigger core alu t => Sys2Proof.Machine.execOrTrigger core alu t s
  | .xor core alu t => Sys2Proof.Machine.execXor core alu t s
  | .shl core alu t => Sys2Proof.Machine.execShl core alu t s
  | .shr core alu t => Sys2Proof.Machine.execShr core alu t s
  | .sar core alu t => Sys2Proof.Machine.execSar core alu t s
  | .eq core alu t => Sys2Proof.Machine.execEq core alu t s
  | .ne core alu t => Sys2Proof.Machine.execNe core alu t s
  | .lts core alu t => Sys2Proof.Machine.execLts core alu t s
  | .ltu core alu t => Sys2Proof.Machine.execLtu core alu t s
  | .mins core alu t => Sys2Proof.Machine.execMins core alu t s
  | .maxs core alu t => Sys2Proof.Machine.execMaxs core alu t s
  | .carry core alu t => Sys2Proof.Machine.execCarry core alu t s
  | .pass core alu t => Sys2Proof.Machine.execPass core alu t s
  | .mullo core t => Sys2Proof.Machine.execMullo core t s
  | .mulhs core t => Sys2Proof.Machine.execMulhs core t s
  | .mulhu core t => Sys2Proof.Machine.execMulhu core t s
  | .fadd core t => Sys2Proof.Machine.execFadd core t s
  | .fsub core t => Sys2Proof.Machine.execFsub core t s
  | .fmul core t => Sys2Proof.Machine.execFmul core t s
  | .ffma core t => Sys2Proof.Machine.execFfma core t s
  | .fmin core t => Sys2Proof.Machine.execFmin core t s
  | .fmax core t => Sys2Proof.Machine.execFmax core t s
  | .flt core t => Sys2Proof.Machine.execFlt core t s
  | .feq core t => Sys2Proof.Machine.execFeq core t s
  | .i2f core t => Sys2Proof.Machine.execI2f core t s
  | .f2i core t => Sys2Proof.Machine.execF2i core t s
  | .f2bf core t => Sys2Proof.Machine.execF2bf core t s
  | .bf2f core t => Sys2Proof.Machine.execBf2f core t s
  | .fdiv core t => Sys2Proof.Machine.execFdiv core t s
  | .fsqrt core t => Sys2Proof.Machine.execFsqrt core t s
  | .ld core bank t => Sys2Proof.Machine.execLd core bank t s
  | .st core bank t => Sys2Proof.Machine.execSt core bank t s
  | .ldpi core bank t => Sys2Proof.Machine.execLdpi core bank t s
  | .stpi core bank t => Sys2Proof.Machine.execStpi core bank t s
  | .ldpd core bank t => Sys2Proof.Machine.execLdpd core bank t s
  | .stpd core bank t => Sys2Proof.Machine.execStpd core bank t s
  | .ldx core bank t => Sys2Proof.Machine.execLdx core bank t s
  | .stx core bank t => Sys2Proof.Machine.execStx core bank t s
  | .mac core t => Sys2Proof.Machine.execMac core t s
  | .vadd core t => Sys2Proof.Machine.execVadd core t s
  | .vmul core t => Sys2Proof.Machine.execVmul core t s
  | .vmax core t => Sys2Proof.Machine.execVmax core t s
  | .vfma core t => Sys2Proof.Machine.execVfma core t s
  | .vwait core t => Sys2Proof.Machine.execVwait core t s
  | .vecOperationDone core => Sys2Proof.Machine.execVecOperationDone core s
  | .dmaGet core t => Sys2Proof.Machine.execDmaGet core t s
  | .dmaPut core t => Sys2Proof.Machine.execDmaPut core t s
  | .dmaWait core t => Sys2Proof.Machine.execDmaWait core t s
  | .kernelDmaDone core which => Sys2Proof.Machine.execKernelDmaDone core which s
  | .jmp core t => Sys2Proof.Machine.execJmp core t s
  | .call core t => Sys2Proof.Machine.execCall core t s
  | .ret core t => Sys2Proof.Machine.execRet core t s
  | .halt core t => Sys2Proof.Machine.execHalt core t s
  | .rft core t => Sys2Proof.Machine.execRft core t s
  | .svc core t => Sys2Proof.Machine.execSvc core t s
  | .syncSignal core t => Sys2Proof.Machine.execSyncSignal core t s
  | .readLo core t => Sys2Proof.Machine.execReadLo core t s
  | .readHi core t => Sys2Proof.Machine.execReadHi core t s
  | .readErr core t => Sys2Proof.Machine.execReadErr core t s
  | .kernelInstanceStart ctx tile => Sys2Proof.Machine.execKernelInstanceStart ctx tile s
  | .budget core => Sys2Proof.Machine.execBudget core s
  | .imageCacheFlush req => Sys2Proof.Machine.execImageCacheFlush req s
  | .copy ctx => Sys2Proof.Machine.execCopy ctx s
  | .copyList ctx => Sys2Proof.Machine.execCopyList ctx s
  | .fill ctx => Sys2Proof.Machine.execFill ctx s
  | .invalidate ctx => Sys2Proof.Machine.execInvalidate ctx s
  | .patrolScrub => Sys2Proof.Machine.execPatrolScrub s
  | .cxlScrub port => Sys2Proof.Machine.execCxlScrub port s
  | .gddr7Refresh => Sys2Proof.Machine.execGddr7Refresh s
  | .cxlTimeout ctx => Sys2Proof.Machine.execCxlTimeout ctx s
  | .cxlLinkDown port => Sys2Proof.Machine.execCxlLinkDown port s
  | .seqInit ctx => Sys2Proof.Machine.execSeqInit ctx s
  | .seqAcquire ctx => Sys2Proof.Machine.execSeqAcquire ctx s
  | .seqRelease ctx => Sys2Proof.Machine.execSeqRelease ctx s
  | .seqLoad ctx => Sys2Proof.Machine.execSeqLoad ctx s
  | .seqAppend ctx => Sys2Proof.Machine.execSeqAppend ctx s
  | .shelfPageIn ctx => Sys2Proof.Machine.execShelfPageIn ctx s
  | .shelfWrite ctx => Sys2Proof.Machine.execShelfWrite ctx s
  | .seqPrefetch ctx => Sys2Proof.Machine.execSeqPrefetch ctx s
  | .shelfPrefetch ctx => Sys2Proof.Machine.execShelfPrefetch ctx s
  | .leaseBreak cabinet desc => Sys2Proof.Machine.execLeaseBreak cabinet desc s
  | .write ctx => Sys2Proof.Machine.execWrite ctx s
  | .read ctx => Sys2Proof.Machine.execRead ctx s
  | .fetchAdd ctx => Sys2Proof.Machine.execFetchAdd ctx s
  | .cmpSwap ctx => Sys2Proof.Machine.execCmpSwap ctx s
  | .signal ctx => Sys2Proof.Machine.execSignal ctx s
  | .wait ctx => Sys2Proof.Machine.execWait ctx s
  | .connCreate ctx => Sys2Proof.Machine.execConnCreate ctx s
  | .connClose ctx => Sys2Proof.Machine.execConnClose ctx s
  | .connDestroy ctx => Sys2Proof.Machine.execConnDestroy ctx s
  | .connRekey ctx => Sys2Proof.Machine.execConnRekey ctx s
  | .reg ctx => Sys2Proof.Machine.execReg ctx s
  | .revoke ctx => Sys2Proof.Machine.execRevoke ctx s
  | .regionDrained region => Sys2Proof.Machine.execRegionDrained region s
  | .writePacket p => Sys2Proof.Machine.execWritePacket p s
  | .readReq p => Sys2Proof.Machine.execReadReq p s
  | .atomicReq p => Sys2Proof.Machine.execAtomicReq p s
  | .readResp p => Sys2Proof.Machine.execReadResp p s
  | .atomicResp p => Sys2Proof.Machine.execAtomicResp p s
  | .errorResp p => Sys2Proof.Machine.execErrorResp p s
  | .connect p => Sys2Proof.Machine.execConnect p s
  | .accept p => Sys2Proof.Machine.execAccept p s
  | .close p => Sys2Proof.Machine.execClose p s
  | .closeAck p => Sys2Proof.Machine.execCloseAck p s
  | .ack p => Sys2Proof.Machine.execAck p s
  | .unmatchedDatagram reservedType => Sys2Proof.Machine.execUnmatchedDatagram reservedType s
  | .retransmissionTimeout conn psn => Sys2Proof.Machine.execRetransmissionTimeout conn psn s
  | .retryExhaustion conn psn => Sys2Proof.Machine.execRetryExhaustion conn psn s
  | .connectResend conn => Sys2Proof.Machine.execConnectResend conn s
  | .closeResend conn => Sys2Proof.Machine.execCloseResend conn s
  | .ackDelay conn => Sys2Proof.Machine.execAckDelay conn s
  | .contextFetch conn => Sys2Proof.Machine.execContextFetch conn s
  | .missFetchLimit conn => Sys2Proof.Machine.execMissFetchLimit conn s
  | .groupJoin ctx => Sys2Proof.Machine.execGroupJoin ctx s
  | .groupLeave ctx => Sys2Proof.Machine.execGroupLeave ctx s
  | .allReduce ctx => Sys2Proof.Machine.execAllReduce ctx s
  | .reduceScatter ctx => Sys2Proof.Machine.execReduceScatter ctx s
  | .allGather ctx => Sys2Proof.Machine.execAllGather ctx s
  | .broadcast ctx => Sys2Proof.Machine.execBroadcast ctx s
  | .allToAll ctx => Sys2Proof.Machine.execAllToAll ctx s
  | .join m => Sys2Proof.Machine.execJoin m s
  | .view m => Sys2Proof.Machine.execView m s
  | .refuse m => Sys2Proof.Machine.execRefuse m s
  | .newView m => Sys2Proof.Machine.execNewView m s
  | .failView m => Sys2Proof.Machine.execFailView m s
  | .contrib m => Sys2Proof.Machine.execContrib m s
  | .result m => Sys2Proof.Machine.execResult m s
  | .report m => Sys2Proof.Machine.execReport m s
  | .probe m => Sys2Proof.Machine.execProbe m s
  | .probeAck m => Sys2Proof.Machine.execProbeAck m s
  | .expel m => Sys2Proof.Machine.execExpel m s
  | .abandon m => Sys2Proof.Machine.execAbandon m s
  | .leave m => Sys2Proof.Machine.execLeave m s
  | .formTimeout slot => Sys2Proof.Machine.execFormTimeout slot s
  | .collHeartbeat conn => Sys2Proof.Machine.execCollHeartbeat conn s
  | .collTimeout slot peer => Sys2Proof.Machine.execCollTimeout slot peer s
  | .probeTimeout slot subject => Sys2Proof.Machine.execProbeTimeout slot subject s
  | .collOpLimit slot => Sys2Proof.Machine.execCollOpLimit slot s
  | .collEscalate slot => Sys2Proof.Machine.execCollEscalate slot s
  | .snapAttach ctx => Sys2Proof.Machine.execSnapAttach ctx s
  | .snapDetach ctx => Sys2Proof.Machine.execSnapDetach ctx s
  | .snapCut ctx => Sys2Proof.Machine.execSnapCut ctx s
  | .snapRollback ctx => Sys2Proof.Machine.execSnapRollback ctx s
  | .snapRestore ctx => Sys2Proof.Machine.execSnapRestore ctx s
  | .granuleCopy slot granule => Sys2Proof.Machine.execGranuleCopy slot granule s
  | .cowCopy slot granule => Sys2Proof.Machine.execCowCopy slot granule s
  | .mirrorData m => Sys2Proof.Machine.execMirrorData m s
  | .mirrorDone m => Sys2Proof.Machine.execMirrorDone m s
  | .mirrorAck m => Sys2Proof.Machine.execMirrorAck m s
  | .fragment m => Sys2Proof.Machine.execFragment m s
  | .fragmentDone m => Sys2Proof.Machine.execFragmentDone m s
  | .fragmentDurable m => Sys2Proof.Machine.execFragmentDurable m s
  | .vote m => Sys2Proof.Machine.execVote m s
  | .rollback m => Sys2Proof.Machine.execRollback m s
  | .pull m => Sys2Proof.Machine.execPull m s
  | .rollbackReq m => Sys2Proof.Machine.execRollbackReq m s
  | .verdict m => Sys2Proof.Machine.execVerdict m s
  | .restoreStep m => Sys2Proof.Machine.execRestoreStep m s
  | .voteWait slot member => Sys2Proof.Machine.execVoteWait slot member s
  | .frameReceive port bytes => Sys2Proof.Machine.execFrameReceive port bytes s
  | .fragWaitLimit which => Sys2Proof.Machine.execFragWaitLimit which s
  | .fragEntryLifetime which => Sys2Proof.Machine.execFragEntryLifetime which s
  | .packetDelivery queue => Sys2Proof.Machine.execPacketDelivery queue s
  | .frameRecord ctx => Sys2Proof.Machine.execFrameRecord ctx s
  | .portDequeue port => Sys2Proof.Machine.execPortDequeue port s
  | .calendarSlotExpiry port => Sys2Proof.Machine.execCalendarSlotExpiry port s
  | .ruleStage req => Sys2Proof.Machine.execRuleStage req s
  | .ruleCommit req => Sys2Proof.Machine.execRuleCommit req s
  | .ruleDiscard req => Sys2Proof.Machine.execRuleDiscard req s
  | .versionDrained => Sys2Proof.Machine.execVersionDrained s
  | .tmApply req => Sys2Proof.Machine.execTmApply req s
  | .configurationWrite function reg value => Sys2Proof.Machine.execConfigurationWrite function reg value s
  | .initiateFunctionLevelReset function => Sys2Proof.Machine.execInitiateFunctionLevelReset function s
  | .flrComplete function => Sys2Proof.Machine.execFlrComplete function s
  | .busMasterEnable function enabled => Sys2Proof.Machine.execBusMasterEnable function enabled s
  | .registerWrite function offset len value => Sys2Proof.Machine.execRegisterWrite function offset len value s
  | .apertureRead offset len => Sys2Proof.Machine.execApertureRead offset len s
  | .apertureWrite offset data => Sys2Proof.Machine.execApertureWrite offset data s
  | .completionReceived link tag status poisoned byteCount lowerAddr data => Sys2Proof.Machine.execCompletionReceived link tag status poisoned byteCount lowerAddr data s
  | .completionTimeout link tag => Sys2Proof.Machine.execCompletionTimeout link tag s
  | .peerTlp tlp => Sys2Proof.Machine.execPeerTlp tlp s
  | .windowGen req => Sys2Proof.Machine.execWindowGen req s
  | .ideKm link message => Sys2Proof.Machine.execIdeKm link message s
  | .linkTrained link speed width => Sys2Proof.Machine.execLinkTrained link speed width s
  | .linkDown link => Sys2Proof.Machine.execLinkDown link s
  | .createIoSq cabinet => Sys2Proof.Machine.execCreateIoSq cabinet s
  | .createIoCq cabinet => Sys2Proof.Machine.execCreateIoCq cabinet s
  | .deleteIoSq cabinet => Sys2Proof.Machine.execDeleteIoSq cabinet s
  | .deleteIoCq cabinet => Sys2Proof.Machine.execDeleteIoCq cabinet s
  | .getLogPage cabinet => Sys2Proof.Machine.execGetLogPage cabinet s
  | .identify cabinet => Sys2Proof.Machine.execIdentify cabinet s
  | .abort cabinet => Sys2Proof.Machine.execAbort cabinet s
  | .setFeatures cabinet => Sys2Proof.Machine.execSetFeatures cabinet s
  | .getFeatures cabinet => Sys2Proof.Machine.execGetFeatures cabinet s
  | .asynchronousEventRequest cabinet => Sys2Proof.Machine.execAsynchronousEventRequest cabinet s
  | .deviceSelfTest cabinet => Sys2Proof.Machine.execDeviceSelfTest cabinet s
  | .selfTestDone cabinet result => Sys2Proof.Machine.execSelfTestDone cabinet result s
  | .nvmeFlush cabinet sqid => Sys2Proof.Machine.execNvmeFlush cabinet sqid s
  | .nvmeWrite cabinet sqid => Sys2Proof.Machine.execNvmeWrite cabinet sqid s
  | .nvmeRead cabinet sqid => Sys2Proof.Machine.execNvmeRead cabinet sqid s
  | .writeZeroes cabinet sqid => Sys2Proof.Machine.execWriteZeroes cabinet sqid s
  | .datasetManagement cabinet sqid => Sys2Proof.Machine.execDatasetManagement cabinet sqid s
  | .nsApply req => Sys2Proof.Machine.execNsApply req s
  | .backingConnected cabinet nsid atomicBytes homeSeq journal => Sys2Proof.Machine.execBackingConnected cabinet nsid atomicBytes homeSeq journal s
  | .backingConnectionLost cabinet nsid => Sys2Proof.Machine.execBackingConnectionLost cabinet nsid s
  | .backingReconnect cabinet nsid => Sys2Proof.Machine.execBackingReconnect cabinet nsid s
  | .backingHold cabinet sqid cid => Sys2Proof.Machine.execBackingHold cabinet sqid cid s
  | .backingResponse cabinet nsid seqNo status data => Sys2Proof.Machine.execBackingResponse cabinet nsid seqNo status data s
  | .keepAlive cabinet nsid => Sys2Proof.Machine.execKeepAlive cabinet nsid s
  | .superblockWrite cabinet nsid => Sys2Proof.Machine.execSuperblockWrite cabinet nsid s
  | .destage cabinet nsid => Sys2Proof.Machine.execDestage cabinet nsid s
  | .nvmeEnable req => Sys2Proof.Machine.execNvmeEnable req s
  | .nvmeShutdown req => Sys2Proof.Machine.execNvmeShutdown req s
  | .assign req => Sys2Proof.Machine.execAssign req s
  | .release req => Sys2Proof.Machine.execRelease req s
  | .releaseDone cabinet => Sys2Proof.Machine.execReleaseDone cabinet s
  | .share req => Sys2Proof.Machine.execShare req s
  | .freeze req => Sys2Proof.Machine.execFreeze req s
  | .freezeDrainDone cabinet => Sys2Proof.Machine.execFreezeDrainDone cabinet s
  | .freezeLimit cabinet => Sys2Proof.Machine.execFreezeLimit cabinet s
  | .unfreeze req => Sys2Proof.Machine.execUnfreeze req s
  | .save req => Sys2Proof.Machine.execSave req s
  | .restore req => Sys2Proof.Machine.execRestore req s
  | .logSwap req => Sys2Proof.Machine.execLogSwap req s
  | .adminEnable req => Sys2Proof.Machine.execAdminEnable req s
  | .migrationSecret req => Sys2Proof.Machine.execMigrationSecret req s
  | .cipherRequest r => Sys2Proof.Machine.execCipherRequest r s
  | .keyDerivation slot => Sys2Proof.Machine.execKeyDerivation slot s
  | .cipherLockAcquire holder => Sys2Proof.Machine.execCipherLockAcquire holder s
  | .cipherLockRelease holder => Sys2Proof.Machine.execCipherLockRelease holder s
  | .lockLimit => Sys2Proof.Machine.execLockLimit s
  | .cipherKatPeriod pass => Sys2Proof.Machine.execCipherKatPeriod pass s
  | .cipherKatRun req passing => Sys2Proof.Machine.execCipherKatRun req passing s
  | .svnCommit req => Sys2Proof.Machine.execSvnCommit req s
  | .getCertificate transport offset len => Sys2Proof.Machine.execGetCertificate transport offset len s
  | .challenge transport nonce => Sys2Proof.Machine.execChallenge transport nonce s
  | .getMeasurements transport operation nonce => Sys2Proof.Machine.execGetMeasurements transport operation nonce s
  | .keyExchange transport exchange => Sys2Proof.Machine.execKeyExchange transport exchange s
  | .vendorDefinedRequest transport request => Sys2Proof.Machine.execVendorDefinedRequest transport request s
  | .powerLoop readings warning => Sys2Proof.Machine.execPowerLoop readings warning s
  | .thermalLoop readings => Sys2Proof.Machine.execThermalLoop readings s
  | .snowlineFall => Sys2Proof.Machine.execSnowlineFall s
  | .powerLimiter packageMw => Sys2Proof.Machine.execPowerLimiter packageMw s
  | .thermalTrip sensor => Sys2Proof.Machine.execThermalTrip sensor s
  | .budgetWindow => Sys2Proof.Machine.execBudgetWindow s
  | .powerStateReq req => Sys2Proof.Machine.execPowerStateReq req s
  | .entryComplete => Sys2Proof.Machine.execEntryComplete s
  | .wakeEvent source => Sys2Proof.Machine.execWakeEvent source s
  | .railReady => Sys2Proof.Machine.execRailReady s
  | .clockReady => Sys2Proof.Machine.execClockReady s
  | .memReady => Sys2Proof.Machine.execMemReady s
  | .logicReady => Sys2Proof.Machine.execLogicReady s
  | .wakeReady signal => Sys2Proof.Machine.execWakeReady signal s
  | .fwActivate req => Sys2Proof.Machine.execFwActivate req s
  | .activationDrainDone => Sys2Proof.Machine.execActivationDrainDone s
  | .activationDefer => Sys2Proof.Machine.execActivationDefer s
  | .activationAbandoned => Sys2Proof.Machine.execActivationAbandoned s
  | .errorPin e => Sys2Proof.Machine.execErrorPin e s
  | .engineHangLimit ctx => Sys2Proof.Machine.execEngineHangLimit ctx s
  | .monitorWatchdog core => Sys2Proof.Machine.execMonitorWatchdog core s
  | .componentCheckin core => Sys2Proof.Machine.execComponentCheckin core s
  | .componentRestart core => Sys2Proof.Machine.execComponentRestart core s
  | .rungComplete => Sys2Proof.Machine.execRungComplete s
  | .rungDeadline => Sys2Proof.Machine.execRungDeadline s
  | .quadrantRetest quadrant matching => Sys2Proof.Machine.execQuadrantRetest quadrant matching s
  | .safeStateExit => Sys2Proof.Machine.execSafeStateExit s
  | .faultClear req => Sys2Proof.Machine.execFaultClear req s
  | .resetRequest req => Sys2Proof.Machine.execResetRequest req s
  | .trayNoticeAck req => Sys2Proof.Machine.execTrayNoticeAck req s
  | .dumpDiscard req => Sys2Proof.Machine.execDumpDiscard req s
  | .steralRead req index sub => Sys2Proof.Machine.execSteralRead req index sub s
  | .steralWrite req index sub => Sys2Proof.Machine.execSteralWrite req index sub s
  | .describe req index sub => Sys2Proof.Machine.execDescribe req index sub s
  | .arpRequest frame => Sys2Proof.Machine.execArpRequest frame s
  | .neighborSolicitation frame => Sys2Proof.Machine.execNeighborSolicitation frame s
  | .telemetryLatch req => Sys2Proof.Machine.execTelemetryLatch req s
  | .ipfixActiveTimeout flow => Sys2Proof.Machine.execIpfixActiveTimeout flow s
  | .ipfixIdleTimeout flow => Sys2Proof.Machine.execIpfixIdleTimeout flow s
  | .ipfixTemplateRefresh => Sys2Proof.Machine.execIpfixTemplateRefresh s
  | .requestUpdate agent component size maxTransfer => Sys2Proof.Machine.execRequestUpdate agent component size maxTransfer s
  | .requestFirmwareData data => Sys2Proof.Machine.execRequestFirmwareData data s
  | .verifyComplete image => Sys2Proof.Machine.execVerifyComplete image s
  | .activateFirmware agent => Sys2Proof.Machine.execActivateFirmware agent s
  | .getSensorReading sensor => Sys2Proof.Machine.execGetSensorReading sensor s
  | .stageB1 passing => Sys2Proof.Machine.execStageB1 passing s
  | .stageB2 => Sys2Proof.Machine.execStageB2 s
  | .stageB3 => Sys2Proof.Machine.execStageB3 s
  | .b2Limit => Sys2Proof.Machine.execB2Limit s
  | .b3Limit => Sys2Proof.Machine.execB3Limit s
  | .aonPwrgoodRise => Sys2Proof.Machine.execAonPwrgoodRise s
  | .aonPwrgoodFall => Sys2Proof.Machine.execAonPwrgoodFall s
  | .pwrgoodRise => Sys2Proof.Machine.execPwrgoodRise s
  | .pwrgoodFall rail => Sys2Proof.Machine.execPwrgoodFall rail s
  | .resetNAssert => Sys2Proof.Machine.execResetNAssert s
  | .resetNRelease => Sys2Proof.Machine.execResetNRelease s
  | .perstNAssert which => Sys2Proof.Machine.execPerstNAssert which s
  | .perstNRelease which => Sys2Proof.Machine.execPerstNRelease which s
  | .pmbAlertN readings warning => Sys2Proof.Machine.execPmbAlertN readings warning s
  | .deviceWindowLoadReturn core => Sys2Proof.Machine.execDeviceWindowLoadReturn core s
  | .prefetchTransferDone which => Sys2Proof.Machine.execPrefetchTransferDone which s
  | .cxlLinkRetrained port => Sys2Proof.Machine.execCxlLinkRetrained port s
  | .comparatorRearm sensor => Sys2Proof.Machine.execComparatorRearm sensor s
  | .limiterPacingEnd => Sys2Proof.Machine.execLimiterPacingEnd s
  | .tagReuseTimeout link tag => Sys2Proof.Machine.execTagReuseTimeout link tag s
  | .inProgressResponse transport source tag => Sys2Proof.Machine.execInProgressResponse transport source tag s
  | .railBackInWindow rail => Sys2Proof.Machine.execRailBackInWindow rail s
  | .negotiateAlgorithms transport => Sys2Proof.Machine.execNegotiateAlgorithms transport s
  | .endSession session => Sys2Proof.Machine.execEndSession session s
  | .respondIfReady transport => Sys2Proof.Machine.execRespondIfReady transport s
  | .pmeTurnOff => Sys2Proof.Machine.execPmeTurnOff s

end Sys2Proof.Machine
end

