-- ==== Sys2Proof/Machine/Step.lean ====
section
/-! DEFINITION. One step of the block: the command at the front of the queue takes effect on the state with the rest of
the queue; with no command waiting, device time advances. -/

namespace Sys2Proof.Machine

/-- Period of REFCLK, in ns (00, Units and numbers). -/
def tickNs : Nat := 10

/-- Nothing waits: device time advances by one period of REFCLK (notes/assumptions/8.md). -/
def State.tick (s : State) : State := { s with now := s.now + tickNs }

/-- One step. -/
def step (s : State) : Host.Outcome State Fault Refusal :=
  match s.pending with
  | [] => .next s.tick
  | c :: rest => exec c { s with pending := rest }

/-- The state with the command that a table word spells at the front of its queue. -/
def State.withFetchWord (s : State) (nbits w : Nat) : State :=
  match decodeTableWord nbits w with
  | none => s
  | some c => { s with pending := c :: s.pending }

end Sys2Proof.Machine
end

