-- ==== Sys2Proof/Safety.lean ====
section
/-! DEFINITION. What a safe state and a safe run of the block are, in the terms the statements use. -/

namespace Sys2Proof.Machine

/-- A state whose memory is in its canonical form. -/
abbrev State.sound (s : State) : Prop := Memory.wf s.mem = true

/-- An outcome that stops the block. -/
def stops (o : Result) : Bool :=
  match o with
  | .next _ => false
  | .fault _ => true
  | .refused _ => true

/-- A command answers a next state, and p holds of it. -/
def Completes (o : Result) (p : State → Prop) : Prop := ∃ t, o = .next t ∧ p t

/-- Every byte of device memory reads the same in two states. -/
def SameBytes (s t : State) : Prop := ∀ a, Memory.get t.mem a = Memory.get s.mem a

/-- A run of bytes has been written at a device address, and every other byte reads as before. -/
def Wrote (s t : State) (a : Nat) (bs : Bytes) : Prop :=
  ∀ k, Memory.get t.mem k = if a ≤ k ∧ k < a + bs.length then bs.getD (k - a) 0 else Memory.get s.mem k

/-- Commands of the units that the hardware safe state holds (R602): the engines and the ZT unit with what they receive, the
cores, the storage front end, the key unit and the cipher pipes. -/
def heldWhenSafe : Instr → Bool
  | .nop _ | .syncOnly _ | .flush _ | .negotiate _ | .queueCreate _ | .queueDelete _ | .queueReset _ | .queueResume _
  | .queueQuery _ | .syncAlloc _ | .syncFree _ | .syncSet _ | .quantize _ | .dequantize _ | .escalate _ | .reduce _
  | .sumSquares _ | .adamw _ | .lion _ | .sgdMomentum _ | .factored _ | .blockScore _ | .adapterApply _
  | .kernelLaunch _ | .copy _ | .copyList _ | .fill _ | .invalidate _ | .seqAcquire _ | .seqInit _ | .seqAppend _
  | .seqRelease _ | .seqLoad _ | .shelfPageIn _ | .shelfWrite _ | .seqPrefetch _ | .shelfPrefetch _ | .groupJoin _
  | .groupLeave _ | .allReduce _ | .reduceScatter _ | .allGather _ | .broadcast _ | .allToAll _ | .snapAttach _
  | .snapDetach _ | .snapCut _ | .snapRollback _ | .snapRestore _ => true
  | .write _ | .read _ | .fetchAdd _ | .cmpSwap _ | .signal _ | .wait _ | .connCreate _ | .connClose _
  | .connDestroy _ | .connRekey _ | .reg _ | .revoke _ | .writePacket _ | .readReq _ | .atomicReq _ | .readResp _
  | .atomicResp _ | .errorResp _ | .connect _ | .accept _ | .close _ | .closeAck _ | .ack _ => true
  | .join _ | .view _ | .refuse _ | .newView _ | .failView _ | .contrib _ | .result _ | .report _ | .probe _
  | .probeAck _ | .expel _ | .abandon _ | .leave _ | .mirrorData _ | .mirrorDone _ | .mirrorAck _ | .fragment _
  | .fragmentDone _ | .fragmentDurable _ | .vote _ | .rollback _ | .pull _ | .rollbackReq _ | .verdict _
  | .restoreStep _ => true
  | .addTrigger _ _ _ | .sub _ _ _ | .and _ _ _ | .orTrigger _ _ _ | .xor _ _ _ | .shl _ _ _ | .shr _ _ _
  | .sar _ _ _ | .eq _ _ _ | .ne _ _ _ | .lts _ _ _ | .ltu _ _ _ | .mins _ _ _ | .maxs _ _ _ | .carry _ _ _
  | .pass _ _ _ | .mullo _ _ | .mulhs _ _ | .mulhu _ _ | .fadd _ _ | .fsub _ _ | .fmul _ _ | .ffma _ _ | .fmin _ _
  | .fmax _ _ | .flt _ _ | .feq _ _ | .i2f _ _ | .f2i _ _ | .f2bf _ _ | .bf2f _ _ | .fdiv _ _ | .fsqrt _ _
  | .ld _ _ _ | .st _ _ _ | .ldpi _ _ _ | .stpi _ _ _ | .ldpd _ _ _ | .stpd _ _ _ | .ldx _ _ _ | .stx _ _ _
  | .mac _ _ | .vadd _ _ | .vmul _ _ | .vmax _ _ | .vfma _ _ | .vwait _ _ | .dmaGet _ _ | .dmaPut _ _ | .dmaWait _ _
  | .jmp _ _ | .call _ _ | .ret _ _ | .halt _ _ | .rft _ _ | .svc _ _ | .syncSignal _ _ | .readLo _ _ | .readHi _ _
  | .readErr _ _ => true
  | .createIoSq _ | .createIoCq _ | .deleteIoSq _ | .deleteIoCq _ | .getLogPage _ | .identify _ | .abort _
  | .setFeatures _ | .getFeatures _ | .asynchronousEventRequest _ | .deviceSelfTest _ | .nvmeFlush _ _
  | .nvmeWrite _ _ | .nvmeRead _ _ | .writeZeroes _ _ | .datasetManagement _ _ => true
  | .cipherRequest _ | .keyDerivation _ | .cipherLockAcquire _ | .cipherLockRelease _ => true
  | _ => false

/-! ### Conditions that several statements share -/

/-- A write to the doorbell page of a queue of a cabinet reaches the queue (R55, R517, R602). -/
def PageServed (s : State) (cab qi : Nat) (q : Queue) : Prop :=
  s.bar0Drops cab = false ∧ s.cabServed cab = true ∧ s.queue? qi = some q ∧ q.cabinet = cab

/-- A write of OP at the signal page of a cabinet reaches an object while the chip is awake: the operation lies within the
negotiated contract and the requester's latched handle names the object (R67, R69, R106). -/
def SignalServed (s : State) (cab requester op : Nat) (o : SyncObj) : Prop :=
  s.bar0Drops cab = false ∧ s.cabServed cab = true ∧ s.e 0x2E05 0 = 0 ∧
  lookupD s.contract.negotiated cab 0 ≠ 0 ∧ signalInVersion (lookupD s.contract.negotiated cab 0) op = true ∧
  handleKind (s.latchOf cab requester).handle = 1 ∧ handleCabinet (s.latchOf cab requester).handle = cab ∧
  s.sync? cab (handleIndex (s.latchOf cab requester).handle) = some o

/-- A started command of an opcode whose operation may run: it has not ended, waits for nothing and no rung holds its
unit. -/
def Running (s : State) (id op : Nat) (c : Ctx) (q : Queue) : Prop :=
  s.ctx? id = some c ∧ isCommand op s c = true ∧ c.finished = false ∧ c.waiting = false ∧ s.held c = false ∧
  s.queue? c.queue = some q

/-- A started work request of a WR_OP whose operation may run (R309). -/
def Requested (s : State) (id op : Nat) (c : Ctx) (q : Queue) : Prop :=
  s.ctx? id = some c ∧ isWork op s c = true ∧ c.finished = false ∧ c.waiting = false ∧ s.held c = false ∧
  s.queue? c.queue = some q

/-- A data request has not entered its stream, passes the checks of its fields, and finds its connection ESTABLISHED, cached
and without an earlier request of its queue to wait for (R308, R310, R313). -/
abbrev StreamOpen (s : State) (c : Ctx) (k : Conn) (flags : Nat) (named : List (Nat × Nat)) : Prop :=
  c.issued = false ∧ workReserved c.record flags named = none ∧ s.connOf c.cabinet (field c.record 8 4) = some k ∧
  k.state = 3 ∧ k.cached = true ∧ s.behind c = false

/-- The packet path takes another packet of a connection (R446). -/
def PathOpen (s : State) (k : Conn) : Prop :=
  ∀ port, s.connPort k = some port → s.queueFull port k.subscriber k.service 4238 = false

/-- A request has entered its connection's stream with its packets (R303, R310): behind a full window they wait in order;
a single packet that meets an empty queue and an open window is sent at once, as the next PSN, ATTEMPT 0. -/
def Streams (s u : State) (id : Nat) (k : Conn) (ps : List TxPacket) : Prop :=
  (min k.window k.cwnd ≤ (k.nxt - k.una).toNat → SameBytes s u ∧ (∃ c, u.ctx? id = some c ∧ c.issued = true) ∧
    u.zt.sent = s.zt.sent ∧ ∃ k', u.conn? k.index = some k' ∧ k'.sendQueue = k.sendQueue ++ ps ∧ k'.nxt = k.nxt) ∧
  (∀ p, ps = [p] → p.payloadLen = 0 → k.sendQueue = [] → (k.nxt - k.una).toNat < min k.window k.cwnd → PathOpen s k →
    k.pktsUnderGen + 1 < s.e 0x2603 0 → SameBytes s u ∧ (∃ c, u.ctx? id = some c ∧ c.issued = true) ∧
    (∃ k', u.conn? k.index = some k' ∧ k'.sendQueue = [] ∧ k'.nxt = k.nxt + 1) ∧
    ∃ f, u.zt.sent = f :: s.zt.sent ∧ f.conn = k.index ∧ f.ty = p.ty ∧ f.flags = p.flags ∧ f.seqNo = k.nxt ∧ f.attempt = 0 ∧
      f.body = p.body)

/-- An authenticated packet of a type reaches its connection (R293, R294, R300, R327): the unit runs, the context is cached
with nothing before it in the miss bench, and the packet matches its connection; no group and no pool write is concerned. -/
abbrev Arrives (s : State) (ty : Nat) (p : ZtIn) (k : Conn) : Prop :=
  s.ztRuns = true ∧ s.conn? p.conn = some k ∧ k.cached = true ∧ (∀ m ∈ s.zt.missBench, m.conn ≠ p.conn) ∧
  k.matches ty p = true ∧ p.keyGen = k.genRx % 256 ∧ p.auth = true ∧ p.conn < 0x200000 ∧ s.zt.jobs = []

/-- It is the next data packet of its stream, nothing else is under way there and nothing waits to be sent (R306). -/
abbrev InOrder (s : State) (ty : Nat) (p : ZtIn) (k : Conn) : Prop :=
  Arrives s ty p k ∧ (k.state = 3 ∨ k.state = 4) ∧ p.seqNo = k.expected ∧ k.reorder = [] ∧ k.accepted = [] ∧
  k.sendQueue = []

/-- A packet of a type with a body has been sent on a connection, and stands first in what has been sent. -/
def SentOn (s u : State) (conn ty : Nat) (body : Bytes) : Prop :=
  ∃ f, u.zt.sent = f :: s.zt.sent ∧ f.conn = conn ∧ f.ty = ty ∧ f.body = body

/-- A message of a group's collective channel counts at this member (R354): the slot's group, a sender that is another
member, an epoch not below its own. -/
abbrev Heard (s : State) (m : GroupIn) (g : Group) : Prop :=
  s.faults.safe = false ∧ s.group? m.slot = some g ∧ g.groupId = m.groupId ∧ m.sender < g.members.length ∧
  m.sender ≠ g.self ∧ g.epoch ≤ m.epoch

/-- It is one of the running operation, from a member of its subgroup at a subgroup index (R337, R353). -/
def PartHeard (s : State) (m : GroupIn) (g : Group) (op : CollOp) (k : CollCmd) (c : Ctx) (q : Nat) : Prop :=
  Heard s m g ∧ s.collOf g = some (op, k) ∧ s.ctx? op.ctx = some c ∧ op.opSeq = m.opSeq ∧ op.held = false ∧
  m.opcode = k.op ∧ m.shapeCheck = k.shapeCheck c ∧
  ∃ r, g.rankOf m.sender = some r ∧ q = g.subIndex k.mask r ∧ g.subRank k.mask k.rank q = r

/-- A group message of a type has been handed to the connection toward a member. -/
def SentTo (s u : State) (member ty : Nat) (body : Bytes) : Prop :=
  ∃ m, u.coll.outbox = m :: s.coll.outbox ∧ m.member = member ∧ m.ty = ty ∧ m.body = body

/-- A started Snapshot command on the set of a slot, from the queue that commands its group (R377, R378). -/
def OnSet (s : State) (id op slot : Nat) (c : Ctx) (q : Queue) (g : Group) (x : SnapSet) : Prop :=
  Running s id op c q ∧ slot < 64 ∧ s.set? slot = some x ∧ s.group? slot = some g ∧ x.cabinet = c.cabinet ∧ g.queue = c.queue

/-- A snapshot message counts at this member (R393): a slot that holds a group and a set, a sender that is another member,
the group's epoch. -/
def SnapHeard (s : State) (m : SnapIn) (g : Group) (x : SnapSet) : Prop :=
  s.faults.safe = false ∧ s.contract.activation ≠ 1 ∧ s.group? m.slot = some g ∧ m.sender < g.members.length ∧
  m.sender ≠ g.self ∧ 2 ≤ g.state ∧ m.epoch = g.epoch ∧ s.set? m.slot = some x

/-- Nothing waits to be sent on the connections of a group, which are of ZT 2. -/
def Group.idleOn (g : Group) (s : State) : Prop := ∀ m k, s.conn? (g.conn m) = some k → k.sendQueue = [] ∧ k.version ≠ 1

/-- An entry stands at the head of a submission queue of a controller that fetches (R490, R602). -/
def AtHead (s : State) (cab sqid op : Nat) (c : NvmeCtrl) (q : IoPair) (r : Bytes) : Prop :=
  s.nvmeFetches cab = true ∧ s.sqEntry cab sqid = some (c, q, r) ∧ field r 0 1 = op ∧ entryForm r = true

/-- The budget admits it, or it has waited its time (R574, R576). -/
def AtHeadIo (s : State) (cab sqid op : Nat) (c : NvmeCtrl) (q : IoPair) (r : Bytes) : Prop :=
  AtHead s cab sqid op c q r ∧ sqid ≠ 0 ∧ (s.nvmeFits r = true ∨ s.nvmeAged q = true)

/-- A completion entry has gone to the completion queue of a submission queue (R487, R489): where that queue holds nothing
back and takes the entry, the entry lies at the queue's tail with its phase, the ring moves on, and an error is counted. -/
def Entered (w u : State) (cab sqid cid dw0 st : Nat) : Prop :=
  ∀ c q p, w.ctrl? cab = some c → c.queue sqid false = some q → c.queue q.cqid true = some p → c.heldCqes = [] →
    p.full = false → w.hostClosed cab = false → w.canWrite cab (p.base + 16 * p.tail) 16 = none →
    SameBytes (w.putCab cab (p.base + 16 * p.tail) (withPhase (nvmeEntry dw0 q.head sqid cid st) p.phase)) u ∧
    ∃ c', u.ctrl? cab = some c' ∧ c'.queue q.cqid true = some p.pushed ∧ c'.heldCqes = [] ∧
      c'.errorCount = c.errorCount + (if st = 0 then 0 else 1)

/-- What a fetched command left of a state, and its completion (R487, R489, R490). -/
def Posted (w u : State) (cab sqid : Nat) (r : Bytes) (dw0 st : Nat) : Prop :=
  SameBytes (w.nvmeEnd cab sqid r dw0 st) u ∧ u.storage = (w.nvmeEnd cab sqid r dw0 st).storage ∧
  Entered w u cab sqid (field r 2 2) dw0 st

/-- A backing command has been sent, and stands first in what has been sent (R493, R494). -/
def SentBacking (s u : State) (n : Namespace) (kind offset : Nat) (bytes : Bytes) : Prop :=
  u.storage.backingOut =
    { cabinet := n.cabinet, nsid := n.nsid, kind := kind, offset := offset, bytes := bytes } :: s.storage.backingOut

/-- A response of a backing reaches an outstanding command of a namespace whose connection is up. -/
def Answered (s : State) (cab nsid seqNo : Nat) (n : Namespace) (o : BackOp) : Prop :=
  s.faults.safe = false ∧ s.ns? cab nsid = some n ∧ n.up = true ∧ n.state = 2 ∧ n.ops = [o] ∧ o.id = seqNo

/-- The operation of a started command has ended with a status and a DETAIL. -/
def Ended (t : State) (id st d : Nat) : Prop :=
  ∃ c, t.ctx? id = some c ∧ c.finished = true ∧ c.status = st ∧ c.detail = d

/-- A trigger of a core has put a result on its way to a port of its unit, ready after a latency (R201, R203, R221): its
mark clears when the unit was idle, the core's ports hold what is given, and its registers, guards, word index and count of
words are as before. -/
def Launched (t : State) (c : Core) (u p : Nat) (v : W32) (latency : Nat) (ports : List (Nat × W32)) : Prop :=
  ∃ c', t.core? c.id = some c' ∧
    c'.inFlight = c.inFlight ++ [{ unitId := u, port := portId u p, value := v, readyAt := c.words + latency }] ∧
    c'.notReady = (if (c.inFlight.any fun f => f.unitId == u) || c.notReady.contains (portId u p) then c.notReady
      else c.notReady ++ [portId u p]) ∧
    c'.ports = ports ∧ c'.ga = c.ga ∧ c'.gb = c.gb ∧ c'.grd = c.grd ∧ c'.pc = c.pc ∧ c'.words = c.words

/-- A Transform command has ended with the counts, DETAIL and ENGINE_AREA of its operation (R141, R159, R188). -/
def XEnded (t : State) (id : Nat) (d : XDone) : Prop :=
  ∃ c, t.ctx? id = some c ∧ c.finished = true ∧ c.status = d.counts.status ∧ c.detail = d.detail ∧
    c.area = d.counts.bytes ++ toLe 4 d.lanes ++ toLe 4 d.heapUsed

/-- A dictionary write that acts reaches the server and passes its checks, so that its effect alone decides (R630, R632,
R633): it is reachable, no activation drains, and the request is well-formed, allowed and in range. -/
def Granted (s : State) (r : ActReq) (idx sub : Nat) : Prop :=
  s.unreachable r = false ∧ s.contract.activation ≠ 1 ∧ (s.judge r 2 idx sub).1 = 0 ∧
  s.inRange r.cabinet idx sub (reqVal r) = true

/-- A request has been answered with a code and a payload on its transport (R628, R629); the ZX9's own firmware is sent no
answer. -/
def Replied (s u : State) (r : ActReq) (op idx sub code : Nat) (payload : Bytes) : Prop :=
  r.transport ≠ 5 → ∃ a, u.steral.responses = a :: s.steral.responses ∧ a.transport = r.transport ∧ a.source = r.source ∧
    a.bytes = responseBytes r.version op r.tag idx sub code r.cabinet payload

/-- An act has been refused for the state of its object, and only its answer is new (R629, R516). -/
def ObjectRefused (s u : State) (r : ActReq) (idx sub : Nat) : Prop :=
  SameBytes s u ∧ u.cabs = s.cabs ∧ u.contract = s.contract ∧ u.storage = s.storage ∧ u.trust = s.trust ∧
  Replied s u r 2 idx sub 4 [2, 0]

end Sys2Proof.Machine
end

