-- ==== Sys2Proof/Certificates/Slice0/Obligations.lean ====
section
/-! DEFINITION. The statements for the provers: what reset leaves, what a step runs, what every command does, what it
leaves unchanged, and the invariant that every step keeps. -/

section
open Sys2Proof Sys2Proof.Machine

/-- The step in terms of the command at the front.  The idle step is the model's choice (notes/assumptions/8.md). -/
def Obligations.StepRunsFront : Prop :=
  (∀ (s : State) (c : Instr) (rest : List Instr), s.pending = c :: rest → step s = exec c { s with pending := rest }) ∧
  (∀ s : State, s.pending = [] → step s = .next { s with now := s.now + 10 })

/-- The values of reset that the spec states. -/
def Obligations.ResetHoldsTheTablesValues : Prop :=
  (∀ p ∈ ([(0x1000, 3, 0xA2), (0x1002, 1, 0x0402), (0x1002, 2, 0x0201), (0x2002, 1, 1450), (0x2002, 2, 2000), (0x2002, 3, 2300),
      (0x2003, 0, 100000000), (0x2004, 1, 0), (0x2010, 0, 1), (0x2100, 0, 4), (0x2100, 1, 2), (0x2101, 0, 10000000000),
      (0x2102, 0, 2000000000), (0x2103, 0, 100000000), (0x2104, 0, 16384), (0x2104, 2, 262144), (0x2200, 0, 0x20000), (0x2200, 1, 4),
      (0x2200, 4, 1), (0x2200, 6, 2), (0x2300, 0, 64), (0x2301, 0, 58720256), (0x2301, 1, 25165824), (0x2301, 2, 16777216),
      (0x2302, 0, 1), (0x2302, 1, 1048576), (0x2400, 0, 2), (0x2401, 0, 64)] : List (Nat × Nat × Nat)),
    State.reset.e p.1 p.2.1 = p.2.2) ∧
  (∀ p ∈ ([(0x2500, 1, 86400000000000), (0x2501, 5, 2), (0x2501, 6, 10000000), (0x2503, 0, 65536), (0x2504, 0, 1),
      (0x2504, 1, 4294967296), (0x2600, 0, 2), (0x2600, 2, 20058), (0x2601, 0, 4194304), (0x2601, 7, 100000), (0x2602, 0, 256),
      (0x2602, 1, 50000), (0x2602, 2, 10000000), (0x2602, 3, 100000000), (0x2602, 4, 2000), (0x2602, 5, 1000000000),
      (0x2603, 0, 1073741824), (0x2604, 2, 50000), (0x2700, 0, 64), (0x2700, 2, 20000000), (0x2700, 3, 1000000), (0x2701, 0, 60000000000),
      (0x2701, 1, 10000000000), (0x2800, 0, 3), (0x2800, 1, 65536), (0x2801, 0, 1000000000), (0x2900, 1, 4789), (0x2900, 3, 9216),
      (0x2902, 0, 1000000), (0x2902, 1, 10000000)] : List (Nat × Nat × Nat)), State.reset.e p.1 p.2.1 = p.2.2) ∧
  (∀ p ∈ ([(0x2A05, 0, 10000000), (0x2B00, 1, 65536), (0x2B00, 3, 262144), (0x2B02, 0, 4294967296), (0x2C00, 0, 4096), (0x2C00, 1, 1),
      (0x2C01, 1, 1000000000), (0x2D03, 0, 0xFFFF), (0x2D03, 1, 0x10100), (0x2D03, 2, 86400000000000), (0x2D03, 5, 1000000),
      (0x2E01, 0, 600), (0x2E01, 1, 1000000), (0x2E01, 2, 5000000), (0x2E05, 2, 0x2D), (0x2F00, 0, 0), (0x2F00, 3, 0xFF), (0x2F02, 1, 0),
      (0x2F03, 0, 0), (0x2F03, 1, 1000000), (0x2F03, 2, 5000000), (0x2F03, 3, 50000000), (0x2F03, 4, 2000000000),
      (0x2F03, 5, 30000000000), (0x2F04, 0, 100000000), (0x2F04, 1, 10000000), (0x2F04, 2, 100000000), (0x2F05, 1, 1), (0x4003, 1, 16),
      (0x4003, 2, 3), (0x4004, 0, 2000000000)] : List (Nat × Nat × Nat)), State.reset.e p.1 p.2.1 = p.2.2) ∧
  State.reset.pending = [] ∧ State.reset.mem = [] ∧ State.reset.contract.queues = [] ∧ State.reset.contract.syncs = [] ∧
  State.reset.contract.ctxs = [] ∧ State.reset.zt.conns = [] ∧ State.reset.coll.groups = [] ∧ State.reset.snap.sets = [] ∧
  State.reset.faults.safe = false ∧ State.reset.faults.openInc = none

/-- Reset is sound. -/
def Obligations.ResetMemoryIsCanonical : Prop := State.reset.sound

/-- The invariant of memory and the queue's progress, over every step. -/
def Obligations.StepKeepsMemory : Prop :=
  ∀ s t : State, s.sound → step s = .next t → t.sound ∧ t.pending = s.pending.tail

/-- No command is refused, and the one fault is that of a unit that does not exist. -/
def Obligations.EveryCommandAnswers : Prop :=
  ∀ (c : Instr) (s : State), (∃ t, exec c s = .next t ∧ t.pending = s.pending) ∨ exec c s = .fault .noSuchUnit

/-- What the hardware safe state holds (R602). -/
def Obligations.SafeStateHoldsUnits : Prop :=
  ∀ (c : Instr) (s : State), s.faults.safe = true → heldWhenSafe c = true → exec c s = .next s ∨ exec c s = .fault .noSuchUnit
/-- Device memory as data. -/
def Obligations.CanonicalMemoryIsItsBytes : Prop :=
  (∀ m n : List Host.Cell, Memory.wf m = true → Memory.wf n = true → (∀ a, Memory.get m a = Memory.get n a) → m = n) ∧
  (∀ (m : List Host.Cell) (a : Nat) (bs : Bytes), Memory.wf m = true →
    Memory.read (Memory.write m a bs) a bs.length = bs ∧
    ∀ k, k < a ∨ a + bs.length ≤ k → Memory.get (Memory.write m a bs) k = Memory.get m k)
/-- The rate monitors, the rate floor and the commitment window (R17, R18, R20, R21). -/
def Obligations.RatesArePublished : Prop :=
  (∀ (s : State) (steps : List Nat), (∀ n ∈ steps, n ≤ 23000) →
    Completes (exec (.measuredRateUpdate steps) s) fun t =>
      (∀ q < 4, t.e 0x2000 (q + 1) = steps.getD q 0 / 10) ∧ SameBytes s t) ∧
  (∀ s : State, (∀ q < 4, s.fabric.minSoFar.getD q 0 ≤ 2300) →
    Completes (exec .minRateUpdate s) fun t =>
      (∀ q < 4, t.e 0x2001 (q + 1) = s.fabric.minSoFar.getD q 0) ∧ SameBytes s t) ∧
  (∀ (s : State) (q since : Nat), q < 4 → s.fabric.belowSince.getD q none = some since → since + 100000 < s.now →
    s.floorGuaranteed q = true → s.faults.fencedQuads.contains q = false →
    Completes (exec (.rateFloor q) s) fun t =>
      bit (t.e 0x2F00 0) q = true ∧ t.e 0x2000 (q + 1) = s.e 0x2000 (q + 1) ∧ SameBytes s t) ∧
  (∀ s : State, s.e 0x2003 5 ≤ s.now → s.e 0x2E05 0 < 2 → (∀ q < 4, s.e 0x2000 (q + 1) ≤ 2300) →
    Completes (exec .commitWindowBoundary s) fun t =>
      t.e 0x2003 5 = (s.now + s.e 0x2003 0) % 2 ^ 64 ∧ t.fabric.windowLength = s.e 0x2003 0 ∧
      ∀ q < 4, t.e 0x2003 (q + 1) = 0 ∨
        (s.e 0x2002 1 ≤ t.e 0x2003 (q + 1) ∧ t.e 0x2003 (q + 1) ≤ s.e 0x2000 (q + 1)))
/-- Crossings and arbiters (R27 to R35). -/
def Obligations.CrossingsAndArbiters : Prop :=
  (∀ (s : State) (i v : Nat) (c : Crossing) (next : Option CrossingValue), i < 10 → s.fabric.crossings[i]? = some c →
    c.holding = some v →
    Completes (exec (.crossingTransfer i next) s) fun t =>
      (∃ c', t.fabric.crossings[i]? = some c' ∧
        c'.delivered = (if c.fenced then c.delivered else v :: c.delivered) ∧
        c'.holding = next.map (·.value) ∧ c'.fenced = false) ∧
      (∀ j, j ≠ i → t.fabric.crossings[j]? = s.fabric.crossings[j]?) ∧ SameBytes s t ∧ t.dict = s.dict) ∧
  (∀ (s : State) (i : Nat), i < 10 → (s.fabric.crossings.getD i default).holding.isSome = true →
    (s.fabric.crossings.getD i default).raisedAt + 100000 ≤ s.now →
    Completes (exec (.crossingHang i) s) fun t => t.e 0x2011 1 = (s.e 0x2011 1 + 1) % 2 ^ 32) ∧
  (∀ (s : State) (a : Nat) (r : ArbRequest), (s.fabric.holders.all fun h => h.resource != a) = true →
    (s.fabric.preempted.all fun p => p.resource != a) = true → r.cls ≤ 2 → 2 ≤ r.granules → r.arrives = false →
    Completes (exec (.arbiterGrant a [r]) s) fun t =>
      (t.fabric.holders.find? fun h => h.resource == a) =
        some { resource := a, position := r.position, granulesDone := 1, granulesTotal := r.granules, cls := r.cls } ∧
      lookupD t.fabric.arbPointers a 0 = r.position + 1 ∧ SameBytes s t ∧ t.dict = s.dict)
/-- Writes to a queue's doorbell page (R53, R55, R56, R77, R78, R82). -/
def Obligations.DoorbellPages : Prop :=
  (∀ (s : State) (cab qi tail : Nat) (q : Queue), PageServed s cab qi q → q.kind = 1 → q.state ≠ 4 → tail < 65536 →
    tail < q.size →
    Completes (exec (.sqTail cab qi tail) s) fun t =>
      (∃ q', t.queue? qi = some q' ∧ q'.tail = tail ∧ q'.head = q.head ∧ q'.state = q.state) ∧ SameBytes s t) ∧
  (∀ (s : State) (cab qi tail : Nat) (q : Queue), PageServed s cab qi q → (q.kind ≠ 1 ∨ q.size ≤ tail % 65536) →
    Completes (exec (.sqTail cab qi tail) s) fun t =>
      t.queue? qi = some q ∧ t.e 0x2105 1 = (s.e 0x2105 1 + 1) % 2 ^ 64 ∧ SameBytes s t) ∧
  (∀ (s : State) (cab qi head : Nat) (q : Queue), PageServed s cab qi q → q.kind = 0 → q.held = [] → head < 65536 →
    head < q.size →
    Completes (exec (.cqHead cab qi head) s) fun t =>
      (∃ q', t.queue? qi = some q' ∧ q'.tail = head ∧ q'.head = q.head) ∧ SameBytes s t) ∧
  (∀ (s : State) (cab qi : Nat) (q : Queue), PageServed s cab qi q → q.kind = 1 → (q.state = 1 ∨ q.state = 2) →
    Completes (exec (.reset cab qi) s) fun t =>
      (∃ q', t.queue? qi = some q' ∧ q'.state = 4 ∧ q'.resetTail = q.tail ∧ q'.epoch = (q.epoch + 1) % 2 ^ 32 ∧
        q'.resetStart = s.now ∧ q'.resetWithCq = false) ∧ SameBytes s t) ∧
  (∀ (s : State) (cab qi : Nat) (q : Queue), PageServed s cab qi q → q.kind = 1 → q.state = 3 →
    Completes (exec (.reset cab qi) s) fun t =>
      (∃ q', t.queue? qi = some q' ∧ q'.state = 3 ∧ q'.resetRecorded = true) ∧ SameBytes s t) ∧
  (∀ (s : State) (cab qi : Nat) (q : Queue), PageServed s cab qi q → q.kind = 1 → q.state = 2 →
    Completes (exec (.resume cab qi) s) fun t =>
      (∃ q', t.queue? qi = some q' ∧ q'.state = 1 ∧ q'.head = q.head ∧ q'.tail = q.tail) ∧ SameBytes s t) ∧
  (∀ (s : State) (cab qi : Nat) (q : Queue), PageServed s cab qi q → q.kind = 1 → q.state ≠ 2 →
    exec (.resume cab qi) s = s.commit s)
/-- Signal operations through the signal page (R64, R67, R69, R106). -/
def Obligations.SignalPage : Prop :=
  (∀ (s : State) (cab r : Nat) (o : SyncObj), SignalServed s cab r 1 o →
    Completes (exec (.set cab r) s) fun t =>
      ∃ o', t.sync? cab (handleIndex (s.latchOf cab r).handle) = some o' ∧
        o'.value = (s.latchOf cab r).value ∧ o'.err = o.err ∧ o'.external = true) ∧
  (∀ (s : State) (cab r : Nat) (o : SyncObj), SignalServed s cab r 2 o →
    Completes (exec (.add cab r) s) fun t =>
      ∃ o', t.sync? cab (handleIndex (s.latchOf cab r).handle) = some o' ∧
        o'.value = o.value + (s.latchOf cab r).value ∧ o'.err = o.err ∧ o'.external = true) ∧
  (∀ (s : State) (cab r : Nat) (o : SyncObj), SignalServed s cab r 3 o →
    Completes (exec (.max cab r) s) fun t =>
      ∃ o', t.sync? cab (handleIndex (s.latchOf cab r).handle) = some o' ∧
        o'.value.toNat = max o.value.toNat (s.latchOf cab r).value.toNat ∧ o'.err = o.err ∧ o'.external = true) ∧
  (∀ (s : State) (cab r : Nat) (o : SyncObj), SignalServed s cab r 4 o →
    Completes (exec (.or cab r) s) fun t =>
      ∃ o', t.sync? cab (handleIndex (s.latchOf cab r).handle) = some o' ∧
        o'.value = o.value ||| (s.latchOf cab r).value ∧ o'.err = o.err ∧ o'.external = true) ∧
  (∀ (s : State) (cab r : Nat) (o : SyncObj), SignalServed s cab r 5 o →
    Completes (exec (.setError cab r) s) fun t =>
      ∃ o', t.sync? cab (handleIndex (s.latchOf cab r).handle) = some o' ∧
        o'.value = o.value ∧ o'.err = true ∧ o'.external = true) ∧
  (∀ (s : State) (cab r : Nat) (o : SyncObj), SignalServed s cab r 6 o →
    Completes (exec (.clearError cab r) s) fun t =>
      ∃ o', t.sync? cab (handleIndex (s.latchOf cab r).handle) = some o' ∧
        o'.value = o.value ∧ o'.err = false ∧ o'.external = true) ∧
  (∀ (s : State) (cab r : Nat), s.bar0Drops cab = false → s.cabServed cab = true → s.e 0x2E05 0 = 0 →
    s.syncValid cab (s.latchOf cab r).handle = false →
    Completes (exec (.add cab r) s) fun t =>
      t.contract = s.contract ∧ t.e 0x2105 1 = (s.e 0x2105 1 + 1) % 2 ^ 64 ∧ SameBytes s t)
/-- The Control commands on no queue (R80, R87, R88, R104, R105). -/
def Obligations.ControlCommandsComplete : Prop :=
  (∀ (s : State) (id : Nat) (c : Ctx) (q : Queue), Running s id 0xF001 c q → reservedErr c.record [] = none →
    Completes (exec (.nop id) s) fun t => Ended t id 0 0 ∧ t.dict = s.dict ∧ SameBytes s t) ∧
  (∀ (s : State) (id : Nat) (c : Ctx) (q : Queue), Running s id 0xF002 c q → reservedErr c.record [] = none →
    Completes (exec (.syncOnly id) s) fun t => Ended t id 0 0 ∧ t.dict = s.dict ∧ SameBytes s t) ∧
  (∀ (s : State) (id : Nat) (c : Ctx) (q : Queue), Running s id 0xF003 c q → reservedErr c.record [(0, 1)] = none →
    arg c.record 0 1 ≤ 1 →
    Completes (exec (.flush id) s) fun t =>
      (∃ c', t.ctx? id = some c' ∧
        (if c.flushWaits = [] ∧ (∀ p ∈ c.flushMarks, p.2 = 0) then c'.finished = true ∧ c'.status = 0
         else c'.finished = false ∧ c'.waiting = true)) ∧
      t.dict = s.dict ∧ SameBytes s t) ∧
  (∀ (s : State) (id : Nat) (c : Ctx) (q : Queue), Running s id 0xF010 c q → reservedErr c.record [(0, 2)] = none →
    arg c.record 0 1 ≤ 4 → 2 ≤ arg c.record 1 1 → arg c.record 0 1 ≤ arg c.record 1 1 →
    (s.contract.queues.all fun x => x.cabinet != q.cabinet || x.index == q.index || x.index == q.cq) = true →
    Completes (exec (.negotiate id) s) fun t =>
      Ended t id 0 (min (arg c.record 1 1) 4) ∧
      lookupD t.contract.negotiated q.cabinet 0 = min (arg c.record 1 1) 4 ∧ SameBytes s t) ∧
  (∀ (s : State) (id i : Nat) (c : Ctx) (q : Queue), Running s id 0xF020 c q → reservedErr c.record [(0, 16)] = none →
    arg c.record 8 8 = 0 →
    (s.contract.syncs.filter fun o => o.cabinet == c.cabinet).length < s.share c.cabinet 2 →
    pickFree s.freeValue (s.contract.syncs.map (·.index)) 0 262144 = some i →
    Completes (exec (.syncAlloc id) s) fun t =>
      Ended t id 0 (syncHandle c.cabinet i) ∧
      (∃ o ∈ t.contract.syncs, o.index = i ∧ o.cabinet = c.cabinet ∧ o.value = BitVec.ofNat 64 (arg c.record 0 8) ∧
        o.err = false) ∧ SameBytes s t) ∧
  (∀ (s : State) (id : Nat) (c : Ctx) (q : Queue), Running s id 0xF021 c q → reservedErr c.record [(0, 4)] = none →
    s.syncArgErr c.cabinet (arg c.record 0 4) = none →
    (s.contract.queues.all fun x => s.waitedHandle x != some (arg c.record 0 4)) = true →
    Completes (exec (.syncFree id) s) fun t =>
      Ended t id 0 0 ∧ t.sync? c.cabinet (handleIndex (arg c.record 0 4)) = none ∧ SameBytes s t) ∧
  (∀ (s : State) (id : Nat) (c : Ctx) (q : Queue), Running s id 0xF022 c q →
    reservedErr c.record [(0, 4), (8, 8)] = none → s.syncArgErr c.cabinet (arg c.record 0 4) = none →
    Completes (exec (.syncSet id) s) fun t =>
      Ended t id 0 0 ∧
      ∃ o, t.sync? c.cabinet (handleIndex (arg c.record 0 4)) = some o ∧
        o.value = BitVec.ofNat 64 (arg c.record 8 8) ∧ o.err = false)
/-- The commands on queues and the end of a queue reset (R49, R78, R82 to R84, R88 to R91). -/
def Obligations.QueueCommandsComplete : Prop :=
  (∀ (s : State) (id page i : Nat) (c : Ctx) (q : Queue) (ps : List (Nat × Nat)), Running s id 0xF011 c q →
    reservedErr c.record [(0, 18)] = none → s.createErr c.cabinet c.record = none →
    s.reach c.cabinet (arg c.record 0 8) (64 * 2 ^ arg c.record 8 1) (if arg c.record 9 1 = 0 then .write else .read)
      = .ok ps →
    (s.queuesOf c.cabinet).length < s.share c.cabinet 1 →
    lowestFree ((s.queuesOf c.cabinet).map (·.page)) 2 (s.pageLimit c.cabinet) = some page →
    pickFree s.freeValue (s.contract.queues.map (·.index)) 0 16384 = some i →
    Completes (exec (.queueCreate id) s) fun t =>
      Ended t id 0 (page * 2 ^ 32 + queueHandle c.cabinet i) ∧
      (∃ x ∈ t.contract.queues, x.index = i ∧ x.cabinet = c.cabinet ∧ x.kind = arg c.record 9 1 ∧
        x.engine = arg c.record 10 1 ∧ x.ringBase = arg c.record 0 8 ∧ x.n = arg c.record 8 1 ∧ x.state = 1 ∧
        x.head = 0 ∧ x.tail = 0 ∧ x.vector = arg c.record 16 2) ∧ SameBytes s t) ∧
  (∀ (s : State) (id : Nat) (c : Ctx) (q x : Queue), Running s id 0xF012 c q → reservedErr c.record [(0, 4)] = none →
    s.queueHandleErr c.cabinet (arg c.record 0 4) = none → s.queue? (handleIndex (arg c.record 0 4)) = some x →
    x.engine ≠ 0x0F → x.kind = 1 → (x.state = 1 ∨ x.state = 2 ∨ x.state = 4) →
    Completes (exec (.queueDelete id) s) fun t =>
      (∃ x', t.queue? (handleIndex (arg c.record 0 4)) = some x' ∧ x'.state = 5) ∧
      (∃ c', t.ctx? id = some c' ∧ c'.waiting = true ∧ c'.finished = false) ∧ SameBytes s t) ∧
  (∀ (s : State) (id : Nat) (c : Ctx) (q x : Queue), Running s id 0xF013 c q → reservedErr c.record [(0, 5)] = none →
    arg c.record 4 1 = 0 → s.queueHandleErr c.cabinet (arg c.record 0 4) = none →
    s.queue? (handleIndex (arg c.record 0 4)) = some x → x.engine ≠ 0x0F → x.kind = 1 → (x.state = 1 ∨ x.state = 2) →
    Completes (exec (.queueReset id) s) fun t =>
      (∃ x', t.queue? (handleIndex (arg c.record 0 4)) = some x' ∧ x'.state = 4) ∧
      (∃ c', t.ctx? id = some c' ∧ c'.waiting = true ∧ c'.finished = false) ∧ SameBytes s t) ∧
  (∀ (s : State) (id : Nat) (c : Ctx) (q x : Queue), Running s id 0xF014 c q → reservedErr c.record [(0, 4)] = none →
    s.queueHandleErr c.cabinet (arg c.record 0 4) = none → s.queue? (handleIndex (arg c.record 0 4)) = some x →
    x.state = 2 →
    Completes (exec (.queueResume id) s) fun t =>
      Ended t id 0 0 ∧ (∃ x', t.queue? (handleIndex (arg c.record 0 4)) = some x' ∧ x'.state = 1) ∧ SameBytes s t) ∧
  (∀ (s : State) (id : Nat) (c : Ctx) (q : Queue), Running s id 0xF015 c q → reservedErr c.record [(0, 12)] = none →
    arg c.record 0 8 % 16 = 0 → arg c.record 8 4 % 16 = 0 → 16 ≤ arg c.record 8 4 → arg c.record 8 4 ≤ 262144 →
    s.canWrite c.cabinet (arg c.record 0 8)
      (((sortQueues (s.queuesOf c.cabinet)).take (arg c.record 8 4 / 16)).flatMap queueEntry).length = none →
    Completes (exec (.queueQuery id) s) fun t =>
      Ended t id 0 ((sortQueues (s.queuesOf c.cabinet)).length * 2 ^ 32 +
        min (arg c.record 8 4 / 16) (sortQueues (s.queuesOf c.cabinet)).length) ∧
      ∀ a, Memory.get t.mem a = Memory.get (s.putCab c.cabinet (arg c.record 0 8)
        (((sortQueues (s.queuesOf c.cabinet)).take (arg c.record 8 4 / 16)).flatMap queueEntry)).mem a) ∧
  (∀ (s : State) (qi : Nat) (x : Queue), s.queue? qi = some x → s.faults.safe = false → x.kind = 0 → x.state = 5 →
    Completes (exec (.queueResetComplete qi) s) fun t => t.queue? qi = none ∧ SameBytes s t) ∧
  (∀ (s : State) (qi : Nat) (x : Queue) (c : Ctx) (r : List Ctx), s.queue? qi = some x → s.faults.safe = false →
    (x.state = 4 ∨ x.state = 5) → x.resetStart + 1000000 ≤ s.now → s.started qi = c :: r →
    Completes (exec (.queueResetTimeout qi) s) fun t =>
      (s.faults.openInc = none → t.e 0x2F03 0 = 2) ∧ SameBytes s t)
/-- From the ring to the engine and back (R48 to R51, R65, R66, R70, R72, R574, R672). -/
def Obligations.CommandsStartAndComplete : Prop :=
  (∀ (s : State) (qi : Nat) (q : Queue) (r : Bytes) (conts : List Bytes), (s.judgeHead qi).queue? qi = some q →
    s.faults.safe = false → q.kind = 1 → q.state = 1 → q.engine ≠ 7 → (s.judgeHead qi).fetchAllowed q.cabinet = true →
    (s.judgeHead qi).restarting 1 = false → (s.judgeHead qi).fetchHead q = .ok (some (r, conts)) →
    ((formOf q.engine r).fence && !((s.judgeHead qi).started qi).isEmpty) = false →
    (s.judgeHead qi).checkHead q r = none → q.upstreamError = false → q.readyAt.isSome = true →
    ((s.judgeHead qi).startable q).isSome = true → (s.judgeHead qi).isNext q = true →
    Completes (exec (.commandAdmission qi) s) fun t =>
      (∃ c ∈ t.contract.ctxs, c.id = s.contract.nextCtx ∧ c.queue = q.index ∧ c.record = r ∧ c.conts = conts ∧
        c.finished = false ∧ c.startTime = s.now) ∧
      t.contract.nextCtx = s.contract.nextCtx + 1 ∧ SameBytes s t) ∧
  (∀ (s : State) (id : Nat) (c : Ctx), s.ctx? id = some c → c.finished = true → s.faults.safe = false →
    exec (.commandCompletion id) s = s.commit (s.completeCtx c false)) ∧
  (∀ (s : State) (qi : Nat) (q : Queue) (r : Bytes) (conts : List Bytes), (s.judgeHead qi).queue? qi = some q →
    s.faults.safe = false → s.contract.ctxs = [] → q.state = 1 → q.expired s.now = true →
    q.readyAt = none → q.upstreamError = false → (s.judgeHead qi).fetchHead q = .ok (some (r, conts)) →
    exec (.waitDeadline qi) s =
      (s.judgeHead qi).commit ((s.judgeHead qi).refuseHead q r { status := 0x0601, detail := 0 })) ∧
  (∀ (s : State) (qi : Nat) (q : Queue) (e : Err), s.queue? qi = some q → s.faults.safe = false → q.kind = 1 →
    q.state = 1 → q.placed ≠ 0 → s.fetchAllowed q.cabinet = true → s.fetchHead q = .error e → e.bad = none →
    Completes (exec (.headRecordReadFailure qi) s) fun t =>
      (∃ q', t.queue? qi = some q' ∧ q'.state = 2 ∧ q'.lastStatus = e.status ∧ q'.head = q.head) ∧
      t.e 0x2105 0 = (s.e 0x2105 0 + 1) % 2 ^ 64 ∧ SameBytes s t) ∧
  (∀ s : State, s.faults.safe = false → s.waiters = [] →
    Completes (exec .circleScan s) fun t => t.contract = s.contract ∧ t.dict = s.dict ∧ SameBytes s t)
/-- The lease acts and a lease's expiry (R92, R95, R96, R520). -/
def Obligations.HostLeases : Prop :=
  (∀ (s : State) (r : ActReq), Granted s r (leaseIndex r.cabinet) 1 → s.ent r.cabinet 0x4004 2 ≤ 1 →
    Completes (exec (.hostLeaseRenew r) s) fun t =>
      t.ent r.cabinet 0x4004 2 = 1 ∧
      t.ent r.cabinet 0x4004 3 = (s.now + s.ent r.cabinet 0x4004 0) % 2 ^ 64 ∧ SameBytes s t) ∧
  (∀ (s : State) (r : ActReq), Granted s r (leaseIndex r.cabinet) 4 → s.ent r.cabinet 0x4004 2 = 1 →
    s.ports.requests = [] →
    Completes (exec (.hostLeaseRelease r) s) fun t =>
      t.ent r.cabinet 0x4004 2 = 3 ∧ t.ent r.cabinet 0x4004 3 = 0 ∧ SameBytes s t) ∧
  (∀ (s : State) (r : ActReq), Granted s r (leaseIndex r.cabinet) 5 →
    (s.ent r.cabinet 0x4004 2 = 2 ∨ s.ent r.cabinet 0x4004 2 = 3) →
    ∃ a t : State, a.ent r.cabinet 0x4004 2 = 1 ∧ a.ent r.cabinet 0x4004 3 = (s.now + s.ent r.cabinet 0x4004 0) % 2 ^ 64 ∧
      a.mem = s.mem ∧ t = a.liftFence r.cabinet ∧
      exec (.adopt r) s = s.commit (t.respond r 2 (leaseIndex r.cabinet) 5 0
        (t.writePayload r.cabinet (leaseIndex r.cabinet) 5))) ∧
  (∀ (s : State) (cab : Nat), s.ent cab 0x4004 2 = 1 → s.ent cab 0x4004 3 ≤ s.now → s.leaseRuns cab = true →
    s.ports.requests = [] →
    Completes (exec (.hostLeaseExpiry cab) s) fun t =>
      t.ent cab 0x4004 2 = 2 ∧ t.ent cab 0x4004 6 = (s.ent cab 0x4004 6 + 1) % 2 ^ 32 ∧ SameBytes s t) ∧
  (∀ (s : State) (r : ActReq), Granted s r (leaseIndex r.cabinet) 5 → s.ent r.cabinet 0x4004 2 ≤ 1 →
    Completes (exec (.adopt r) s) fun t => t.ent r.cabinet 0x4004 2 = s.ent r.cabinet 0x4004 2 ∧ SameBytes s t)
/-- Exhausted shares (R88). -/
def Obligations.ExhaustedShareAllocatesNothing : Prop :=
  (∀ (s : State) (id : Nat) (c : Ctx) (q : Queue), Running s id 0xF020 c q → reservedErr c.record [(0, 16)] = none →
    arg c.record 8 8 % 16 = 0 → s.share c.cabinet 2 ≤ (s.contract.syncs.filter fun o => o.cabinet == c.cabinet).length →
    Completes (exec (.syncAlloc id) s) fun t => Ended t id 0x0301 0 ∧ t.contract.syncs = s.contract.syncs ∧
      t.contract.queues = s.contract.queues ∧ SameBytes s t) ∧
  (∀ (s : State) (id : Nat) (c : Ctx) (q : Queue) (ps : List (Nat × Nat)), Running s id 0xF011 c q →
    reservedErr c.record [(0, 18)] = none → s.createErr c.cabinet c.record = none →
    s.reach c.cabinet (arg c.record 0 8) (64 * 2 ^ arg c.record 8 1) (if arg c.record 9 1 = 0 then .write else .read) = .ok ps →
    s.share c.cabinet 1 ≤ (s.queuesOf c.cabinet).length →
    Completes (exec (.queueCreate id) s) fun t => Ended t id 0x0301 0 ∧ t.contract.queues = s.contract.queues ∧
      t.contract.syncs = s.contract.syncs ∧ SameBytes s t)

/-- The choice of a contract version (R104). -/
def Obligations.NegotiationTakesTheHighestCommonVersion : Prop :=
  ∀ (s : State) (id : Nat) (c : Ctx) (q : Queue), Running s id 0xF010 c q → reservedErr c.record [(0, 2)] = none →
    ((¬ ∃ v, 2 ≤ v ∧ v ≤ 4 ∧ arg c.record 0 1 ≤ v ∧ v ≤ arg c.record 1 1) →
      Completes (exec (.negotiate id) s) fun t => Ended t id 0x0103 0x0204 ∧ t.contract.negotiated = s.contract.negotiated) ∧
    (∀ v, 2 ≤ v → v ≤ 4 → arg c.record 0 1 ≤ v → v ≤ arg c.record 1 1 →
      (∀ w, 2 ≤ w → w ≤ 4 → arg c.record 0 1 ≤ w → w ≤ arg c.record 1 1 → w ≤ v) →
      (s.contract.queues.all fun x => x.cabinet != q.cabinet || x.index == q.index || x.index == q.cq) = true →
      Completes (exec (.negotiate id) s) fun t => lookupD t.contract.negotiated q.cabinet 0 = v ∧
        ∀ cab, cab ≠ q.cabinet → lookupD t.contract.negotiated cab 0 = lookupD s.contract.negotiated cab 0)

/-- The signal of a command that failed (R66). -/
def Obligations.FailedCommandSetsTheErrorFlag : Prop :=
  ∀ (s : State) (id : Nat) (c : Ctx) (q : Queue) (o : SyncObj), s.ctx? id = some c → c.finished = true → s.faults.safe = false →
    s.queue? c.queue = some q → c.status ≠ 0 → c.status ≠ 1 →
    s.syncValid c.cabinet (formOf q.engine c.record).signalHandle = true →
    s.sync? c.cabinet (handleIndex (formOf q.engine c.record).signalHandle) = some o →
    Completes (exec (.commandCompletion id) s) fun t =>
      ∃ o', t.sync? c.cabinet (handleIndex (formOf q.engine c.record).signalHandle) = some o' ∧ o'.err = true ∧ o'.value = o.value
/-- The order of a block's elements (R110). -/
def Obligations.ElementsLieInBitOrder : Prop :=
  (∀ (b i : Nat) (codes : List Nat), 0 < b → (∀ c ∈ codes, c < 2 ^ b) → i < codes.length →
    bits (packCodes b codes) (b * i + b - 1) (b * i) = codes.getD i 0) ∧
  (∀ (b v n i : Nat), 0 < b → i < n → (unpackCodes b v n).getD i 0 = bits v (b * i + b - 1) (b * i)) ∧
  (∀ (v n j : Nat), j < n → ((toLe n v).getD j 0).toNat = bits v (8 * j + 7) (8 * j)) ∧
  (∀ (b : Nat) (codes : List Nat), 0 < b → codes.length = 64 → (∀ c ∈ codes, c < 2 ^ b) →
    unpackCodes b (leNat (toLe (8 * b) (packCodes b codes))) 64 = codes)
/-- The conversions and reductions (R159, R165, R167 to R171, R179, R188). -/
def Obligations.ConversionsAndReductionsComplete : Prop :=
  (∀ (s t : State) (id used : Nat) (c : Ctx) (q : Queue) (x : XCmd) (src dst : Desc) (l : Loaded) (n : Counts),
    t.aheadOfCopy = none → loadTensor x.rd src = .ok l →
    s.storeTensor c.cabinet dst x.pol x.rnd l.values = .ok (t, used, n) →
    (Running s id 0x1001 c q → s.xBegin c 0x1001 = .ok x →
      s.conversion x (fun _ => true) (fun f => f ≤ 9) false = .ok (src, dst) →
      Completes (exec (.quantize id) s) fun u =>
        XEnded u id { counts := { n with malformed := l.malformed }, heapUsed := used } ∧ SameBytes t u) ∧
    (Running s id 0x1002 c q → s.xBegin c 0x1002 = .ok x →
      s.conversion x (fun _ => true) (fun f => f == 4 || f == 10) true = .ok (src, dst) →
      Completes (exec (.dequantize id) s) fun u =>
        XEnded u id { counts := { n with malformed := l.malformed }, heapUsed := used } ∧ SameBytes t u)) ∧
  (∀ (s t : State) (id : Nat) (c : Ctx) (q : Queue) (x : XCmd) (src dst : Desc) (bs : List (Nat × Bytes × Counts × Bool)),
    Running s id 0x1003 c q → s.xBegin c 0x1003 = .ok x → s.escalating x = .ok (src, dst) →
    x.escalated src dst = .ok bs →
    s.writeAll c.cabinet (tensorRuns dst (bs.map fun b => (b.1, b.2.1))) = .ok t → t.aheadOfCopy = none →
    Completes (exec (.escalate id) s) fun u =>
      XEnded u id { detail := (bs.filter fun b => b.2.2.2).length, counts := sumCounts (bs.map fun b => b.2.2.1)
                    heapUsed := heapUsedBy dst (bs.map fun b => (b.1, b.2.1)) } ∧ SameBytes t u) ∧
  (∀ (s t : State) (id used : Nat) (c : Ctx) (q : Queue) (x : XCmd) (dst : Desc) (srcs : List Desc) (ls : List Loaded)
    (n : Counts), Running s id 0x1010 c q → s.xBegin c 0x1010 = .ok x → s.reduction x = .ok (dst, srcs) →
    loadAll x.rd srcs = .ok ls →
    s.storeTensor c.cabinet dst x.pol x.rnd (sumInOrder (ls.map Loaded.values)) = .ok (t, used, n) →
    t.aheadOfCopy = none →
    Completes (exec (.reduce id) s) fun u =>
      XEnded u id { counts := { n with malformed := sumNat (ls.map (·.malformed)) }, heapUsed := used } ∧ SameBytes t u) ∧
  (∀ (s t : State) (id out : Nat) (c : Ctx) (q : Queue) (x : XCmd) (src : Desc) (l : Loaded),
    Running s id 0x1011 c q → s.xBegin c 0x1011 = .ok x → s.squaring x = .ok (src, out) → loadTensor x.rd src = .ok l →
    s.writeAll c.cabinet [(out, toLe 4 (Fp.to32 (sumSquares l.values)))] = .ok t → t.aheadOfCopy = none →
    Completes (exec (.sumSquares id) s) fun u =>
      XEnded u id { detail := Fp.to32 (sumSquares l.values), lanes := ceilDiv src.elements 65536
                    counts := { (default : Counts) with
                      nonfinite := (l.values.filter fun v => !Fp.finite v).length, malformed := l.malformed } } ∧
      SameBytes t u) ∧
  (∀ (s t : State) (id : Nat) (c : Ctx) (q : Queue) (x : XCmd) (src dst : Desc) (g : Nat × Nat) (d : XDone),
    Running s id 0x1001 c q → s.xBegin c 0x1001 = .ok x →
    s.conversion x (fun _ => true) (fun f => f ≤ 9) false = .ok (src, dst) → s.convert c x src dst = .ok (t, d) →
    t.aheadOfCopy = some g →
    Completes (exec (.quantize id) s) fun u => SameBytes s u ∧ u.ctx? id = some c)
/-- The optimizer commands, applied and skipped (R172 to R178, R188). -/
def Obligations.OptimizerCommandsComplete : Prop :=
  ∀ (i : Instr) (op id : Nat), (i, op) ∈ [(Instr.adamw id, 0x1020), (Instr.lion id, 0x1021),
      (Instr.sgdMomentum id, 0x1022), (Instr.factored id, 0x1023)] →
    ∀ (s : State) (c : Ctx) (q : Queue) (x : XCmd) (p : OptCmd),
      Running s id op c q → s.xBegin c op = .ok x → s.optPrepare op x = .ok p →
      (x.optFactor p.o = .ok none → s.aheadOfCopy = none →
        Completes (exec i s) fun u => XEnded u id { detail := 1, lanes := p.lanes } ∧ SameBytes s u ∧
          u.e 0x2303 2 = (s.e 0x2303 2 + 1) % 2 ^ 64) ∧
      (∀ (k : Fl) (l : Loaded), x.optFactor p.o = .ok (some k) → loadTensor x.rd p.grad = .ok l →
        (op = 0x1023 → (l.values.any fun v => !Fp.finite (Fp.mul32 v k)) = true → s.aheadOfCopy = none →
          Completes (exec i s) fun u =>
            XEnded u id { detail := 1, lanes := p.lanes, counts := { (default : Counts) with malformed := l.malformed } } ∧
            SameBytes s u ∧ u.e 0x2303 2 = (s.e 0x2303 2 + 1) % 2 ^ 64) ∧
        (∀ (xs : List Elem) (facs : List (Nat × Bytes)) (t v : State) (used bad : Nat) (n : Counts),
          bad = ((l.values.map fun y => Fp.mul32 y k).filter fun g => !Fp.finite g).length → (op = 0x1023 → bad = 0) →
          p.o.update x.rd (p.o.consts x.step k) (l.values.map fun y => Fp.mul32 y k) = .ok (xs, facs) →
          s.writeAll c.cabinet (p.o.writes xs facs) = .ok t →
          (t.bump 0x2303 1 (p.o.count - bad)).optStoreOut c.cabinet x p.outs xs = .ok (v, used, n) →
          v.aheadOfCopy = none →
          Completes (exec i s) fun u =>
            XEnded u id { counts := ({ (default : Counts) with nonfinite := bad, malformed := l.malformed } : Counts).add n
                          lanes := p.lanes, heapUsed := used } ∧
            SameBytes v u ∧ u.e 0x2303 1 = (s.e 0x2303 1 + (p.o.count - bad)) % 2 ^ 64))
/-- BLOCK_SCORE, ADAPTER_APPLY, the self-check and the opening of an ordered accumulation (R154, R182, R183, R185, R190, R191). -/
def Obligations.ScoringAndTilesComplete : Prop :=
  (∀ (s t : State) (id m1 m2 : Nat) (c : Ctx) (q : Queue) (x : XCmd) (k : ScoreCmd) (qb sb : List DotBlock),
    Running s id 0x1030 c q → s.xBegin c 0x1030 = .ok x → s.scoring x = .ok k →
    loadDot x.rd k.q = .ok (qb, m1) → loadDot x.rd k.s = .ok (sb, m2) →
    s.writeAll c.cabinet (k.writes (k.scores qb sb)) = .ok t → t.aheadOfCopy = none →
    Completes (exec (.blockScore id) s) fun u =>
      XEnded u id { detail := (selectBlocks (k.scores qb sb) k.nb k.topk k.sink k.recent).length, lanes := 1
                    counts := { (default : Counts) with malformed := m1 + m2 } } ∧ SameBytes t u) ∧
  (∀ (s t : State) (id used mal : Nat) (c : Ctx) (q : Queue) (x : XCmd) (k : AdapterCmd) (bl : Loaded) (ps : List Fl)
    (n : Counts), Running s id 0x1040 c q → s.xBegin c 0x1040 = .ok x → s.adapting x = .ok k →
    loadTensor x.rd k.base = .ok bl → x.deltas k = .ok (ps, mal) →
    s.storeTensor c.cabinet k.dst x.pol x.rnd ((ps.zip bl.values).map fun p => Fp.fma32 k.alpha p.1 p.2) = .ok (t, used, n) →
    t.aheadOfCopy = none →
    Completes (exec (.adapterApply id) s) fun u =>
      XEnded u id { counts := { n with malformed := bl.malformed + mal }, lanes := if k.ats = [] then 0 else 1
                    heapUsed := used } ∧ SameBytes t u) ∧
  (∀ (s : State) (r : ActReq), Granted s r 0x2300 3 → s.transform.selfcheckBy = 0 →
    Completes (exec (.selfcheckRun r) s) fun t =>
      t.transform.selfcheckBy = 2 ∧ t.transform.selfcheckStart = s.now ∧ t.e 0x2300 2 = 1 ∧ SameBytes s t) ∧
  (∀ (s : State) (r : ActReq), Granted s r 0x2300 3 → s.transform.selfcheckBy ≠ 0 →
    Completes (exec (.selfcheckRun r) s) fun t => t.transform = s.transform ∧ SameBytes s t) ∧
  (∀ (s : State) (m : BitVec 64), s.faults.safe = false → s.transform.selfcheckBy = 2 → s.transformBusy = false →
    Completes (exec (.selfcheckComplete m) s) fun t =>
      (∀ k < 64, bit (t.e 0x2300 1) k = m.getLsbD k) ∧ t.e 0x2300 2 = (if m = 0 then 3 else 2) ∧
      t.transform.selfcheckBy = 0 ∧ SameBytes s t) ∧
  (∀ (s : State) (m : BitVec 64) (qd : Nat) (rest : List Nat), s.faults.safe = false → s.transform.selfcheckBy = 0 →
    s.transform.quadrantRetest = qd :: rest → qd < 4 →
    Completes (exec (.selfcheckComplete m) s) fun t =>
      (∀ k < 64, bit (t.e 0x2300 1) k = if k / 16 = qd then m.getLsbD k else bit (s.e 0x2300 1) k) ∧
      t.transform.quadrantRetest = rest ∧ SameBytes s t) ∧
  (∀ (s : State) (g o sh ch lv : Nat) (a : OrderedAcc),
    (s.transform.accs.find? fun a => a.named g o sh ch lv && !a.isOpen) = some a →
    Completes (exec (.accumulationOpen g o sh ch lv) s) fun t =>
      (if sumNat (s.transform.accs.map OrderedAcc.occupied) + 2 * a.unit ≤ s.transform.benchOrder then
        ∀ b ∈ t.transform.accs, b.named g o sh ch lv = true → b.isOpen = true
      else t.transform = s.transform) ∧ t.dict = s.dict ∧ SameBytes s t)
/-- The triggers of IA0 and IA1 (R201, R203, R204, R221). -/
def Obligations.IntegerTriggersCompute : Prop :=
  ∀ (s : State) (core alu : Nat) (c : Core) (t o v : W32) (i : Instr),
    alu < 2 → s.core? core = some c → s.executes c = true → o = c.port (4 + alu) 0 →
    (i, v) ∈ [
      (Instr.addTrigger core alu t, BitVec.ofNat 32 (o.toNat + t.toNat)), (.sub core alu t, BitVec.ofInt 32 (o.toInt - t.toInt)),
      (.and core alu t, o &&& t), (.orTrigger core alu t, o ||| t), (.xor core alu t, o ^^^ t),
      (.shl core alu t, BitVec.ofNat 32 (o.toNat * 2 ^ (t.toNat % 32))),
      (.shr core alu t, BitVec.ofNat 32 (o.toNat / 2 ^ (t.toNat % 32))),
      (.sar core alu t, BitVec.ofInt 32 (o.toInt / 2 ^ (t.toNat % 32))),
      (.eq core alu t, if o = t then 1 else 0), (.ne core alu t, if o ≠ t then 1 else 0),
      (.lts core alu t, if o.toInt < t.toInt then 1 else 0), (.ltu core alu t, if o.toNat < t.toNat then 1 else 0),
      (.mins core alu t, BitVec.ofInt 32 (min o.toInt t.toInt)), (.maxs core alu t, BitVec.ofInt 32 (max o.toInt t.toInt)),
      (.carry core alu t, BitVec.ofNat 32 ((o.toNat + t.toNat) / 2 ^ 32)), (.pass core alu t, t)] →
    Completes (exec i s) fun u => Launched u c (4 + alu) 1 v 1 c.ports ∧ u.dict = s.dict ∧ SameBytes s u
/-- The triggers of MUL and FPU (R201, R203, R205, R206, R221). -/
def Obligations.ScalarTriggersCompute : Prop :=
  ∀ (s : State) (core : Nat) (c : Core) (t : W32), s.core? core = some c → s.executes c = true →
    (∀ (i : Instr) (o v : W32), o = c.port 6 0 → (i, v) ∈ [
        (Instr.mullo core t, BitVec.ofNat 32 (o.toNat * t.toNat)),
        (.mulhs core t, BitVec.ofInt 32 (o.toInt * t.toInt / 2 ^ 32)),
        (.mulhu core t, BitVec.ofNat 32 (o.toNat * t.toNat / 2 ^ 32))] →
      Completes (exec i s) fun u => Launched u c 6 1 v 2 c.ports ∧ u.dict = s.dict ∧ SameBytes s u) ∧
    (∀ (i : Instr) (x y z : Fl) (v : W32) (l : Nat), x = fl (c.port 7 0) → y = fl (c.port 7 1) → z = fl t → (i, v, l) ∈ [
        (Instr.fadd core t, wf (Fp.add32 x z), 3), (.fsub core t, wf (Fp.sub32 x z), 3),
        (.fmul core t, wf (Fp.mul32 x z), 3), (.ffma core t, wf (Fp.fma32 x y z), 3),
        (.fmin core t, wf (if Fp.isNan x then z else if Fp.isNan z || Fp.lt x z then x
          else if Fp.isZero x && Fp.isZero z && Fp.negative x then x else z), 3),
        (.fmax core t, wf (if Fp.isNan x then z else if Fp.isNan z || Fp.lt z x then x
          else if Fp.isZero x && Fp.isZero z && Fp.negative z then x else z), 3),
        (.flt core t, if Fp.lt x z then 1 else 0, 3), (.feq core t, if Fp.eq x z then 1 else 0, 3),
        (.i2f core t, wf (Fp.int fp32 t.toInt), 3),
        (.f2bf core t, BitVec.ofNat 32 (Fp.to16 (Fp.toFormat bf16 z)), 3),
        (.bf2f core t, wf (Fp.of16 (t.toNat % 65536)), 3),
        (.fdiv core t, wf (Fp.div32 x z), 10), (.fsqrt core t, wf (Fp.sqrt32 z), 10)] →
      Completes (exec i s) fun u => Launched u c 7 2 v l c.ports ∧ u.dict = s.dict ∧ SameBytes s u) ∧
    (∃ v : W32, (Fp.isNan (fl t) = true → v = 0) ∧
      (∀ (a : Bool) (m e : Nat), fl t = .fin a m e →
        v.toInt = max (-2 ^ 31) (min (2 ^ 31 - 1) (if a then -((m * 2 ^ e : Nat) : Int) else ((m * 2 ^ e : Nat) : Int)))) ∧
      Completes (exec (.f2i core t) s) fun u => Launched u c 7 2 v 3 c.ports ∧ u.dict = s.dict ∧ SameBytes s u)
/-- The memory triggers of a tile core (R207 to R211, R233). -/
def Obligations.TileMemoryTriggersCompute : Prop :=
  (∀ (s : State) (core bank n a d : Nat) (c : Core) (t : W32) (ports : List (Nat × W32)) (k ptr stride off : Nat) (i j : Instr),
    s.sound → s.core? core = some c → core < 64 → bank < 2 → s.executes c = true →
    (bits t.toNat 29 28, n) ∈ [(0, 4), (1, 2), (2, 1)] → bits t.toNat 25 20 = 0 →
    k = bits t.toNat 31 30 → ptr = (c.port (8 + bank) (4 + k)).toNat → stride = (c.port (8 + bank) (8 + k)).toNat →
    off = bits t.toNat 19 0 → (i, j, a, ports) ∈ [
      (Instr.ld core bank t, Instr.st core bank t, off, c.ports),
      (.ldpi core bank t, .stpi core bank t, ptr % 2 ^ 20,
        putKey c.ports (portId (8 + bank) (4 + k)) (BitVec.ofNat 32 ((ptr + stride) % 2 ^ 20))),
      (.ldpd core bank t, .stpd core bank t, (ptr + 2 ^ 32 - stride) % 2 ^ 20,
        putKey c.ports (portId (8 + bank) (4 + k)) (BitVec.ofNat 32 ((ptr + 2 ^ 32 - stride) % 2 ^ 20))),
      (.ldx core bank t, .stx core bank t, (ptr + off * 2 ^ bits t.toNat 27 26) % 2 ^ 20, c.ports)] →
    a % n = 0 → c.windowOk a n = true → d = core * 0x100000 + a →
    (s.badUnit d n = none → Completes (exec i s) fun u =>
      Launched u c (8 + bank) 1 (BitVec.ofNat 32 (s.readNat d n)) 2 ports ∧ u.dict = s.dict ∧ SameBytes s u) ∧
    Completes (exec j s) fun u =>
      (∃ c', u.core? core = some c' ∧ c'.ports = ports ∧ c'.inFlight = c.inFlight ∧ c'.ga = c.ga ∧ c'.gb = c.gb) ∧
      u.dict = s.dict ∧ Wrote s u d (toLe n (c.port (8 + bank) 0).toNat)) ∧
  (∀ (s : State) (core n px py : Nat) (c : Core) (t a b acc v : W32), s.core? core = some c → core < 64 →
    s.executes c = true → n = bits t.toNat 1 0 → bits t.toNat 31 5 = 0 → px = (c.port 10 0).toNat →
    py = (c.port 10 1).toNat → px % 4 = 0 → py % 4 = 0 → c.bankOk 0 px = true → c.bankOk 0x60000 py = true →
    s.badUnit (core * 0x100000 + px) 4 = none → s.badUnit (core * 0x100000 + py) 4 = none →
    a = BitVec.ofNat 32 (s.readNat (core * 0x100000 + px) 4) → b = BitVec.ofNat 32 (s.readNat (core * 0x100000 + py) 4) →
    acc = (if bit t.toNat 4 then 0 else c.accOf n) →
    (bits t.toNat 3 2, v) ∈ [(0, wf (Fp.fma32 (fl a) (fl b) (fl acc))),
      (1, wf (Fp.add32 (fl acc) (Fp.addExact (Fp.mulExact (Fp.of16 (a.toNat % 65536)) (Fp.of16 (b.toNat % 65536)))
        (Fp.mulExact (Fp.of16 (a.toNat / 65536)) (Fp.of16 (b.toNat / 65536)))))),
      (2, acc + ((a.extractLsb' 0 8).signExtend 32 * (b.extractLsb' 0 8).signExtend 32 +
        (a.extractLsb' 8 8).signExtend 32 * (b.extractLsb' 8 8).signExtend 32 +
        (a.extractLsb' 16 8).signExtend 32 * (b.extractLsb' 16 8).signExtend 32 +
        (a.extractLsb' 24 8).signExtend 32 * (b.extractLsb' 24 8).signExtend 32))] →
    Completes (exec (.mac core t) s) fun u =>
      Launched u c 10 (4 + n) v 4 (putKey (putKey c.ports (portId 10 0) (c.port 10 0 + c.port 10 2)) (portId 10 1)
        (c.port 10 1 + c.port 10 3)) ∧ u.dict = s.dict ∧ SameBytes s u)
/-- The vector unit and the kernel DMA (R212 to R216, R233, R235). -/
def Obligations.VectorAndTransferTriggersComplete : Prop :=
  (∀ (s : State) (core op n : Nat) (c : Core) (t : W32) (i : Instr), s.core? core = some c → core < 64 →
    s.executes c = true → (i, op) ∈ [(Instr.vadd core t, 16), (.vmul core t, 17), (.vmax core t, 18), (.vfma core t, 19)] →
    n = (c.port 11 3).toNat → 256 ≤ n → n ≤ 65536 → n % 256 = 0 →
    (∀ p < 3, (c.port 11 p).toNat % 1024 = 0 ∧ c.windowOk (c.port 11 p).toNat (4 * n) = true) → c.vecOps.length < 4 →
    Completes (exec i s) fun u => (∃ c', u.core? core = some c' ∧ c'.stall = 0 ∧ c'.ports = c.ports ∧
      c'.vecOps = c.vecOps ++ [{ op := op, srcA := (c.port 11 0).toNat, srcB := (c.port 11 1).toNat
                                 dst := (c.port 11 2).toNat, count := n }]) ∧ u.dict = s.dict ∧ SameBytes s u) ∧
  (∀ (s : State) (core : Nat) (c : Core) (t : W32), s.core? core = some c → core < 64 → s.executes c = true →
    Completes (exec (.vwait core t) s) fun u =>
      (∃ c', u.core? core = some c' ∧ c'.vecOps = c.vecOps ∧ (c'.stall ≠ 0 ↔ c.vecOps ≠ [])) ∧ SameBytes s u) ∧
  (∀ (s : State) (core len rem : Nat) (c : Core) (t : W32) (i : Instr) (put : Bool), s.core? core = some c →
    s.executes c = true → (i, put) ∈ [(Instr.dmaGet core t, false), (.dmaPut core t, true)] → len = (c.port 12 0).toNat →
    rem = (c.port 12 2).toNat * 2 ^ 32 + (c.port 12 1).toNat → 4 ≤ len → len ≤ 65536 → len % 4 = 0 → t.toNat % 4 = 0 →
    rem % 4 = 0 → c.dmaLocalOk t.toNat len = true → c.dmaOps.length < 16 →
    Completes (exec i s) fun u => (∃ c', u.core? core = some c' ∧ c'.stall = 0 ∧ c'.ports = c.ports ∧
      c'.dmaOps = c.dmaOps ++ [{ put := put, len := len, remote := rem, offset := t.toNat }]) ∧
      u.dict = s.dict ∧ SameBytes s u) ∧
  (∀ (s : State) (core : Nat) (c : Core) (t : W32), s.core? core = some c → s.executes c = true →
    Completes (exec (.dmaWait core t) s) fun u =>
      (∃ c', u.core? core = some c' ∧ c'.dmaOps = c.dmaOps ∧ (c'.stall ≠ 0 ↔ c.dmaOps ≠ [])) ∧ SameBytes s u) ∧
  (∀ (s : State) (core : Nat) (c : Core) (v : VecOp) (rest : List VecOp), s.sound → s.core? core = some c →
    s.faults.safe = false → c.vecOps = v :: rest → s.vecBad c.memBase v = none → c.stall ≠ 5 →
    Completes (exec (.vecOperationDone core) s) fun u =>
      (∃ c', u.core? core = some c' ∧ c'.vecOps = rest ∧ (c.stall = 1 → (c'.stall = 0 ↔ rest = []))) ∧
      Wrote s u (c.memBase + v.dst) (s.vecResult c.memBase v)) ∧
  (∀ (s : State) (core which : Nat) (c : Core) (d : DmaOp) (b : Bytes), s.sound → s.core? core = some c →
    s.faults.safe = false → c.dmaOps[which]? = some d → d.put = false →
    s.readCab (s.dmaCabinet c) d.remote d.len = .ok b → s.aheadOfCopy = none → c.stall ≠ 5 →
    Completes (exec (.kernelDmaDone core which) s) fun u =>
      (∃ c', u.core? core = some c' ∧ c'.dmaOps = c.dmaOps.eraseIdx which ∧
        (c.stall = 2 → (c'.stall = 0 ↔ c.dmaOps.eraseIdx which = []))) ∧ Wrote s u (c.memBase + d.offset) b) ∧
  (∀ (s t : State) (core which : Nat) (c : Core) (d : DmaOp), s.core? core = some c →
    s.faults.safe = false → c.dmaOps[which]? = some d → d.put = true → s.badUnit (c.memBase + d.offset) d.len = none →
    s.writeAll (s.dmaCabinet c) [(d.remote, s.readDev (c.memBase + d.offset) d.len)] = .ok t → t.aheadOfCopy = none →
    c.stall ≠ 5 →
    Completes (exec (.kernelDmaDone core which) s) fun u =>
      (∃ c', u.core? core = some c' ∧ c'.dmaOps = c.dmaOps.eraseIdx which ∧
        (c.stall = 2 → (c'.stall = 0 ↔ c.dmaOps.eraseIdx which = []))) ∧ SameBytes t u)
/-- Branches, privilege and sync triggers (R201, R217, R222, R224, R225). -/
def Obligations.ControlFlowTriggersComplete : Prop :=
  (∀ (s : State) (core : Nat) (c : Core) (t : W32) (i : Instr) (dest : Nat), s.core? core = some c →
    s.executes c = true → (i, dest) ∈ [(Instr.jmp core t, t.toNat), (.call core t, t.toNat),
      (.ret core t, (c.port 13 0).toNat)] →
    Completes (exec i s) fun u =>
      (∃ c', u.core? core = some c' ∧ c'.jump = some (dest, 2) ∧ c'.pc = c.pc ∧ c'.stall = 0 ∧ c'.running = true) ∧
      (i = .call core t → Launched u c 13 0 (BitVec.ofNat 32 (c.pc + 3)) 3 c.ports) ∧ u.dict = s.dict ∧ SameBytes s u) ∧
  (∀ (s : State) (core : Nat) (c : Core) (t : W32), s.core? core = some c → core < 64 → s.executes c = true →
    Completes (exec (.halt core t) s) fun u => (∃ c', u.core? core = some c' ∧
      (if c.vecOps = [] ∧ c.dmaOps = [] then c'.running = false ∧ c'.kernel = none
       else c'.running = true ∧ c'.stall = 5 ∧ c'.kernel = c.kernel)) ∧ SameBytes s u) ∧
  (∀ (s : State) (core : Nat) (c : Core) (t : W32), s.core? core = some c → 64 ≤ core → s.executes c = true →
    c.monitor = true →
    Completes (exec (.rft core t) s) fun u =>
      (∃ c', u.core? core = some c' ∧ c'.jump = some (c.trapWord.toNat + 1, 2) ∧ c'.returning = true ∧ c'.pc = c.pc) ∧
      u.dict = s.dict ∧ SameBytes s u) ∧
  (∀ (s : State) (core : Nat) (c : Core) (t : W32), s.core? core = some c → 64 ≤ core → s.executes c = true →
    c.monitor = false →
    Completes (exec (.svc core t) s) fun u =>
      (∃ c', u.core? core = some c' ∧ c'.monitor = true ∧ c'.cause = 0x08 ∧ c'.trapWord = BitVec.ofNat 32 c.pc ∧
        c'.trapValue = t ∧ c'.pc = c.vector.toNat - c.vector.toNat % 16 ∧ c'.jump = none ∧ c'.ga = c.ga ∧ c'.ports = c.ports) ∧
      u.dict = s.dict ∧ SameBytes s u) ∧
  (∀ (s : State) (core : Nat) (c : Core) (t : W32), s.core? core = some c → 64 ≤ core → s.executes c = true →
    c.monitor = false →
    Completes (exec (.rft core t) s) fun u =>
      (∃ c', u.core? core = some c' ∧ c'.monitor = true ∧ c'.cause = 0x07 ∧ c'.trapWord = BitVec.ofNat 32 c.pc) ∧
      u.e 0x2403 0 = (s.e 0x2403 0 + 1) % 2 ^ 64 ∧ SameBytes s u) ∧
  (∀ (s : State) (core : Nat) (c : Core) (t : W32), s.core? core = some c → 64 ≤ core → s.executes c = true →
    Completes (exec (.syncSignal core t) s) fun u =>
      u.contract = (s.signalHandle (c.port 18 0).toNat t.toNat
        (BitVec.ofNat 64 ((c.port 18 2).toNat * 2 ^ 32 + (c.port 18 1).toNat))).contract) ∧
  (∀ (s : State) (core h : Nat) (c : Core) (t v : W32) (o : SyncObj) (i : Instr), s.core? core = some c → 64 ≤ core →
    s.executes c = true → h = (c.port 18 0).toNat → handleKind h = 1 →
    s.sync? (handleCabinet h) (handleIndex h) = some o →
    (i, v) ∈ [(Instr.readLo core t, o.value.extractLsb' 0 32), (.readHi core t, o.value.extractLsb' 32 32),
      (.readErr core t, if o.err then 1 else 0)] →
    Completes (exec i s) fun u => Launched u c 18 3 v 2 c.ports ∧ u.dict = s.dict ∧ SameBytes s u) ∧
  (∀ (s : State) (core : Nat) (c : Core), s.core? core = some c → 64 ≤ core → s.faults.safe = false → c.loadWait = true →
    c.stall = 0 →
    Completes (exec (.deviceWindowLoadReturn core) s) fun u =>
      (∃ c', u.core? core = some c' ∧ c' = { c with loadWait := false }) ∧ u.dict = s.dict ∧ SameBytes s u)
/-- Kernels from launch to stop (R186, R187, R200, R217, R228, R230 to R239). -/
def Obligations.KernelLaunchesRun : Prop :=
  (∀ (s : State) (id : Nat) (c : Ctx) (q : Queue) (x : XCmd) (hdr b : Bytes), Running s id 0x1050 c q →
    s.xBegin c 0x1050 = .ok x → firstErr (launchChecks x.ob) = none → s.kernelGate c.cabinet = .ok () →
    field x.ob 32 4 = 0 → s.readCab c.cabinet (field x.ob 16 8) 128 = .ok hdr → headerFault hdr (imageOf hdr) = none →
    s.readCab c.cabinet (field x.ob 16 8) (imageOf hdr).extent = .ok b → (imageOf hdr).nondet = false →
    s.cores.imageCache = [] → verifyCode (slice b (imageOf hdr).codeOff (imageOf hdr).codeLen) (imageOf hdr) = none →
    Completes (exec (.kernelLaunch id) s) fun u =>
      (if digestOk b then
        (∃ c', u.ctx? id = some c' ∧ c'.finished = false ∧ c'.waiting = true ∧ c'.launched = 0 ∧ c'.progress = 0) ∧
        u.cores.imageCache = [slice b 64 48] ∧ u.e 0x2401 2 = (s.e 0x2401 2 + 1) % 2 ^ 64 ∧ SameBytes s u
      else Ended u id stDigestMismatch 0 ∧ u.cores = s.cores ∧ u.e 0x2401 3 = (s.e 0x2401 3 + 1) % 2 ^ 64)) ∧
  (∀ (s : State) (id tile a0 a1 a2 : Nat) (c : Ctx) (core : Core) (ob image params : Bytes), s.sound → tile < 64 →
    s.ctx? id = some c → s.core? tile = some core → c.captured = [(a0, ob), (a1, image), (a2, params)] →
    isCommand 0x1050 s c = true → c.waiting = true → c.finished = false → s.faults.safe = false → c.traps = [] →
    c.launched < field ob 36 4 → s.tileFree tile core = true → (imageOf image).xLen ≤ 0x60000 →
    Completes (exec (.kernelInstanceStart id tile) s) fun u =>
      (∃ c', u.core? tile = some c' ∧ c'.running = true ∧ c'.pc = (imageOf image).entry ∧ c'.words = 0 ∧ c'.ports = [] ∧
        c'.gb = List.replicate 32 0 ∧ c'.inFlight = [] ∧ c'.notReady = [] ∧ c'.ga.getD 0 0 = BitVec.ofNat 32 c.launched ∧
        c'.ga.getD 2 0 = BitVec.ofNat 32 (field ob 32 4) ∧
        (∀ r < 32, r ∉ [0, 1, 2, 30] → c'.ga.getD r 1 = 0)) ∧
      (∃ c', u.ctx? id = some c' ∧ c'.launched = c.launched + 1) ∧
      (∀ k < (imageOf image).xLen, Memory.get u.mem (tile * 0x100000 + k) = 0)) ∧
  (∀ (s s' : State) (core : Nat) (c c' : Core) (k : KernelWin) (w : Bytes) (ms : List Mv), s.core? core = some c →
    core < 64 → s.executes c = true → c.kernel = some k → c.words < k.budget → s.fetchWord c.landResults = .ok w →
    movesOf (slotsOf w) = some ms → wordRule c.hasUnit ms (fun m => some (s.mvValue c.landResults m)) = none →
    c.landResults.distanceOk ms = true →
    s.issueMoves c.landResults (ms.filter c.landResults.guardOpen) = .ok s' c' → c'.stall ≠ 5 →
    Completes (exec (.wordIssue core) s) fun u =>
      (∃ d, u.core? core = some d ∧ d.words = c.words + 1 ∧
        d.pc = (match c.jump with | some (t, 0) => t | some (t, 1) => t | _ => c.pc + 1) ∧
        ((∀ m ∈ ms, m.dst / 32 = 1) → c.ga.length = 32 → ∀ r < 32,
          d.ga.getD r 0 = (match (ms.filter c.guardOpen).find? fun m => m.dst == 32 + r with
            | some m => s.mvValue c.landResults m
            | none => c.ga.getD r 0)))) ∧
  (∀ (s : State) (core : Nat) (c : Core) (k : KernelWin) (x : Ctx), s.core? core = some c → c.kernel = some k →
    s.ctx? k.ctx = some x → s.faults.safe = false → k.budget ≤ c.words → c.stall ≠ 5 →
    Completes (exec (.budget core) s) fun u =>
      (∃ c', u.core? core = some c' ∧ c'.running = false ∧ c'.kernel = none) ∧
      (∃ x', u.ctx? k.ctx = some x' ∧
        (k.instNum, 0x0701, 0x80 * 2 ^ 56 + 0x05 * 2 ^ 48 + k.instNum * 2 ^ 32 + c.pc % 2 ^ 20) ∈ x'.traps) ∧
      u.e 0x2402 2 = (s.e 0x2402 2 + 1) % 2 ^ 64 ∧ SameBytes s u) ∧
  (∀ (s : State) (r : ActReq), Granted s r 0x2401 1 →
    Completes (exec (.imageCacheFlush r) s) fun u =>
      u.cores.imageCache = [] ∧ u.cores.cores = s.cores.cores ∧ SameBytes s u)
/-- The Move engine and the upkeep of the tiers (R244, R247, R248, R250, R255 to R259). -/
def Obligations.MoveCommandsAndTierUpkeepComplete : Prop :=
  (∀ (s t : State) (id : Nat) (c : Ctx) (q : Queue) (i : Instr) (rs : List CopyRun),
    (i = .copy id ∧ Running s id 0x0001 c q ∧ rs = [copyRun c.record] ∧ 0 < (copyRun c.record).len ∧
        (copyRun c.record).len ≤ 2 ^ 40 ∨
      i = .copyList id ∧ Running s id 0x0002 c q ∧ reservedErr c.record [(0, 12)] = none ∧ arg c.record 0 8 % 64 = 0 ∧
        0 < arg c.record 8 4 ∧ arg c.record 8 4 ≤ 65536 ∧
        ∃ b, s.readCab c.cabinet (arg c.record 0 8) (32 * arg c.record 8 4) = .ok b ∧
          rs = (listRuns (arg c.record 8 4) b).map (·.1) ∧
          (∀ e ∈ listRuns (arg c.record 8 4) b, e.2 = 0 ∧ 0 < e.1.len ∧ e.1.len ≤ 2 ^ 32)) →
    s.reading id = false → runsClash rs = false → s.checkRuns c.cabinet rs = .ok () →
    ((∀ p ∈ rs.flatMap (s.runPieces c.cabinet), s.linkOf p.2.2.2 = none) →
      s.copyPieces c.cabinet s (rs.flatMap (s.runPieces c.cabinet)) = .ok t → t.aheadOfCopy = none →
      Completes (exec i s) fun u => Ended u id 0 (sumNat (rs.map (·.len))) ∧ SameBytes t u) ∧
    (s.moveRuns c rs = .ok t → t.aheadOfCopy = none →
      Completes (exec i s) fun u => u.contract = t.contract ∧ u.ports = t.ports ∧ SameBytes t u)) ∧
  (∀ (s : State) (id n : Nat) (c : Ctx) (q : Queue) (bs : Bytes) (ps : List (Nat × Nat)), Running s id 0x0003 c q →
    n = arg c.record 8 8 → arg c.record 0 8 % 8 = 0 → n % 8 = 0 → 0 < n → n ≤ 2 ^ 40 →
    s.reach c.cabinet (arg c.record 0 8) n .write = .ok ps →
    bs = (List.replicate (n / 8) (toLe 8 (arg c.record 16 8))).flatten →
    (s.putCab c.cabinet (arg c.record 0 8) bs).aheadOfCopy = none →
    Completes (exec (.fill id) s) fun u =>
      Ended u id 0 n ∧ SameBytes (s.putCab c.cabinet (arg c.record 0 8) bs) u) ∧
  (∀ (s : State) (id : Nat) (c : Ctx) (q : Queue), Running s id 0x0010 c q →
    reservedErr c.record [(0, 2), (8, 16)] = none →
    (c.cabinet = 0 → arg c.record 8 8 % 65536 = 0 → arg c.record 16 8 % 65536 = 0 →
      (s.cabinet? (arg c.record 0 2)).isSome = true → Completes (exec (.invalidate id) s) fun u => Ended u id 0 0) ∧
    (c.cabinet ≠ 0 → Completes (exec (.invalidate id) s) fun u => Ended u id stSecurityRefused 0)) ∧
  (∀ (s : State) (a : Nat), s.sound → s.faults.safe = false → s.tiers.selfRefresh = false →
    a = 0x10000000000 + 64 * s.tiers.scrubNext →
    Completes (exec .patrolScrub s) fun t =>
      t.tiers.scrubNext = (if 64 * (s.tiers.scrubNext + 1) < s.e 0x2500 0 then s.tiers.scrubNext + 1 else 0) ∧
      (a ∈ s.tiers.badUnits → t.e 0x2502 1 = min 256 (s.e 0x2502 1 + 1) ∧ t.tiers.badUnits = s.tiers.badUnits) ∧
      SameBytes s t) ∧
  (∀ (s : State) (p a : Nat), p < 4 → s.faults.safe = false → s.e 0x2E05 0 ≤ 1 →
    s.cxlAddr p (64 * s.tiers.cxlScrubNext.getD p 0) = some a →
    Completes (exec (.cxlScrub p) s) fun t =>
      t.tiers.cxlScrubNext = s.tiers.cxlScrubNext.set p (s.tiers.cxlScrubNext.getD p 0 + 1) ∧
      (∀ u, s.badUnit a 64 = some u → t.e 0x2502 1 = min 256 (s.e 0x2502 1 + 1)) ∧ SameBytes s t) ∧
  (∀ s : State, s.faults.safe = false → s.tiers.selfRefresh = false →
    Completes (exec .gddr7Refresh s) fun t => t.tiers.refreshes = s.tiers.refreshes + 1 ∧ t.dict = s.dict ∧ SameBytes s t) ∧
  (∀ (s : State) (id : Nat) (c : Ctx) (q : Queue), s.ctx? id = some c → c.finished = false → c.waiting = false →
    s.held c = false → s.queue? c.queue = some q → c.startTime + s.e 0x2501 6 ≤ s.now →
    (s.tiers.cxlBytes.any fun n => decide (0 < n)) = true →
    ∃ a, 0x100000000000 ≤ a ∧ a < 0x10000000000000 ∧ a % 64 = 0 ∧
      Completes (exec (.cxlTimeout id) s) fun u => Ended u id stEccUncorrectable a) ∧
  (∀ (s : State) (p : Nat), p < 4 →
    Completes (exec (.cxlLinkDown p) s) fun t => t.tiers.cxlUp = s.tiers.cxlUp.set p false ∧ t.dict = s.dict ∧ SameBytes s t) ∧
  (∀ (s : State) (p : Nat), p < 4 →
    Completes (exec (.cxlLinkRetrained p) s) fun t => t.tiers.cxlUp = s.tiers.cxlUp.set p true ∧ t.dict = s.dict ∧ SameBytes s t)
/-- The lease commands, loads, appends and lease breaks of sequences (R260 to R272). -/
def Obligations.SequenceCommandsComplete : Prop :=
  (∀ (s t : State) (id a : Nat) (c : Ctx) (q : Queue) (b : Bytes), Running s id 0x4001 c q →
    reservedErr c.record [(0, 8)] = none → a = arg c.record 0 8 → a % 64 = 0 → s.resident? c.cabinet a = none →
    s.readCab c.cabinet a 64 = .ok b → (parseSeq b).state = 0 → s.seqErr c.cabinet (parseSeq b) = .ok () →
    s.writeAll c.cabinet [(a, { parseSeq b with state := 1, committed := 0, note := 0, leaseQueue := 0, leaseEpoch := 0
                                                leaseExpiry := 0, commits := 0 }.bytes)] = .ok t → t.aheadOfCopy = none →
    Completes (exec (.seqInit id) s) fun u => Ended u id 0 0 ∧ SameBytes t u) ∧
  (∀ (s t : State) (id a ms detail : Nat) (c : Ctx) (q : Queue) (b : Bytes) (d : Seq), Running s id 0x4002 c q →
    reservedErr c.record [(0, 13)] = none → a = arg c.record 0 8 → a % 64 = 0 → ms = arg c.record 8 4 → ms ≤ 3600000 →
    arg c.record 12 1 ≤ 1 → s.resident? c.cabinet a = none → s.readCab c.cabinet a 64 = .ok b → d = parseSeq b →
    d.state = 1 → s.lockSeq c a d ms = .ok (t, detail) → t.aheadOfCopy = none →
    detail = (if bit d.note 0 then 2 ^ 32 else 0) + d.committed ∧
    Completes (exec (.seqAcquire id) s) fun u => Ended u id 0 detail ∧ SameBytes t u ∧
      (∃ r ∈ u.tiers.resident, r.cabinet = c.cabinet ∧ r.addr = a ∧ r.leaseMs = ms ∧ r.bytes =
        { d with state := 2, note := clearBit d.note 0, leaseQueue := queueHandle c.cabinet c.queue, leaseEpoch := q.epoch
                 leaseExpiry := if ms = 0 then 0 else s.now + ms * 1000000 }.bytes)) ∧
  (∀ (s : State) (id a : Nat) (c : Ctx) (q : Queue) (r : SeqDesc), Running s id 0x4002 c q →
    reservedErr c.record [(0, 13)] = none → a = arg c.record 0 8 → a % 64 = 0 → arg c.record 8 4 ≤ 3600000 →
    s.resident? c.cabinet a = some r → (parseSeq r.bytes).state = 2 → s.owns c (parseSeq r.bytes) = false →
    (arg c.record 12 1 = 1 → Completes (exec (.seqAcquire id) s) fun u =>
      (∃ c', u.ctx? id = some c' ∧ c'.finished = false ∧ c'.waiting = true) ∧
      (∃ r', u.resident? c.cabinet a = some r' ∧ r'.waiters = r.waiters ++ [id]) ∧ SameBytes s u) ∧
    (arg c.record 12 1 = 0 → s.aheadOfCopy = none →
      Completes (exec (.seqAcquire id) s) fun u => Ended u id stStateConflict 0x0511)) ∧
  (∀ (s t : State) (id a : Nat) (c : Ctx) (q : Queue) (r : SeqDesc) (d : Seq), Running s id 0x4003 c q →
    reservedErr c.record [(0, 8)] = none → a = arg c.record 0 8 → a % 64 = 0 → s.resident? c.cabinet a = some r →
    s.renewSeq c a (parseSeq r.bytes) = .ok (t, d) → r.waiters = [] →
    (t.putCab c.cabinet a { d with state := 1 }.bytes).aheadOfCopy = none →
    Completes (exec (.seqRelease id) s) fun u => Ended u id 0 0 ∧ u.resident? c.cabinet a = none ∧
      SameBytes (t.putCab c.cabinet a { d with state := 1 }.bytes) u) ∧
  (∀ (s s2 t : State) (id a off len : Nat) (c : Ctx) (q : Queue) (r : SeqDesc) (d : Seq) (k : Bytes) (bs : List (Nat × Nat))
    (data : List Bytes), Running s id 0x4004 c q → reservedErr c.record [(0, 24)] = none → a = arg c.record 0 8 →
    a % 64 = 0 → s.resident? c.cabinet a = some r → s.renewSeq c a (parseSeq r.bytes) = .ok (s2, d) → k = c.conts.headD [] →
    off = field k 0 4 → len = (if field k 4 4 = 0 then d.recBytes else field k 4 4) →
    firstErr (s2.loadChecks d c.record k) = none → s2.loadSources c.cabinet d c.record k = .ok bs →
    s2.readRuns c.cabinet (bs.flatMap fun p => loadReads d off len p.1 p.2) = .ok data →
    s2.writeAll c.cabinet (splitRuns (loadRuns d (arg c.record 8 8) len 0 (bs.map (·.1))) data.flatten) = .ok t →
    t.aheadOfCopy = none →
    Completes (exec (.seqLoad id) s) fun u => Ended u id 0 data.flatten.length ∧ SameBytes t u) ∧
  (∀ (s s2 t t1 t2 : State) (id a n : Nat) (c : Ctx) (q : Queue) (r : SeqDesc) (d : Seq)
    (ts : List ((Nat × Nat × Nat) × Nat)), Running s id 0x4005 c q → s.appendWaits c = false →
    reservedErr c.record [(0, 20)] = none → a = arg c.record 0 8 → a % 64 = 0 → s.resident? c.cabinet a = some r →
    s.renewSeq c a (parseSeq r.bytes) = .ok (s2, d) → n = arg c.record 16 4 → s2.appendTargets c.cabinet d n = .ok ts →
    s2.appendRecords c.cabinet d (arg c.record 8 8) ts = .ok t →
    t.appendSummaries c.cabinet d (d.committed + n) ts = .ok t1 →
    t1.writeAll c.cabinet [(a, { d with committed := d.committed + n, commits := (d.commits + 1) % 2 ^ 64 }.bytes)] = .ok t2 →
    t2.aheadOfCopy = none →
    Completes (exec (.seqAppend id) s) fun u => Ended u id 0 (d.committed + n) ∧ SameBytes t2 u ∧
      (∃ r', u.resident? c.cabinet a = some r' ∧
        r'.bytes = { d with committed := d.committed + n, commits := (d.commits + 1) % 2 ^ 64 }.bytes) ∧
      u.e 0x2503 4 = (t2.e 0x2503 4 + 1) % 2 ^ 64) ∧
  (∀ (s : State) (id a op : Nat) (c : Ctx) (q : Queue) (r : SeqDesc) (i : Instr),
    (i, op) ∈ [(Instr.seqRelease id, 0x4003), (.seqLoad id, 0x4004)] → Running s id op c q →
    reservedErr c.record [(0, if op = 0x4003 then 8 else 24)] = none → a = arg c.record 0 8 → a % 64 = 0 →
    s.resident? c.cabinet a = some r → s.owns c (parseSeq r.bytes) = false →
    Completes (exec i s) fun u => Ended u id stStateConflict 0x0512) ∧
  (∀ (s : State) (cab a : Nat) (r : SeqDesc), s.resident? cab a = some r → s.faults.safe = false →
    s.contract.activation ≠ 1 → field r.bytes 48 8 ≠ 0 → field r.bytes 48 8 ≤ s.now → r.waiters = [] →
    (∀ c ∈ s.contract.ctxs, c.finished = true) →
    Completes (exec (.leaseBreak cab a) s) fun u => u.resident? cab a = none ∧
      u.e 0x2503 3 = (s.e 0x2503 3 + 1) % 2 ^ 64 ∧ SameBytes (s.putCab cab a { parseSeq r.bytes with
        state := 1, note := setBit (parseSeq r.bytes).note 0 }.bytes) u)
/-- Shelves and prefetches (R275 to R278, R282, R274). -/
def Obligations.ShelfAndPrefetchCommandsComplete : Prop :=
  (∀ (s t : State) (id first n entries table landBytes : Nat) (c : Ctx) (q : Queue) (es : List ShelfEntry)
    (ws : List (Nat × Bytes)), Running s id 0x4010 c q → reservedErr c.record [(0, 23)] = none → arg c.record 22 1 ≤ 1 →
    first = arg c.record 16 4 → n = arg c.record 20 2 → 0 < n → n ≤ 4096 →
    s.shelfHeader c.cabinet (arg c.record 0 8) = .ok (entries, table, landBytes) → first + n ≤ entries →
    s.shelfEntries c.cabinet table first n = .ok es →
    rangesClash [] ((es.map fun e => (e.landing, e.desc.imageBytes)).map fun x => [x]) = false →
    (∀ e ∈ es, e.landing + e.desc.imageBytes ≤ landBytes) →
    s.imagesOf c.cabinet (arg c.record 8 8) es = .ok ws → s.writeAll c.cabinet ws = .ok t → t.aheadOfCopy = none →
    Completes (exec (.shelfPageIn id) s) fun u =>
      Ended u id 0 (sumNat (ws.map fun w => w.2.length)) ∧ SameBytes t u ∧ u.dict = t.dict) ∧
  (∀ (s t : State) (id i entries table landBytes : Nat) (c : Ctx) (q : Queue) (e : ShelfEntry) (b : Bytes) (src : Desc)
    (ws : List (Nat × Bytes)), Running s id 0x4011 c q → reservedErr c.record [(0, 12), (16, 8)] = none →
    arg c.record 16 8 % 64 = 0 → i = arg c.record 8 4 →
    s.shelfHeader c.cabinet (arg c.record 0 8) = .ok (entries, table, landBytes) → i < entries →
    s.shelfEntry c.cabinet table i = .ok e → s.readCab c.cabinet (arg c.record 16 8) 64 = .ok b →
    src = parseDesc (arg c.record 16 8) b → descErr (fun _ => 16) b src = none → src.format = e.desc.format →
    src.layout = e.desc.layout → src.elements = e.desc.elements → src.heapUsed ≤ e.desc.heapSlots →
    copyRuns (s.readCab c.cabinet) src e.desc = .ok ws → s.writeAll c.cabinet ws = .ok t → t.aheadOfCopy = none →
    Completes (exec (.shelfWrite id) s) fun u => Ended u id 0 0 ∧ SameBytes t u ∧ u.dict = t.dict) ∧
  (∀ (s : State) (id : Nat) (c : Ctx) (q : Queue), Running s id 0x4020 c q → reservedErr c.record [(0, 16)] = none →
    arg c.record 0 8 % 64 = 0 →
    Completes (exec (.seqPrefetch id) s) fun u => Ended u id 0 0 ∧
      (s.e 0x2504 0 = 0 → u.tiers.prefetches = s.tiers.prefetches) ∧
      (s.resident? c.cabinet (arg c.record 0 8) = none →
        s.settleSeq c.cabinet (arg c.record 0 8) = s → SameBytes s u)) ∧
  (∀ (s : State) (id : Nat) (c : Ctx) (q : Queue), Running s id 0x4021 c q → reservedErr c.record [(0, 16)] = none →
    arg c.record 0 8 % 64 = 0 →
    Completes (exec (.shelfPrefetch id) s) fun u => Ended u id 0 0 ∧ SameBytes s u ∧
      (s.e 0x2504 0 = 0 → u.tiers.prefetches = s.tiers.prefetches) ∧
      (s.e 0x2504 0 ≠ 0 → u.tiers.prefetches.length = s.tiers.prefetches.length + 1)) ∧
  (∀ (s : State) (which : Nat) (p : Prefetch), s.faults.safe = false → s.tiers.prefetches[which]? = some p →
    p.started = true → (∀ g ∈ p.granules, s.badUnit g 65536 = none) →
    Completes (exec (.prefetchTransferDone which) s) fun u =>
      u.tiers.prefetches.length + 1 = s.tiers.prefetches.length ∧ SameBytes s u ∧
      (∀ g, p.granules = [g] →
        s.tiers.staged.all (fun x => x.cabinet != p.cabinet || x.source != g || !x.valid) = true →
        ((s.tiers.staged.length + 1) * 65536 ≤ s.tiers.runaheadGranted →
          u.tiers.staged = s.tiers.staged ++ [{ cabinet := p.cabinet, source := g, valid := true }] ∧ u.dict = s.dict) ∧
        (s.tiers.runaheadGranted < (s.tiers.staged.length + 1) * 65536 →
          u.tiers.staged = s.tiers.staged ∧ u.e 0x2504 3 = (s.e 0x2504 3 + 1) % 2 ^ 64)))
/-- The work requests of ZT (R308 to R313, R292, R293, R295, R321 to R324). -/
def Obligations.WorkRequestsComplete : Prop :=
  (∀ (s : State) (id : Nat) (c : Ctx) (q : Queue) (k : Conn) (r ext : Bytes), Requested s id 0x01 c q → r = c.record →
    StreamOpen s c k 8 ([(8, 4), (20, 24)] ++ (if bit (field r 1 1) 3 then [(3, 1), (44, 16)] else [])) →
    0 < field r 40 4 → field r 40 4 ≤ 2 ^ 30 →
    (bit (field r 1 1) 3 = true → k.version ≠ 1 ∧ 1 ≤ field r 3 1 ∧ field r 3 1 ≤ 6) →
    ext = (if bit (field r 1 1) 3 then slice r 44 4 ++ slice r 56 4 ++ slice r 3 1 ++ zeros 7 ++ slice r 48 8 else []) →
    Completes (exec (.write id) s) fun u =>
      Streams s u id k (writePackets k.mtu (field r 20 4) (field r 32 8) (field r 24 8) (field r 40 4) ext (some id))) ∧
  (∀ (s : State) (id : Nat) (c : Ctx) (q : Queue) (k : Conn) (r : Bytes), Requested s id 0x02 c q → r = c.record →
    StreamOpen s c k 0 [(8, 4), (20, 24)] → 0 < field r 40 4 → field r 40 4 ≤ 2 ^ 30 →
    Completes (exec (.read id) s) fun u =>
      Streams s u id k [txPacket 0x02 0 (slice r 32 8 ++ slice r 20 4 ++ slice r 40 4) 0 0 (some id)]) ∧
  (∀ (s : State) (id op : Nat) (i : Instr) (c : Ctx) (q : Queue) (k : Conn) (r : Bytes),
    (i, op) ∈ [(Instr.fetchAdd id, 3), (.cmpSwap id, 4)] → Requested s id op c q → r = c.record →
    StreamOpen s c k 16 [(8, 4), (20, 4), (48, if op = 3 then 8 else 16),
      (if bit (field r 1 1) 4 then (44, 4) else (32, 8))] →
    (bit (field r 1 1) 4 = false → field r 32 8 % 8 = 0) → (bit (field r 1 1) 4 = true → k.version ≠ 1) →
    Completes (exec i s) fun u => Streams s u id k [txPacket 0x03 0
      ((if bit (field r 1 1) 4 then slice r 44 4 ++ zeros 4 else slice r 32 8) ++ slice r 20 4 ++ toLe 1 (op - 2) ++
        slice r 3 1 ++ toLe 1 (b2n (bit (field r 1 1) 4)) ++ [0] ++ slice r 48 16) 0 0 (some id)]) ∧
  (∀ (s : State) (id : Nat) (c : Ctx) (q : Queue) (k : Conn) (r : Bytes), Requested s id 0x05 c q → r = c.record →
    StreamOpen s c k 0 [(3, 1), (8, 4), (20, 4), (44, 12)] → k.version ≠ 1 → 1 ≤ field r 3 1 → field r 3 1 ≤ 6 →
    Completes (exec (.signal id) s) fun u => Streams s u id k [txPacket 0x03 0
      (slice r 44 4 ++ zeros 4 ++ slice r 20 4 ++ [3] ++ slice r 3 1 ++ [1, 0] ++ slice r 48 16) 0 0 (some id)]) ∧
  (∀ (s : State) (id : Nat) (c : Ctx) (q : Queue), Requested s id 0x02 c q → c.issued = false →
    workReserved c.record 0 [(8, 4), (20, 24)] = none → 0 < field c.record 40 4 → field c.record 40 4 ≤ 2 ^ 30 →
    (s.connOf c.cabinet (field c.record 8 4) = none →
      Completes (exec (.read id) s) fun u => Ended u id stStateConflict 0x0520) ∧
    (∀ k, s.connOf c.cabinet (field c.record 8 4) = some k →
      (k.state = 1 ∨ k.state = 4 ∨ k.state = 5 → Completes (exec (.read id) s) fun u => Ended u id stStateConflict 0x0520) ∧
      (k.state = 6 → Completes (exec (.read id) s) fun u => Ended u id stPeerTimeout 0) ∧
      (k.state = 2 → k.cached = true → Completes (exec (.read id) s) fun u => u.ctx? id = some c))) ∧
  (∀ (s : State) (id : Nat) (c : Ctx) (q : Queue), Requested s id 0x06 c q → workReserved c.record 0 [(48, 8)] = none →
    Completes (exec (.wait id) s) fun u => Ended u id 0 0 ∧ SameBytes s u) ∧
  (∀ (s t : State) (id a i : Nat) (c : Ctx) (q : Queue) (b : Bytes), Requested s id 0x10 c q → s.contract.activation ≠ 1 →
    workReserved c.record 0 [(24, 8)] = none → a = field c.record 24 8 → a % 64 = 0 → s.readCab c.cabinet a 128 = .ok b →
    s.createConn c b = .ok (t, i) → 1 < s.e 0x2603 0 →
    ((t.finishZt id 0 i).putCab c.cabinet (a + 64) (zeros 32)).aheadOfCopy = none →
    Completes (exec (.connCreate id) s) fun u => Ended u id 0 i ∧
      SameBytes ((t.finishZt id 0 i).putCab c.cabinet (a + 64) (zeros 32)) u ∧
      ∃ k, u.conn? i = some k ∧ k.cabinet = c.cabinet ∧ k.state = (if field b 4 1 = 1 then 1 else 2) ∧
        k.secret = slice b 64 32 ∧ k.peerConn = field b 0 4 ∧ k.mtu = field b 8 2 ∧ k.nxt = 0 ∧ k.expected = 0) ∧
  (∀ (s : State) (id a : Nat) (c : Ctx) (q : Queue) (b : Bytes) (e : Err), Requested s id 0x10 c q →
    s.contract.activation ≠ 1 → workReserved c.record 0 [(24, 8)] = none → a = field c.record 24 8 → a % 64 = 0 →
    s.readCab c.cabinet a 128 = .ok b → s.createConn c b = .error e →
    ((s.finishErr id e).putCab c.cabinet (a + 64) (zeros 32)).aheadOfCopy = none →
    Completes (exec (.connCreate id) s) fun u =>
      Ended u id e.status e.detail ∧ SameBytes ((s.finishErr id e).putCab c.cabinet (a + 64) (zeros 32)) u) ∧
  (∀ (s : State) (id : Nat) (c : Ctx) (q : Queue) (k : Conn), Requested s id 0x11 c q →
    workReserved c.record 0 [(8, 4)] = none → s.connOf c.cabinet (field c.record 8 4) = some k → k.state = 3 →
    k.cached = true → k.sendQueue = [] → k.pktsUnderGen + 1 < s.e 0x2603 0 →
    Completes (exec (.connClose id) s) fun u => Ended u id 0 0 ∧ SameBytes s u ∧
      (∃ k', u.conn? k.index = some k' ∧ k'.state = 4) ∧ (k.tx ≠ [] → u.zt.sent = s.zt.sent) ∧
      (k.tx = [] → k.firstClose = none → ∃ f, u.zt.sent = f :: s.zt.sent ∧ f.conn = k.index ∧ f.ty = 0x22 ∧
        f.body = toLe 4 k.nxt.toNat ++ zeros 4)) ∧
  (∀ (s : State) (id : Nat) (c : Ctx) (q : Queue) (k : Conn), Requested s id 0x12 c q →
    workReserved c.record 0 [(8, 4)] = none → s.connOf c.cabinet (field c.record 8 4) = some k → k.cached = true →
    s.zt.jobs = [] →
    Completes (exec (.connDestroy id) s) fun u => Ended u id 0 0 ∧ u.conn? k.index = none ∧ SameBytes s u ∧
      ∀ j, j ≠ k.index → u.conn? j = s.conn? j) ∧
  (∀ (s : State) (id : Nat) (c : Ctx) (q : Queue) (k : Conn), Requested s id 0x13 c q →
    workReserved c.record 0 [(8, 4)] = none → s.connOf c.cabinet (field c.record 8 4) = some k → k.cached = true →
    (k.version = 1 → Completes (exec (.connRekey id) s) fun u => Ended u id stBadField 0x8000) ∧
    (k.version ≠ 1 → Completes (exec (.connRekey id) s) fun u => Ended u id 0 (k.genTx + 1) ∧ SameBytes s u ∧
      u.conn? k.index = some { k with genTx := k.genTx + 1, pktsUnderGen := 0 } ∧
      u.e 0x2603 2 = (s.e 0x2603 2 + 1) % 2 ^ 64)) ∧
  (∀ (s : State) (id i : Nat) (c : Ctx) (q : Queue), Requested s id 0x20 c q →
    workReserved c.record 0 [(8, 4), (24, 8), (48, 16)] = none → s.regErr c = none →
    pickFree s.freeValue (s.zt.regions.map (·.index)) 0 262144 = some i →
    Completes (exec (.reg id) s) fun u => Ended u id 0 (s.nextTag i * 2 ^ 18 + i) ∧ SameBytes s u ∧ s.nextTag i ≠ 0 ∧
      ∃ r, u.region? i = some r ∧ r.tag = s.nextTag i ∧ r.cabinet = c.cabinet ∧ r.isClosing = false ∧
        r.base = field c.record 24 8 ∧ r.len = field c.record 48 8 ∧ r.rights = field c.record 56 8 ∧
        r.bound = (if field c.record 8 4 = 0xFFFFFFFF then none else some (field c.record 8 4))) ∧
  (∀ (s : State) (id key : Nat) (c : Ctx) (q : Queue) (r : ZtRegion), Requested s id 0x21 c q →
    workReserved c.record 0 [(20, 4)] = none → key = field c.record 20 4 → s.region? (rkeyIndex key) = some r →
    r.revokeCtx = none →
    (r.tag = rkeyTag key → r.cabinet = c.cabinet → r.isClosing = false →
      Completes (exec (.revoke id) s) fun u => SameBytes s u ∧ u.ctx? id = some c ∧
        u.region? (rkeyIndex key) = some { r with isClosing := true, revokeCtx := some id }) ∧
    (r.tag ≠ rkeyTag key ∨ r.isClosing = true →
      Completes (exec (.revoke id) s) fun u => Ended u id stStateConflict 0x0521)) ∧
  (∀ (s : State) (i id : Nat) (r : ZtRegion) (c : Ctx), s.region? i = some r → r.isClosing = true → r.inFlight = 0 →
    s.ztRuns = true → r.revokeCtx = some id → s.ctx? id = some c → c.finished = false →
    Completes (exec (.regionDrained i) s) fun u => u.region? i = none ∧ Ended u id 0 0 ∧ SameBytes s u)
/-- The rows of received packets (R286, R293 to R297, R300, R306, R312 to R327). -/
def Obligations.ReceivedPacketsComplete : Prop :=
  (∀ (s : State) (p : ZtIn) (i : Instr) (ty : Nat), (i, ty) ∈ [(Instr.writePacket p, 0x01), (.readReq p, 0x02),
      (.atomicReq p, 0x03), (.readResp p, 0x11), (.atomicResp p, 0x12), (.errorResp p, 0x13), (.connect p, 0x20),
      (.accept p, 0x21), (.close p, 0x22), (.closeAck p, 0x23), (.ack p, 0x30)] →
    s.ztRuns = true → p.conn < 0x200000 → s.zt.jobs = [] →
    (s.conn? p.conn = none → Completes (exec i s) fun u =>
      u.e 0x2605 7 = (s.e 0x2605 7 + 1) % 2 ^ 64 ∧ u.zt = s.zt ∧ SameBytes s u) ∧
    (∀ k, s.conn? p.conn = some k →
      (k.cached = false → s.missFull p.conn p = true → Completes (exec i s) fun u =>
        u.e 0x2601 6 = (s.e 0x2601 6 + 1) % 2 ^ 64 ∧ u.zt.missBench = s.zt.missBench ∧ SameBytes s u) ∧
      (k.cached = false → s.missFull p.conn p = false → Completes (exec i s) fun u =>
        u.zt.missBench = s.zt.missBench ++ [{ conn := p.conn, arrived := s.now, ty := ty, p := p }] ∧ SameBytes s u) ∧
      (k.cached = true → (∀ m ∈ s.zt.missBench, m.conn ≠ p.conn) →
        (k.matches ty p = false → Completes (exec i s) fun u =>
          u.e 0x2605 7 = (s.e 0x2605 7 + 1) % 2 ^ 64 ∧ u.zt = s.zt ∧ SameBytes s u) ∧
        (k.matches ty p = true → p.keyGen ≠ k.genRx % 256 → p.keyGen ≠ (k.genRx + 1) % 256 →
          Completes (exec i s) fun u => u.e 0x2603 3 = (s.e 0x2603 3 + 1) % 2 ^ 64 ∧ u.zt = s.zt ∧ SameBytes s u) ∧
        (k.matches ty p = true → p.keyGen = k.genRx % 256 → p.auth = false →
          Completes (exec i s) fun u => u.e 0x2603 1 = (s.e 0x2603 1 + 1) % 2 ^ 64 ∧ u.zt = s.zt ∧ SameBytes s u)))) ∧
  (∀ (s : State) (reserved : Bool), s.ztRuns = true → Completes (exec (.unmatchedDatagram reserved) s) fun u =>
      u.e 0x2605 7 = (s.e 0x2605 7 + 1) % 2 ^ 64 ∧ u.zt = s.zt ∧ SameBytes s u) ∧
  (∀ (s : State) (p : ZtIn) (k : Conn) (i : Instr) (ty : Nat), (i, ty) ∈ [(Instr.writePacket p, 0x01), (.readReq p, 0x02),
      (.atomicReq p, 0x03), (.readResp p, 0x11), (.atomicResp p, 0x12), (.errorResp p, 0x13)] →
    Arrives s ty p k → k.state = 3 ∨ k.state = 4 →
    (psnDiff p.seqNo k.expected < 0 ∨ (∃ h ∈ k.reorder, h.psn = p.seqNo) → Completes (exec i s) fun u =>
      SameBytes s u ∧ SentOn s u p.conn 0x30
        (toLe 4 k.expected.toNat ++ toLe 4 k.respNext.toNat ++ toLe (k.window / 8) k.sack)) ∧
    ((k.window : Int) ≤ psnDiff p.seqNo k.expected → (∀ h ∈ k.reorder, h.psn ≠ p.seqNo) →
      Completes (exec i s) fun u => SameBytes s u ∧ u.zt.sent = s.zt.sent ∧
        ∃ k', u.conn? p.conn = some k' ∧ k'.expected = k.expected ∧ k'.reorder = k.reorder) ∧
    (0 < psnDiff p.seqNo k.expected → psnDiff p.seqNo k.expected < (k.window : Int) → (∀ h ∈ k.reorder, h.psn ≠ p.seqNo) →
      (s.reorderCells + cellsOf (36 + p.body.length) ≤ s.halfCells → Completes (exec i s) fun u =>
        SameBytes s u ∧ ∃ k', u.conn? p.conn = some k' ∧ k'.expected = k.expected ∧
          k'.reorder = k.reorder ++ [{ psn := p.seqNo, ty := ty, flags := p.flags, body := p.body, checked := none }]) ∧
      (s.halfCells < s.reorderCells + cellsOf (36 + p.body.length) → Completes (exec i s) fun u =>
        SameBytes s u ∧ u.e 0x2605 2 = (s.e 0x2605 2 + 1) % 2 ^ 64))) ∧
  (∀ (s t : State) (p : ZtIn) (k : Conn) (r : ZtRegion) (data : Bytes), InOrder s 0x01 p k → k.discarding = false →
    bit p.flags 3 = false → bit p.flags 2 = false → data = p.body.drop 16 →
    s.keyCheck k (field p.body 8 4) 1 (field p.body 0 8) data.length = .ok r →
    s.writeAll k.cabinet [(r.base + field p.body 0 8, data)] = .ok t → t.aheadOfCopy = none →
    Completes (exec (.writePacket p) s) fun u => SameBytes t u ∧ ∃ k', u.conn? p.conn = some k' ∧ k'.expected = k.expected + 1) ∧
  (∀ (s : State) (p : ZtIn) (k : Conn) (reason : Nat), InOrder s 0x01 p k → k.discarding = false →
    bit p.flags 3 = false → bit p.flags 2 = false →
    s.keyCheck k (field p.body 8 4) 1 (field p.body 0 8) (p.body.drop 16).length = .error reason →
    Completes (exec (.writePacket p) s) fun u => SameBytes s u ∧ u.e 0x2605 3 = (s.e 0x2605 3 + 1) % 2 ^ 64) ∧
  (∀ (s : State) (p : ZtIn) (k : Conn) (r : ZtRegion) (data : Bytes), InOrder s 0x02 p k → 0 < field p.body 12 4 →
    field p.body 12 4 ≤ 2 ^ 30 → s.keyCheck k (field p.body 8 4) 0 (field p.body 0 8) (field p.body 12 4) = .ok r →
    s.readCab k.cabinet (r.base + field p.body 0 8) (field p.body 12 4) = .ok data →
    min k.window k.cwnd ≤ (k.nxt - k.una).toNat → k.pktsUnderGen + 1 < s.e 0x2603 0 →
    Completes (exec (.readReq p) s) fun u => SameBytes s u ∧ ∃ k', u.conn? p.conn = some k' ∧
      k'.sendQueue = (List.range (ceilDiv (field p.body 12 4) k.mtu)).map fun j =>
        txPacket 0x11 (endFlags j (ceilDiv (field p.body 12 4) k.mtu))
          (toLe 4 p.seqNo.toNat ++ zeros 4 ++ slice data (j * k.mtu) k.mtu) 0 0 none) ∧
  (∀ (s : State) (p : ZtIn) (k : Conn) (r : ZtRegion) (a aop old : Nat) (ps : List (Nat × Nat)), InOrder s 0x03 p k →
    aop = field p.body 12 1 → aop = 1 ∨ aop = 2 → field p.body 14 1 = 0 →
    s.keyCheck k (field p.body 8 4) 2 (field p.body 0 8) 8 = .ok r → a = r.base + field p.body 0 8 → a % 8 = 0 →
    s.reach k.cabinet a 8 .atomic = .ok ps → (∀ d ∈ ps, s.linkOf d.1 = none) → s.badPiece ps = none →
    old = leNat (s.readPieces ps) →
    (s.putCab k.cabinet a (toLe 8 (if aop = 1 then (old + field p.body 16 8) % 2 ^ 64
      else if old = field p.body 16 8 then field p.body 24 8 else old))).aheadOfCopy = none →
    Completes (exec (.atomicReq p) s) fun u =>
      SameBytes (s.putCab k.cabinet a (toLe 8 (if aop = 1 then (old + field p.body 16 8) % 2 ^ 64
        else if old = field p.body 16 8 then field p.body 24 8 else old))) u) ∧
  (∀ (s : State) (p : ZtIn) (k : Conn) (i : Nat) (o : SyncObj), InOrder s 0x03 p k → field p.body 12 1 = 1 →
    field p.body 14 1 = 1 → k.version ≠ 1 → s.syncCheck k (field p.body 8 4) (field p.body 0 4) = .ok i →
    s.sync? k.cabinet i = some o →
    Completes (exec (.atomicReq p) s) fun u => ∃ o', u.sync? k.cabinet i = some o' ∧
      o'.value = o.value + BitVec.ofNat 64 (field p.body 16 8) ∧ o'.external = true) ∧
  (∀ (s : State) (p : ZtIn) (k : Conn), InOrder s 0x11 p k →
    (s.requestOf p.conn (field p.body 0 4) = none → Completes (exec (.readResp p) s) fun u => SameBytes s u) ∧
    (∀ t c, s.requestOf p.conn (field p.body 0 4) = some c → s.ctx? c.id = some c →
      (∀ c' ∈ s.contract.ctxs, c'.id = c.id → c' = c) → field c.record 0 1 = 2 →
      s.writeAll c.cabinet [(field c.record 24 8 + c.progress, p.body.drop 8)] = .ok t → t.aheadOfCopy = none →
      Completes (exec (.readResp p) s) fun u => SameBytes t u ∧
        (field c.record 40 4 ≤ c.progress + (p.body.drop 8).length →
          Ended u c.id 0 (c.progress + (p.body.drop 8).length)))) ∧
  (∀ (s : State) (p : ZtIn) (k : Conn) (c : Ctx), InOrder s 0x12 p k →
    s.requestOf p.conn (field p.body 0 4) = some c → s.ctx? c.id = some c →
    (∀ c' ∈ s.contract.ctxs, c'.id = c.id → c' = c) → 3 ≤ field c.record 0 1 →
    field c.record 0 1 ≤ 5 →
    Completes (exec (.atomicResp p) s) fun u => Ended u c.id 0 (field p.body 8 8) ∧ SameBytes s u) ∧
  (∀ (s : State) (p : ZtIn) (k : Conn) (c : Ctx), InOrder s 0x13 p k →
    s.requestOf p.conn (field p.body 0 4) = some c → s.ctx? c.id = some c →
    (∀ c' ∈ s.contract.ctxs, c'.id = c.id → c' = c) → field c.record 0 1 ≠ 1 →
    Completes (exec (.errorResp p) s) fun u => u.e 0x2605 4 = (s.e 0x2605 4 + 1) % 2 ^ 64 ∧
      ∃ d, Ended u c.id (reasonStatus (field p.body 4 2)) d) ∧
  (∀ (s : State) (p : ZtIn) (k : Conn), Arrives s 0x20 p k →
    (k.state = 1 → k.choose p.body = none → Completes (exec (.connect p) s) fun u =>
      u.e 0x2605 6 = (s.e 0x2605 6 + 1) % 2 ^ 64 ∧ SameBytes s u ∧ ∃ k', u.conn? p.conn = some k' ∧ k'.state = 1) ∧
    (∀ v mtu, k.state = 1 → k.choose p.body = some (v, mtu) → k.sendQueue = [] → k.pktsUnderGen + 1 < s.e 0x2603 0 →
      Completes (exec (.connect p) s) fun u => SameBytes s u ∧
        SentOn s u p.conn 0x21 (toLe 1 v ++ [0] ++ toLe 2 mtu ++ zeros 4) ∧
        ∃ k', u.conn? p.conn = some k' ∧ k'.state = 3 ∧ k'.version = v ∧ k'.mtu = mtu ∧ k'.peerConn = p.srcConn) ∧
    (k.state = 3 → k.role = 1 → Completes (exec (.connect p) s) fun u => SameBytes s u ∧
      SentOn s u p.conn 0x21 (toLe 1 k.version ++ [0] ++ toLe 2 k.mtu ++ zeros 4))) ∧
  (∀ (s : State) (p : ZtIn) (k : Conn), Arrives s 0x21 p k → k.state = 2 → k.sendQueue = [] →
    Completes (exec (.accept p) s) fun u => SameBytes s u ∧ ∃ k', u.conn? p.conn = some k' ∧ k'.state = 3 ∧
      k'.version = field p.body 0 1 ∧ k'.mtu = field p.body 2 2) ∧
  (∀ (s : State) (p : ZtIn) (k : Conn), Arrives s 0x22 p k → k.csnNew p.seqNo = true →
    (k.state = 3 → k.pktsUnderGen + 1 < s.e 0x2603 0 → Completes (exec (.close p) s) fun u => SameBytes s u ∧
      SentOn s u p.conn 0x23 (toLe 4 k.nxt.toNat ++ zeros 4) ∧ ∃ k', u.conn? p.conn = some k' ∧ k'.state = 5) ∧
    (k.state = 4 → Completes (exec (.close p) s) fun u => SameBytes s u ∧ u.zt.sent = s.zt.sent ∧
      ∃ k', u.conn? p.conn = some k' ∧ k'.state = 5)) ∧
  (∀ (s : State) (p : ZtIn) (k : Conn), Arrives s 0x23 p k → k.csnNew p.seqNo = true → k.state = 4 →
    Completes (exec (.closeAck p) s) fun u => SameBytes s u ∧ ∃ k', u.conn? p.conn = some k' ∧ k'.state = 5) ∧
  (∀ (s : State) (p : ZtIn) (k : Conn) (a : BitVec 32), Arrives s 0x30 p k → k.state = 3 → k.csnNew p.seqNo = true →
    a = BitVec.ofNat 32 (field p.body 0 4) → 0 < psnDiff a k.una → (∀ q ∈ k.tx, psnDiff q.psn a < 0) → k.sendQueue = [] →
    Completes (exec (.ack p) s) fun u => SameBytes s u ∧ (∃ k', u.conn? p.conn = some k' ∧ k'.una = a ∧ k'.tx = []) ∧
      (∀ c l, s.ctx? c.id = some c → (∀ c' ∈ s.contract.ctxs, c'.id = c.id → c' = c) → s.ztOpen p.conn c = true →
        field c.record 0 1 = 1 → c.lastPsn = some l →
        0 < psnDiff a (BitVec.ofNat 32 l) → c.respBound = none → c.errorReason = 0 →
        0 ≤ psnDiff k.expected (BitVec.ofNat 32 (field p.body 4 4)) → Ended u c.id 0 (field c.record 40 4))) ∧
  (∀ (s : State) (p : ZtIn) (k : Conn), Arrives s 0x30 p k → k.csnNew p.seqNo = false →
    Completes (exec (.ack p) s) fun u => SameBytes s u ∧ u.zt.sent = s.zt.sent ∧
      ∃ k', u.conn? p.conn = some k' ∧ k'.una = k.una ∧ k'.state = k.state)
/-- The timers of ZT connections and contexts (R296, R297, R299 to R305, R307). -/
def Obligations.ConnectionTimersComplete : Prop :=
  (∀ (s : State) (i : Nat) (psn : BitVec 32) (k : Conn) (p : TxPacket), s.ztRuns = true → s.conn? i = some k →
    k.waitingFor psn = some p → p.sentAt + p.rto ≤ s.now → s.zt.jobs = [] →
    (∀ wire, p.attempt < 255 → s.payloadOf k p = .ok wire → k.pktsUnderGen + 1 < s.e 0x2603 0 →
      Completes (exec (.retransmissionTimeout i psn) s) fun u => SameBytes s u ∧
        u.e 0x2605 1 = (s.e 0x2605 1 + 1) % 2 ^ 64 ∧
        (∃ f, u.zt.sent = f :: s.zt.sent ∧ f.conn = i ∧ f.ty = p.ty ∧ f.flags = p.flags ∧ f.seqNo = psn ∧
          f.attempt = p.attempt + 1 ∧ f.body = wire) ∧
        ∃ k', u.conn? i = some k' ∧
          k'.cwnd = (if s.now < k.cwndAt + k.srtt then k.cwnd else max 16 (k.cwnd / 2)) ∧
          { p with attempt := p.attempt + 1, sentAt := s.now, rto := min (2 * p.rto) (s.e 0x2602 2) } ∈ k'.tx ∧
          (∀ q ∈ k.tx, q.psn ≠ psn → q ∈ k'.tx)) ∧
    (255 ≤ p.attempt → Completes (exec (.retransmissionTimeout i psn) s) fun u => SameBytes s u ∧
      u.e 0x2605 5 = (s.e 0x2605 5 + 1) % 2 ^ 64 ∧
      ∃ k', u.conn? i = some k' ∧ k'.state = 6 ∧ k'.tx = [] ∧ k'.sendQueue = []) ∧
    (p.firstSent + s.e 0x2602 3 ≤ s.now → Completes (exec (.retryExhaustion i psn) s) fun u => SameBytes s u ∧
      u.e 0x2605 5 = (s.e 0x2605 5 + 1) % 2 ^ 64 ∧
      (∃ k', u.conn? i = some k' ∧ k'.state = 6 ∧ k'.tx = [] ∧ k'.sendQueue = []) ∧
      ∀ c, s.ctx? c.id = some c → c.finished = false → s.ctxEngine c = 6 → field c.record 8 4 = i → 1 ≤ field c.record 0 1 →
        field c.record 0 1 ≤ 5 → Ended u c.id stPeerTimeout 0)) ∧
  (∀ (s : State) (i : Nat) (k : Conn), s.ztRuns = true → s.conn? i = some k → s.zt.jobs = [] →
    (k.state = 2 → s.now < k.createdAt + k.connectLimit → k.lastConnect + 1000000 ≤ s.now →
      Completes (exec (.connectResend i) s) fun u => SameBytes s u ∧
        SentOn s u i 0x20 (toLe 1 k.verMin ++ toLe 1 k.verMax ++ toLe 2 k.mtu ++ zeros 4)) ∧
    (k.state = 2 → k.createdAt + k.connectLimit ≤ s.now → Completes (exec (.connectResend i) s) fun u =>
      SameBytes s u ∧ u.e 0x2605 5 = (s.e 0x2605 5 + 1) % 2 ^ 64 ∧ ∃ k', u.conn? i = some k' ∧ k'.state = 6) ∧
    (∀ t, k.firstClose = some t → k.state = 4 →
      (s.now < t + 100000000 → k.lastConnect + k.closeEvery ≤ s.now → Completes (exec (.closeResend i) s) fun u =>
        SameBytes s u ∧ SentOn s u i 0x22 (toLe 4 k.nxt.toNat ++ zeros 4)) ∧
      (t + 100000000 ≤ s.now → Completes (exec (.closeResend i) s) fun u =>
        SameBytes s u ∧ u.e 0x2605 5 = (s.e 0x2605 5 + 1) % 2 ^ 64 ∧ ∃ k', u.conn? i = some k' ∧ k'.state = 6)) ∧
    (∀ t, k.firstUnackedAt = some t → t + k.ackLimit ≤ s.now → Completes (exec (.ackDelay i) s) fun u => SameBytes s u ∧
      SentOn s u i 0x30 (toLe 4 k.expected.toNat ++ toLe 4 k.respNext.toNat ++ toLe (k.window / 8) k.sack) ∧
      ∃ k', u.conn? i = some k' ∧ k'.firstUnackedAt = none ∧ k'.unacked = 0) ∧
    (k.fetching = true → i < 0x200000 →
      (s.tiers.backingInGddr = true ∨ s.leaseFenced 0 = false → (∀ m ∈ s.zt.missBench, m.conn ≠ i) →
        s.zt.conns.length ≤ 65536 →
        Completes (exec (.contextFetch i) s) fun u => SameBytes s u ∧
          u.conn? i = some { k with cached := true, fetching := false, lastUse := s.zt.useClock + 1 }) ∧
      (s.tiers.backingInGddr = false → s.leaseFenced 0 = true →
        Completes (exec (.contextFetch i) s) fun u => SameBytes s u ∧
          u.e 0x2601 6 = (s.e 0x2601 6 + (s.zt.missBench.filter fun m => m.conn == i).length) % 2 ^ 64 ∧
          (∀ m ∈ u.zt.missBench, m.conn ≠ i) ∧
          ∀ c, s.ctx? c.id = some c → c.finished = false → s.ctxEngine c = 6 → field c.record 8 4 = i → c.issued = false →
            1 ≤ field c.record 0 1 → field c.record 0 1 ≤ 0x13 → Ended u c.id stHostLeaseLost 0))) ∧
  (∀ (s : State) (i n : Nat), s.ztRuns = true →
    n = (s.zt.missBench.filter fun m => m.conn == i && decide (m.arrived + s.e 0x2601 7 ≤ s.now)).length → 0 < n →
    Completes (exec (.missFetchLimit i) s) fun u => SameBytes s u ∧ u.e 0x2601 6 = (s.e 0x2601 6 + n) % 2 ^ 64 ∧
      u.zt.missBench = s.zt.missBench.filter fun m => !(m.conn == i && decide (m.arrived + s.e 0x2601 7 ≤ s.now)))
/-- The commands and the formation of a group (R333, R334, R337 to R343, R356). -/
def Obligations.GroupCommandsComplete : Prop :=
  (∀ (s t : State) (id : Nat) (c : Ctx) (q : Queue), Running s id 0x2001 c q → s.joinGroup c = .ok t →
    t.aheadOfCopy = none →
    Completes (exec (.groupJoin id) s) fun u => SameBytes t u ∧ u.coll = t.coll ∧ u.zt = t.zt ∧
      (∃ g ∈ u.coll.groups, g.joinCtx = some id ∧ g.state = 1 ∧ g.cabinet = c.cabinet ∧ g.queue = c.queue)) ∧
  (∀ (s : State) (id : Nat) (c : Ctx) (q : Queue) (e : Err), Running s id 0x2001 c q → s.joinGroup c = .error e →
    arg c.record 0 8 % 64 = 0 → e.bad = none → e.outside = none → e.status ≠ stHostLeaseLost →
    (((s.finishErr id e).bump 0x2720 5 (b2n (e.status = stStateConflict))).putCab c.cabinet (arg c.record 0 8 + 48)
      (zeros 32)).aheadOfCopy = none →
    Completes (exec (.groupJoin id) s) fun u => Ended u id e.status e.detail ∧
      SameBytes (((s.finishErr id e).bump 0x2720 5 (b2n (e.status = stStateConflict))).putCab c.cabinet
        (arg c.record 0 8 + 48) (zeros 32)) u) ∧
  (∀ (s : State) (id slot : Nat) (c : Ctx) (q : Queue), Running s id 0x2002 c q → reservedErr c.record [(0, 1)] = none →
    slot = arg c.record 0 1 → slot < 64 →
    (s.group? slot = none → Completes (exec (.groupLeave id) s) fun u => Ended u id stStateConflict 0x0533) ∧
    (∀ g, s.group? slot = some g → g.cabinet = c.cabinet → 2 ≤ g.state → g.op = none → g.idleOn s →
      Completes (exec (.groupLeave id) s) fun u => Ended u id 0 0 ∧ u.group? slot = none)) ∧
  (∀ (s : State) (id op slot : Nat) (i : Instr) (c : Ctx) (q : Queue) (x : XCmd), (i, op) ∈ [(Instr.allReduce id, 0x2010),
      (.reduceScatter id, 0x2011), (.allGather id, 0x2012), (.broadcast id, 0x2013), (.allToAll id, 0x2014)] →
    Running s id op c q → s.collBegin c = .ok x → slot = field x.ob 16 1 →
    (s.group? slot = none → Completes (exec i s) fun u => Ended u id stStateConflict 0x0533) ∧
    (∀ g, s.group? slot = some g →
      (g.cabinet ≠ c.cabinet ∨ g.state < 2 → Completes (exec i s) fun u => Ended u id stStateConflict 0x0533) ∧
      (g.cabinet = c.cabinet → 2 ≤ g.state → g.queue ≠ c.queue →
        Completes (exec i s) fun u => Ended u id stStateConflict 0x0535) ∧
      (g.cabinet = c.cabinet → 2 ≤ g.state → g.queue = c.queue → field x.ob 17 1 ≠ 0 → field x.ob 17 1 < 2 ^ g.axes →
        (g.state = 4 → Completes (exec i s) fun u => Ended u id stPeerTimeout (lossDetail 4 g.failRank)) ∧
        (g.state = 3 → Completes (exec i s) fun u => u = s) ∧
        (g.state = 2 → g.op = none → (g.rankOf g.self).isSome = true →
          (∀ r, (g.opSeq + 1, r) ∈ g.abandoned.find? (fun a => a.1 == g.opSeq + 1) →
            Completes (exec i s) fun u => Ended u id stPeerTimeout (lossDetail 3 r)) ∧
          (∀ k t t2, g.abandoned.find? (fun a => a.1 == g.opSeq + 1) = none → collTensors c g x = .ok k →
            (s.beginOp slot id (g.opSeq + 1)).enterOp k (g.opSeq + 1) = .ok t → t.progressColl slot = .ok t2 →
            (t2.settleColl slot).aheadOfCopy = none →
            Completes (exec i s) fun u => SameBytes t2 u ∧ u.coll = (t2.settleColl slot).coll ∧
              u.zt = (t2.settleColl slot).zt ∧ u.transform = (t2.settleColl slot).transform))))) ∧
  (∀ (s : State) (id slot : Nat) (c : Ctx) (q : Queue) (x : XCmd) (g : Group) (k : CollCmd), Running s id 0x2013 c q →
    s.collBegin c = .ok x → slot = field x.ob 16 1 → field x.ob 17 1 ≠ 0 → field x.ob 17 1 < 2 ^ g.axes →
    s.group? slot = some g → g.cabinet = c.cabinet → g.state = 2 → g.queue = c.queue → g.op = none →
    (g.rankOf g.self).isSome = true → g.abandoned = [] → collTensors c g x = .ok k → k.src = none → k.idx ≠ k.root →
    s.aheadOfCopy = none →
    Completes (exec (.broadcast id) s) fun u => SameBytes s u ∧ u.zt = s.zt ∧ ∃ g', u.group? slot = some g' ∧
      g'.opSeq = g.opSeq + 1 ∧ ∃ op, g'.op = some op ∧ op.ctx = id ∧ op.opSeq = g.opSeq + 1 ∧ op.dstDone = false) ∧
  (∀ (s : State) (m : GroupIn) (g : Group), Heard s m g → g.state = 1 → g.actingSteward = some g.self →
    (∀ n, m.body.drop 48 = s.joinFacts g → n < g.members.length → n ≠ m.sender →
      (g.members.getD n default).joined = false →
      Completes (exec (.join m) s) fun u => SameBytes s u ∧ u.zt = s.zt ∧
        ∃ g', u.group? m.slot = some g' ∧ g'.state = 1 ∧ (g'.members.getD m.sender default).joined = true) ∧
    (∀ k, (m.body.drop 48).take 1 = toLe 1 g.mode → g.mode = 1 → m.body.drop 48 ≠ s.joinFacts g →
      s.conn? (g.conn m.sender) = some k → k.sendQueue = [] →
      Completes (exec (.join m) s) fun u => SentTo s u m.sender 0x03 (toLe 1 0x31) ∧
        u.e 0x2720 5 = (s.e 0x2720 5 + 1) % 2 ^ 64 ∧ SameBytes s u)) ∧
  (∀ (s : State) (m : GroupIn) (g : Group) (ranks : List Nat), Heard s m g → g.state = 1 →
    ranks = (List.range g.ranks).map (fun r => lookupD ((List.range (field m.body 4 2)).map fun i =>
      (field m.body (6 + 4 * i) 2, field m.body (8 + 4 * i) 2)) r (g.memberAt r)) →
    (s.applyView m.slot (field m.body 0 4) ranks).aheadOfCopy = none →
    Completes (exec (.view m) s) fun u =>
      (∃ g', u.group? m.slot = some g' ∧ g'.state = 2 ∧ g'.epoch = field m.body 0 4 ∧ g'.rankMap = ranks) ∧
      (∀ id c, g.joinCtx = some id → s.ctx? id = some c → c.finished = false →
        Ended u id 0 (g.self * 2 ^ 32 + ((ranks.findIdx? fun x => x == g.self).getD 0xFFFF) * 2 ^ 16 + g.slot)) ∧
      SameBytes (s.applyView m.slot (field m.body 0 4) ranks) u) ∧
  (∀ (s : State) (m : GroupIn) (g : Group), Heard s m g → g.state = 1 →
    ((s.endJoin m.slot stStateConflict (5 * 256 + field m.body 0 1)).leaveGroup m.slot).aheadOfCopy = none →
    Completes (exec (.refuse m) s) fun u => u.group? m.slot = none ∧
      ∀ id c, g.joinCtx = some id → s.ctx? id = some c → c.finished = false →
        Ended u id stStateConflict (5 * 256 + field m.body 0 1)) ∧
  (∀ (s : State) (slot n : Nat) (g : Group), s.group? slot = some g → g.state = 1 → s.faults.safe = false →
    g.joinStart + g.formLimit ≤ s.now → g.actingSteward = some g.self →
    (g.members.findIdx? fun m => !m.joined) = some n →
    ((s.drawn.endJoin slot stPeerTimeout (lossDetail 6 n)).leaveGroup slot).aheadOfCopy = none →
    Completes (exec (.formTimeout slot) s) fun u => u.group? slot = none ∧
      ∀ id c, g.joinCtx = some id → s.ctx? id = some c → c.finished = false → Ended u id stPeerTimeout (lossDetail 6 n))
/-- Messages and timers of a group (R153 to R156, R354 to R367). -/
def Obligations.GroupMessagesComplete : Prop :=
  (∀ (s : State) (m : GroupIn) (i : Instr) (g : Group), i ∈ [Instr.newView m, .failView m, .contrib m, .result m, .report m,
      .probe m, .probeAck m, .expel m, .abandon m, .leave m] → s.faults.safe = false → s.group? m.slot = some g →
    g.groupId = m.groupId → m.sender < g.members.length → m.sender ≠ g.self → m.epoch < g.epoch →
    Completes (exec i s) fun u => u.e 0x2720 6 = (s.e 0x2720 6 + 1) % 2 ^ 64 ∧ u.coll = s.coll ∧ u.contract = s.contract ∧
      SameBytes s u) ∧
  (∀ (s : State) (m : GroupIn) (g : Group) (lost : Nat), Heard s m g → field m.body 0 4 = g.epoch + 1 →
    g.state = 2 ∨ g.state = 3 → lost = g.memberAt (field m.body 4 2) →
    (lost ≠ g.self → g.recovery = 0 → Completes (exec (.newView m) s) fun u =>
      u.conn? (g.conn lost) = none ∧ u.e 0x2720 2 = (s.e 0x2720 2 + 1) % 2 ^ 64 ∧
      ∃ g', u.group? m.slot = some g' ∧ g'.state = 2 ∧ g'.epoch = g.epoch + 1 ∧
        g'.rankMap = updAt (field m.body 4 2) (fun _ => field m.body 6 2) g.rankMap) ∧
    (lost = g.self → Completes (exec (.newView m) s) fun u => u.group? m.slot = none)) ∧
  (∀ (s : State) (m : GroupIn) (g : Group), Heard s m g →
    (g.state = 2 ∨ g.state = 3 → Completes (exec (.failView m) s) fun u =>
      ∃ g', u.group? m.slot = some g' ∧ g'.state = 4 ∧ g'.failRank = field m.body 4 2 ∧ g'.op = none) ∧
    (2 ≤ g.state → Completes (exec (.expel m) s) fun u => u.group? m.slot = none) ∧
    (∀ op c, g.op = some op → s.ctx? op.ctx = some c → c.finished = false →
      (g.state = 2 ∨ g.state = 3 → Completes (exec (.failView m) s) fun u =>
        Ended u op.ctx stPeerTimeout (lossDetail 4 (field m.body 4 2))) ∧
      (2 ≤ g.state → Completes (exec (.expel m) s) fun u =>
        Ended u op.ctx stPeerTimeout (lossDetail 5 ((g.rankOf g.self).getD 0xFFFF))) ∧
      (op.opSeq = m.opSeq → Completes (exec (.abandon m) s) fun u =>
        Ended u op.ctx stPeerTimeout (lossDetail 3 ((g.rankOf m.sender).getD 0xFFFF)) ∧
        u.e 0x2720 4 = (s.e 0x2720 4 + 1) % 2 ^ 64)) ∧
    (g.op = none → Completes (exec (.abandon m) s) fun u => SameBytes s u ∧ ∃ g', u.group? m.slot = some g' ∧
      g'.abandoned = ((m.opSeq, (g.rankOf m.sender).getD 0xFFFF) :: g.abandoned).take 64)) ∧
  (∀ (s : State) (m : GroupIn) (g : Group) (op : CollOp) (k : CollCmd) (src : Desc) (a : OrderedAcc) (c : Ctx)
    (q i pos w n : Nat) (v : List (BitVec 32)), PartHeard s m g op k c q → isReduction k.op = true → k.src = some src →
    w = k.fanin ^ m.level → m.shard < k.n → pos = (q + k.n - m.shard % k.n) % k.n → pos % w = 0 → i = pos / w % k.fanin →
    i ≠ 0 → i * w ≤ pos → pos - i * w = (k.idx + k.n - m.shard % k.n) % k.n → n = (shardBlocks src.blocks k.n m.shard).2 →
    m.chunk < chunkCount n → (m.shard, m.chunk, m.level, i) ∉ op.received →
    s.transform.accs.find? (fun a => a.named m.slot m.opSeq m.shard m.chunk m.level) = some a →
    v = (rawValues k.wf (wireRaws k.wf (chunkBlocks n m.chunk) m.body)).map (fun x => BitVec.ofNat 32 (Fp.to32 x)) →
    (a.isOpen = false → s.transform.benchOrder < s.orderUsed + 2 * a.unit → Completes (exec (.contrib m) s) fun u =>
      u.e 0x2301 4 = (s.e 0x2301 4 + 1) % 2 ^ 64 ∧ u.transform = s.transform ∧ u.coll = s.coll ∧ SameBytes s u) ∧
    (a.isOpen = true → a.inOrder = true → i ≠ a.nextIdx → (s.putAcc a).orderUsed + a.unit ≤ s.transform.benchOrder →
      Completes (exec (.contrib m) s) fun u => { a with held := a.held ++ [(i, v)] } ∈ u.transform.accs ∧ SameBytes s u) ∧
    (a.isOpen = true → i = a.nextIdx → a.held = [] → a.nextIdx + 1 ≠ a.total → k.op = 0x2011 → op.dstDone = false →
      op.rootVals = [] → s.aheadOfCopy = none →
      Completes (exec (.contrib m) s) fun u => SameBytes s u ∧
        { a with acc := addWords a.acc v, nextIdx := a.nextIdx + 1 } ∈ u.transform.accs ∧
        ∃ g', u.group? m.slot = some g' ∧ g'.op = some { op with received := (m.shard, m.chunk, m.level, i) :: op.received })) ∧
  (∀ (s t : State) (m : GroupIn) (g : Group) (op : CollOp) (k : CollCmd) (c : Ctx) (q : Nat), PartHeard s m g op k c q →
    k.op = 0x2012 ∨ k.op = 0x2014 ∨ k.op = 0x2010 ∧ m.shard = q → (q, m.chunk) ∈ k.missingParts op →
    (s.addGathered m.slot q m.chunk m.body).progressColl m.slot = .ok t → (t.settleColl m.slot).aheadOfCopy = none →
    Completes (exec (.result m) s) fun u => SameBytes t u ∧ u.coll = (t.settleColl m.slot).coll) ∧
  (∀ (s : State) (m : GroupIn) (g : Group) (op : CollOp) (k : CollCmd) (c : Ctx) (q p : Nat),
    PartHeard s m g op k c q → k.op = 0x2012 → (q, m.chunk) ∈ k.missingParts op → (p, 0) ∈ k.missingParts op → p ≠ q →
    op.dstDone = false → s.aheadOfCopy = none →
    Completes (exec (.result m) s) fun u => SameBytes s u ∧ ∃ g', u.group? m.slot = some g' ∧
      g'.op = some { op with gathered := op.gathered ++ [(q, m.chunk, m.body)] }) ∧
  (∀ (s : State) (m : GroupIn) (g : Group) (op : CollOp) (k : CollCmd) (c : Ctx) (i : Instr),
    i ∈ [Instr.contrib m, .result m] → Heard s m g → s.collOf g = some (op, k) → s.ctx? op.ctx = some c →
    c.finished = false → op.opSeq = m.opSeq → op.held = false → m.shapeCheck ≠ k.shapeCheck c → g.idleOn s →
    Completes (exec i s) fun u => Ended u op.ctx stStateConflict 0x0534) ∧
  (∀ (s : State) (m : GroupIn) (g : Group) (subject : Nat) (k : Conn), Heard s m g →
    g.state = 2 ∨ g.state = 3 → subject = field m.body 0 2 → g.reports = [] → g.probes = [] → 2 ≤ g.quorum →
    g.mayConfirm subject = true → (g.member subject).map (·.confirmed) = some false →
    s.conn? (g.conn subject) = some k → k.sendQueue = [] →
    Completes (exec (.report m) s) fun u => SameBytes s u ∧ SentTo s u subject 0x21 [] ∧ ∃ g', u.group? m.slot = some g' ∧
      g'.reports = [{ subject := subject, reporter := m.sender, time := s.now }] ∧
      g'.probes = [{ subject := subject, since := s.now }]) ∧
  (∀ (s : State) (m : GroupIn) (g : Group) (k : Conn), Heard s m g → s.conn? (g.conn m.sender) = some k →
    k.sendQueue = [] →
    Completes (exec (.probe m) s) fun u => SameBytes s u ∧ SentTo s u m.sender 0x22 []) ∧
  (∀ (s : State) (m : GroupIn) (g : Group) (p : Probe), Heard s m g → p ∈ g.probes → p.subject = m.sender →
    (∀ r ∈ g.reports, r.subject = m.sender → r.reporter = g.self) →
    Completes (exec (.probeAck m) s) fun u => SameBytes s u ∧ ∃ g', u.group? m.slot = some g' ∧
      g'.probes = g.probes.filter (fun p => p.subject != m.sender) ∧
      g'.reports = g.reports.filter (fun r => r.subject != m.sender)) ∧
  (∀ (s : State) (m : GroupIn) (g : Group), Heard s m g → g.rankOf m.sender = none →
    Completes (exec (.leave m) s) fun u => SameBytes s u ∧ u.conn? (g.conn m.sender) = none) ∧
  (∀ (s : State) (m : GroupIn) (g : Group) (slot peer : Nat) (i : Instr), s.group? slot = some g →
    i = .leave m ∧ Heard s m g ∧ (g.rankOf m.sender).isSome = true ∧ slot = m.slot ∧ peer = m.sender ∨
      i = .collTimeout slot peer ∧ s.faults.safe = false ∧ peer < g.members.length ∧ peer ≠ g.self ∧
        (peer ∈ s.waitsOn g ∧ s.lastHeard g peer + s.e 0x2700 2 ≤ s.now ∨
          (s.conn? (g.conn peer)).map (·.state) = some 6) →
    (g.member peer).map (·.isLost) = some false → g.state = 2 ∨ g.state = 3 → g.op = none → g.idleOn s →
    g.self ∉ g.stewards.map g.memberAt →
    Completes (exec i s) fun u => ∃ g', u.group? slot = some g' ∧ g'.state = 3 ∧
      (g'.member peer).map (·.isLost) = some true ∧ g'.reportAt = some (g.reportAt.getD s.now) ∧
      u.e 0x2720 1 = (s.e 0x2720 1 + (g.stewards.map g.memberAt).eraseDups.length) % 2 ^ 64) ∧
  (∀ (s : State) (i : Nat) (k : Conn) (g : Group), s.conn? i = some k → k.isGroup = true → k.state = 3 → s.ztRuns = true →
    k.lastTx + s.e 0x2700 3 ≤ s.now → s.group? (connGroup i).1 = some g →
    Completes (exec (.collHeartbeat i) s) fun u => SameBytes s u ∧ SentOn s u i 0x30
      (toLe 4 k.expected.toNat ++ toLe 4 k.respNext.toNat ++ toLe (k.window / 8) k.sack)) ∧
  (∀ (s : State) (slot : Nat) (g : Group), s.group? slot = some g → s.faults.safe = false →
    (∀ subject x p, (g.probes.find? fun p => p.subject == subject) = some p → p.since + s.e 0x2700 2 ≤ s.now →
      g.stewards.map g.memberAt = [subject, x, g.self] → x ≠ g.self → x ≠ subject →
      (g.member subject).map (·.confirmed) = some false → (g.member x).map (·.confirmed) = some false →
      (g.rankOf subject).isSome = true →
      Completes (exec (.probeTimeout slot subject) s) fun u => SameBytes s u ∧ ∃ g', u.group? slot = some g' ∧
        (g'.member subject).map (·.confirmed) = some true ∧ g'.probes = g.probes.filter fun p => p.subject != subject) ∧
    (∀ op t c, g.op = some op → op.limitFrom = some t → op.held = false → t + op.limitLeft ≤ s.now →
      s.ctx? op.ctx = some c → c.finished = false →
      Completes (exec (.collOpLimit slot) s) fun u =>
        Ended u op.ctx stPeerTimeout (lossDetail 2 (minNat ((s.waitsOn g).filterMap fun m => g.rankOf m) 0xFFFF))) ∧
    (∀ t, g.reportAt = some t → g.state = 3 → g.escalated = false → t + s.e 0x2700 4 ≤ s.now →
      Completes (exec (.collEscalate slot) s) fun u => u.e 0x2720 3 = (s.e 0x2720 3 + 1) % 2 ^ 64))
/-- The Snapshot commands and the copies of generations (R372 to R384, R406 to R408). -/
def Obligations.SnapshotCommandsComplete : Prop :=
  (∀ (s t : State) (id image : Nat) (c : Ctx) (q : Queue), Running s id 0x3001 c q → s.attachSet c = .ok (t, image) →
    ((t.finish id stOk image (snapArea {} 0)).putCab c.cabinet (arg c.record 0 8 + 48) (zeros 32)).aheadOfCopy = none →
    Completes (exec (.snapAttach id) s) fun u => Ended u id 0 image ∧
      SameBytes ((t.finish id stOk image (snapArea {} 0)).putCab c.cabinet (arg c.record 0 8 + 48) (zeros 32)) u ∧
      ∃ x ∈ u.snap.sets, x.state = 1 ∧ x.cabinet = c.cabinet ∧ x.imageBytes = image ∧ s.set? x.slot = none) ∧
  (∀ (s w : State) (id : Nat) (c : Ctx) (q : Queue) (e : Err), Running s id 0x3001 c q → s.attachSet c = .error e →
    e.bad = none → e.outside = none → e.status ≠ stHostLeaseLost →
    w = (if arg c.record 0 8 % 64 = 0 then (s.finishErr id e).putCab c.cabinet (arg c.record 0 8 + 48) (zeros 32)
      else s.finishErr id e) → w.aheadOfCopy = none →
    Completes (exec (.snapAttach id) s) fun u => Ended u id e.status e.detail ∧ SameBytes w u) ∧
  (∀ (s : State) (id slot : Nat) (c : Ctx) (q : Queue) (x : SnapSet) (g : Group), OnSet s id 0x3002 slot c q g x →
    slot = arg c.record 0 1 → reservedErr c.record [(0, 1)] = none →
    Completes (exec (.snapDetach id) s) fun u => Ended u id 0 0 ∧ u.set? slot = none ∧ u.group? slot = some g ∧ SameBytes s u ∧
      (∀ k ∈ u.trust.slots, k.slot ≠ x.keySlot)) ∧
  (∀ (s : State) (id slot : Nat) (c : Ctx) (q : Queue), Running s id 0x3002 c q → slot = arg c.record 0 1 → slot < 64 →
    reservedErr c.record [(0, 1)] = none →
    (s.set? slot = none → Completes (exec (.snapDetach id) s) fun u => Ended u id stStateConflict 0x0541) ∧
    (∀ x g, s.set? slot = some x → s.group? slot = some g → x.cabinet = c.cabinet → g.queue ≠ c.queue →
      Completes (exec (.snapDetach id) s) fun u => Ended u id stStateConflict 0x0545)) ∧
  (∀ (s : State) (id slot step : Nat) (c : Ctx) (q : Queue) (x : SnapSet) (g : Group), OnSet s id 0x3010 slot c q g x →
    slot = arg c.record 0 1 → reservedErr c.record [(0, 1), (16, 8)] = none → step = arg c.record 16 8 → step ≠ 0 →
    (g.state ≠ 2 → Completes (exec (.snapCut id) s) fun u => Ended u id stStateConflict 0x0543) ∧
    (g.state = 2 → (x.gen x.newest).state ≠ 0 → step ≤ (x.gen x.newest).step →
      Completes (exec (.snapCut id) s) fun u => Ended u id stStateConflict 0x0542) ∧
    (g.state = 2 → ((x.gen x.newest).state = 0 ∨ (x.gen x.newest).step < step) →
      (x.state = 4 ∨ (∃ d ∈ s.contract.ctxs, d.id < id ∧ ∃ h ∈ x.queueList, handleIndex h = d.queue) →
        Completes (exec (.snapCut id) s) fun u => u = s) ∧
      (x.state ≠ 4 → (∀ d ∈ s.contract.ctxs, (∃ h ∈ x.queueList, handleIndex h = d.queue) → id ≤ d.id) →
        ((x.gen x.nextBuffer).isHeld = true → (x.gen x.nextBuffer).mirrorAcked = false → x.cutCtx ≠ some id →
          Completes (exec (.snapCut id) s) fun u => u.mem = s.mem ∧ u.contract = s.contract ∧
            u.e 0x2820 3 = (s.e 0x2820 3 + 1) % 2 ^ 64 ∧ ∃ x', u.set? slot = some x' ∧ x'.cutCtx = some id ∧ x'.gens = x.gens) ∧
        ((x.gen x.nextBuffer).isHeld = false ∨ (x.gen x.nextBuffer).mirrorAcked = true → x.gens.length = 2 → x.newest < 2 →
          65536 ≤ x.imageBytes →
          Completes (exec (.snapCut id) s) fun u => Ended u id 0 x.nextBuffer ∧ SameBytes s u ∧ u.zt = s.zt ∧ u.coll = s.coll ∧
            ∃ x', u.set? slot = some x' ∧ x'.state = 2 ∧ x'.newest = x.nextBuffer ∧
              x'.gen x.nextBuffer = s.cutGen x g step ∧ x'.gen (1 - x.nextBuffer) = x.gen (1 - x.nextBuffer))))) ∧
  (∀ (s t : State) (id slot b region : Nat) (rest : List Nat) (c : Ctx) (q : Queue) (x : SnapSet) (g : Group),
    OnSet s id 0x3011 slot c q g x → slot = arg c.record 0 1 → reservedErr c.record [(0, 2), (4, 4)] = none →
    region = arg c.record 4 4 →
    (x.heldBuffers = [] → arg c.record 1 1 = 0 →
      Completes (exec (.snapRollback id) s) fun u => Ended u id stStateConflict 0x0544) ∧
    (x.heldBuffers = b :: rest → x.marksVoid = false → x.rollbackRefused = false →
      (arg c.record 1 1 = 0 →
        (region ≠ 0xFFFFFFFF → (∀ e ∈ x.ranges, e.regionId ≠ region) →
          Completes (exec (.snapRollback id) s) fun u => Ended u id stBadRange 4) ∧
        ((region = 0xFFFFFFFF ∨ ∃ e ∈ x.ranges, e.regionId = region) →
          s.copyBack s x b ((rangeGranules (fun e => region = 0xFFFFFFFF || e.regionId = region) 0 x.ranges).filter
            (x.gen b).dirty.contains) = .ok t → t.aheadOfCopy = none →
          Completes (exec (.snapRollback id) s) fun u => Ended u id 0 (x.gen b).step ∧ SameBytes t u ∧
            u.contract.queues = s.contract.queues ∧ u.contract.syncs = s.contract.syncs)) ∧
      (arg c.record 1 1 = 1 → region ≠ 0xFFFFFFFF → g.state = 2 →
        (∀ m, x.rollbackCtx = none → g.actingSteward = some m → m ≠ g.self → g.idleOn s →
          (∃ k, s.conn? (g.conn m) = some k) →
          Completes (exec (.snapRollback id) s) fun u => SentTo s u m 0x0A [] ∧
            (∃ d, u.ctx? id = some d ∧ d.waiting = true ∧ d.finished = false) ∧
            ∃ x', u.set? slot = some x' ∧ x'.rollbackCtx = some (c.queue, c.slot, none)) ∧
        (∀ step, x.rollbackCtx = some (c.queue, c.slot, some step) →
          Completes (exec (.snapRollback id) s) fun u => Ended u id 0 step ∧ SameBytes s u)))) ∧
  (∀ (s : State) (id slot m : Nat) (blk : Bytes) (c : Ctx) (q : Queue) (x : SnapSet) (g : Group) (v : Finding),
    OnSet s id 0x3020 slot c q g x → slot = arg c.record 8 1 → reservedErr c.record [(0, 9), (16, 8)] = none →
    arg c.record 0 8 % 64 = 0 → s.readCab c.cabinet (arg c.record 0 8) 64 = .ok blk →
    (g.state ≠ 2 → Completes (exec (.snapRestore id) s) fun u => Ended u id stStateConflict 0x0543) ∧
    (g.state = 2 → x.state = 1 ∨ x.state = 2 →
      (restoreBlockBad blk = true → Completes (exec (.snapRestore id) s) fun u => Ended u id stBadRange 0) ∧
      (restoreBlockBad blk = false → s.connOf? c.cabinet (field blk 24 4) = some 2 →
        Completes (exec (.snapRestore id) s) fun u => Ended u id stStateConflict 0x0520) ∧
      (∀ r, restoreBlockBad blk = false → s.connOf? c.cabinet (field blk 24 4) = some 3 → field blk 32 8 = 0 →
        g.rankOf g.self = some r → v = (oldPool s.fresh blk).verify x r g.ranks → g.actingSteward = some m → m ≠ g.self →
        g.idleOn s → (∃ k, s.conn? (g.conn m) = some k) → s.aheadOfCopy = none →
        Completes (exec (.snapRestore id) s) fun u => SameBytes s u ∧
          (∃ d, u.ctx? id = some d ∧ d.waiting = true ∧ d.finished = false) ∧
          (∃ body, SentTo s u m 0x0B body ∧ body.take 2 = toLe 2 v.steps.length) ∧
          ∃ x', u.set? slot = some x' ∧ x'.state = 4 ∧ x'.restoreCtx = some id ∧ x'.restoreBlock = blk))) ∧
  (∀ (s : State) (slot i m : Nat) (x : SnapSet) (a b : Generation) (g : Group) (bs : Bytes), s.set? slot = some x →
    x.gens = [a, b] → a.state = 1 → b.state ≠ 1 → a.copied.contains i = false → s.snapTraffic = true → i ∈ x.granules →
    s.readCab x.cabinet (x.sourceAddr 0 i) 65536 = .ok bs → (∀ k ∈ s.zt.conns, k.accepted = []) → s.group? slot = some g →
    g.buddy x.buddyStride = some m → (∃ k, s.conn? (g.conn m) = some k) → g.idleOn s →
    ((∃ j ∈ x.granules, j ≠ i ∧ a.copied.contains j = false) →
      Completes (exec (.granuleCopy slot i) s) fun u => SameBytes (s.putUntracked x.cabinet (x.bufferAddr 0 i) bs) u ∧
        u.e 0x2820 0 = (s.e 0x2820 0 + 1) % 2 ^ 64 ∧
        ∃ x', u.set? slot = some x' ∧ (x'.gen 0).copied = a.copied ++ [i] ∧ (x'.gen 0).state = 1 ∧ x'.gen 1 = b) ∧
    ((∀ j ∈ x.granules, j ≠ i → a.copied.contains j = true) →
      Completes (exec (.granuleCopy slot i) s) fun u =>
        ∃ x', u.set? slot = some x' ∧ (x'.gen 0).copied = a.copied ++ [i] ∧ (x'.gen 0).state = 2)) ∧
  (∀ (s : State) (slot i : Nat) (x : SnapSet) (a b : Generation) (y : Stall) (bs : Bytes), s.set? slot = some x →
    x.gens = [a, b] → a.lacks i = true → b.state ≠ 1 → s.faults.safe = false → x.stalls = [y] → y.granule = i →
    (x.reserveLen / 65536 ≤ a.reserve.length + b.reserve.length → y.starved = false →
      Completes (exec (.cowCopy slot i) s) fun u => u.mem = s.mem ∧ u.e 0x2820 2 = (s.e 0x2820 2 + 1) % 2 ^ 64 ∧
        ∃ x', u.set? slot = some x' ∧ x'.stalls = [{ y with starved := true }] ∧ x'.gens = x.gens) ∧
    (∀ r, a.reserve.length + b.reserve.length < x.reserveLen / 65536 →
      lowestFree x.reserveUsed 0 (x.reserveLen / 65536) = some r → s.readCab x.cabinet (x.granuleAddr i) 65536 = .ok bs →
      (∀ k ∈ s.zt.conns, k.accepted = []) →
      Completes (exec (.cowCopy slot i) s) fun u => SameBytes (s.putUntracked x.cabinet (x.reserveAddr r) bs) u ∧
        ∃ x', u.set? slot = some x' ∧ (x'.gen 0).reserve = a.reserve ++ [(r, i)] ∧ (x'.gen 0).state = 1 ∧ x'.gen 1 = b ∧
          x'.stalls = []))
/-- The snapshot messages (R387 to R393, R399 to R404, R409, R410). -/
def Obligations.SnapshotMessagesComplete : Prop :=
  (∀ (s : State) (m : SnapIn) (g : Group) (x : SnapSet) (a b : MirrorSlot), SnapHeard s m g x → x.mirrors = [a, b] →
    x.slot = m.slot →
    (m.body.length = 65536 → m.arg % 65536 = 0 →
      (∀ r rank, g.sendsImage x m.sender = false → g.rankOf g.self = some r → g.rankOf m.sender = some rank →
        g.wardRank x.buddyStride r = rank → m.arg + 65536 ≤ x.imageMax →
        Completes (exec (.mirrorData m) s) fun u =>
          SameBytes (s.putUntracked x.cabinet (x.mirrorAddr (x.mirrorSlotFor m.step) + m.arg) m.body) u ∧
          ∃ x' y, u.set? m.slot = some x' ∧ x'.mirrors[x.mirrorSlotFor m.step]? = some y ∧ y.step = m.step ∧ y.complete = false ∧
            y.granules.contains (m.arg / 65536) = true) ∧
      (g.sendsImage x m.sender = true → x.granules.contains (m.arg / 65536) = true →
        Completes (exec (.mirrorData m) s) fun u =>
          SameBytes (s.putUntracked x.cabinet (x.granuleAddr (m.arg / 65536)) (slice m.body 0 65536)) u)) ∧
    (∀ r rank y, g.sendsImage x m.sender = false → g.rankOf g.self = some r → g.rankOf m.sender = some rank →
      g.wardRank x.buddyStride r = rank → x.mirrors[x.mirrorSlotFor m.step]? = some y → y.step = m.step →
      ((∀ j, j < m.arg / 65536 → y.granules.contains j = true) → g.idleOn s → (∃ k, s.conn? (g.conn m.sender) = some k) →
        Completes (exec (.mirrorDone m) s) fun u => SameBytes s u ∧ SentTo s u m.sender 0x03 [] ∧
          ∃ x', u.set? m.slot = some x' ∧ x'.mirrors[x.mirrorSlotFor m.step]? =
            some { step := m.step, granules := y.granules, total := m.arg, complete := true, syncVals := readSyncBody m.body }) ∧
      ((∃ j, j < m.arg / 65536 ∧ y.granules.contains j = false) → Completes (exec (.mirrorDone m) s) fun u => u = s)) ∧
    (g.sendsImage x m.sender = true → x.gens.length = 2 → x.newest < 2 → 65536 ≤ x.imageBytes → x.syncList = [] →
      x.rollbackSync = 0 →
      Completes (exec (.mirrorDone m) s) fun u => ∃ x', u.set? m.slot = some x' ∧ x'.state = 2 ∧ x'.isSpare = false ∧
        x'.newest = x.nextBuffer ∧ (x'.gen x.nextBuffer).step = m.step ∧ (x'.gen x.nextBuffer).state = 1)) ∧
  (∀ (s : State) (m : SnapIn) (g : Group) (x : SnapSet) (a b : Generation), SnapHeard s m g x → x.slot = m.slot →
    x.gens = [a, b] →
    (a.isHeld = true → a.step = m.step → b.isHeld = false → x.k = 0 →
      Completes (exec (.mirrorAck m) s) fun u => u.zt = s.zt ∧ ∃ x', u.set? m.slot = some x' ∧
        x'.mirroredStep = max x.mirroredStep m.step ∧ (x'.gen 0).mirrorAcked = true ∧ (x'.gen 0).step = a.step ∧
        (x'.gen 1).mirrorAcked = b.mirrorAcked) ∧
    (∀ r, a.state = 2 → a.step = m.step → b.isHeld = false → a.drained = false → x.drainsStep a.step = true →
      classAllowed s.effLevel 8 = true → g.rankOf g.self = some r → s.poolOpen x = true → x.mirrorSync = 0 →
      (∀ k ∈ s.zt.conns, k.sendQueue = [] ∧ k.version ≠ 1) →
      Completes (exec (.mirrorAck m) s) fun u => SameBytes s u ∧
        (∃ j ∈ u.zt.jobs, j.kind = 0 ∧ j.slot = m.slot ∧ j.step = a.step ∧ j.rank = r) ∧
        ∃ x', u.set? m.slot = some x' ∧ (x'.gen 0).drained = true ∧
          { step := a.step, buffer := 0, stage := 0, durable := [], manifest := [] } ∈ x'.drains) ∧
    (a.isHeld = true → b.isHeld = false → a.step ≠ m.step → Completes (exec (.mirrorAck m) s) fun u => u = s)) ∧
  (∀ (s : State) (m : SnapIn) (g : Group) (x : SnapSet) (rank : Nat), SnapHeard s m g x → x.slot = m.slot → x.k ≠ 0 →
    rank = (g.rankOf m.sender).getD 0xFFFF →
    (m.arg % 256 < x.k + 2 → m.arg / 256 + m.body.length ≤ fragSize x.imageMax x.k → x.stripes = [] →
      Completes (exec (.fragment m) s) fun u =>
        SameBytes (s.putUntracked x.cabinet (x.stripeBase + m.step / max x.drainEvery 1 % 2 * ((x.k + 2) * fragSize x.imageMax x.k) +
          m.arg % 256 * fragSize x.imageMax x.k + m.arg / 256) m.body) u ∧
        ∃ x', u.set? m.slot = some x' ∧ x'.stripes =
          [{ rank := rank, fragment := m.arg % 256, step := m.step, landed := m.body.length, writing := false }]) ∧
    (x.stripes = [] → g.idleOn s → (∃ k, s.conn? (g.conn m.sender) = some k) →
      Completes (exec (.fragmentDone m) s) fun u => SameBytes s u ∧ SentTo s u m.sender 0x06 [1]) ∧
    (x.stripes = [{ rank := rank, fragment := m.arg, step := m.step, landed := fragSize x.imageMax x.k, writing := false }] →
      s.poolOpen x = true → (∀ k ∈ s.zt.conns, k.sendQueue = [] ∧ k.version ≠ 1) →
      Completes (exec (.fragmentDone m) s) fun u =>
        (∃ j ∈ u.zt.jobs, j.kind = 1 ∧ j.slot = m.slot ∧ j.step = m.step ∧ j.rank = rank ∧ j.fragment = m.arg) ∧
        ∃ x' y, u.set? m.slot = some x' ∧ x'.stripes = [y] ∧ y.writing = true) ∧
    (∀ d, x.drains = [d] → d.step = m.step → d.stage = 1 →
      (field m.body 0 1 ≠ 0 → Completes (exec (.fragmentDurable m) s) fun u => SameBytes s u ∧ u.zt = s.zt ∧
        u.e 0x2820 4 = (s.e 0x2820 4 + 1) % 2 ^ 64 ∧ ∃ x', u.set? m.slot = some x' ∧ x'.drains = []) ∧
      (field m.body 0 1 = 0 → d.durable.contains m.arg = false → d.durable.length + 1 < x.k + 2 →
        Completes (exec (.fragmentDurable m) s) fun u => SameBytes s u ∧ u.zt = s.zt ∧
          ∃ x', u.set? m.slot = some x' ∧ x'.drains = [{ d with durable := m.arg :: d.durable }]) ∧
      (field m.body 0 1 = 0 → d.durable.contains m.arg = false → d.durable.length + 1 = x.k + 2 → s.poolOpen x = true →
        (∀ k ∈ s.zt.conns, k.sendQueue = [] ∧ k.version ≠ 1) → ∀ r, g.rankOf g.self = some r →
        Completes (exec (.fragmentDurable m) s) fun u =>
          ∃ j ∈ u.zt.jobs, j.kind = 2 ∧ j.slot = m.slot ∧ j.step = m.step ∧ j.rank = r))) ∧
  (∀ (s : State) (m : SnapIn) (g : Group) (x : SnapSet), SnapHeard s m g x → x.slot = m.slot →
    (∀ r, g.round = some r → (∃ v ∈ g.voters, v ≠ m.sender ∧ (r.votes.any fun p => p.1 == v) = false) →
      Completes (exec (.vote m) s) fun u => SameBytes s u ∧ u.zt = s.zt ∧ u.snap = s.snap ∧ ∃ g', u.group? m.slot = some g' ∧
        g'.round = some { r with votes := putKey r.votes m.sender ((List.range 4).map fun i => field m.body (8 * i) 8) }) ∧
    (g.actingSteward = some g.self → g.round = none → (∃ v ∈ g.voters, v ≠ g.self) → g.idleOn s →
      Completes (exec (.rollbackReq m) s) fun u => ∃ g' r, u.group? m.slot = some g' ∧ g'.round = some r ∧ r.start = s.now ∧
        r.limit = s.e 0x2801 0 ∧ r.votes = [(g.self, x.vote)]) ∧
    (g.actingSteward = some m.sender → g.idleOn s → (∃ k, s.conn? (g.conn m.sender) = some k) →
      Completes (exec (.rollbackReq m) s) fun u => SameBytes s u ∧ SentTo s u m.sender 0x07 (x.vote.flatMap (toLe 8))) ∧
    (g.actingSteward = some m.sender →
      (m.arg = 0 → g.op = none → x.rollbackCtx = none →
        Completes (exec (.rollback m) s) fun u => ∃ x', u.set? m.slot = some x' ∧ x'.state = 2 ∧ x'.rollbackRefused = true ∧
          x'.isSpare = false) ∧
      (∀ r h, m.arg ≠ 0 → g.rankOf g.self = some r → g.unrolled.contains r = true → g.buddy x.buddyStride = some h →
        g.idleOn s → (∃ k, s.conn? (g.conn h) = some k) →
        Completes (exec (.rollback m) s) fun u => SameBytes s u ∧ SentTo s u h 0x09 [] ∧
          ∃ x', u.set? m.slot = some x' ∧ x'.state = 3 ∧ x'.isSpare = true) ∧
      (∀ t gen qi mark qq, m.arg ≠ 0 → g.unrolled = [] → x.gens = [gen, default] → x.newest = 0 → gen.isHeld = true →
        gen.step = m.arg → (∀ c ∈ s.contract.ctxs, ∀ h ∈ x.queueList, handleIndex h ≠ c.queue) → g.op = none →
        s.copyBack s x 0 gen.dirty = .ok t → x.syncList = [] → x.rollbackSync = 0 → gen.marks = [(qi, mark)] →
        s.queue? qi = some qq →
        Completes (exec (.rollback m) s) fun u => SameBytes t u ∧ (∃ q', u.queue? qi = some q' ∧ q'.head = mark) ∧
          (∃ g', u.group? m.slot = some g' ∧ g'.opSeq = gen.opMark) ∧ ∃ x', u.set? m.slot = some x' ∧ x'.state = 2)) ∧
    (∀ i y bs, (x.mirrors.findIdx? fun y => y.complete && y.step == m.arg) = some i → x.mirrors[i]? = some y →
      y.total = 65536 → s.readCab x.cabinet (x.mirrorAddr i) 65536 = .ok bs → g.buddy x.buddyStride ≠ some m.sender →
      g.idleOn s → (∃ k, s.conn? (g.conn m.sender) = some k) →
      Completes (exec (.pull m) s) fun u => SameBytes s u ∧ ∃ d e, u.coll.outbox = d :: e :: s.coll.outbox ∧
        d.member = m.sender ∧ d.ty = 2 ∧ d.body = syncBody y.syncVals ∧ e.member = m.sender ∧ e.ty = 1 ∧ e.body = bs) ∧
    ((x.mirrors.findIdx? fun y => y.complete && y.step == m.arg) = none → Completes (exec (.pull m) s) fun u => u = s) ∧
    (∀ id n, g.actingSteward = some g.self → x.restoreCtx = some id → n ∈ g.rankMap → n ≠ m.sender →
      (g.verdicts.any fun v => v.1 == n) = false →
      Completes (exec (.verdict m) s) fun u => SameBytes s u ∧ u.zt = s.zt ∧ u.snap = s.snap ∧ u.contract = s.contract ∧
        ∃ g', u.group? m.slot = some g' ∧ g'.verdicts = putKey g.verdicts m.sender
          ((List.range (field m.body 0 2)).map fun i => (field m.body (2 + 16 * i) 8, field m.body (10 + 16 * i) 4))) ∧
    (∀ id c, g.actingSteward = some m.sender → x.restoreCtx = some id → s.ctx? id = some c → c.finished = false →
      (m.arg = 0 → Completes (exec (.restoreStep m) s) fun u => Ended u id stDigestMismatch x.restoreSteps ∧
        ∃ x', u.set? m.slot = some x' ∧ x'.state = 1 ∧ x'.restoreCtx = none) ∧
      (∀ t, m.arg ≠ 0 → s.fillSet g x id m.arg = .ok t → t.aheadOfCopy = none →
        Completes (exec (.restoreStep m) s) fun u => SameBytes t u ∧ u.contract = t.contract ∧
          u.e 0x2820 6 = (t.e 0x2820 6 + 1) % 2 ^ 64) ∧
      (m.arg ≠ 0 → g.rankOf g.self = none → s.aheadOfCopy = none →
        Completes (exec (.restoreStep m) s) fun u => SameBytes s u ∧ Ended u id 0 m.arg ∧
          ∃ x', u.set? m.slot = some x' ∧ x'.state = 2 ∧ x'.restoreCtx = none))) ∧
  (∀ (s : State) (m : SnapIn) (g : Group) (i : Instr), s.faults.safe = false → s.contract.activation ≠ 1 →
    s.group? m.slot = some g → m.sender < g.members.length → m.sender ≠ g.self → 2 ≤ g.state → m.epoch < g.epoch →
    i ∈ [Instr.mirrorData m, .mirrorDone m, .mirrorAck m, .fragment m, .fragmentDone m, .fragmentDurable m, .vote m,
      .rollback m, .pull m, .rollbackReq m, .verdict m, .restoreStep m] →
    Completes (exec i s) fun u => u.mem = s.mem ∧ u.zt = s.zt ∧ u.coll = s.coll ∧ u.snap = s.snap ∧
      u.e 0x2720 6 = (s.e 0x2720 6 + 1) % 2 ^ 64) ∧
  (∀ (s : State) (slot n : Nat) (g : Group) (r : VoteRound), s.group? slot = some g → g.round = some r → s.faults.safe = false →
    s.contract.activation ≠ 1 → g.voters.contains n = true → n ≠ g.self → (r.votes.any fun v => v.1 == n) = false →
    (s.now < r.start + r.limit → Completes (exec (.voteWait slot n) s) fun u => u = s) ∧
    (r.start + r.limit ≤ s.now → Completes (exec (.voteWait slot n) s) fun u =>
      SameBytes (s.confirmLoss slot n) u ∧ u.coll = (s.confirmLoss slot n).coll ∧ u.snap = (s.confirmLoss slot n).snap ∧
        u.contract = (s.confirmLoss slot n).contract))
/-- The packet path's events (R415, R421, R422, R428, R430, R434 to R436, R442 to R444, R446). -/
def Obligations.PacketPathComplete : Prop :=
  (∀ (s : State) (port : Nat) (bytes : Bytes) (k : Key) (a : Action), port < 4 → s.framesPass = true →
    (bytes ≠ withFcs (noFcs bytes) → Completes (exec (.frameReceive port bytes) s) fun u => u.mem = s.mem ∧ u.packet = s.packet ∧
      u.e 0x3014 port = (s.e 0x3014 port + 1) % 2 ^ 64) ∧
    (bytes = withFcs (noFcs bytes) → s.e 0x2900 3 < bytes.length →
      Completes (exec (.frameReceive port bytes) s) fun u => u.mem = s.mem ∧ u.packet = s.packet ∧
        u.e 0x290B 0 = (s.e 0x290B 0 + 1) % 2 ^ 64 ∧ u.e 0x3010 port = (s.e 0x3010 port + 1) % 2 ^ 64) ∧
    (bytes = withFcs (noFcs bytes) → bytes.length ≤ s.e 0x2900 3 → s.parse port bytes = k → k.bad = false → k.fragment = false →
      k.first = false → s.packet.committed.classify k.bytes = a → a.flowId = 0 → bit a.aflags 1 = false → bit a.aflags 2 = false →
      (a.act = 0 → Completes (exec (.frameReceive port bytes) s) fun u => u.mem = s.mem ∧ u.packet = s.packet ∧
        u.contract = s.contract ∧ u.e 0x290B 1 = (s.e 0x290B 1 + 1) % 2 ^ 64 ∧
        u.e 0x3011 port = (s.e 0x3011 port + bytes.length) % 2 ^ 64) ∧
      (∀ x, s.subscriber? a.subscriber = some x → x.enabled = true → bit a.aflags 3 = false →
        (s.packet.services.find? fun y => y.subscriber == a.subscriber && y.id == a.service) = none →
        (a.act = 2 → s.portAllowed a.subscriber a.tmPort = true →
          s.queueFull a.tmPort a.subscriber a.service bytes.length = false →
          Completes (exec (.frameReceive port bytes) s) fun u => u.mem = s.mem ∧ u.contract = s.contract ∧ ∃ q f,
            u.svcQueue? a.tmPort a.subscriber a.service = some q ∧
            q.frames = ((s.svcQueue? a.tmPort a.subscriber a.service).map (·.frames)).getD [] ++ [f] ∧ f.bytes = bytes ∧
            f.inPort = port ∧ f.version = s.e 0x2901 0) ∧
        (a.act = 1 → a.tmPort = 0xFF → a.consumer = 3 →
          Completes (exec (.frameReceive port bytes) s) fun u => u.mem = s.mem ∧ u.packet.queues = s.packet.queues ∧
            ∃ f, u.packet.rxWaiting = s.packet.rxWaiting ++ [(handleIndex a.queue, f)] ∧ f.bytes = bytes ∧
              f.arrived = s.now)))) ∧
  (∀ (s : State) (i : Nat) (f : Frame) (x : FragEntry), s.faults.safe = false →
    (s.packet.fragWait[i]? = some f →
      (s.now < f.arrived + s.e 0x2902 0 → Completes (exec (.fragWaitLimit i) s) fun u => u = s) ∧
      (f.arrived + s.e 0x2902 0 ≤ s.now → s.e 0x2902 2 = 0 → Completes (exec (.fragWaitLimit i) s) fun u => u.mem = s.mem ∧
        u.packet = { s.packet with fragWait := s.packet.fragWait.eraseIdx i } ∧
        u.e 0x2902 5 = (s.e 0x2902 5 + 1) % 2 ^ 64)) ∧
    (s.packet.frags[i]? = some x →
      (s.now < x.lastSeen + s.e 0x2902 1 → Completes (exec (.fragEntryLifetime i) s) fun u => u = s) ∧
      (x.lastSeen + s.e 0x2902 1 ≤ s.now → Completes (exec (.fragEntryLifetime i) s) fun u =>
        u = { s with packet := { s.packet with frags := s.packet.frags.eraseIdx i } }))) ∧
  (∀ (s : State) (qi w : Nat) (q : Queue) (f : Frame) (r : Bytes) (l : List Bytes),
    (s.packet.rxWaiting.find? fun w => w.1 == qi) = some (w, f) → s.framesPass = true → s.queue? qi = some q → q.kind = 1 →
    q.engine = 7 →
    (q.state ≠ 1 → Completes (exec (.packetDelivery qi) s) fun u => u.mem = s.mem ∧
      u.packet = (s.popRx qi).packet ∧ u.e 0x290B 4 = (s.e 0x290B 4 + 1) % 2 ^ 64) ∧
    (q.state = 1 → s.fetchHead q = .ok none → Completes (exec (.packetDelivery qi) s) fun u => u = s) ∧
    (q.state = 1 → s.fetchHead q = .ok (some (r, l)) → rxRecordErr r = none →
      (field r 8 4 < (noFcs f.bytes).length → Completes (exec (.packetDelivery qi) s) fun u => u.mem = s.mem ∧
        u.contract = s.contract ∧ u.packet = (s.popRx qi).packet ∧ u.e 0x290B 4 = (s.e 0x290B 4 + 1) % 2 ^ 64) ∧
      ((noFcs f.bytes).length ≤ field r 8 4 → s.canWrite q.cabinet (field r 0 8) (noFcs f.bytes).length = none →
        (s.landedPacket q r f).aheadOfCopy = none →
        Completes (exec (.packetDelivery qi) s) fun u => SameBytes (s.landedPacket q r f) u ∧
          u.packet.rxWaiting = (s.popRx qi).packet.rxWaiting ∧ u.packet.queues = s.packet.queues))) ∧
  (∀ (s : State) (id port sub svc : Nat) (c : Ctx) (b : Bytes), s.ctx? id = some c → s.ctxEngine c = 8 → c.finished = false →
    c.waiting = false → s.held c = false → s.queuedFrame id = false → sub = field c.record 16 2 → svc = field c.record 18 1 →
    port = field c.record 20 1 →
    (∀ e, s.txRecordErr c.cabinet c.record = some e → Completes (exec (.frameRecord id) s) fun u => Ended u id e.status e.detail ∧
      u.packet = s.packet) ∧
    (s.txRecordErr c.cabinet c.record = none → s.readCab c.cabinet (field c.record 0 8) (field c.record 8 4) = .ok b →
      (s.queueFull port sub svc (s.txFrame c.record b).length = true → Completes (exec (.frameRecord id) s) fun u => u = s) ∧
      (s.queueFull port sub svc (s.txFrame c.record b).length = false →
        Completes (exec (.frameRecord id) s) fun u => u.mem = s.mem ∧ u.contract = s.contract ∧ ∃ q f,
          u.svcQueue? port sub svc = some q ∧
          q.frames = ((s.svcQueue? port sub svc).map (·.frames)).getD [] ++ [f] ∧ f.bytes = s.txFrame c.record b ∧
          f.fromCtx = some id))) ∧
  (∀ (s : State) (port : Nat) (q : SvcQueue) (sr : List Drr) (ts : List Turn) (f : Frame) (rest : List Frame), port < 14 →
    s.framesPass = true → s.nextToSend port = some (q, sr, ts) → q.frames = f :: rest →
    Completes (exec (.portDequeue port) s) fun u => u.mem = s.mem ∧
      u.e 0x2909 port = (s.e 0x2909 port + f.bytes.length) % 2 ^ 64 ∧
      (port < 4 → u.packet.txLog = (port, f.bytes) :: s.packet.txLog ∧ u.e 0x3012 port = (s.e 0x3012 port + 1) % 2 ^ 64) ∧
      (port = 13 → u.packet.loopback = s.packet.loopback ++ [f.bytes] ∧ u.packet.txLog = s.packet.txLog) ∧
      (∀ id c, f.fromCtx = some id → s.ctx? id = some c → c.finished = false → Ended u id 0 0)) ∧
  (∀ (s : State) (port t : Nat) (x : Shaper), port < 14 → s.faults.safe = false → s.packet.shapers = [x] → x.port = port →
    x.slotAt = some t → x.coarse = false →
    (s.now < t → Completes (exec (.calendarSlotExpiry port) s) fun u => u = s) ∧
    (t ≤ s.now → s.shaperRate x.subscriber x.service = (x.rate, x.burst) →
      0 < x.tokens + ((x.rate * (s.now - x.lastRefill) : Nat) : Int) → 0 < x.burst →
      Completes (exec (.calendarSlotExpiry port) s) fun u => u.mem = s.mem ∧ u.dict = s.dict ∧ u.packet.shapers =
        [{ x with
            slotAt := none
            tokens := min (x.tokens + ((x.rate * (s.now - x.lastRefill) : Nat) : Int)) ((x.burst * shaperUnit : Nat) : Int)
            lastRefill := s.now }]))
/-- The rule set's commands and TM_APPLY (R424, R426, R427, R437, R439). -/
def Obligations.RuleCommandsComplete : Prop :=
  (∀ (s : State) (r : ActReq) (bs : Bytes), Granted s r 0x2901 3 →
    s.readCab 0 (s.e 0x2901 1) (160 * s.e 0x2901 2) = .ok bs →
    (∀ i reason, s.applyRules s.packet.shadow 0 (chunksOf 160 (s.e 0x2901 2) bs) = .error (i, reason) →
      Completes (exec (.ruleStage r) s) fun u => SameBytes s u ∧ u.packet = s.packet ∧
        u.e 0x2901 6 = stageResult i reason % 2 ^ 64 ∧ u.e 0x2901 7 = s.e 0x2901 7) ∧
    (∀ rules, s.applyRules s.packet.shadow 0 (chunksOf 160 (s.e 0x2901 2) bs) = .ok rules →
      Completes (exec (.ruleStage r) s) fun u => SameBytes s u ∧ u.packet.shadow = rules ∧
        u.packet.committed = s.packet.committed ∧ u.e 0x2901 6 = 0xFFFFFFFF ∧ u.e 0x2901 0 = s.e 0x2901 0 ∧
        (s.e 0x2901 7 = 0 → u.e 0x2901 7 = 1) ∧ (s.e 0x2901 7 ≠ 0 → u.e 0x2901 7 = s.e 0x2901 7))) ∧
  (∀ (s : State) (r : ActReq), Granted s r 0x2901 4 →
    (s.e 0x2901 7 ≠ 2 → Completes (exec (.ruleCommit r) s) fun u => SameBytes s u ∧
      u.e 0x2901 0 = (s.e 0x2901 0 + 1) % 2 ^ 16 ∧ u.e 0x2901 7 = 2 ∧ u.packet.committed = s.packet.shadow ∧
      u.packet.previous = some s.packet.committed ∧ u.packet.shadow = s.packet.shadow ∧ u.packet.queues = s.packet.queues ∧
      u.packet.frags = s.packet.frags) ∧
    (s.e 0x2901 7 = 2 → Completes (exec (.ruleCommit r) s) fun u => SameBytes s u ∧ u.packet = s.packet ∧
      u.e 0x2901 0 = s.e 0x2901 0 ∧ u.e 0x2901 7 = 2)) ∧
  (∀ (s : State) (r : ActReq), Granted s r 0x2901 5 →
    Completes (exec (.ruleDiscard r) s) fun u => SameBytes s u ∧ u.packet.shadow = s.packet.committed ∧
      u.packet.committed = s.packet.committed ∧ u.e 0x2901 0 = s.e 0x2901 0 ∧
      (s.e 0x2901 7 = 1 → u.e 0x2901 7 = 0) ∧ (s.e 0x2901 7 ≠ 1 → u.e 0x2901 7 = s.e 0x2901 7)) ∧
  (∀ s : State, (s.e 0x2901 7 = 2 → Completes (exec .versionDrained s) fun u => u.mem = s.mem ∧ u.packet.previous = none ∧
      u.packet.committed = s.packet.committed ∧ u.packet.shadow = s.packet.shadow ∧
      u.e 0x2901 7 = (if s.packet.stagedMeanwhile = true then 1 else 0)) ∧
    (s.e 0x2901 7 ≠ 2 → Completes (exec .versionDrained s) fun u => u = s)) ∧
  (∀ (s : State) (r : ActReq) (bs : Bytes), Granted s r 0x2907 2 →
    s.readCab 0 (s.e 0x2907 0) (128 * s.e 0x2907 1) = .ok bs →
    (∀ i reason, s.applyTms 0 (chunksOf 128 (s.e 0x2907 1) bs) = .error (i, reason) →
      Completes (exec (.tmApply r) s) fun u => SameBytes s u ∧ u.packet = s.packet ∧
        u.e 0x2907 3 = stageResult i reason % 2 ^ 64) ∧
    (∀ t, s.applyTms 0 (chunksOf 128 (s.e 0x2907 1) bs) = .ok t →
      Completes (exec (.tmApply r) s) fun u => SameBytes s u ∧ u.packet = t.packet ∧ u.e 0x2907 3 = 0xFFFFFFFF)) ∧
  (∀ (s : State) (b : Bytes) (x : Subscriber), parseSubscriber b = .ok x → field b 0 1 = 1 → x.enabled = true →
    s.subscribersOf x.cabinet < s.share x.cabinet 5 →
    ∃ t, s.applyTms 0 [b] = .ok t ∧ t.subscriber? x.id = some x ∧ t.packet.services = s.packet.services ∧
      ∀ i, i ≠ x.id → t.subscriber? i = s.subscriber? i)
/-- The host port's commands and links (R452 to R461, R467, R468, R475). -/
def Obligations.HostPortCommandsComplete : Prop :=
  (∀ (s : State) (cab reg : Nat) (v : BitVec 32),
    (s.configTaken cab = false → Completes (exec (.configurationWrite cab reg v) s) fun u => u = s) ∧
    (s.configTaken cab = true → reg = 0x04 → (s.fn cab).bme = bit v.toNat 2 →
      Completes (exec (.configurationWrite cab reg v) s) fun u => SameBytes s u ∧ u.contract = s.contract ∧
        (u.fn cab).mse = bit v.toNat 1 ∧ (u.fn cab).bme = (s.fn cab).bme) ∧
    (s.configTaken cab = true → reg = 0x98 → Completes (exec (.configurationWrite cab reg v) s) fun u => SameBytes s u ∧
      u.contract = s.contract ∧ (u.fn cab).atomicEnable = bit v.toNat 6) ∧
    (s.configTaken cab = true → cab = 0 → reg = 0x308 → (s.fn 0).mse = false → 8 ≤ bits v.toNat 13 8 → bits v.toNat 13 8 ≤ 16 →
      Completes (exec (.configurationWrite cab reg v) s) fun u => SameBytes s u ∧ u.ports.bar2Log2 = 20 + bits v.toNat 13 8 ∧
        u.ports.bar2 = s.ports.bar2 / 2 ^ (20 + bits v.toNat 13 8) * 2 ^ (20 + bits v.toNat 13 8))) ∧
  (∀ (s : State) (cab : Nat), s.configTaken cab = true →
    ((s.fn cab).bme = true → s.ports.requests = [] → s.faults.safe = false →
      Completes (exec (.busMasterEnable cab false) s) fun u => SameBytes s u ∧ u.contract = s.contract ∧ (u.fn cab).bme = false) ∧
    ((s.fn cab).bme = false → s.faults.safe = false →
      (s.leaseFenced cab = true → Completes (exec (.busMasterEnable cab true) s) fun u => SameBytes s u ∧
        u.contract = s.contract ∧ (u.fn cab).bme = true) ∧
      ∀ t, t = (s.setFn cab fun f => { f with bme := true }).liftFence cab →
        Completes (exec (.busMasterEnable cab true) s) fun u => SameBytes t u ∧ u.contract = t.contract)) ∧
  (∀ (s : State) (cab : Nat), s.faults.safe = false → s.configTaken cab = true →
    (s.e 0x2E05 0 ≠ 0 → Completes (exec (.initiateFunctionLevelReset cab) s) fun u => u.mem = s.mem ∧ u.contract = s.contract ∧
      (u.fn cab).flr = some s.now ∧ (u.fn cab).flrDue = true) ∧
    (s.e 0x2E05 0 = 0 → Completes (exec (.initiateFunctionLevelReset cab) s) fun u => SameBytes (s.runFlr cab) u ∧
      (∀ q ∈ u.contract.queues, q.cabinet ≠ cab) ∧ (∀ o ∈ u.contract.syncs, o.cabinet ≠ cab) ∧
      (cab = 0 → u.ports.vfEnable = false ∧ u.e 0x4004 2 = 0))) ∧
  (∀ (s : State) (cab : Nat), ((s.fn cab).flr.isSome = true → (s.fn cab).flrDue = false → cab ≠ 0 →
      Completes (exec (.flrComplete cab) s) fun u => u.mem = s.mem ∧ u.contract.queues = s.contract.queues ∧
        (u.fn cab).flr = none ∧ (u.fn cab).bme = false ∧ u.e 0x2A06 6 = (s.e 0x2A06 6 + 1) % 2 ^ 64) ∧
    ((s.fn cab).flr = none → Completes (exec (.flrComplete cab) s) fun u => u = s)) ∧
  (∀ (s : State) (cab o len v : Nat), s.bar0Drops cab = false → s.fnEnabled cab = true →
    (accessForm cab o len = false → Completes (exec (.registerWrite cab o len v) s) fun u => u.mem = s.mem ∧
      u.contract = s.contract ∧ u.ports = s.ports ∧ u.e 0x2105 1 = (s.e 0x2105 1 + 1) % 2 ^ (8 * entrySize 0x2105 1)) ∧
    (len = 4 → v < 2 ^ 32 →
      (o = (blockLayout cab).2.1 → Completes (exec (.registerWrite cab o len v) s) fun u => SameBytes s u ∧
        (u.fn cab).evStatus = (s.fn cab).evStatus &&& (15 - bits v 3 0)) ∧
      (o = (blockLayout cab).2.1 + 4 → (s.fn cab).evStatus = 0 →
        Completes (exec (.registerWrite cab o len v) s) fun u => SameBytes s u ∧ u.ports.msixSent = s.ports.msixSent ∧
          (u.fn cab).evEnable = bits v 3 0 &&& (if cab = 0 then 15 else 5)) ∧
      (o = (blockLayout cab).2.2.1 + 0xFF4 → bit v 0 = true → (s.fn cab).go = false → 0 < (s.fn cab).reqLen →
        (s.fn cab).reqLen ≤ 4080 → Completes (exec (.registerWrite cab o len v) s) fun u => SameBytes s u ∧
          (u.fn cab).go = true ∧ (u.fn cab).request = (s.fn cab).request) ∧
      (o = (blockLayout cab).2.2.1 + 0xFF4 → bit v 0 = true → (s.fn cab).go = false → (s.fn cab).reqLen = 0 →
        Completes (exec (.registerWrite cab o len v) s) fun u => SameBytes s u ∧ (u.fn cab).go = false ∧
          (u.fn cab).respLen = 16 ∧ (u.fn cab).response.take 16 = badMailbox) ∧
      (o = (blockLayout cab).1 + 8 → Completes (exec (.registerWrite cab o len v) s) fun u => u.mem = s.mem ∧
        (u.latchOf cab 0).handle = v ∧ (u.latchOf cab 0).value = (s.latchOf cab 0).value) ∧
      (∀ p q, (s.contract.queues.find? fun q => q.cabinet == cab && q.page == p) = some q → o = 64 * p →
        o < (blockLayout cab).1 → exec (.registerWrite cab o len v) s = exec (.sqTail cab q.index (v % 65536)) s))) ∧
  (∀ (s : State) (o n : Nat) (bs : Bytes), s.faults.safe = false →
    (s.inAperture o n = true → s.inGddr (s.apertureAddr o) = true → s.inGddr (s.apertureAddr o + n - 1) = true →
      s.badUnit (s.apertureAddr o) n = none → n ≤ s.ports.maxPayload →
      Completes (exec (.apertureRead o n) s) fun u => u.mem = s.mem ∧
        u.ports.completionsOut = (0, 0, s.readDev (s.apertureAddr o) n) :: s.ports.completionsOut) ∧
    (s.inAperture o n = true → s.inGddr (s.apertureAddr o + n - 1) = false →
      Completes (exec (.apertureRead o n) s) fun u => u.mem = s.mem ∧
        u.ports.completionsOut = (0, 4, []) :: s.ports.completionsOut ∧ u.e 0x2A06 3 = (s.e 0x2A06 3 + 1) % 2 ^ 64) ∧
    (s.inAperture o bs.length = true → s.inGddr (s.apertureAddr o) = true →
      s.inGddr (s.apertureAddr o + bs.length - 1) = true → s.sound → (s.store (s.apertureAddr o) bs).aheadOfCopy = none →
      Completes (exec (.apertureWrite o bs) s) fun u => Wrote s u (s.apertureAddr o) bs ∧ u.contract = s.contract) ∧
    (s.inAperture o bs.length = false → Completes (exec (.apertureWrite o bs) s) fun u => u = s)) ∧
  (∀ s : State, s.faults.safe = false → (∃ l ∈ s.ports.linkState, l.1 = 0) →
    Completes (exec .pmeTurnOff s) fun u => u = { s with ports := { s.ports with pmeAcked := true } }) ∧
  (∀ (s : State) (link speed width ts tw : Nat), s.linkExists link = true → s.faults.safe = false → s.mayTrain link = true →
    speed ≠ 0 → speed < 256 → width < 256 → s.linkTarget link = (ts, tw) →
    Completes (exec (.linkTrained link speed width) s) fun u => SameBytes s u ∧ u.contract = s.contract ∧
      u.ports.linkState.head? = some (link, speed, width) ∧
      (link = 0 → u.e 0x2A00 1 = speed ∧ u.e 0x2A00 2 = width) ∧
      (2 ≤ link → u.e 0x2A03 (link - 2) = speed ∧ u.e 0x2A04 (link - 2) = width) ∧
      (speed < ts ∨ width < tw → bit (u.fn 0).evStatus 3 = true) ∧
      (ts ≤ speed → tw ≤ width → (u.fn 0).evStatus = (s.fn 0).evStatus)) ∧
  (∀ (s : State) (link : Nat), s.linkExists link = true → (∀ r ∈ s.ports.requests, r.link ≠ link) →
    Completes (exec (.linkDown link) s) fun u => SameBytes s u ∧ u.contract = s.contract ∧ bit (u.fn 0).evStatus 3 = true ∧
      (link = 0 → u.e 0x2A00 1 = 0) ∧ (2 ≤ link → u.e 0x2A03 (link - 2) = 0 ∧ u.ports.apBytes.getD (link - 2) 0 = 0) ∧
      (∀ i ∈ u.ports.ide, i.link ≠ link))
/-- Completions, inbound TLPs, windows and IDE (R464 to R466, R470 to R472, R478 to R481). -/
def Obligations.PortTransactionsComplete : Prop :=
  (∀ (s : State) (link tag st bc la id : Nat) (poisoned : Bool) (bs : Bytes) (r : Request) (c : Ctx),
    s.linkExists link = true → s.faults.safe = false →
    (s.request? link tag = none → Completes (exec (.completionReceived link tag st poisoned bc la bs) s) fun u => u.mem = s.mem ∧
      u.contract = s.contract ∧ u.ports = s.ports ∧ u.e 0x2A06 1 = (s.e 0x2A06 1 + 1) % 2 ^ 64) ∧
    (s.request? link tag = some r → r.ctx = some id → s.ctx? id = some c → c.finished = false →
      (st ≠ 0 → Completes (exec (.completionReceived link tag st poisoned bc la bs) s) fun u => Ended u id stAccessFault r.source) ∧
      (st = 0 → poisoned = true → Completes (exec (.completionReceived link tag st poisoned bc la bs) s) fun u =>
        Ended u id stEccUncorrectable (r.device + (r.len - bc))) ∧
      (∀ ps, st = 0 → poisoned = false → r.fits bc la bs.length = true →
        s.reach r.cabinet (r.dest + (r.len - bc)) bs.length .write = .ok ps → c.unread = [] →
        (s.placePiece r id bc bs).aheadOfCopy = none →
        (r.left = bs.length → (∀ x ∈ s.ports.requests, x.ctx = some id → x.link = link ∧ x.tag = tag) →
          Completes (exec (.completionReceived link tag st poisoned bc la bs) s) fun u =>
            SameBytes (s.putCab r.cabinet (r.dest + (r.len - bc)) bs) u ∧ Ended u id 0 c.progress ∧
            u.request? link tag = none) ∧
        (bs.length < r.left → Completes (exec (.completionReceived link tag st poisoned bc la bs) s) fun u =>
          SameBytes (s.putCab r.cabinet (r.dest + (r.len - bc)) bs) u ∧
          u.request? link tag = some { r with left := r.left - bs.length } ∧
          ∃ d, u.ctx? id = some d ∧ d.finished = false ∧ d.lastProgress = s.now)) ∧
      (r.issuedAt + r.timeout ≤ s.now → Completes (exec (.completionTimeout link tag) s) fun u => Ended u id stAccessFault r.source ∧
        u.e 0x2A06 0 = (s.e 0x2A06 0 + 1) % 2 ^ 64 ∧ (link, tag, s.now + r.timeout) ∈ u.ports.retiredTags ∧
        u.request? link tag = none) ∧
      (s.now < r.issuedAt + r.timeout → Completes (exec (.completionTimeout link tag) s) fun u => u = s))) ∧
  (∀ (s : State) (link tag : Nat), s.linkExists link = true → Completes (exec (.tagReuseTimeout link tag) s) fun u =>
    u.mem = s.mem ∧ u.contract = s.contract ∧ u.ports.retiredTags =
      s.ports.retiredTags.filter fun t => !(t.1 == link && t.2.1 == tag && t.2.2 ≤ s.now)) ∧
  (∀ (s : State) (t : Tlp) (w : PeerWin), t.port < 8 → t.kind ≤ 4 → s.faults.safe = false →
    s.ideState (2 + t.port) t.ideStream ≠ 3 →
    (s.ideState (2 + t.port) t.ideStream = 2 → t.ideOk = false → Completes (exec (.peerTlp t) s) fun u => u.mem = s.mem ∧
      u.ideState (2 + t.port) t.ideStream = 3 ∧ u.e 0x2A06 5 = (s.e 0x2A06 5 + 1) % 2 ^ 64) ∧
    ((s.ideState (2 + t.port) t.ideStream ≠ 2 ∨ t.ideOk = true) → s.e 0x2A05 1 = 0 →
      (s.windowOf t.port t.addr = none → Completes (exec (.peerTlp t) s) fun u => u.mem = s.mem ∧
        u.e 0x2A06 4 = (s.e 0x2A06 4 + 1) % 2 ^ 64 ∧
        (t.kind ≠ 0 → u.ports.completionsOut = (2 + t.port, 1, []) :: s.ports.completionsOut) ∧
        (t.kind = 0 → u.ports.completionsOut = s.ports.completionsOut)) ∧
      (s.windowOf t.port t.addr = some w → t.addrType = 0 → w.allows t.kind = true →
        (∀ ps, w.kind = 1 → t.kind = 0 → t.poisoned = false → t.data ≠ [] →
          s.reach w.cabinet (w.target + (t.addr - w.base)) t.data.length .write = .ok ps →
          (s.putCab w.cabinet (w.target + (t.addr - w.base)) t.data).aheadOfCopy = none →
          Completes (exec (.peerTlp t) s) fun u => SameBytes (s.putCab w.cabinet (w.target + (t.addr - w.base)) t.data) u ∧
            u.contract = s.contract) ∧
        (∀ ps, w.kind = 1 → t.kind = 1 → 0 < t.len →
          s.reach w.cabinet (w.target + (t.addr - w.base)) t.len .read = .ok ps → s.badPiece ps = none →
          Completes (exec (.peerTlp t) s) fun u => u.mem = s.mem ∧
            u.ports.completionsOut = (2 + t.port, 0, s.readPieces ps) :: s.ports.completionsOut) ∧
        (∀ ps old, w.kind = 1 → 2 ≤ t.kind → t.len = 8 →
          s.reach w.cabinet (w.target + (t.addr - w.base)) 8 .atomic = .ok ps → s.badPiece ps = none →
          (∀ p ∈ ps, s.linkOf p.1 = none) → old = s.readPieces ps →
          (s.putCab w.cabinet (w.target + (t.addr - w.base)) (toLe 8 (newValue t (leNat old)))).aheadOfCopy = none →
          Completes (exec (.peerTlp t) s) fun u =>
            SameBytes (s.putCab w.cabinet (w.target + (t.addr - w.base)) (toLe 8 (newValue t (leNat old)))) u ∧
            u.ports.completionsOut = (2 + t.port, 0, old) :: s.ports.completionsOut) ∧
        (w.kind = 3 → t.kind = 0 → t.poisoned = false → t.data.length = 4 → w.target + (t.addr - w.base) = 8 →
          Completes (exec (.peerTlp t) s) fun u => u.mem = s.mem ∧ (u.latchOf w.cabinet (t.port + 1)).handle = leNat t.data) ∧
        (2 ≤ t.kind → t.len ≠ 8 → Completes (exec (.peerTlp t) s) fun u => u.mem = s.mem ∧
          u.e 0x2A06 4 = (s.e 0x2A06 4 + 1) % 2 ^ 64)))) ∧
  (∀ (s : State) (r : ActReq), Granted s r 0x2A50 r.sub →
    Completes (exec (.windowGen r) s) fun u => SameBytes s u ∧ u.e 0x2A50 r.sub = (s.e 0x2A50 r.sub + 1) % 65536 ∧
      ∀ w, w < 64 → u.e (0x2A48 + r.sub) w = s.e (0x2A40 + r.sub) w % 2 ^ 256) ∧
  (∀ (s : State) (link : Nat) (msg : Bytes), s.linkExists link = true → s.faults.safe = false →
    field msg 3 1 ≤ (if link ≤ 1 then 4 else 0) →
    (field msg 0 1 = 2 → s.ideState link (field msg 3 1) = 0 → Completes (exec (.ideKm link msg) s) fun u => u.mem = s.mem ∧
      u.ideState link (field msg 3 1) = 1) ∧
    (field msg 0 1 = 4 → s.ideState link (field msg 3 1) = 1 → Completes (exec (.ideKm link msg) s) fun u => u.mem = s.mem ∧
      u.ideState link (field msg 3 1) = 2) ∧
    (field msg 0 1 = 5 → s.ideState link (field msg 3 1) = 2 → Completes (exec (.ideKm link msg) s) fun u => u.mem = s.mem ∧
      u.ideState link (field msg 3 1) = 3))
/-- The admin commands of the NVMe controllers (R487 to R490, R501, R503 to R506). -/
def Obligations.NvmeAdminComplete : Prop :=
  (∀ (s : State) (cab sqid : Nat) (c : NvmeCtrl) (q : IoPair) (r : Bytes),
    (s.nvmeFetches cab = false → ∀ x ∈ [Instr.createIoSq cab, .createIoCq cab, .deleteIoSq cab, .deleteIoCq cab, .getLogPage cab,
        .identify cab, .abort cab, .setFeatures cab, .getFeatures cab, .asynchronousEventRequest cab, .deviceSelfTest cab,
        .nvmeRead cab sqid, .nvmeWrite cab sqid, .nvmeFlush cab sqid, .writeZeroes cab sqid, .datasetManagement cab sqid],
      Completes (exec x s) fun u => u = s) ∧
    (s.nvmeFetches cab = true → s.sqEntry cab sqid = some (c, q, r) → nvmeSupported (sqid == 0) (field r 0 1) = false →
      (sqid = 0 → Completes (exec (.abort cab) s) fun u => Posted (s.sqFetched cab 0) u cab 0 r 0 nvInvalidOpcode) ∧
      (sqid ≠ 0 → Completes (exec (.nvmeRead cab sqid) s) fun u => Posted (s.sqFetched cab sqid) u cab sqid r 0 nvInvalidOpcode))) ∧
  (∀ (s t : State) (cab op : Nat) (x : Instr) (isCq : Bool) (c : NvmeCtrl) (q : IoPair) (r : Bytes),
    (x = .createIoSq cab ∧ op = 0x01 ∧ isCq = false) ∨ (x = .createIoCq cab ∧ op = 0x05 ∧ isCq = true) →
    AtHead s cab 0 op c q r → t = s.sqFetched cab 0 →
    (field r 40 2 = 0 ∨ c.queueLimit isCq < field r 40 2 ∨ (c.queue (field r 40 2) isCq).isSome = true →
      Completes (exec x s) fun u => Posted t u cab 0 r 0 nvQueueId) ∧
    (∀ st, c.createError cab r isCq = some st → Completes (exec x s) fun u => Posted t u cab 0 r 0 st) ∧
    (c.createError cab r isCq = none → Completes (exec x s) fun u =>
      Posted ((t.updCtrl cab fun c => { c with pairs := c.pairs ++ [createdPair r isCq] }).noteChange cab) u cab 0 r 0 0 ∧
      ∃ c' p, u.ctrl? cab = some c' ∧ c'.queue (field r 40 2) isCq = some p ∧ p.base = field r 24 8 ∧ p.size = field r 42 2 + 1 ∧
        p.cqid = (if isCq then 0 else field r 46 2) ∧ p.vector = (if isCq then field r 46 2 else 0))) ∧
  (∀ (s t : State) (cab n : Nat) (c : NvmeCtrl) (q : IoPair) (r : Bytes), t = s.sqFetched cab 0 → n = field r 40 2 →
    (AtHead s cab 0 0x00 c q r → (n = 0 ∨ (c.queue n false).isNone = true →
        Completes (exec (.deleteIoSq cab) s) fun u => Posted t u cab 0 r 0 nvQueueId) ∧
      (n ≠ 0 → (c.queue n false).isSome = true → (∀ p ∈ c.admin, p.qid = 0) →
        Completes (exec (.deleteIoSq cab) s) fun u =>
          Posted (((t.abortSq cab n).updCtrl cab fun c => { c with pairs := c.pairs.filter fun p => !(p.qid == n && !p.isCq) }).noteChange
            cab) u cab 0 r 0 0 ∧
          ∃ c', u.ctrl? cab = some c' ∧ c'.queue n false = none ∧ (∀ x ∈ c'.started, x.sqid ≠ n) ∧
            c'.errorCount = c.errorCount + (c.started.filter fun x => x.sqid == n).length)) ∧
    (AtHead s cab 0 0x04 c q r → (n = 0 ∨ (c.queue n true).isNone = true →
        Completes (exec (.deleteIoCq cab) s) fun u => Posted t u cab 0 r 0 nvQueueId) ∧
      (n ≠ 0 → (c.queue n true).isSome = true → (∃ p ∈ c.pairs, p.isCq = false ∧ p.cqid = n) →
        Completes (exec (.deleteIoCq cab) s) fun u => Posted t u cab 0 r 0 nvQueueDeletion) ∧
      (n ≠ 0 → (c.queue n true).isSome = true → (∀ p ∈ c.pairs, p.isCq = true ∨ p.cqid ≠ n) → (∀ p ∈ c.admin, p.qid = 0) →
        Completes (exec (.deleteIoCq cab) s) fun u =>
          Posted ((t.updCtrl cab fun c => { c with
              pairs := c.pairs.filter fun p => !(p.qid == n && p.isCq), heldCqes := c.heldCqes.filter fun h => h.1 != n }).noteChange
            cab) u cab 0 r 0 0 ∧ ∃ c', u.ctrl? cab = some c' ∧ c'.queue n true = none))) ∧
  (∀ (s t w : State) (cab : Nat) (c : NvmeCtrl) (q : IoPair) (r b : Bytes), t = s.sqFetched cab 0 →
    (AtHead s cab 0 0x02 c q r → (field r 40 1 ∉ [1, 2, 6] →
        Completes (exec (.getLogPage cab) s) fun u => Posted t u cab 0 r 0 nvLogPage) ∧
      (s.logPage c (field r 40 1) = some b → b.length < field r 48 8 ∨ field r 48 8 % 4 ≠ 0 →
        Completes (exec (.getLogPage cab) s) fun u => Posted t u cab 0 r 0 nvInvalidField) ∧
      (s.logPage c (field r 40 1) = some b → field r 48 8 ≤ b.length → field r 48 8 % 4 = 0 →
        4 * (field r 42 2 + field r 44 2 * 2 ^ 16 + 1) ≤ 4 * 2 ^ 18 →
        t.dataOut cab r (fit (4 * (field r 42 2 + field r 44 2 * 2 ^ 16 + 1)) (b.drop (field r 48 8))) = .ok w →
        ({ w with fresh := w.fresh + 1 }.nvmeEnd cab 0 r 0 0).aheadOfCopy = none →
        Completes (exec (.getLogPage cab) s) fun u => Posted { w with fresh := w.fresh + 1 } u cab 0 r 0 0)) ∧
    (AtHead s cab 0 0x06 c q r → (3 < field r 40 1 → Completes (exec (.identify cab) s) fun u => Posted t u cab 0 r 0 nvInvalidField) ∧
      (field r 40 1 = 0 ∨ field r 40 1 = 3 → s.ns? cab (field r 4 4) = none →
        Completes (exec (.identify cab) s) fun u => Posted t u cab 0 r 0 nvInvalidNamespace) ∧
      (∀ n, (field r 40 1 = 1 ∧ b = s.identifyCtrl cab) ∨ (field r 40 1 = 2 ∧ b = s.identifyList cab (field r 4 4)) ∨
          (field r 40 1 = 0 ∧ s.ns? cab (field r 4 4) = some n ∧ b = s.identifyNs n) →
        t.dataOut cab r b = .ok w → ({ w with fresh := w.fresh + 1 }.nvmeEnd cab 0 r 0 0).aheadOfCopy = none →
        Completes (exec (.identify cab) s) fun u => Posted { w with fresh := w.fresh + 1 } u cab 0 r 0 0))) ∧
  (∀ (s : State) (cab : Nat) (r b : Bytes), field r 24 8 % 4 = 0 → b.length ≤ 4096 - field r 24 8 % 4096 →
    (∀ e, s.canWrite cab (field r 24 8) b.length = some e → s.dataOut cab r b = .error (transferStatus e)) ∧
    (s.canWrite cab (field r 24 8) b.length = none → s.dataOut cab r b = .ok (s.putCab cab (field r 24 8) b)) ∧
    field (s.identifyCtrl cab) 77 1 = 9 ∧ field (s.identifyCtrl cab) 78 2 = (cab + 1) % 65536 ∧
    field (s.identifyCtrl cab) 525 1 = b2n (s.tiers.tierCacheGranted != 0)) ∧
  (∀ (s t : State) (cab : Nat) (c : NvmeCtrl) (q : IoPair) (r : Bytes), t = s.sqFetched cab 0 →
    (AtHead s cab 0 0x08 c q r → Completes (exec (.abort cab) s) fun u => Posted (t.bump 0x2B03 3 1) u cab 0 r 1 0 ∧
      u.e 0x2B03 3 = (s.e 0x2B03 3 + 1) % 2 ^ 64 ∧ ∃ c', u.ctrl? cab = some c' ∧ c'.started = c.started) ∧
    (AtHead s cab 0 0x09 c q r →
      (featureIndex (field r 40 1) = none → Completes (exec (.setFeatures cab) s) fun u => Posted t u cab 0 r 0 nvInvalidField) ∧
      (∀ i, featureIndex (field r 40 1) = some i →
        (bit (field r 40 4) 31 = true → Completes (exec (.setFeatures cab) s) fun u => Posted t u cab 0 r 0 nvNotSaveable) ∧
        (bit (field r 40 4) 31 = false →
          (i = 1 → bit (field r 44 4) 0 = true → s.tiers.tierCacheGranted = 0 →
            Completes (exec (.setFeatures cab) s) fun u => Posted t u cab 0 r 0 nvInvalidField) ∧
          (i = 2 → c.pairs ≠ [] → Completes (exec (.setFeatures cab) s) fun u => Posted t u cab 0 r 0 nvSequence) ∧
          (∀ v, (i ≠ 2 ∧ v = field r 44 4 ∧ (i = 1 → bit v 0 = false ∨ s.tiers.tierCacheGranted ≠ 0)) ∨
              (i = 2 ∧ c.pairs = [] ∧ field r 44 2 ≠ 0xFFFF ∧ field r 46 2 ≠ 0xFFFF ∧
                v = min (field r 44 2) (c.granted - 1) + min (field r 46 2) (c.granted - 1) * 2 ^ 16) →
            c.features.length = 5 →
            Completes (exec (.setFeatures cab) s) fun u =>
              Posted ((t.updCtrl cab fun c => { c with features := updAt i (fun _ => v) c.features }).noteChange cab) u cab 0 r
                (if i = 2 then v else 0) 0 ∧
              ∃ c', u.ctrl? cab = some c' ∧ c'.features.getD i 0 = v)))) ∧
    (AtHead s cab 0 0x0A c q r →
      (featureIndex (field r 40 1) = none → Completes (exec (.getFeatures cab) s) fun u => Posted t u cab 0 r 0 nvInvalidField) ∧
      (∀ i, featureIndex (field r 40 1) = some i → bits (field r 41 1) 2 0 = 0 →
        Completes (exec (.getFeatures cab) s) fun u => Posted t u cab 0 r (c.features.getD i 0) 0)) ∧
    (AtHead s cab 0 0x0C c q r →
      (∀ e rest, c.events = e :: rest → Completes (exec (.asynchronousEventRequest cab) s) fun u =>
        Posted (t.updCtrl cab fun c => { c with events := rest }) u cab 0 r e 0) ∧
      (c.events = [] → 4 ≤ c.aers.length →
        Completes (exec (.asynchronousEventRequest cab) s) fun u => Posted t u cab 0 r 0 nvAerLimit) ∧
      (c.events = [] → c.aers.length < 4 → Completes (exec (.asynchronousEventRequest cab) s) fun u => SameBytes s u ∧
        ∃ c', u.ctrl? cab = some c' ∧ c'.aers = c.aers ++ [field r 2 2] ∧ c'.heldCqes = c.heldCqes)) ∧
    (AtHead s cab 0 0x14 c q r → ∀ code, code = bits (field r 40 1) 3 0 →
      (code = 1 ∨ code = 2 → c.selfTest ≠ 0 →
        Completes (exec (.deviceSelfTest cab) s) fun u => Posted t u cab 0 r 0 nvSelfTestBusy) ∧
      (code = 1 ∨ code = 2 → c.selfTest = 0 → Completes (exec (.deviceSelfTest cab) s) fun u =>
        Posted ((t.updCtrl cab fun c => { c with selfTest := code }).bump 0x2B03 6 1) u cab 0 r 0 0 ∧
        u.e 0x2B03 6 = (s.e 0x2B03 6 + 1) % 2 ^ 64 ∧ ∃ c', u.ctrl? cab = some c' ∧ c'.selfTest = code) ∧
      (code = 0xF → Completes (exec (.deviceSelfTest cab) s) fun u => Posted (t.endSelfTest cab 1) u cab 0 r 0 0 ∧
        ∃ c', u.ctrl? cab = some c' ∧ c'.selfTest = 0 ∧ (c.selfTest ≠ 0 → c'.selfTestLog.head? = some (c.selfTest, 1, s.now))) ∧
      (code ∉ [1, 2, 0xF] → Completes (exec (.deviceSelfTest cab) s) fun u => Posted t u cab 0 r 0 nvInvalidField))) ∧
  (∀ (s : State) (cab result : Nat) (c : NvmeCtrl), s.faults.safe = false → s.ctrl? cab = some c →
    Completes (exec (.selfTestDone cab result) s) fun u => u.mem = s.mem ∧ u.contract = s.contract ∧
      ∃ c', u.ctrl? cab = some c' ∧ c'.selfTest = 0 ∧ c'.started = c.started ∧
        (c.selfTest = 0 → c' = c) ∧ (c.selfTest ≠ 0 → c'.selfTestLog.head? = some (c.selfTest, result % 16, s.now))) ∧
  (∀ (s : State) (r : ActReq), Granted s r 0x4005 2 → 2 ≤ s.e 0x1003 0 →
    (reqVal r = 1 → (s.ctrl? r.cabinet).any (·.enabled) = false →
      Completes (exec (.nvmeEnable r) s) fun u => SameBytes s u ∧ u.ent r.cabinet 0x4005 2 = 1 ∧ u.ent r.cabinet 0x4005 4 = 1 ∧
        ∃ c, u.ctrl? r.cabinet = some c ∧ c.enabled = true ∧ c.granted = s.pairsGranted r.cabinet ∧ c.pairs = [] ∧
          c.started = [] ∧ c.admin = s.adminPairs r.cabinet ∧ c.features = [0, 0, (s.pairsGranted r.cabinet - 1) * 65537, 0, 0]) ∧
    (reqVal r = 1 → (s.ctrl? r.cabinet).any (·.enabled) = true →
      Completes (exec (.nvmeEnable r) s) fun u => SameBytes s u ∧ u.storage = s.storage) ∧
    (∀ c, reqVal r = 0 → s.ctrl? r.cabinet = some c →
      Completes (exec (.nvmeEnable r) s) fun u => SameBytes s u ∧ u.ent r.cabinet 0x4005 2 = 0 ∧ u.ent r.cabinet 0x4005 4 = 0 ∧
        u.storage.cache = s.storage.cache ∧ u.storage.backingOut = s.storage.backingOut ∧
        ∃ c', u.ctrl? r.cabinet = some c' ∧ c'.enabled = false ∧ c'.admin = [] ∧ c'.pairs = [] ∧ c'.started = [] ∧
          c'.aers = [] ∧ c'.heldCqes = [] ∧ c'.selfTest = 0 ∧
          (c.selfTest ≠ 0 → c'.selfTestLog.head? = some (c.selfTest, 2, s.now)))) ∧
  (∀ (s : State) (r : ActReq) (c : NvmeCtrl), Granted s r 0x4005 3 → s.ctrl? r.cabinet = some c → c.enabled = true → reqVal r ≠ 0 →
    Completes (exec (.nvmeShutdown r) s) fun u => SameBytes s u ∧ u.ent r.cabinet 0x4005 3 = reqVal r ∧
      (∃ c', u.ctrl? r.cabinet = some c' ∧ c'.shutdown = reqVal r ∧ c'.started = c.started) ∧
      (c.started = [] → (∀ l ∈ s.storage.cache, l.cabinet = r.cabinet → l.dirty = []) → u.ent r.cabinet 0x4005 4 = 9) ∧
      (c.started ≠ [] → u.ent r.cabinet 0x4005 4 = 5))
/-- The backing of the namespaces (R491 to R499, R507). -/
def Obligations.BackingComplete : Prop :=
  (∀ (s : State) (r : ActReq) (bs : Bytes), Granted s r 0x2B01 2 → s.readCab 0 (s.e 0x2B01 0) (384 * s.e 0x2B01 1) = .ok bs →
    (∀ i reason, s.applyNsAll 0 (chunksOf 384 (s.e 0x2B01 1) bs) = .error (i, reason) →
      Completes (exec (.nsApply r) s) fun u => SameBytes s u ∧ u.storage = s.storage ∧ u.trust = s.trust ∧
        u.e 0x2B01 3 = stageResult i reason % 2 ^ 64) ∧
    (∀ t, s.applyNsAll 0 (chunksOf 384 (s.e 0x2B01 1) bs) = .ok t → (∀ n ∈ t.storage.namespaces, n.state ≠ 4) →
      Completes (exec (.nsApply r) s) fun u => SameBytes s u ∧ u.storage = t.storage ∧ u.trust = t.trust ∧
        u.e 0x2B01 3 = 0xFFFFFFFF)) ∧
  (∀ (s : State) (r : Bytes) (slot : Nat), s.nsRecordReason r = 0 → field r 0 1 = 1 →
    ((∃ n, s.ns? (field r 4 2) (field r 8 4) = some n) → s.applyNs r = .error 3) ∧
    (s.ns? (field r 4 2) (field r 8 4) = none → s.storage.namespaces.length < 65536 →
      pickFree s.freeValue (s.trust.slots.map (·.slot)) 4160 65536 = some slot →
      ∃ t n, s.applyNs r = .ok t ∧ t.ns? (field r 4 2) (field r 8 4) = some n ∧ n.state = 1 ∧ n.record = r ∧ n.keySlot = slot ∧
        t.storage.flashTable = s.storage.flashTable ++ [r] ∧ t.storage.ctrls = s.storage.ctrls)) ∧
  (∀ (s : State) (cab nsid atomic homeSeq : Nat) (js : List JournalRec) (n : Namespace), s.faults.safe = false →
    s.ns? cab nsid = some n → n.up = false → (∀ c, s.ctrl? cab = some c → c.started = []) →
    (n.state = 1 → Completes (exec (.backingConnected cab nsid atomic homeSeq js) s) fun u => SameBytes s u ∧
      (replayed homeSeq js ≠ [] → u.e 0x2B03 0 = (s.e 0x2B03 0 + (replayed homeSeq js).length) % 2 ^ 64) ∧
      u.storage.backingOut = ((replayed homeSeq js).map fun j => ({ cabinet := n.cabinet, nsid := n.nsid, kind := 2
                                                                    offset := field n.record 24 8 + j.slba * n.blockBytes
                                                                    bytes := j.data } : BackOut)).reverse ++ s.storage.backingOut ∧
      ∃ n', u.ns? cab nsid = some n' ∧ n'.state = 2 ∧ n'.up = true ∧ n'.atomicBytes = atomic ∧ n'.journal = [] ∧
        n'.seq = (js.map (·.seqNo)).foldl max homeSeq + 1) ∧
    (∀ o, n.state = 3 → n.ops = [o] → n.journal = [] →
      Completes (exec (.backingConnected cab nsid atomic homeSeq js) s) fun u => SameBytes s u ∧
        u.e 0x2B03 5 = (s.e 0x2B03 5 + 1) % 2 ^ 64 ∧
        (o.reading = false → SentBacking s u n o.kind (n.image o).1 (n.image o).2) ∧
        (o.reading = true → SentBacking s u n 5 (n.image o).1 []) ∧
        ∃ n', u.ns? cab nsid = some n' ∧ n'.state = 2 ∧ n'.up = true ∧ n'.ops = n.ops)) ∧
  (∀ (s : State) (cab nsid : Nat) (n : Namespace), s.ns? cab nsid = some n →
    (n.up = true → Completes (exec (.backingConnectionLost cab nsid) s) fun u => u.mem = s.mem ∧ u.contract = s.contract ∧
      (∃ n', u.ns? cab nsid = some n' ∧ n'.up = false ∧ n'.lostAt = s.now ∧ n'.ops = n.ops ∧
        n'.state = (if n.state = 2 then 3 else n.state)) ∧
      ∀ c, s.ctrl? cab = some c → ∃ c', u.ctrl? cab = some c' ∧ c'.started.length = c.started.length ∧
        ∀ x ∈ c'.started, x.nsid = nsid → x.heldSince ≠ none) ∧
    (n.up = false → Completes (exec (.backingConnectionLost cab nsid) s) fun u => u = s) ∧
    (s.faults.safe = false → n.state = 3 → max n.lostAt n.lastReconnect + 1000000000 ≤ s.now →
      Completes (exec (.backingReconnect cab nsid) s) fun u => u.mem = s.mem ∧ SentBacking s u n 6 0 [] ∧
        ∃ n', u.ns? cab nsid = some n' ∧ n'.lastReconnect = s.now) ∧
    (n.state ≠ 3 ∨ s.now < max n.lostAt n.lastReconnect + 1000000000 →
      Completes (exec (.backingReconnect cab nsid) s) fun u => u = s) ∧
    (s.faults.safe = false → n.up = true → field n.record 1 1 = 0 → n.lastKeepAlive + 5000000000 ≤ s.now →
      Completes (exec (.keepAlive cab nsid) s) fun u => u.mem = s.mem ∧ SentBacking s u n 7 0 [] ∧
        ∃ n', u.ns? cab nsid = some n' ∧ n'.lastKeepAlive = s.now) ∧
    (s.faults.safe = false → n.up = true → n.superSeq < n.homeSeq → n.lastSuper + 1000000 ≤ s.now → (∀ o ∈ n.ops, o.kind ≠ 3) →
      Completes (exec (.superblockWrite cab nsid) s) fun u => u.mem = s.mem ∧
        SentBacking s u n 3 (field n.record 32 8 + 4096 * (n.superSeq % 2)) [] ∧
        ∃ n' o, u.ns? cab nsid = some n' ∧ n'.ops = n.ops ++ [o] ∧ o.kind = 3 ∧ o.journalSeq = some n.homeSeq ∧ o.id = n.nextOp) ∧
    (n.homeSeq ≤ n.superSeq → Completes (exec (.superblockWrite cab nsid) s) fun u => u = s)) ∧
  (∀ (s : State) (cab sqid cid t : Nat) (c : NvmeCtrl) (x : NvmeCmd), s.ctrl? cab = some c → s.nvmeCmd? cab sqid cid = some x →
    x.heldSince = some t →
    (s.now < t + s.e 0x2B02 2 → Completes (exec (.backingHold cab sqid cid) s) fun u => u = s) ∧
    (∀ n, s.faults.safe = false → t + s.e 0x2B02 2 ≤ s.now → c.started = [x] → s.ns? cab x.nsid = some n → n.up = false →
      n.state = 3 → Completes (exec (.backingHold cab sqid cid) s) fun u =>
        Entered s u cab sqid cid 0 (nvmeStatus 0 0x22 0) ∧ ∃ c', u.ctrl? cab = some c' ∧ c'.started = [])) ∧
  (∀ (s gone w : State) (cab nsid seqNo status sqid cid : Nat) (data : Bytes) (n : Namespace) (o : BackOp) (c : NvmeCtrl) (x : NvmeCmd),
    Answered s cab nsid seqNo n o → s.ctrl? cab = some c → c.started = [x] → x.sqid = sqid → x.cid = cid →
    o.cmd = some (sqid, cid) → s.storage.cache = [] → s.tiers.tierCacheGranted = 0 →
    gone = s.updNs cab nsid (fun n => { n with ops := n.ops.filter fun x => x.id != seqNo }) →
    (o.kind = 0 → n.journal = [] →
      gone.dataOut cab x.bytes ((blocksOf n.blockBytes o.lba o.count data).flatMap fun b => n.unseal b.1 b.2) = .ok w →
      (∀ y ∈ s.snap.sets, ∀ g ∈ y.gens, g.state ≠ 1) →
      Completes (exec (.backingResponse cab nsid seqNo 0 data) s) fun u => Entered w u cab sqid cid 0 0 ∧
        ∃ c', u.ctrl? cab = some c' ∧ c'.started = []) ∧
    (o.kind = 0 → n.journal = [] → status ≠ 0 → (status = 2 → field n.record 1 1 ≠ 0) →
      Completes (exec (.backingResponse cab nsid seqNo status data) s) fun u =>
        Entered gone u cab sqid cid 0 (if status = 1 then nvmeStatus 2 0x81 1 else nvmeStatus 0 0x06 1) ∧
        ∃ c', u.ctrl? cab = some c' ∧ c'.started = []) ∧
    (o.kind = 2 → n.journal = [] → o.journalSeq = none → x.unitsLeft = 1 → (field n.record 1 1 = 0 ∨ o.reading = true) →
      Completes (exec (.backingResponse cab nsid seqNo 0 data) s) fun u => Entered gone u cab sqid cid 0 0 ∧
        u.e 0x2B03 1 = (s.e 0x2B03 1 + 1) % 2 ^ 64 ∧ ∃ c', u.ctrl? cab = some c' ∧ c'.started = []) ∧
    (∀ j, o.kind = 1 → n.journal = [j] → o.journalSeq = some j.seqNo → j.issued = false → j.home = false → x.unitsLeft = 1 →
      (field n.record 1 1 = 0 ∨ o.reading = true) →
      Completes (exec (.backingResponse cab nsid seqNo 0 data) s) fun u => Entered gone u cab sqid cid 0 0 ∧
        u.e 0x2B03 2 = (s.e 0x2B03 2 + 1) % 2 ^ 64 ∧
        SentBacking s u n 2 (field n.record 24 8 + (j.blocks.map (·.1)).headD 0 * n.blockBytes) (j.blocks.flatMap (·.2)) ∧
        ∃ c', u.ctrl? cab = some c' ∧ c'.started = [])) ∧
  (∀ (s : State) (cab nsid seqNo : Nat) (data : Bytes) (n : Namespace) (o : BackOp), Answered s cab nsid seqNo n o →
    (field n.record 1 1 = 0 → Completes (exec (.backingResponse cab nsid seqNo 2 data) s) fun u => u.mem = s.mem ∧
      ∃ n', u.ns? cab nsid = some n' ∧ n'.up = false ∧ n'.state = 3 ∧ n'.ops = n.ops) ∧
    (field n.record 1 1 = 1 → o.kind ≠ 0 → o.reading = false →
      Completes (exec (.backingResponse cab nsid seqNo 0 data) s) fun u => u.mem = s.mem ∧ SentBacking s u n 5 0 [] ∧
        ∃ n', u.ns? cab nsid = some n' ∧ n'.ops = [{ o with reading := true }]) ∧
    (∀ q, o.kind = 3 → field n.record 1 1 = 0 → o.journalSeq = some q → n.journal = [] →
      (∀ c, s.ctrl? cab = some c → c.started = []) →
      Completes (exec (.backingResponse cab nsid seqNo 0 data) s) fun u => SameBytes s u ∧
        ∃ n', u.ns? cab nsid = some n' ∧ n'.superSeq = q ∧ n'.ops = [])) ∧
  (∀ (s s1 : State) (cab nsid lba : Nat) (n : Namespace) (bl : List (Nat × Bytes)), s.ns? cab nsid = some n →
    s.oldestDirty cab nsid = some lba → s.faults.safe = false → n.up = true → s1 = s.dropUnreadable n lba 1 →
    bl = s1.destageRun n lba → bl ≠ [] → n.ops = [] → n.journal = [] →
    (field n.record 1 1 = 0 → bl.length * n.blockBytes ≤ n.atomicBytes →
      Completes (exec (.destage cab nsid) s) fun u => u.mem = s.mem ∧
        SentBacking s u n 2 (field n.record 24 8 + (bl.map (·.1)).headD 0 * n.blockBytes) (bl.flatMap (·.2))) ∧
    (field n.record 1 1 = 1 → 4096 + bl.length * n.blockBytes ≤ n.ring →
      Completes (exec (.destage cab nsid) s) fun u => u.mem = s.mem ∧
        SentBacking s u n 1 (field n.record 32 8 + 65536) (n.journalHeader n.seq bl ++ bl.flatMap (·.2))))
/-- The NVMe I/O commands (R496 to R502, R507). -/
def Obligations.NvmeIoComplete : Prop :=
  (∀ (s : State) (cab sqid : Nat) (c : NvmeCtrl) (q : IoPair) (r : Bytes), AtHead s cab sqid 0x02 c q r → sqid ≠ 0 →
    s.nvmeFits r = false → s.nvmeAged q = false →
    (q.holdCounted = true → Completes (exec (.nvmeRead cab sqid) s) fun u => u = s) ∧
    (q.holdCounted = false → Completes (exec (.nvmeRead cab sqid) s) fun u => u.mem = s.mem ∧ u.energy = s.energy ∧
      u.e 0x2E04 11 = (s.e 0x2E04 11 + 1) % 2 ^ (8 * entrySize 0x2E04 11) ∧
      ∃ c' q', u.ctrl? cab = some c' ∧ c'.queue sqid false = some q' ∧ q'.head = q.head ∧ q'.holdCounted = true)) ∧
  (∀ (s t : State) (cab sqid op k : Nat) (x : Instr) (c : NvmeCtrl) (q : IoPair) (r : Bytes),
    (x = .nvmeRead cab sqid ∧ op = 2) ∨ (x = .nvmeWrite cab sqid ∧ op = 1) → AtHeadIo s cab sqid op c q r →
    t = s.nvmeCharged cab sqid r → k = field r 48 2 + 1 →
    (s.ns? cab (field r 4 4) = none → Completes (exec x s) fun u => Posted t u cab sqid r 0 nvInvalidNamespace) ∧
    (∀ n, s.ns? cab (field r 4 4) = some n →
      (n.state = 1 ∨ n.state = 4 → Completes (exec x s) fun u => Posted t u cab sqid r 0 (nvmeStatus 0 0x82 0)) ∧
      (n.state = 2 ∨ n.state = 3 → 2097152 < k * n.blockBytes →
        Completes (exec x s) fun u => Posted t u cab sqid r 0 nvInvalidField) ∧
      (n.state = 2 ∨ n.state = 3 → k * n.blockBytes ≤ 2097152 → n.size < field r 40 8 + k →
        Completes (exec x s) fun u => Posted t u cab sqid r 0 (nvmeStatus 0 0x80 1) ∧
          u.energy.remaining = s.energy.remaining - s.nvmeCharge r))) ∧
  (∀ (s t w : State) (cab sqid k lba : Nat) (c : NvmeCtrl) (q : IoPair) (r : Bytes) (n : Namespace),
    AtHeadIo s cab sqid 0x02 c q r → t = (s.nvmeCharged cab sqid r).dropUnreadable n lba k → k = field r 48 2 + 1 →
    lba = field r 40 8 → s.ioTarget cab r k 2097152 = .ok n →
    ((∃ i < k, s.heldBlock n (lba + i) = .lost) →
      Completes (exec (.nvmeRead cab sqid) s) fun u => Posted t u cab sqid r 0 (nvmeStatus 2 0x81 1)) ∧
    ((∀ i < k, s.heldBlock n (lba + i) ≠ .lost ∧ s.heldBlock n (lba + i) ≠ .nothing) →
      t.dataOut cab r (s.readData n ((List.range k).map fun i => (lba + i, []))) = .ok w →
      ((w.bump 0x2B03 4 (n.sectors (s.cacheLbas n lba k))).nvmeEnd cab sqid r 0 0).aheadOfCopy = none →
      Completes (exec (.nvmeRead cab sqid) s) fun u => Posted (w.bump 0x2B03 4 (n.sectors (s.cacheLbas n lba k))) u cab sqid r 0 0) ∧
    ((∀ i < k, s.heldBlock n (lba + i) ≠ .lost) → (∃ i < k, s.heldBlock n (lba + i) = .nothing) →
      Completes (exec (.nvmeRead cab sqid) s) fun u => SameBytes s u ∧
        (n.up = true → SentBacking s u n 0 (field n.record 24 8 + lba * n.blockBytes) []) ∧
        (n.up = false → u.storage.backingOut = s.storage.backingOut) ∧
        ∃ c' x, u.ctrl? cab = some c' ∧ c'.started = c.started ++ [x] ∧ x.sqid = sqid ∧ x.cid = field r 2 2 ∧ x.bytes = r ∧
          x.heldSince = (if n.up then none else some s.now))) ∧
  (∀ (s t w : State) (cab sqid op k lba : Nat) (x : Instr) (d : Bytes) (c : NvmeCtrl) (q : IoPair) (r : Bytes) (n : Namespace)
    (plain bl : List (Nat × Bytes)), AtHeadIo s cab sqid op c q r → t = s.nvmeCharged cab sqid r → k = field r 48 2 + 1 →
    lba = field r 40 8 →
    (x = .nvmeWrite cab sqid ∧ op = 1 ∧ s.ioTarget cab r k 2097152 = .ok n ∧ s.dataIn cab r (k * n.blockBytes) = .ok d ∧
        plain = blocksOf n.blockBytes lba k d) ∨
      (x = .writeZeroes cab sqid ∧ op = 8 ∧ s.ioTarget cab r k (2 ^ 64) = .ok n ∧
        plain = (List.range k).map fun i => (lba + i, zeros n.blockBytes)) →
    bl = (plain.map fun b => (b.1, n.seal b.1 b.2)) →
    (t.writeCached cab n r = true → t.cachePutAll n (some (s.storage.cacheSeq + 1)) bl = some w →
      Completes (exec x s) fun u =>
        Posted { w with storage := { w.storage with cacheSeq := s.storage.cacheSeq + 1 } } u cab sqid r 0 0) ∧
    (t.writeCached cab n r = false → n.up = false →
      Completes (exec x s) fun u => SameBytes s u ∧ u.storage.backingOut = s.storage.backingOut ∧
        ∃ c' y, u.ctrl? cab = some c' ∧ c'.started = c.started ++ [y] ∧ y.cid = field r 2 2 ∧ y.units = n.unitsOf bl ∧
          y.heldSince = some s.now) ∧
    (t.writeCached cab n r = false → n.up = true → n.ops = [] → n.journal = [] → c.started = [] → n.unitsOf bl = [bl] →
      Completes (exec x s) fun u => SameBytes s u ∧
        (∃ c' y, u.ctrl? cab = some c' ∧ c'.started = [y] ∧ y.sqid = sqid ∧ y.cid = field r 2 2 ∧ y.unitsLeft = 1 ∧
          (4096 + k * n.blockBytes ≤ n.ring → y.units = [])) ∧
        (field n.record 1 1 = 0 → k * n.blockBytes ≤ n.atomicBytes →
          SentBacking s u n 2 (field n.record 24 8 + lba * n.blockBytes) (bl.flatMap (·.2))) ∧
        (field n.record 1 1 ≠ 0 ∨ n.atomicBytes < k * n.blockBytes →
          (4096 + k * n.blockBytes ≤ n.ring →
            SentBacking s u n 1 (field n.record 32 8 + 65536) (n.journalHeader n.seq bl ++ bl.flatMap (·.2)) ∧
            ∃ n', u.ns? cab n.nsid = some n' ∧ n'.seq = n.seq + 1) ∧
          (n.ring < 4096 + k * n.blockBytes → u.storage.backingOut = s.storage.backingOut)))) ∧
  (∀ (s t : State) (cab sqid : Nat) (c : NvmeCtrl) (q : IoPair) (r : Bytes) (n : Namespace), AtHeadIo s cab sqid 0x00 c q r →
    t = s.nvmeCharged cab sqid r → s.ioTarget cab (putBytes r 40 (zeros 8)) 0 0 = .ok n → c.started = [] → n.up = true →
    (s.dirtyUpTo cab n.nsid s.storage.cacheSeq = false → Completes (exec (.nvmeFlush cab sqid) s) fun u =>
      Entered t u cab sqid (field r 2 2) 0 0 ∧ ∃ c', u.ctrl? cab = some c' ∧ c'.started = []) ∧
    (s.dirtyUpTo cab n.nsid s.storage.cacheSeq = true → Completes (exec (.nvmeFlush cab sqid) s) fun u => SameBytes s u ∧
      ∃ c' x, u.ctrl? cab = some c' ∧ c'.started = [x] ∧ x.cid = field r 2 2 ∧ x.flushMark = s.storage.cacheSeq)) ∧
  (∀ (s t : State) (cab sqid k : Nat) (d : Bytes) (c : NvmeCtrl) (q : IoPair) (r : Bytes) (n : Namespace),
    AtHeadIo s cab sqid 0x09 c q r → t = s.nvmeCharged cab sqid r → s.ioTarget cab (putBytes r 40 (zeros 8)) 0 0 = .ok n →
    k = field r 40 1 + 1 →
    (bits (field r 44 4) 2 0 ≠ 4 → bits (field r 44 4) 2 0 ≠ 0 →
      Completes (exec (.datasetManagement cab sqid) s) fun u => Posted t u cab sqid r 0 nvInvalidField) ∧
    (bits (field r 44 4) 2 0 = 4 → s.dataIn cab r (16 * k) = .ok d →
      (∀ i < k, field d (16 * i + 8) 8 + field d (16 * i + 4) 4 ≤ n.size) →
      Completes (exec (.datasetManagement cab sqid) s) fun u => Posted t u cab sqid r 0 0) ∧
    (bits (field r 44 4) 2 0 = 4 → s.dataIn cab r (16 * k) = .ok d →
      (∃ i < k, n.size < field d (16 * i + 8) 8 + field d (16 * i + 4) 4) →
      Completes (exec (.datasetManagement cab sqid) s) fun u => Posted t u cab sqid r 0 (nvmeStatus 0 0x80 1)))
/-- The acts and events of cabinets (R516 to R522, R528 to R531). -/
def Obligations.CabinetCommandsComplete : Prop :=
  (∀ (s : State) (r : ActReq), Granted s r 0x4000 1 →
    (r.cabinet = 0 ∨ s.cabState r.cabinet ≠ 0 → Completes (exec (.assign r) s) fun u => ObjectRefused s u r 0x4000 1) ∧
    (r.cabinet ≠ 0 → s.cabinet? r.cabinet = none → Completes (exec (.assign r) s) fun u => SameBytes s u ∧
      Replied s u r 2 0x4000 1 0 [0] ∧ u.ent r.cabinet 0x4000 3 = (s.ent r.cabinet 0x4000 3 + 1) % 2 ^ 32 ∧
      (∃ c, u.cabinet? r.cabinet = some c ∧ c.state = 1) ∧ u.contract = s.contract ∧
      ∃ k ∈ u.trust.slots, k.slot = 64 + r.cabinet ∧ k.label = labelCabinet)) ∧
  (∀ (s : State) (r : ActReq), Granted s r 0x4000 2 →
    (r.cabinet = 0 ∨ (s.cabState r.cabinet ≠ 1 ∧ s.cabState r.cabinet ≠ 3) →
      Completes (exec (.release r) s) fun u => ObjectRefused s u r 0x4000 2) ∧
    (r.cabinet ≠ 0 → s.cabState r.cabinet = 1 ∨ s.cabState r.cabinet = 3 → Completes (exec (.release r) s) fun u =>
      (∃ c, u.cabinet? r.cabinet = some c ∧ c.state = 4 ∧ c.releaseStart = s.now) ∧
      (∀ q ∈ u.contract.queues, q.cabinet ≠ r.cabinet) ∧ (∀ o ∈ u.contract.syncs, o.cabinet ≠ r.cabinet) ∧
      (∀ i < 8, u.share r.cabinet (i + 1) = 0) ∧ u.ent r.cabinet 0x4000 5 = 0 ∧ u.ent r.cabinet 0x4003 3 = 0 ∧
      ∃ o ∈ u.steral.outstanding, o.isAct = true ∧ o.index = 0x4000 ∧ o.sub = 2 ∧ o.cabinet = r.cabinet)) ∧
  (∀ (s : State) (cab : Nat), (s.cabState cab ≠ 4 → Completes (exec (.releaseDone cab) s) fun u => u = s) ∧
    (s.cabState cab = 4 → Completes (exec (.releaseDone cab) s) fun u => SameBytes s u ∧ u.contract = s.contract ∧
      u.cabinet? cab = none ∧ ∀ k ∈ u.trust.slots, k.slot ≠ 64 + cab)) ∧
  (∀ (s : State) (r : ActReq), Granted s r 0x4007 0 →
    (r.cabinet = 0 ∨ s.cabState r.cabinet ≠ 1 → Completes (exec (.freeze r) s) fun u => ObjectRefused s u r 0x4007 0) ∧
    (r.cabinet ≠ 0 → s.cabState r.cabinet = 1 → Completes (exec (.freeze r) s) fun u => SameBytes s u ∧ u.contract = s.contract ∧
      (∃ c, u.cabinet? r.cabinet = some c ∧ c.state = 2 ∧ c.freezeStart = s.now) ∧
      ∃ o ∈ u.steral.outstanding, o.isAct = true ∧ o.index = 0x4007 ∧ o.sub = 0 ∧ o.cabinet = r.cabinet)) ∧
  (∀ (s : State) (cab : Nat), (s.cabState cab ≠ 2 ∨ s.cabDrained cab = false ∨ s.contract.activation = 1 →
      Completes (exec (.freezeDrainDone cab) s) fun u => u = s) ∧
    (s.cabState cab = 2 → s.cabDrained cab = true → s.contract.activation ≠ 1 → s.faults.safe = false → s.zt.jobs = [] →
      (∀ k ∈ s.zt.conns, k.cabinet ≠ cab) → (∀ g ∈ s.coll.groups, g.cabinet ≠ cab) →
      Completes (exec (.freezeDrainDone cab) s) fun u => SameBytes (s.writeBackSeqs cab) u ∧
        (∃ c, u.cabinet? cab = some c ∧ c.state = 3) ∧ u.ent cab 0x4007 2 = 1 ∧ u.contract.syncs = s.contract.syncs ∧
        ∀ q ∈ s.contract.queues, q.cabinet = cab → q.kind = 1 → q.state = 1 ∨ q.state = 2 →
          ∃ q' ∈ u.contract.queues, q'.index = q.index ∧ q'.state = 3 ∧ q'.recorded = q.state ∧ q'.causeFreeze = true ∧
            q'.head = q.head ∧ q'.tail = q.tail)) ∧
  (∀ (s : State) (cab : Nat) (c : Cabinet), s.cabinet? cab = some c →
    (c.state ≠ 2 ∨ s.now < c.freezeStart + s.e 0x2C01 1 → Completes (exec (.freezeLimit cab) s) fun u => u = s) ∧
    (c.state = 2 → c.freezeStart + s.e 0x2C01 1 ≤ s.now → (∀ q ∈ s.queuesOf cab, q.resetRecorded = false) →
      Completes (exec (.freezeLimit cab) s) fun u => SameBytes s u ∧ u.ent cab 0x4007 2 = 2 ∧
        (∃ c', u.cabinet? cab = some c' ∧ c'.state = 1) ∧ u.contract.syncs = s.contract.syncs)) ∧
  (∀ (s : State) (r : ActReq), Granted s r 0x4007 1 →
    (s.cabState r.cabinet ≠ 3 → Completes (exec (.unfreeze r) s) fun u => ObjectRefused s u r 0x4007 1) ∧
    (s.cabState r.cabinet = 3 → (∀ q ∈ s.queuesOf r.cabinet, q.resetRecorded = false) →
      Completes (exec (.unfreeze r) s) fun u => SameBytes s u ∧ (∃ c, u.cabinet? r.cabinet = some c ∧ c.state = 1) ∧
        (∀ q, s.queue? q.index = some q → q.cabinet = r.cabinet → q.kind = 1 → q.state = 3 → q.causeActivation = false →
          q.causePower = false → ∃ q', u.queue? q.index = some q' ∧ q'.state = q.recorded ∧ q'.head = q.head ∧ q'.tail = q.tail) ∧
        (s.ent r.cabinet 0x4004 2 = 1 → r.cabinet ≠ 0 → s.ent r.cabinet 0x4004 3 ≤ s.now →
          u.ent r.cabinet 0x4004 3 = (s.now + s.ent r.cabinet 0x4004 0) % 2 ^ 64))) ∧
  (∀ (s : State) (r : ActReq), Granted s r 0x4008 5 →
    (s.ent r.cabinet 0x4008 0 = 0 → Completes (exec (.logSwap r) s) fun u => ObjectRefused s u r 0x4008 5) ∧
    (s.ent r.cabinet 0x4008 0 ≠ 0 → s.ent r.cabinet 0x4008 6 ≤ 1 → Completes (exec (.logSwap r) s) fun u => SameBytes s u ∧
      u.ent r.cabinet 0x4008 6 = 1 - s.ent r.cabinet 0x4008 6 ∧ u.cabs = s.cabs ∧ Replied s u r 2 0x4008 5 0 [0])) ∧
  (∀ (s : State) (r : ActReq) (i j : Nat), Granted s r 0x4003 9 → 2 ≤ s.e 0x1003 0 →
    ((∃ q ∈ s.queuesOf r.cabinet, q.page ≤ 1) ∨ s.share r.cabinet 1 < (s.queuesOf r.cabinet).length + 2 ∨
        s.adminRings r.cabinet = false ∨ s.cabState r.cabinet = 3 →
      Completes (exec (.adminEnable r) s) fun u => ObjectRefused s u r 0x4003 9) ∧
    ((∀ q ∈ s.queuesOf r.cabinet, 1 < q.page) → (s.queuesOf r.cabinet).length + 2 ≤ s.share r.cabinet 1 →
      s.adminRings r.cabinet = true → s.cabState r.cabinet ≠ 3 → lowestFree (s.contract.queues.map (·.index)) 0 16384 = some i →
      lowestFree (i :: s.contract.queues.map (·.index)) 0 16384 = some j →
      Completes (exec (.adminEnable r) s) fun u => SameBytes s u ∧ ∃ cq sq, u.contract.queues = s.contract.queues ++ [cq, sq] ∧
        cq.index = i ∧ cq.kind = 0 ∧ cq.page = 1 ∧ cq.state = 1 ∧ cq.ringBase = s.ent r.cabinet 0x4003 6 ∧
        cq.n = s.ent r.cabinet 0x4003 7 ∧ cq.vector = s.ent r.cabinet 0x4003 8 ∧ cq.cabinet = r.cabinet ∧
        sq.index = j ∧ sq.kind = 1 ∧ sq.page = 0 ∧ sq.state = 1 ∧ sq.engine = 0x0F ∧ sq.cq = i ∧ sq.cabinet = r.cabinet ∧
        sq.ringBase = s.ent r.cabinet 0x4003 4 ∧ sq.n = s.ent r.cabinet 0x4003 5)) ∧
  (∀ (s : State) (r : ActReq), Granted s r 0x2C01 0 → (∃ k ∈ s.trust.slots, k.label = labelState) →
    Completes (exec (.migrationSecret r) s) fun u => SameBytes s u ∧ u.cabs.migrationSecret = r.value ∧
      u.trust.slots.length = s.trust.slots.length ∧ (∀ k ∈ u.trust.slots, k.label = labelState → k.secret = r.value)) ∧
  (∀ (s : State) (r : ActReq) (i : Nat), Granted s r 0x2C01 0 → (∀ k ∈ s.trust.slots, k.label ≠ labelState) →
    pickFree s.freeValue (s.trust.slots.map (·.slot)) 4160 65536 = some i →
    Completes (exec (.migrationSecret r) s) fun u => SameBytes s u ∧ u.cabs.migrationSecret = r.value ∧
      ∃ k, u.trust.slots = s.trust.slots ++ [k] ∧ k.slot = i ∧ k.label = labelState ∧ k.secret = r.value)
/-- SAVE and RESTORE (R524 to R527). -/
def Obligations.MigrationComplete : Prop :=
  (∀ (s : State) (r : ActReq) (n : Nat), Granted s r 0x4007 5 → n = (s.savedState r.cabinet).length → n < 2 ^ 32 →
    (s.cabState r.cabinet ≠ 3 → Completes (exec (.save r) s) fun u => ObjectRefused s u r 0x4007 5) ∧
    (s.cabState r.cabinet = 3 →
      (s.ent r.cabinet 0x4007 4 < n → Completes (exec (.save r) s) fun u => SameBytes s u ∧
        u.ent r.cabinet 0x4007 6 = 2 ^ 63 + n ∧ u.ent r.cabinet 0x4007 7 = 0 ∧
        ∃ c, u.cabinet? r.cabinet = some c ∧ c.state = 3 ∧ c.saved = true) ∧
      (n ≤ s.ent r.cabinet 0x4007 4 → s.canWrite 0 (s.ent r.cabinet 0x4007 3) n = none → Completes (exec (.save r) s) fun u =>
        SameBytes (s.putCab 0 (s.ent r.cabinet 0x4007 3) (s.savedState r.cabinet)) u ∧ u.ent r.cabinet 0x4007 6 = n ∧
        u.ent r.cabinet 0x4007 7 = 0 ∧ u.contract = s.contract ∧
        ∃ c, u.cabinet? r.cabinet = some c ∧ c.state = 3 ∧ c.saved = true))) ∧
  (∀ (s : State) (c : Nat), ∃ m tag, s.savedState c = m ++ tag ∧ tag = fit 48 (Config.hmac384 (s.stateKey c) m) ∧
    field m 0 4 = 0x4241435A ∧ field m 4 2 = 1 ∧ field m 6 2 = c % 65536 ∧ field m 9 1 = 5 ∧
    field m 24 8 = (m.length + 48) % 2 ^ 64 ∧ field m 32 8 = s.now % 2 ^ 64) ∧
  (∀ (s : State) (r : ActReq) (b cfg ctl : Bytes) (qs os ps : List Bytes), Granted s r 0x4007 0x0A →
    (r.cabinet = 0 ∨ s.cabState r.cabinet ≠ 0 → Completes (exec (.restore r) s) fun u => ObjectRefused s u r 0x4007 0x0A) ∧
    (r.cabinet ≠ 0 → s.cabinet? r.cabinet = none → s.readCab 0 (s.ent r.cabinet 0x4007 8) (s.ent r.cabinet 0x4007 9) = .ok b →
      cfg = (sectionOf b 0 128 0).2 → ctl = (sectionOf b 3 32 64).2.take 64 →
      qs = chunksOf 64 (sectionOf b 1 64 0).1 (sectionOf b 1 64 0).2 → os = chunksOf 24 (sectionOf b 2 24 0).1 (sectionOf b 2 24 0).2 →
      ps = chunksOf 32 (sectionOf b 3 32 64).1 ((sectionOf b 3 32 64).2.drop 64) →
      (s.restoreRefused r.cabinet b cfg qs os ctl ps = true →
        Completes (exec (.restore r) s) fun u => ObjectRefused s u r 0x4007 0x0A) ∧
      (s.restoreRefused r.cabinet b cfg qs os ctl ps = false → Completes (exec (.restore r) s) fun u => SameBytes s u ∧
        (∃ c, u.cabinet? r.cabinet = some c ∧ c.state = 3) ∧
        (∀ x ∈ qs, ∃ q ∈ u.contract.queues, q.index = handleIndex (field x 0 4) ∧ q.kind = field x 4 1 ∧
          q.engine = field x 5 1 ∧ q.priority = field x 6 1 ∧ q.n = field x 7 1 ∧ q.recorded = field x 8 1 ∧ q.head = field x 10 2 ∧
          q.ringBase = field x 24 8 ∧ q.epoch = field x 32 4 ∧ (q.kind = 1 → q.state = 3 ∧ q.causeFreeze = true)) ∧
        (∀ x ∈ os, ∃ o ∈ u.contract.syncs, o.index = field x 0 4 ∧ o.cabinet = r.cabinet ∧ o.value = BitVec.ofNat 64 (field x 8 8) ∧
          o.mirror = field x 16 8 ∧ (o.err = true ↔ field x 4 1 = 1)) ∧
        (∀ x ∈ chunksOf 72 (sectionOf b 4 72 0).1 (sectionOf b 4 72 0).2, ∃ d ∈ u.tiers.resident, d.cabinet = r.cabinet ∧
          d.addr = field x 0 8 ∧ d.bytes = slice x 8 64) ∧
        (∀ i < 8, u.share r.cabinet (i + 1) = field cfg (4 * i) 4) ∧ u.ent r.cabinet 0x4003 3 = s.ent r.cabinet 0x4003 3 ∧
        (∃ k, u.ctrl? r.cabinet = some k ∧ (k.enabled = true ↔ field ctl 0 1 = 1) ∧ k.aqa = field ctl 4 4 ∧ k.started = []) ∧
        Replied s u r 2 0x4007 0x0A 0 [0]))) ∧
  (∀ (q : Queue) (page : Nat), q.index < 2 ^ 18 → q.cabinet < 4096 → q.kind < 2 → q.engine < 256 → q.priority < 256 → q.n < 256 →
    q.head < 65536 → q.tail < 65536 → q.lastStatus < 65536 → q.vector < 65536 → q.cq < 2 ^ 18 → q.ringBase < 2 ^ 64 →
    q.epoch < 2 ^ 32 → q.state < 256 → q.recorded < 256 →
    (queueFrom page q.saved).index = q.index ∧ (queueFrom page q.saved).cabinet = q.cabinet ∧
    (queueFrom page q.saved).kind = q.kind ∧ (queueFrom page q.saved).engine = q.engine ∧ (queueFrom page q.saved).n = q.n ∧
    (queueFrom page q.saved).head = q.head ∧ (queueFrom page q.saved).tail = q.tail ∧
    (queueFrom page q.saved).lastStatus = q.lastStatus ∧ (queueFrom page q.saved).vector = q.vector ∧
    (queueFrom page q.saved).ringBase = q.ringBase ∧ (queueFrom page q.saved).epoch = q.epoch ∧
    (queueFrom page q.saved).phase = q.phase ∧ (q.kind = 1 → (queueFrom page q.saved).cq = q.cq ∧
      (queueFrom page q.saved).recorded = (if q.state = 3 then q.recorded else q.state) ∧ (queueFrom page q.saved).state = 3) ∧
    (q.kind = 0 → (queueFrom page q.saved).state = (if q.state = 3 then q.recorded else q.state))) ∧
  (∀ (o : SyncObj), o.index < 2 ^ 32 → o.mirror < 2 ^ 64 → syncFrom o.cabinet o.saved = { o with mirrorHeld := false, external := false })
/-- The cipher engine and the SVN floor (R537 to R552). -/
def Obligations.CipherCommandsComplete : Prop :=
  (∀ (s : State) (r : CipherIn), s.faults.safe = false → s.slotHolder r.slot ≠ some r.cabinet →
    (r.ctx = none → Completes (exec (.cipherRequest r) s) fun u => SameBytes s u ∧ u.trust = s.trust ∧ u.contract = s.contract ∧
      bit (u.e 0x2F00 0) 8 = true) ∧
    (∀ id c, r.ctx = some id → s.ctx? id = some c → c.finished = false →
      Completes (exec (.cipherRequest r) s) fun u => Ended u id stSecurityRefused 0 ∧ u.trust = s.trust)) ∧
  (∀ (s : State) (r : CipherIn) (q : CipherReq) (key data : Bytes), s.faults.safe = false → s.slotHolder r.slot = some r.cabinet →
    s.trust.waitingReqs = [] →
    q = { stream := r.stream, order := s.trust.nextReq, cabinet := r.cabinet, slot := r.slot, op := r.op, src := r.src, dst := r.dst
          len := r.len, iv := r.iv, ctx := r.ctx, ended := false, failed := false, waitingKey := false } →
    (s.mayStart q = false → Completes (exec (.cipherRequest r) s) fun u => SameBytes s u ∧ u.trust.waitingReqs = [q] ∧
      u.trust.startedReqs = s.trust.startedReqs ∧ u.trust.doneReqs = s.trust.doneReqs ∧ u.trust.nextReq = s.trust.nextReq + 1) ∧
    (s.mayStart q = true → s.trust.startedReqs = [] →
      (s.trust.keyCache.contains r.slot = false → Completes (exec (.cipherRequest r) s) fun u => SameBytes s u ∧
        u.trust.waitingReqs = [] ∧ u.trust.startedReqs = [{ q with waitingKey := true }] ∧
        u.e 0x2D02 2 = (s.e 0x2D02 2 + 1) % 2 ^ 64) ∧
      (s.trust.keyCache.contains r.slot = true → s.populatedRun r.src q.reads = true → s.populatedRun r.dst r.len = true →
        s.badUnit r.src q.reads = none → key = s.slotKey r.slot → data = s.readDev r.src q.reads →
        Completes (exec (.cipherRequest r) s) fun u => u.trust.waitingReqs = [] ∧ u.trust.startedReqs = [] ∧
          u.e 0x2D02 2 = s.e 0x2D02 2 ∧ u.trust.keyCache.head? = some r.slot ∧
          (∀ bs, q.result key data = some bs → SameBytes (s.storeRaw r.dst bs) u ∧
            u.trust.doneReqs = (r.stream, q.order, false) :: s.trust.doneReqs) ∧
          (q.result key data = none → SameBytes s u ∧ u.trust.doneReqs = (r.stream, q.order, true) :: s.trust.doneReqs)) ∧
      (s.trust.keyCache.contains r.slot = true → s.populatedRun r.src q.reads = false →
        Completes (exec (.cipherRequest r) s) fun u => SameBytes s u ∧
          u.trust.doneReqs = (r.stream, q.order, true) :: s.trust.doneReqs ∧ bit (u.e 0x2F00 0) 8 = true))) ∧
  (∀ (q : CipherReq) (key data : Bytes),
    (q.op = 0 → q.result key data = some (fit (q.len + 16) (Config.gcmSeal key (toLe 12 q.iv) [] data))) ∧
    (q.op = 1 → q.result key data = (Config.gcmOpen key (toLe 12 q.iv) [] data).map (fit q.len)) ∧
    (q.op = 2 → q.result key data = some (fit q.len (Config.xtsEncrypt key q.iv data))) ∧
    (q.op = 3 → q.result key data = some (fit q.len (Config.xtsDecrypt key q.iv data)))) ∧
  (∀ (s : State) (slot : Nat) (q : CipherReq) (key data : Bytes), s.faults.safe = false → s.faults.fencedUnits = [] →
    ((∀ r ∈ s.trust.startedReqs, r.waitingKey = false ∨ r.slot ≠ slot) →
      Completes (exec (.keyDerivation slot) s) fun u => u = s) ∧
    (s.trust.startedReqs = [q] → q.waitingKey = true → q.ended = false → q.slot = slot → s.trust.waitingReqs = [] → s.lockState = 0 →
      s.populatedRun q.src q.reads = true → s.populatedRun q.dst q.len = true → s.badUnit q.src q.reads = none →
      key = s.slotKey slot → data = s.readDev q.src q.reads →
      Completes (exec (.keyDerivation slot) s) fun u => u.trust.startedReqs = [] ∧ u.trust.keyCache.head? = some slot ∧
        (∀ bs, q.result key data = some bs → SameBytes (s.storeRaw q.dst bs) u ∧
          u.trust.doneReqs = (q.stream, q.order, false) :: s.trust.doneReqs) ∧
        (q.result key data = none → SameBytes s u ∧ u.trust.doneReqs = (q.stream, q.order, true) :: s.trust.doneReqs))) ∧
  (∀ (s : State) (h : Nat), s.faults.safe = false → 2 ≤ h → h ≤ 4 → s.trust.katPassing = none → s.trust.waitingReqs = [] →
    (s.lockState = 0 → s.cipherBusy = false → Completes (exec (.cipherLockAcquire h) s) fun u => SameBytes s u ∧
      u.e 0x2D03 1 = h * 65536 + 256 ∧ u.trust.lockedSince = s.now) ∧
    (s.lockState = 0 → s.cipherBusy = true → Completes (exec (.cipherLockAcquire h) s) fun u => SameBytes s u ∧
      u.e 0x2D03 1 = h * 65536 + 512 ∧ u.trust.startedReqs = s.trust.startedReqs) ∧
    (s.lockState ≠ 0 → s.lockHolder ≠ h → h ∉ s.trust.lockWaiters → Completes (exec (.cipherLockAcquire h) s) fun u =>
      u.mem = s.mem ∧ u.dict = s.dict ∧ u.trust.lockWaiters = s.trust.lockWaiters ++ [h]) ∧
    (s.lockState = 1 → s.lockHolder = h → s.trust.lockWaiters = [] → Completes (exec (.cipherLockRelease h) s) fun u =>
      SameBytes s u ∧ u.e 0x2D03 1 = 0) ∧
    (∀ w, s.lockState = 1 → s.lockHolder = h → nextHolder s.trust.lockWaiters = some w → s.cipherBusy = false →
      Completes (exec (.cipherLockRelease h) s) fun u => SameBytes s u ∧ u.e 0x2D03 1 = (w * 65536 + 256) % 2 ^ 32 ∧
        w ∉ u.trust.lockWaiters) ∧
    (s.lockState ≠ 1 ∨ s.lockHolder ≠ h → Completes (exec (.cipherLockRelease h) s) fun u => u = s)) ∧
  ([4, 2, 3].Pairwise fun a b => ∀ l : List Nat, a ∈ l → nextHolder l ≠ some b) ∧
  (∀ s : State, s.faults.safe = false → s.trust.waitingReqs = [] →
    (s.lockState = 1 → 3 ≤ s.lockHolder → s.trust.lockedSince + s.e 0x2D03 5 ≤ s.now → s.trust.lockWaiters = [] →
      Completes (exec .lockLimit s) fun u => SameBytes s u ∧ u.e 0x2D03 1 = 0 ∧ u.e 0x2D03 6 = (s.e 0x2D03 6 + 1) % 2 ^ 32 ∧
        bit (u.e 0x2F00 0) 8 = true ∧
        ∀ q, s.trust.startedReqs = [q] → q.ended = false → u.trust.startedReqs = [] ∧
          u.trust.doneReqs = (q.stream, q.order, true) :: s.trust.doneReqs) ∧
    (s.lockState ≠ 1 ∨ s.lockHolder < 3 ∨ s.now < s.trust.lockedSince + s.e 0x2D03 5 →
      Completes (exec .lockLimit s) fun u => u = s)) ∧
  (∀ s : State, s.faults.safe = false → s.faults.fencedUnits = [] → s.lockState = 0 →
    (Completes (exec (.cipherKatPeriod true) s) fun u => SameBytes s u ∧ u.dict = s.dict ∧
      u.trust.katPipe = (s.trust.katPipe + 1) % 16) ∧
    (s.trust.katPipe < 16 → clearBit (s.e 0x2D03 0) s.trust.katPipe % 65536 ≠ 0 →
      Completes (exec (.cipherKatPeriod false) s) fun u => SameBytes s u ∧
        u.e 0x2D03 0 = clearBit (s.e 0x2D03 0) s.trust.katPipe % 65536 ∧ u.e 0x2D03 4 = (s.e 0x2D03 4 + 1) % 2 ^ 32 ∧
        u.trust.katPipe = (s.trust.katPipe + 1) % 16 ∧ bit (u.e 0x2F00 0) 8 = true)) ∧
  (∀ (s : State) (r : ActReq) (p : BitVec 16), Granted s r 0x2D03 3 →
    (s.lockState ≠ 0 → Completes (exec (.cipherKatRun r p) s) fun u => ObjectRefused s u r 0x2D03 3) ∧
    (s.lockState = 0 → s.cipherBusy = false → p = 0xFFFF → s.trust.waitingReqs = [] → s.trust.lockWaiters = [] →
      s.faults.safe = false → Completes (exec (.cipherKatRun r p) s) fun u => SameBytes s u ∧ u.e 0x2D03 0 = 0xFFFF ∧
        u.e 0x2D03 1 = 0 ∧ u.e 0x2D03 4 = s.e 0x2D03 4 ∧ u.trust.katPassing = none) ∧
    (s.lockState = 0 → s.cipherBusy = true → Completes (exec (.cipherKatRun r p) s) fun u => SameBytes s u ∧
      u.e 0x2D03 1 = 3 * 65536 + 512 ∧ u.trust.katPassing = some p.toNat ∧
      ∃ o ∈ u.steral.outstanding, o.isAct = true ∧ o.index = 0x2D03 ∧ o.sub = 3)) ∧
  (∀ (s : State) (r : ActReq), Granted s r 0x2D01 8 → Completes (exec (.svnCommit r) s) fun u => SameBytes s u ∧
    u.trust.floor = max (s.e 0x2D01 7) (s.e 0x2D01 6) ∧ u.trust.floorTagOk = true ∧
    (max (s.e 0x2D01 7) (s.e 0x2D01 6) < 2 ^ 32 → u.e 0x2D01 7 = max (s.e 0x2D01 7) (s.e 0x2D01 6)) ∧
    (s.e 0x2D01 7 < s.e 0x2D01 6 → u.e 0x2D04 3 = (s.e 0x2D04 3 + 1) % 2 ^ 32) ∧
    Replied s u r 2 0x2D01 8 0 [0])
/-- The SPDM responder (R554, R556 to R558). -/
def Obligations.SpdmCommandsComplete : Prop :=
  (∀ (s : State) (t a b : Nat) (n : Bytes), (s.spdmServes t = false →
      ∀ x ∈ [Instr.negotiateAlgorithms t, .getCertificate t a b, .challenge t n, .getMeasurements t a n, .keyExchange t n,
        .vendorDefinedRequest t n, .respondIfReady t], Completes (exec x s) fun u => u = s) ∧
    (s.spdmServes t = true → t ∉ s.trust.negotiatedAlgs →
      ∀ x ∈ [Instr.getCertificate t a b, .challenge t n, .getMeasurements t a n, .keyExchange t n, .vendorDefinedRequest t n,
        .respondIfReady t], Completes (exec x s) fun u => u.mem = s.mem ∧ u.dict = s.dict ∧
          u.trust = { s.trust with spdmOut := (t, 0x7F, [4]) :: s.trust.spdmOut })) ∧
  (∀ (s : State) (t : Nat), s.spdmServes t = true → Completes (exec (.negotiateAlgorithms t) s) fun u => u.mem = s.mem ∧
    t ∈ u.trust.negotiatedAlgs ∧ (∀ k, k ≠ t → (k ∈ u.trust.negotiatedAlgs ↔ k ∈ s.trust.negotiatedAlgs)) ∧
    ∃ p, u.trust.spdmOut = (t, 0x63, p) :: s.trust.spdmOut) ∧
  (∀ (s : State) (t a b : Nat) (n : Bytes), s.spdmServes t = true → t ∈ s.trust.negotiatedAlgs →
    (s.trust.bundleOk = false → Completes (exec (.getCertificate t a b) s) fun u =>
      u.trust.spdmOut = (t, 0x7F, [5]) :: s.trust.spdmOut) ∧
    (s.trust.bundleOk = true → Completes (exec (.getCertificate t a b) s) fun u => u.mem = s.mem ∧
      (Config.certChain.length ≤ a → u.trust.spdmOut = (t, 0x7F, [1]) :: s.trust.spdmOut) ∧
      (a < Config.certChain.length → ∃ h, u.trust.spdmOut = (t, 0x02, h ++ slice Config.certChain a b) :: s.trust.spdmOut)) ∧
    (Completes (exec (.challenge t n) s) fun u => u.mem = s.mem ∧ u.fresh = s.fresh + 1 ∧
      u.trust.drbgRequests = (s.trust.drbgRequests + 1) % 2 ^ 20 ∧
      ∃ body, body = Config.sha384 Config.certChain ++ Config.random s.fresh 32 ∧
        u.trust.spdmOut = (t, 0x03, body ++ Config.sign 0 (n ++ body)) :: s.trust.spdmOut) ∧
    (8 < a → a ≠ 255 → Completes (exec (.getMeasurements t a n) s) fun u =>
      u.trust.spdmOut = (t, 0x7F, [1]) :: s.trust.spdmOut) ∧
    (1 ≤ a → a ≤ 8 → n ≠ [] → Completes (exec (.getMeasurements t a n) s) fun u => u.mem = s.mem ∧
      ∃ body, body = [1] ++ toLe 3 (s.measBlock a).length ++ s.measBlock a ++ Config.random s.fresh 32 ∧
        u.trust.spdmOut = (t, 0x60, body ++ Config.sign 0 (n ++ body)) :: s.trust.spdmOut) ∧
    (a = 0 → Completes (exec (.getMeasurements t a []) s) fun u =>
      u.trust.spdmOut = (t, 0x60, [8, 0, 0, 0] ++ Config.random s.fresh 32) :: s.trust.spdmOut)) ∧
  (∀ (s : State) (t i : Nat) (n : Bytes), s.spdmServes t = true → t ∈ s.trust.negotiatedAlgs →
    (16 ≤ s.trust.sessions.length → Completes (exec (.keyExchange t n) s) fun u =>
      u.trust.sessions = s.trust.sessions ∧ u.trust.spdmOut = (t, 0x7F, [3]) :: s.trust.spdmOut) ∧
    (s.trust.sessions.length < 16 → lowestFree (s.trust.sessions.map (·.id)) 0 16 = some i →
      Completes (exec (.keyExchange t n) s) fun u => u.mem = s.mem ∧
        u.trust.sessions = s.trust.sessions ++ [{ id := i, transport := t }] ∧ u.e 0x2D04 1 = s.trust.sessions.length + 1 ∧
        ∃ body, body = toLe 2 i ++ Config.random s.fresh 128 ∧
          u.trust.spdmOut = (t, 0x64, body ++ Config.sign 0 (n ++ body)) :: s.trust.spdmOut)) ∧
  (∀ (s : State) (i : Nat) (x : SpdmSession), s.trust.sessions.find? (fun y => y.id == i) = some x →
    s.spdmServes x.transport = true → s.trust.sessions.length ≤ 16 →
    Completes (exec (.endSession i) s) fun u => u.mem = s.mem ∧ u.trust.sessions = s.trust.sessions.filter (fun y => y.id != i) ∧
      u.e 0x2D04 1 = u.trust.sessions.length ∧ u.trust.spdmOut = (x.transport, 0x6C, []) :: s.trust.spdmOut) ∧
  (∀ (s : State) (i : Nat), s.trust.sessions.find? (fun y => y.id == i) = none →
    Completes (exec (.endSession i) s) fun u => u = s) ∧
  (∀ (s : State) (t : Nat) (q : Bytes), s.spdmServes t = true → t ∈ s.trust.negotiatedAlgs →
    (field q 0 2 = 3 → field q 2 1 = 2 → field q 3 2 = 0x1E7A → field q 7 2 = 1 →
      Completes (exec (.vendorDefinedRequest t q) s) fun u => u.mem = s.mem ∧
        u.trust.transcripts = s.trust.transcripts ++ [(t, s.now, q)] ∧ u.trust.spdmOut = (t, 0x7F, [0x42]) :: s.trust.spdmOut) ∧
    (field q 0 2 ≠ 3 ∨ field q 3 2 ≠ 0x1E7A ∨ field q 7 2 ≠ 1 → Completes (exec (.vendorDefinedRequest t q) s) fun u =>
      u.trust = { s.trust with spdmOut := (t, 0x7F, [7]) :: s.trust.spdmOut })) ∧
  (∀ (s : State) (t since : Nat) (q : Bytes), s.spdmServes t = true → t ∈ s.trust.negotiatedAlgs →
    ((∀ x ∈ s.trust.transcripts, x.1 ≠ t) → Completes (exec (.respondIfReady t) s) fun u =>
      u.trust = { s.trust with spdmOut := (t, 0x7F, [4]) :: s.trust.spdmOut }) ∧
    (s.trust.transcripts = [(t, since, q)] →
      Completes (exec (.respondIfReady t) s) fun u => u.mem = s.mem ∧ u.fresh = s.fresh + 1 ∧
        (u.trust.transcripts = [] ∧ u.trust.spdmOut = (t, 0x7E, Config.sign 1 (q ++ [1, 2, 3, 4, 5, 6, 7, 8].flatMap s.measBlock)) ::
            s.trust.spdmOut ∨
          s.now < since + 3000000000 ∧ u.trust.transcripts = s.trust.transcripts ∧
            u.trust.spdmOut = (t, 0x7F, [0x42]) :: s.trust.spdmOut)))
/-- Loops, limiter, comparators and budget windows (R560 to R567, R573). -/
def Obligations.EnergyLoopsComplete : Prop :=
  (∀ (s : State) (l : List Nat) (w : Bool) (st : Nat), s.loopsRun = false ∨ (s.energy.powerStart = some st ∧
    s.now < st + s.energy.powerDone * 100000) → Completes (exec (.powerLoop l w) s) fun u => u = s) ∧
  (∀ (s : State) (l : List Nat) (w : Bool) (st : Nat), s.loopsRun = true → s.contract.draining = false →
    s.energy.powerStart = some st → st + s.energy.powerDone * 100000 ≤ s.now → 550 ≤ s.e 0x2E01 5 → s.e 0x2E01 5 ≤ 850 →
    Completes (exec (.powerLoop l w) s) fun u => u.energy.regulatorMw = sumNat l ∧ u.energy.regulatorWarn = w ∧
      u.energy.powerDone = s.energy.powerDone + 1 ∧
      u.energy.windowEnergy = s.energy.windowEnergy + s.energy.regulatorMw * (s.now - s.energy.polledAt) ∧
      (st + (s.energy.powerDone + 1) * 100000 < s.now → u.e 0x2E04 0x0D = (s.e 0x2E04 0x0D + 1) % 2 ^ 64) ∧
      (u.e 0x2E00 0 = s.e 0x2E00 0 → 550 ≤ u.e 0x2E01 5 ∧ u.e 0x2E01 5 ≤ 850 ∧ u.e 0x2E01 5 ≤ s.e 0x2E01 5 + 10 ∧
        s.e 0x2E01 5 ≤ u.e 0x2E01 5 + 10 ∧ (s.e 0x2E01 5 ≤ railCeiling (s.e 0x2E00 0) → u.e 0x2E01 5 ≤ railCeiling (s.e 0x2E00 0)) ∧
        (u.rateShort = true → s.e 0x2E01 5 ≤ u.e 0x2E01 5) ∧ (s.e 0x1003 0 = 2 → u.e 0x2E01 5 = s.e 0x2E01 5))) ∧
  (∀ (s : State) (l : List Nat) (w : Bool), (s.loopsRun = false → Completes (exec (.pmbAlertN l w) s) fun u => u = s) ∧
    (s.loopsRun = true → s.contract.draining = false → Completes (exec (.pmbAlertN l w) s) fun u =>
      u.energy.regulatorMw = sumNat l ∧ u.energy.polledAt = s.now ∧ (w = true → 3 ≤ u.energy.measuredLevel) ∧
      u.energy.windowEnergy = s.energy.windowEnergy + s.energy.regulatorMw * (s.now - s.energy.polledAt))) ∧
  (∀ (s : State) (l : List Int) (st : Nat), s.loopsRun = false ∨ (s.energy.thermalStart = some st ∧
    s.now < st + s.energy.thermalDone * 1000000) → l.length = 24 → Completes (exec (.thermalLoop l) s) fun u => SameBytes s u ∧
      u.energy.temps = l ∧ u.contract = s.contract ∧ u.energy.measuredLevel = s.energy.measuredLevel) ∧
  (∀ (s : State) (l : List Int) (st : Nat), s.loopsRun = true → s.contract.draining = false → l.length = 24 →
    s.energy.thermalStart = some st → st + s.energy.thermalDone * 1000000 ≤ s.now →
    Completes (exec (.thermalLoop l) s) fun u => u.energy.temps = l ∧ u.energy.thermalDone = s.energy.thermalDone + 1 ∧
      s.energy.measuredLevel ≤ u.energy.measuredLevel ∧ (∀ i < 6, ∀ m, m ∈ (l.drop (4 * i)).take 4 →
        (∀ x ∈ (l.drop (4 * i)).take 4, x ≤ m) → u.e 0x2E03 (i + 1) = unsigned 32 m) ∧
      (∀ x ∈ l, ((s.e 0x2E00 4 : Int) ≤ x → 1 ≤ u.energy.measuredLevel) ∧ ((s.e 0x2E00 5 : Int) ≤ x → 2 ≤ u.energy.measuredLevel) ∧
        (106 * 65536 ≤ x → 3 ≤ u.energy.measuredLevel)) ∧
      (s.energy.measuredLevel ≤ 3 → s.e 0x2E00 1 ≤ 3 → u.e 0x2E00 0 = max u.energy.measuredLevel (s.e 0x2E00 1))) ∧
  (∀ (s : State) (t : Nat), s.energy.clearSince.getD (s.energy.measuredLevel - 1) none = some t →
    (s.rowClear s.energy.measuredLevel = false ∨ s.now < t + 10000000 → Completes (exec .snowlineFall s) fun u => u = s) ∧
    (s.loopsRun = true → s.contract.draining = false → s.energy.measuredLevel ≠ 0 → s.rowClear s.energy.measuredLevel = true →
      t + 10000000 ≤ s.now → s.enteredRow < s.energy.measuredLevel → s.coll.groups = [] → s.snap.sets = [] → s.zt.jobs = [] →
      Completes (exec .snowlineFall s) fun u => u.energy.measuredLevel = s.energy.measuredLevel - 1 ∧
        (s.energy.measuredLevel ≤ 3 → s.e 0x2E00 1 ≤ 3 → u.e 0x2E00 0 = max (s.energy.measuredLevel - 1) (s.e 0x2E00 1)))) ∧
  (∀ (s : State) (mw : Nat), (s.faults.safe = true → Completes (exec (.powerLimiter mw) s) fun u => u = s) ∧
    (s.faults.safe = false → s.contract.draining = false → Completes (exec (.powerLimiter mw) s) fun u =>
      (mw ≤ 600000 → u.energy.over600Since = none ∧ u.energy.limiterL3 = false ∧ u.energy.pacing = s.energy.pacing) ∧
      (720000 < mw → u.energy.pacing = true ∧ u.e 0x2E00 2 = 1) ∧
      (600000 < mw → s.energy.over600Since = none → u.energy.over600Since = some s.now ∧ u.energy.limiterL3 = false) ∧
      (∀ t, 600000 < mw → s.energy.over600Since = some t → t + 10000000 ≤ s.now →
        u.energy.pacing = true ∧ u.energy.limiterL3 = true ∧ 3 ≤ u.energy.measuredLevel ∧ u.e 0x2E00 2 = 1))) ∧
  (∀ (s : State), (s.faults.safe = true ∨ s.energy.pacing = false → Completes (exec .limiterPacingEnd s) fun u => u = s) ∧
    (s.faults.safe = false → s.energy.pacing = true → s.contract.draining = false → Completes (exec .limiterPacingEnd s) fun u =>
      u.energy.pacing = false ∧ u.energy.limiterL3 = false ∧ (u.e 0x2E00 0 ≠ 3 → u.e 0x2E00 2 ≠ 1))) ∧
  (∀ (s : State) (i : Nat), (24 ≤ i → exec (.thermalTrip i) s = .fault .noSuchUnit ∧ exec (.comparatorRearm i) s = .fault .noSuchUnit) ∧
    (i < 24 → i ∈ s.energy.latchedComp → Completes (exec (.thermalTrip i) s) (fun u => u = s) ∧
      Completes (exec (.comparatorRearm i) s) fun u => SameBytes s u ∧ i ∉ u.energy.latchedComp ∧
        (∀ j, j ≠ i → (j ∈ u.energy.latchedComp ↔ j ∈ s.energy.latchedComp)) ∧ u.contract = s.contract ∧ u.faults = s.faults) ∧
    (i < 24 → i ∉ s.energy.latchedComp → s.faults.openInc = none → s.contract.draining = false →
      Completes (exec (.comparatorRearm i) s) (fun u => u = s) ∧
      Completes (exec (.thermalTrip i) s) fun u => i ∈ u.energy.latchedComp ∧ u.pins.thermtripN = false ∧ u.faults.safe = true ∧
        (s.faults.safe = false → u.faults.safeCause = 0x14 ∧ u.e 0x2F05 0 = 1 ∧ ∀ k ∈ u.cores.cores, k.running = false))) ∧
  (∀ (s : State), (s.loopsRun = false ∨ s.restarting 1 = true → Completes (exec .budgetWindow s) fun u => u = s) ∧
    (∀ e el pf, s.loopsRun = true → s.restarting 1 = false → s.contract.draining = false → s.energy.windowStart + el = s.now → 0 < el →
      e = s.energy.windowEnergy + s.energy.regulatorMw * (s.now - s.energy.polledAt) → pf = (e * 1000 - s.energy.debited) / el →
      Completes (exec .budgetWindow s) fun u => u.energy.windowStart = s.now ∧ u.energy.windowLen = s.e 0x2E01 1 ∧
        u.energy.debited = s.runningCharges ∧ u.energy.windowEnergy = 0 ∧ u.energy.negativeOnly = false ∧
        u.energy.remaining = ((s.e 0x2E01 0 * 1000000 : Int) - pf) * s.e 0x2E01 1 - s.runningCharges ∧
        u.e 0x2E01 3 = e / el % 2 ^ 32 ∧ u.e 0x2E01 4 = pf / 1000 % 2 ^ 32))
/-- Power states (R581 to R594). -/
def Obligations.PowerStatesComplete : Prop :=
  (∀ (s : State) (r : ActReq), Granted s r 0x2E05 1 →
    (s.e 0x2E05 0 ≠ 0 → Completes (exec (.powerStateReq r) s) fun u => ObjectRefused s u r 0x2E05 1) ∧
    (∀ n, s.e 0x2E05 0 = 0 → s.refuser (reqVal r == 3) = some n → Completes (exec (.powerStateReq r) s) fun u =>
      ObjectRefused s u r 0x2E05 1 ∧ u.e 0x2E05 0 = 0 ∧ u.e 0x2E06 n = (s.e 0x2E06 n + 1) % 2 ^ 64 ∧
      u.e 0x2E06 9 = leNat (toLe 8 s.now ++ toLe 1 n ++ toLe 1 (reqVal r) ++ zeros 6)) ∧
    (s.e 0x2E05 0 = 0 → s.refuser (reqVal r == 3) = none → Completes (exec (.powerStateReq r) s) fun u => SameBytes s u ∧
      u.e 0x2E05 0 = 1 ∧ u.energy.enteringTarget = reqVal r ∧ u.energy.railBefore = s.e 0x2E01 5 ∧
      (∀ q ∈ s.contract.queues, q.kind = 1 → q.state = 1 ∨ q.state = 2 → ∃ q' ∈ u.contract.queues, q'.index = q.index ∧
        q'.state = 3 ∧ q'.recorded = q.state ∧ q'.causePower = true ∧ q'.head = q.head ∧ q'.tail = q.tail) ∧
      (reqVal r = 3 → u.energy.savedSram = s.mem.filter (fun c => decide (c.1 < aonBase)) ∧ u.energy.saveAreaOk = true) ∧
      ∃ o ∈ u.steral.outstanding, o.isAct = true ∧ o.index = 0x2E05 ∧ o.sub = 1)) ∧
  (∀ (s : State), (s.e 0x2E05 0 ≠ 1 ∨ s.faults.safe = true → Completes (exec .entryComplete s) fun u => u = s) ∧
    (s.e 0x2E05 0 = 1 → s.faults.safe = false → s.energy.enteringTarget = 2 → Completes (exec .entryComplete s) fun u =>
      SameBytes s u ∧ u.e 0x2E05 0 = 2 ∧ u.tiers.selfRefresh = true ∧ u.e 0x2E01 5 = 550 ∧ u.contract = s.contract) ∧
    (s.e 0x2E05 0 = 1 → s.faults.safe = false → s.energy.enteringTarget = 3 →
      (∀ l ∈ s.ports.linkState, l.1 < 10) → Completes (exec .entryComplete s) fun u =>
      (∀ a, Memory.get u.mem a = if a < aonBase then 0 else Memory.get s.mem a) ∧ u.e 0x2E05 0 = 3 ∧
      u.tiers.selfRefresh = true ∧ u.tiers.cxlUp = [false, false, false, false] ∧ u.contract = s.contract ∧
      u.energy.savedSram = s.energy.savedSram)) ∧
  (∀ (s : State) (src : Nat), (s.wakes src = false → Completes (exec (.wakeEvent src) s) fun u => u = s) ∧
    (src < 6 → s.faults.safe = false → s.pins.resetN = true → bit (s.e 0x2E05 2) src = true →
      (s.e 0x2E05 0 = 2 ∨ (s.e 0x2E05 0 = 3 ∧ src ≠ 4) ∨ (s.e 0x2E05 0 = 1 ∧ (src ≠ 4 ∨ s.energy.enteringTarget = 2))) →
      Completes (exec (.wakeEvent src) s) fun u => SameBytes s u ∧ u.e 0x2E05 0 = 4 ∧ u.energy.wakeAt = s.now ∧
        u.energy.wakeStep = 0 ∧ u.energy.wakeSource = src ∧
        u.energy.wakeFrom = (if s.e 0x2E05 0 = 1 then s.energy.enteringTarget else s.e 0x2E05 0) ∧
        u.e 0x2E05 4 = leNat (toLe 8 s.now ++ toLe 1 src ++ toLe 1 (s.e 0x2E05 0) ++ zeros 6) ∧ u.contract = s.contract)) ∧
  (∀ (s : State), (s.readyNow 0 = false → Completes (exec .railReady s) fun u => u = s) ∧
    (s.readyNow 1 = false → Completes (exec .clockReady s) fun u => u = s) ∧
    (s.readyNow 2 = false → Completes (exec .memReady s) fun u => u = s) ∧
    (s.readyNow 3 = false → Completes (exec .logicReady s) fun u => u = s)) ∧
  (∀ (s : State) (k : Nat), s.faults.safe = false → s.e 0x2E05 0 = 4 → s.energy.wakeStep = k →
    s.now ≤ s.energy.wakeAt + readyLimit (s.energy.wakeFrom == 3) k →
    (k = 0 → s.energy.railBefore < 2 ^ 16 → Completes (exec .railReady s) fun u => SameBytes s u ∧ u.energy.wakeStep = 1 ∧
      u.e 0x2E01 5 = s.energy.railBefore ∧ u.e 0x2E05 0 = 4) ∧
    (k = 1 → Completes (exec .clockReady s) fun u => SameBytes s u ∧ u.energy.wakeStep = 2 ∧ u.dict = s.dict) ∧
    (k = 2 → Completes (exec .memReady s) fun u => SameBytes s u ∧ u.energy.wakeStep = 3 ∧ u.tiers.selfRefresh = false ∧
      u.dict = s.dict) ∧
    (k = 3 → s.energy.wakeFrom = 2 ∨ (s.energy.wakeFrom = 3 ∧ s.saveAreaGood = true) → s.contract.draining = false →
      s.energy.pendingSignals = [] → (∀ f ∈ s.ports.functions, f.flrDue = false) → (∀ q ∈ s.contract.queues, q.resetRecorded = false) →
      Completes (exec .logicReady s) fun u => u.e 0x2E05 0 = 0 ∧ u.energy.wakeStep = 0 ∧ u.energy.windowStart = s.now ∧
        u.energy.powerStart = none ∧ u.energy.thermalStart = none ∧
        (∀ q, s.queue? q.index = some q → q.kind = 1 → q.state = 3 → q.causeActivation = false → q.causeFreeze = false →
          ∃ q', u.queue? q.index = some q' ∧ q'.state = q.recorded ∧ q'.head = q.head ∧ q'.tail = q.tail) ∧
        (s.energy.wakeFrom = 2 → SameBytes s u) ∧
        (s.energy.wakeFrom = 3 → (∀ a, (∀ c ∈ s.energy.savedSram, c.1 ≠ a) → Memory.get u.mem a = Memory.get s.mem a) ∧
          (Memory.wf s.energy.savedSram = true → ∀ c ∈ s.energy.savedSram, Memory.get u.mem c.1 = c.2))) ∧
    (k = 3 → s.energy.wakeFrom = 3 → s.saveAreaGood = false → s.contract.draining = false → s.faults.openInc = none →
      Completes (exec .logicReady s) fun u => u.faults.safe = true ∧ u.faults.safeCause = 0x18 ∧
        ∃ i, u.faults.openInc = some i ∧ i.firstRung = 4 ∧ i.firstSource = 20)) ∧
  (∀ (s : State) (k : Nat), (s.faults.safe = true ∨ s.e 0x2E05 0 ≠ 4 ∨ s.energy.wakeStep ≠ k ∨ 4 ≤ k ∨
      s.now ≤ s.energy.wakeAt + readyLimit (s.energy.wakeFrom == 3) k → Completes (exec (.wakeReady k) s) fun u => u = s) ∧
    (s.faults.safe = false → s.e 0x2E05 0 = 4 → s.energy.wakeStep = k → k < 4 → s.contract.draining = false → s.faults.openInc = none →
      s.energy.wakeAt + readyLimit (s.energy.wakeFrom == 3) k < s.now →
      Completes (exec (.wakeReady k) s) fun u => u.faults.safe = true ∧ u.faults.safeCause = 0x19 ∧
        ∃ i, u.faults.openInc = some i ∧ i.firstRung = 4 ∧ i.firstSource = 21))
/-- Firmware activation (R85, R578, R651). -/
def Obligations.ActivationCommandsComplete : Prop :=
  (∀ (s : State) (r : ActReq), Granted s r 0x1005 0 →
    (s.e 0x1001 1 = 0 → Completes (exec (.fwActivate r) s) fun u => ObjectRefused s u r 0x1005 0) ∧
    (s.e 0x1001 1 ≠ 0 → s.contract.activation ≠ 0 → Completes (exec (.fwActivate r) s) fun u =>
      SameBytes s u ∧ u.contract = s.contract ∧ u.trust = s.trust ∧ Replied s u r 2 0x1005 0 4 [3, 0]) ∧
    (s.e 0x1001 1 ≠ 0 → s.contract.activation = 0 → s.e 0x2E05 0 = 0 → s.e 0x2E00 2 = 0 → s.faults.openInc = none →
      Completes (exec (.fwActivate r) s) fun u => SameBytes s u ∧ u.contract.activation = 1 ∧ u.contract.activationStart = s.now ∧
        u.contract.draining = true ∧ u.trust = s.trust ∧ u.e 0x2E07 0 = 0 ∧
        (∀ q ∈ s.contract.queues, q.kind = 1 → q.state = 1 ∨ q.state = 2 → ∃ q' ∈ u.contract.queues, q'.index = q.index ∧
          q'.state = 3 ∧ q'.recorded = q.state ∧ q'.causeActivation = true ∧ q'.head = q.head ∧ q'.tail = q.tail) ∧
        ∃ o ∈ u.steral.outstanding, o.isAct = true ∧ o.index = 0x1005 ∧ o.sub = 0) ∧
    (s.e 0x1001 1 ≠ 0 → s.contract.activation = 0 → s.e 0x2E05 0 ≠ 0 ∨ s.e 0x2E00 2 ≠ 0 ∨ s.faults.openInc ≠ none →
      Completes (exec (.fwActivate r) s) fun u => SameBytes s u ∧ u.contract.activation = 2 ∧ u.contract.queues = s.contract.queues ∧
        u.e 0x2E07 0 = 1 ∧ u.e 0x2E07 1 = (s.e 0x2E07 1 + 1) % 2 ^ 32 ∧
        ∃ o ∈ u.steral.outstanding, o.isAct = true ∧ o.index = 0x1005 ∧ o.sub = 0)) ∧
  (∀ (s : State), (s.contract.activation ≠ 1 ∨ s.faults.safe = true ∨ (∃ c ∈ s.contract.ctxs, c.finished = false) →
      Completes (exec .activationDrainDone s) fun u => u = s) ∧
    (s.contract.activation = 1 → s.contract.draining = true → s.faults.safe = false → (∀ c ∈ s.contract.ctxs, c.finished = true) →
      s.steral.heldReqs = [] → (∀ q ∈ s.contract.queues, q.resetRecorded = false) → s.coll.groups = [] → s.snap.sets = [] →
      s.zt.jobs = [] → Completes (exec .activationDrainDone s) fun u => u.contract.activation = 0 ∧ u.contract.draining = false ∧
        u.e 0x1001 0 = s.e 0x1001 1 % 2 ^ 32 ∧ u.e 0x1001 1 = 0 ∧ u.e 0x1005 1 = (s.e 0x1005 1 + 1) % 2 ^ 32 ∧
        u.trust.runningSlot = 1 - s.trust.runningSlot ∧ u.trust.keyCache = [] ∧
        u.trust.runningDigest = (s.trust.flash.getD (1 - s.trust.runningSlot) default).digest ∧
        (∀ q, s.queue? q.index = some q → q.kind = 1 → q.state = 3 → q.causeFreeze = false → q.causePower = false →
          ∃ q', u.queue? q.index = some q' ∧ q'.state = q.recorded ∧ q'.head = q.head ∧ q'.tail = q.tail) ∧
        ∀ o ∈ u.steral.outstanding, ¬ (o.isAct = true ∧ o.index = 0x1005 ∧ o.sub = 0 ∧ o.cabinet = 0))) ∧
  (∀ (s : State), (s.contract.activation ≠ 2 ∨ s.faults.safe = true ∨ s.mayActivate = false ∨
        s.now < s.energy.emergencyEndedAt + 100000000 → Completes (exec .activationDefer s) fun u => u = s) ∧
    (s.contract.activation = 2 → s.faults.safe = false → s.e 0x2E05 0 = 0 → s.e 0x2E00 2 = 0 → s.faults.openInc = none →
      s.energy.emergencyEndedAt + 100000000 ≤ s.now → Completes (exec .activationDefer s) fun u => SameBytes s u ∧
        u.contract.activation = 1 ∧ u.contract.activationStart = s.now ∧ u.contract.draining = true ∧ u.e 0x2E07 0 = 0 ∧
        (∀ q ∈ s.contract.queues, q.kind = 1 → q.state = 1 ∨ q.state = 2 → ∃ q' ∈ u.contract.queues, q'.index = q.index ∧
          q'.state = 3 ∧ q'.recorded = q.state ∧ q'.causeActivation = true ∧ q'.head = q.head ∧ q'.tail = q.tail))) ∧
  (∀ (s : State), (s.contract.activation ≠ 1 ∨ s.now < s.contract.activationStart + 5000000000 →
      Completes (exec .activationAbandoned s) fun u => u = s) ∧
    (s.contract.activation = 1 → s.contract.draining = true → s.contract.activationStart + 5000000000 ≤ s.now →
      s.faults.safe = false → s.steral.heldReqs = [] → (∀ q ∈ s.contract.queues, q.resetRecorded = false) → s.coll.groups = [] →
      s.snap.sets = [] → s.zt.jobs = [] → Completes (exec .activationAbandoned s) fun u => u.contract.activation = 0 ∧
        u.contract.draining = false ∧ u.e 0x2E07 0 = 2 ∧ u.trust = s.trust ∧ u.e 0x1001 0 = s.e 0x1001 0 ∧
        (∀ q, s.queue? q.index = some q → q.kind = 1 → q.state = 3 → q.causeFreeze = false → q.causePower = false →
          ∃ q', u.queue? q.index = some q' ∧ q'.state = q.recorded ∧ q'.head = q.head ∧ q'.tail = q.tail) ∧
        ∀ o ∈ u.steral.outstanding, ¬ (o.isAct = true ∧ o.index = 0x1005 ∧ o.sub = 0 ∧ o.cabinet = 0)))
/-- The fault collector and its acts (R595 to R608, R616, R617, R619). -/
def Obligations.FaultCommandsComplete : Prop :=
  (∀ (s : State) (e : ErrorIn), 26 ≤ e.source ∨ e.causeCode = 0 ∨ 0x1C < e.causeCode ∨ e.severity ≠ causeSeverity e.causeCode →
    Completes (exec (.errorPin e) s) fun u => u = s) ∧
  (∀ (s : State) (e : ErrorIn), e.source < 26 → 1 ≤ e.causeCode → e.causeCode ≤ 0x1C → e.severity = causeSeverity e.causeCode →
    s.contract.draining = false → s.e 0x2F00 0 < 2 ^ 64 →
    (s.faults.openInc = none → causeScope e.causeCode = 0 → causeRung e.causeCode = 0 → e.causeCode ≠ 0x0E →
      Completes (exec (.errorPin e) s) fun u => SameBytes s u ∧ u.faults.openInc = none ∧ u.faults.safe = s.faults.safe ∧
        bit (u.e 0x2F00 0) e.source = true ∧ (∀ i, i ≠ e.source → bit (u.e 0x2F00 0) i = bit (s.e 0x2F00 0) i) ∧
        (s.e 0x2F00 0 = 0 → u.e 0x2F00 3 = e.source) ∧
        (sourcePrivileged e.source = false → (∀ r ∈ s.faults.firstErrors, r.source ≠ e.source) →
          ∃ r ∈ u.faults.firstErrors, r.source = e.source ∧ r.address = e.address ∧ r.master = e.master ∧ r.access = e.access ∧
            r.severity = 1 ∧ r.count = 1 ∧ r.overflow = false ∧ r.causeCode = e.causeCode ∧ r.time = s.now) ∧
        (sourcePrivileged e.source = false → ∀ r ∈ s.faults.firstErrors, r.source = e.source → r.count < 0xFFFF →
          { r with count := r.count + 1 } ∈ u.faults.firstErrors)) ∧
    (s.faults.openInc = none → s.faults.safe = false → causeScope e.causeCode = 3 → causeRung e.causeCode = 4 → e.causeCode ≠ 0x14 →
      Completes (exec (.errorPin e) s) fun u => bit (u.e 0x2F00 0) (32 + e.source) = true ∧ u.faults.safe = true ∧
        u.faults.safeCause = e.causeCode ∧ u.e 0x2F05 0 = 1 ∧ u.e 0x2F05 2 = (s.e 0x2F05 2 + 1) % 2 ^ 32 ∧ u.e 0x2F03 0 = 0 ∧
        (∀ k ∈ u.cores.cores, k.running = false) ∧ u.trust.keyCache = [] ∧ u.tiers.selfRefresh = true ∧ u.e 0x2E01 5 = 600 ∧
        (∀ q < 4, u.e 0x2003 (q + 1) = 0) ∧ u.pins.faultN = false ∧ u.contract.activation = 0 ∧
        ∃ i, u.faults.openInc = some i ∧ i.firstSource = e.source ∧ i.severity = 2 ∧ i.scope = 3 ∧ i.target = 0xF000 ∧
          i.firstRung = 4 ∧ i.number = s.e 0x2F02 1 + 1 ∧ i.openTime = s.now) ∧
    (∀ q, s.faults.openInc = none → e.causeCode = 0x11 → masterQuadrant e.master = some q → q < 4 →
      Completes (exec (.errorPin e) s) fun u => u.faults.safe = s.faults.safe ∧ u.e 0x2F03 0 = 3 ∧ q ∈ u.faults.fencedQuads ∧
        u.e 0x2F03 8 = (s.e 0x2F03 8 + 1) % 2 ^ 32 ∧ u.faults.rungStartedAt = s.now ∧
        ∃ i, u.faults.openInc = some i ∧ i.target = 0x6000 + q ∧ i.firstSource = e.source ∧ i.rungReached = 3) ∧
    (∀ i, s.faults.openInc = some i → insideDomain (s.e 0x2F03 0) i.target e = true → i.merged < 0xFFFFFFFF → e.causeCode ≠ 0x07 →
      Completes (exec (.errorPin e) s) fun u => SameBytes s u ∧ u.faults.openInc = some { i with merged := i.merged + 1 } ∧
        u.e 0x2F03 0 = s.e 0x2F03 0 ∧ u.faults.firstErrors.map (·.count) = s.faults.firstErrors.map (·.count) ∧
        u.faults.safe = s.faults.safe ∧ bit (u.e 0x2F00 0) (faultBit e) = true) ∧
    (∀ i, s.faults.openInc = some i → s.merges e = false → e.causeCode = 0x11 → s.faults.queuedInc.length < 64 →
      Completes (exec (.errorPin e) s) fun u => u.faults.openInc = some i ∧ u.e 0x2F03 0 = s.e 0x2F03 0 ∧
        ∃ j, u.faults.queuedInc = s.faults.queuedInc ++ [j] ∧ j.firstSource = e.source ∧ j.firstRung = 3)) ∧
  (∀ (s : State) (id : Nat) (c : Ctx), s.ctx? id = some c →
    (c.finished = true ∨ c.waiting = true ∨ s.faults.safe = true ∨ s.now < c.lastProgress + s.e 0x2F04 0 ∨ s.hangExempt c = true →
      Completes (exec (.engineHangLimit id) s) fun u => u = s) ∧
    (s.faults.safe = false → c.finished = false → c.waiting = false → c.lastProgress + s.e 0x2F04 0 ≤ s.now → s.hangExempt c = false →
      s.inLadder id = false → s.contract.draining = false →
      (s.isControl c = false → s.ctxSource c < 26 → s.faults.openInc = none → (s.contract.ctxs.filter fun k => k.id == id) = [c] →
        Completes (exec (.engineHangLimit id) s) fun u =>
        u.e 0x2F04 3 = (s.e 0x2F04 3 + 1) % 2 ^ 64 ∧ u.e 0x2F03 0 = 1 ∧
        (∃ i, u.faults.openInc = some i ∧ i.ctx = some id ∧ i.firstSource = s.ctxSource c ∧ i.target = s.ctxMaster c ∧ i.caught = 1) ∧
        u.faults.granulesDone = [(id, c.progress)] ∧ u.ctx? id = some c) ∧
      (s.isControl c = true → s.restarting 1 = false → Completes (exec (.engineHangLimit id) s) fun u =>
        u.ctx? id = none ∧ ∀ k ∈ u.faults.components, k.core = 1 → k.restarting = true))) ∧
  (∀ (s : State) (core : Nat), (s.faults.watchdogs.length ≤ core → exec (.monitorWatchdog core) s = .fault .noSuchUnit) ∧
    (∀ t, s.faults.watchdogs[core]? = some t →
      (s.componentsRun = false ∨ s.now < t + s.e 0x2F04 2 → Completes (exec (.monitorWatchdog core) s) fun u => u = s) ∧
      (s.componentsRun = true → t + s.e 0x2F04 2 ≤ s.now → s.faults.openInc = none → s.contract.draining = false →
        Completes (exec (.monitorWatchdog core) s) fun u => u.faults.safe = true ∧ u.faults.safeCause = 0x13 ∧
          ∃ i, u.faults.openInc = some i ∧ i.firstRung = 4 ∧ i.firstSource = 16))) ∧
  (∀ (s : State) (core : Nat), (s.component? core = none → exec (.componentCheckin core) s = .fault .noSuchUnit ∧
      exec (.componentRestart core) s = .fault .noSuchUnit) ∧
    (∀ c, s.component? core = some c →
      (s.componentsRun = false ∨ c.restarting = true ∨ s.now < c.lastCheckin + s.e 0x2F04 1 →
        Completes (exec (.componentCheckin core) s) fun u => u = s) ∧
      (s.componentsRun = true → c.restarting = false → c.lastCheckin + s.e 0x2F04 1 ≤ s.now → s.contract.draining = false →
        s.faults.openInc = none → (c.trapTimes.filter fun t => s.now < t + 10000000000).length < 2 → s.faults.dumps = [] →
        Completes (exec (.componentCheckin core) s) fun u => u.faults.safe = false ∧ u.faults.dumps.length = 1 ∧ u.e 0x2F07 0 = 1 ∧
          (∀ id k, s.ctx? id = some k → s.handledBy core k = true → u.ctx? id = none) ∧
          ∃ c', u.component? core = some c' ∧ c'.restarting = true ∧ c'.restartAt = s.now ∧
            c'.trapTimes = s.now :: c.trapTimes.filter fun t => s.now < t + 10000000000) ∧
      (s.componentsRun = true → c.restarting = false → c.lastCheckin + s.e 0x2F04 1 ≤ s.now → s.contract.draining = false →
        s.faults.openInc = none → 2 ≤ (c.trapTimes.filter fun t => s.now < t + 10000000000).length →
        Completes (exec (.componentCheckin core) s) fun u => u.faults.safe = true ∧ u.faults.safeCause = 0x13) ∧
      (s.componentsRun = false ∨ c.restarting = false → Completes (exec (.componentRestart core) s) fun u => u = s) ∧
      (s.componentsRun = true → c.restarting = true → core < 8 → s.contract.draining = false →
        Completes (exec (.componentRestart core) s) fun u => u.e 0x2F04 (4 + core) = (s.e 0x2F04 (4 + core) + 1) % 2 ^ 32 ∧
          ∃ c', u.component? core = some c' ∧ c'.restarting = false ∧ c'.lastCheckin = s.now))) ∧
  (∀ (s : State) (r : ActReq), Granted s r 0x2F00 1 →
    (∀ i, s.faults.openInc = some i → bit (reqVal r) i.firstSource = true ∨ bit (reqVal r) (32 + i.firstSource) = true →
      Completes (exec (.faultClear r) s) fun u => ObjectRefused s u r 0x2F00 1) ∧
    (s.faults.openInc = none → s.faults.queuedInc = [] → s.e 0x2F00 0 < 2 ^ 64 → Completes (exec (.faultClear r) s) fun u =>
      SameBytes s u ∧ (∀ i < 64, bit (u.e 0x2F00 0) i = (bit (s.e 0x2F00 0) i && !bit (reqVal r) i)) ∧
      (u.e 0x2F00 0 = 0 → u.e 0x2F00 3 = 0xFF) ∧
      (∀ x, x ∈ u.faults.firstErrors ↔ x ∈ s.faults.firstErrors ∧
        (bit (u.e 0x2F00 0) x.source = true ∨ bit (u.e 0x2F00 0) (32 + x.source) = true)) ∧
      Replied s u r 2 0x2F00 1 0 (zeros 8))) ∧
  (∀ (s : State) (r : ActReq), Granted s r 0x2F06 1 → Completes (exec (.trayNoticeAck r) s) fun u => SameBytes s u ∧
    u.faults.noticeUnacked = false ∧ u.e 0x2F06 0 = s.e 0x2F06 0 ∧ u.pins.faultN = decide (s.e 0x2F00 0 < 2 ^ 32) ∧
    Replied s u r 2 0x2F06 1 0 [0]) ∧
  (∀ (s : State) (r : ActReq), Granted s r 0x2F07 5 → s.faults.dumps.length ≤ 4 → Completes (exec (.dumpDiscard r) s) fun u =>
    SameBytes s u ∧ (∀ d, d ∈ u.faults.dumps ↔ d ∈ s.faults.dumps ∧ d.slot ≠ reqVal r) ∧ u.e 0x2F07 0 = u.faults.dumps.length ∧
    Replied s u r 2 0x2F07 5 0 [0])
/-- The reset ladder (R603, R610 to R616). -/
def Obligations.ResetLadderComplete : Prop :=
  (∀ (s : State), (s.faults.openInc = none ∨ s.rung = 0 ∨ 4 < s.rung ∨ (s.faults.safe = true ∧ s.rung ≠ 4) →
      Completes (exec .rungComplete s) fun u => u = s) ∧
    (∀ i, s.faults.openInc = some i → 1 ≤ s.rung → s.rung ≤ 3 → s.faults.safe = false → s.contract.draining = false →
      Completes (exec .rungComplete s) fun u => (∀ id, s.caught id = true → u.ctx? id = none) ∧
        (s.faults.queuedInc = [] → u.faults.openInc = none ∧ u.e 0x2F03 0 = 0 ∧ u.faults.granulesDone = [] ∧
          (i.firstSource ≠ 256 → u.faults.lastInc = some { i with closeTime := s.now }) ∧
          (s.rung = 3 → i.target % 4096 ∉ u.faults.fencedQuads ∧ i.target % 4096 ∈ u.transform.quadrantRetest) ∧
          (s.rung = 2 → i.target / 4096 = 0 → i.target % 4096 ∉ u.faults.fencedInsts ∧
            (i.target % 5 = 1 → i.target < 20 → i.target / 5 ∈ u.transform.quadrantRetest)) ∧
          (s.rung = 2 → i.target / 4096 ≠ 0 → i.target % 4096 ∉ u.faults.fencedUnits))) ∧
    (∀ i, s.faults.openInc = some i → s.rung = 4 → s.faults.safe = true → s.trust.pufOk.any id = true →
      Completes (exec .rungComplete s) fun u => u.faults.safe = false ∧ u.e 0x2F05 0 = 0 ∧ u.e 0x2F03 0 = 4 ∧ u.e 0x1003 0 = 0 ∧
        u.now = s.now ∧ u.e 0x2F05 2 = s.e 0x2F05 2 ∧ u.e 0x2F00 0 = 0 ∧ u.contract = State.reset.contract ∧ u.coll = State.reset.coll ∧
        u.cabs = State.reset.cabs ∧ u.zt = State.reset.zt ∧ u.snap = State.reset.snap ∧ u.faults.dumps = s.faults.dumps ∧
        u.faults.noticeUnacked = s.faults.noticeUnacked ∧ u.faults.openInc = none ∧ u.pins.thermtripN = true ∧
        u.trust.rootReady = true ∧
        ∀ a, Memory.get u.mem a = if (aonBase ≤ a ∧ a < 0xA240000) ∨ cxlBase ≤ a then Memory.get s.mem a else 0)) ∧
  (∀ (s : State), (s.rung = 0 ∨ 4 < s.rung ∨ s.now < s.faults.rungStartedAt + s.e 0x2F03 s.rung ∨
        (s.rung ≠ 4 ∧ (s.faults.safe = true ∨ s.faults.openInc = none)) → Completes (exec .rungDeadline s) fun u => u = s) ∧
    (∀ i, s.faults.openInc = some i → s.faults.safe = false → s.contract.draining = false → i.firstSource ≠ 256 →
      s.faults.rungStartedAt + s.e 0x2F03 s.rung ≤ s.now →
      (∀ id c, s.rung = 1 → i.ctx = some id → s.ctx? id = some c → s.ctxMaster c < 4096 → Completes (exec .rungDeadline s) fun u =>
        u.e 0x2F03 0 = 2 ∧ s.ctxMaster c ∈ u.faults.fencedInsts ∧ u.e 0x2F03 7 = (s.e 0x2F03 7 + 1) % 2 ^ 32) ∧
      (s.rung = 2 → i.target < 20 → Completes (exec .rungDeadline s) fun u => u.e 0x2F03 0 = 3 ∧ i.target / 5 ∈ u.faults.fencedQuads ∧
        u.e 0x2F03 8 = (s.e 0x2F03 8 + 1) % 2 ^ 32 ∧ ∃ j, u.faults.openInc = some j ∧ j.target = 0x6000 + i.target / 5) ∧
      (s.rung = 3 ∨ (s.rung = 2 ∧ i.target / 4096 ≠ 0) → Completes (exec .rungDeadline s) fun u => u.e 0x2F03 0 = 4 ∧
        u.e 0x2F03 9 = (s.e 0x2F03 9 + 1) % 2 ^ 32 ∧ (∃ j, u.faults.openInc = some j ∧ j.target = 0xF000) ∧
        (i.severity ≠ 2 → s.faults.noticeUnacked = false →
          u.e 0x2F06 0 = leNat (toLe 8 s.now ++ toLe 1 5 ++ toLe 1 i.firstSource ++ [0, 0] ++ toLe 4 i.number)))) ∧
    (s.rung = 4 → s.faults.rungStartedAt + s.e 0x2F03 4 ≤ s.now → s.contract.draining = false → Completes (exec .rungDeadline s) fun u =>
      SameBytes s u ∧ u.e 0x2F03 0 = 5 ∧ (s.faults.noticeUnacked = false → u.faults.noticeUnacked = true ∧ u.pins.faultN = false ∧
        u.pins.i3cIbi = 2 :: s.pins.i3cIbi ∧ u.e 0x2F06 0 = leNat (toLe 8 s.now ++ toLe 1 2 ++ toLe 1 0xFF ++ [0, 0] ++ toLe 4 0)))) ∧
  (∀ (s : State) (r : ActReq), Granted s r 0x2F03 0x0B → s.contract.draining = false →
    (s.faults.safe = true → bits (reqVal r) 31 24 ≠ 4 → Completes (exec (.resetRequest r) s) fun u => SameBytes s u ∧
      u.faults = s.faults ∧ Replied s u r 2 0x2F03 0x0B 4 [5, 0]) ∧
    (s.faults.safe = true → bits (reqVal r) 31 24 = 4 → s.rung ≠ 4 → Completes (exec (.resetRequest r) s) fun u =>
      u.e 0x2F03 0 = 4 ∧ u.faults.openInc ≠ none ∧ Replied s u r 2 0x2F03 0x0B 0 (zeros 4)) ∧
    (∀ t, s.faults.safe = false → requestTarget (bits (reqVal r) 31 24) (bits (reqVal r) 15 0) = some t → s.faults.openInc = none →
      2 ≤ bits (reqVal r) 31 24 → bits (reqVal r) 31 24 ≤ 4 → Completes (exec (.resetRequest r) s) fun u =>
      u.e 0x2F03 0 = bits (reqVal r) 31 24 ∧ u.e 0x2F02 1 = (s.e 0x2F02 1 + 1) % 2 ^ 32 ∧
      (∃ i, u.faults.openInc = some i ∧ i.firstSource = 0xFF ∧ i.severity = 0 ∧ i.number = s.e 0x2F02 1 + 1 ∧ i.target = t) ∧
      (bits (reqVal r) 31 24 = 3 → t % 4096 ∈ u.faults.fencedQuads) ∧ Replied s u r 2 0x2F03 0x0B 0 (zeros 4)) ∧
    (∀ t i, s.faults.safe = false → requestTarget (bits (reqVal r) 31 24) (bits (reqVal r) 15 0) = some t → s.faults.openInc = some i →
      s.faults.queuedInc.length < 64 → Completes (exec (.resetRequest r) s) fun u => SameBytes s u ∧ u.faults.openInc = some i ∧
      ∃ j, u.faults.queuedInc = s.faults.queuedInc ++ [j] ∧ j.firstSource = 0xFF ∧ j.target = t)) ∧
  (∀ (s : State), (s.faults.safe = false ∨ s.e 0x2F05 1 ≠ 1 ∨ s.faults.safeCause = 0x17 ∨ 4 ≤ s.rung ∨
        (s.faults.safeCause = 0x14 ∧ s.cooled = false) → Completes (exec .safeStateExit s) fun u => u = s) ∧
    (s.faults.safe = true → s.e 0x2F05 1 = 1 → s.faults.safeCause ≠ 0x17 → s.rung < 4 → s.cooled = true → s.contract.draining = false →
      s.faults.dumps = [] → s.faults.safeDumped = false → Completes (exec .safeStateExit s) fun u => u.e 0x2F03 0 = 4 ∧
        u.faults.openInc ≠ none ∧ u.faults.rungStartedAt = s.now ∧ u.faults.safeDumped = true ∧ u.faults.dumps.length = 1))
/-- First-error records of privileged sources (R600). -/
def Obligations.PrivilegedRecordsHoldOnlyTheCause : Prop :=
  ∀ (s : State) (e : ErrorIn), 20 ≤ e.source → e.source ≤ 23 →
    (s.merges e = false → (∀ r ∈ s.faults.firstErrors, r.source ≠ e.source) → (s.latchError e).faults.firstErrors =
      s.faults.firstErrors ++ [{ source := e.source, address := 0, master := 0, access := 0, severity := e.severity, count := 0,
                                 overflow := false, privilegedAccess := true, mergedFlag := false, causeCode := e.causeCode, time := 0 }]) ∧
    (s.merges e = false → (∃ r ∈ s.faults.firstErrors, r.source = e.source) → (s.latchError e).faults.firstErrors =
      s.faults.firstErrors.map fun r => if r.source = e.source then { r with overflow := true } else r) ∧
    (s.merges e = true → (s.latchError e).faults.firstErrors = s.faults.firstErrors)
/-- Steral requests and the management port's address answers (R624 to R634, R642, R645). -/
def Obligations.SteralRequestsComplete : Prop :=
  (∀ (s : State) (r : ActReq) (op idx sub : Nat), 1 ≤ op → op ≤ 3 → (s.judge r op idx sub).1 =
    (if outstandingLimit r.transport ≤ s.outstandingOf r then 6
     else if r.version / 16 ≠ 1 then 7
     else if badForm r op idx sub = true then 5
     else if entryRow idx sub = none then 1
     else if lacksRight r op idx sub = true then 3
     else if s.stageRefusal r idx ≠ none then 4 else 0)) ∧
  (∀ (s : State) (r : ActReq) (idx sub : Nat), (s.unreachable r = true →
      Completes (exec (.steralRead r idx sub) s) (fun u => u = s) ∧ Completes (exec (.describe r idx sub) s) (fun u => u = s) ∧
      Completes (exec (.steralWrite r idx sub) s) fun u => u = s) ∧
    (∀ c l, s.unreachable r = false → s.judge { r with sub := sub } 1 idx sub = (c, l) → c ≠ 0 →
      Completes (exec (.steralRead r idx sub) s) fun u => u.mem = s.mem ∧ u.contract = s.contract ∧
        Replied s u r 1 idx sub c (if c = 4 then l.flatMap (toLe 1) else [])) ∧
    (∀ c l, s.unreachable r = false → s.judge { r with sub := sub } 3 idx sub = (c, l) → c ≠ 0 →
      Completes (exec (.describe r idx sub) s) fun u => u.mem = s.mem ∧ u.contract = s.contract ∧
        Replied s u r 3 idx sub c (if c = 4 then l.flatMap (toLe 1) else [])) ∧
    (∀ c l, s.unreachable r = false → s.contract.activation ≠ 1 → s.contract.draining = false →
      s.judge { r with sub := sub } 2 idx sub = (c, l) → c ≠ 0 →
      Completes (exec (.steralWrite r idx sub) s) fun u => SameBytes s u ∧ u.contract = s.contract ∧
        (∀ cab i j, canonEntry cab i j ≠ entryKey 0 0x1006 2 → canonEntry cab i j ≠ entryKey 0 0x1006 3 → u.ent cab i j = s.ent cab i j) ∧
        Replied s u r 2 idx sub c (if c = 4 then l.flatMap (toLe 1) else [])) ∧
    (∀ e, s.unreachable r = false → s.judge { r with sub := sub } 1 idx sub = (0, []) → entryRow idx sub = some e → idx ≠ 0x3030 →
      Completes (exec (.steralRead r idx sub) s) fun u => u.mem = s.mem ∧ u.contract = s.contract ∧
        Replied s u r 1 idx sub 0 (if e.access = .wo ∨ e.access = .act then zeros e.ty.size
          else toLe e.ty.size (s.readValue r.cabinet idx sub))) ∧
    (∀ e x, s.unreachable r = false → s.judge { r with sub := sub } 3 idx sub = (0, []) → entryRow idx sub = some e →
      rightsRow r.cabinet idx sub = some x → Completes (exec (.describe r idx sub) s) fun u => u.mem = s.mem ∧ ∃ p : Bytes, p.length = 40 ∧
        p.take 3 = toLe 1 e.ty.code ++ toLe 1 e.access.code ++ toLe 1 x.writers ∧
        slice p 8 8 = toLe 8 (entryDefault r.cabinet idx sub) ∧ Replied s u r 3 idx sub 0 p) ∧
    (∀ e, s.unreachable r = false → s.contract.activation ≠ 1 → s.contract.draining = false →
      s.judge { r with sub := sub } 2 idx sub = (0, []) → entryRow idx sub = some e → e.access = .rw → writeEffect idx sub = plainWrite idx sub →
      idx ∉ [0x2E00, 0x2200, 0x2F00, 0x2601, 0x3100, 0x4008, 0x1006] →
      (s.inRange r.cabinet idx sub (reqVal r) = true → Completes (exec (.steralWrite r idx sub) s) fun u => SameBytes s u ∧
        u.ent r.cabinet idx sub = reqVal r ∧ u.contract = s.contract ∧ Replied s u r 2 idx sub 0 (toLe e.ty.size (reqVal r)) ∧
        ∀ cab i j, canonEntry cab i j ≠ canonEntry r.cabinet idx sub → canonEntry cab i j ≠ entryKey 0 0x1006 2 →
          u.ent cab i j = s.ent cab i j) ∧
      (s.inRange r.cabinet idx sub (reqVal r) = false → Completes (exec (.steralWrite r idx sub) s) fun u => SameBytes s u ∧
        u.contract = s.contract ∧ Replied s u r 2 idx sub 2 (toLe e.ty.size (s.ent r.cabinet idx sub)) ∧
        ∀ cab i j, canonEntry cab i j ≠ entryKey 0 0x1006 2 → canonEntry cab i j ≠ entryKey 0 0x1006 3 →
          u.ent cab i j = s.ent cab i j)) ∧
    (s.unreachable r = false → s.contract.activation = 1 → r.transport ≠ 5 → refusedInDrain idx sub = false →
      s.outstandingOf r < outstandingLimit r.transport → Completes (exec (.steralWrite r idx sub) s) fun u => u.mem = s.mem ∧
        u.dict = s.dict ∧ u.contract = s.contract ∧ u.steral.heldReqs = s.steral.heldReqs ++ [(2, idx, sub, { r with sub := sub })])) ∧
  (∀ (s : State) (r : ActReq), Granted s r 0x3000 0 → Completes (exec (.telemetryLatch r) s) fun u => SameBytes s u ∧
    u.e 0x3000 1 = s.now % 2 ^ 64 ∧ (∀ i < 5, ∀ p < 4, u.latched (0x3010 + i) p = s.e (0x3010 + i) p) ∧
    u.latched 0x3100 7 = s.e 0x3100 7 ∧ Replied s u r 2 0x3000 0 0 [0]) ∧
  (∀ (s : State) (t src tag : Nat) (o : StReq),
    s.steral.outstanding.find? (fun o => o.isAct && o.transport == t && o.source == src && o.tag == tag) = some o →
    (s.now < o.accepted + 1000000000 → Completes (exec (.inProgressResponse t src tag) s) fun u => u = s) ∧
    (o.accepted + 1000000000 ≤ s.now → o.transport ≠ 5 → Completes (exec (.inProgressResponse t src tag) s) fun u => u.mem = s.mem ∧
      u.steral.outstanding = s.steral.outstanding.erase o ∧ u.contract = s.contract ∧
      ∃ a, u.steral.responses = a :: s.steral.responses ∧ a.transport = o.transport ∧ a.source = o.source ∧
        a.bytes = responseBytes o.version 2 o.tag o.index o.sub 8 o.cabinet [])) ∧
  (∀ (s : State) (f dst src sha spa tha : Bytes), (s.e 0x1006 0 = 0 → Completes (exec (.arpRequest f) s) (fun u => u = s) ∧
      Completes (exec (.neighborSolicitation f) s) fun u => u = s) ∧
    (s.e 0x1006 0 ≠ 0 → s.mgmtV4 = true → dst.length = 6 → src.length = 6 → sha.length = 6 → spa.length = 4 → tha.length = 6 →
      f = dst ++ src ++ [8, 6, 0, 1, 8, 0, 6, 4, 0, 1] ++ sha ++ spa ++ tha ++ s.mgmtIp.take 4 →
      Completes (exec (.arpRequest f) s) fun u => u.mem = s.mem ∧ u.dict = s.dict ∧ ∃ g, u.steral.mgmtOut = g :: s.steral.mgmtOut ∧
        g.take 42 = src ++ s.mgmtMac ++ [8, 6, 0, 1, 8, 0, 6, 4, 0, 2] ++ s.mgmtMac ++ s.mgmtIp.take 4 ++ sha ++ spa)) ∧
  (∀ (s : State) (f : Bytes) (n : Nat), s.e 0x1006 0 ≠ 0 → s.mgmtV4 = false → slice f 12 2 = [0x86, 0xDD] → slice f 20 2 = [58, 255] →
    fieldBe f 18 2 = n → 24 ≤ n → 54 + n ≤ f.length → slice f 54 2 = [135, 0] → slice f 62 16 = s.mgmtIp →
    foldSum (inetSum (icmp6Pseudo (slice f 22 16) (slice f 38 16) n ++ slice f 54 n)) = 0xFFFF →
    Completes (exec (.neighborSolicitation f) s) fun u => u.mem = s.mem ∧ u.dict = s.dict ∧ ∃ g, u.steral.mgmtOut = g :: s.steral.mgmtOut ∧
      g.take 14 = slice f 6 6 ++ s.mgmtMac ++ [0x86, 0xDD] ∧ slice g 20 2 = [58, 255] ∧ slice g 22 16 = s.mgmtIp ∧
      slice g 38 16 = slice f 22 16 ∧ slice g 54 2 = [136, 0] ∧ slice g 58 20 = [0x60, 0, 0, 0] ++ s.mgmtIp ∧
      slice g 78 8 = [2, 1] ++ s.mgmtMac)
/-- Flow export and PLDM (R647 to R651). -/
def Obligations.ExportAndPldmComplete : Prop :=
  (∀ (s : State) (flow : Nat) (r : FlowRec), s.packet.flows.find? (fun r => r.id == flow) = some r →
    (s.exports = false ∨ r.packets = 0 ∨ s.now < r.first + s.e 0x3100 4 → Completes (exec (.ipfixActiveTimeout flow) s) fun u => u = s) ∧
    (s.exports = false ∨ r.packets = 0 ∨ s.now < r.last + s.e 0x3100 5 → Completes (exec (.ipfixIdleTimeout flow) s) fun u => u = s) ∧
    (∀ i reason, s.exports = true → r.packets ≠ 0 →
      (i = .ipfixActiveTimeout flow ∧ r.first + s.e 0x3100 4 ≤ s.now ∧ reason = 2) ∨
        (i = .ipfixIdleTimeout flow ∧ r.last + s.e 0x3100 5 ≤ s.now ∧ reason = 1) →
      Completes (exec i s) fun u => u.mem = s.mem ∧ u.contract = s.contract ∧
        ((s.e 0x1006 0 ≠ 0 ∧ s.e 0x3100 1 ≠ 0 ∧ u.dict = s.dict ∧ (∃ m, u.packet.ipfixOut = m :: s.packet.ipfixOut ∧ m.length = 65 ∧
            m.drop 20 = toBe 8 r.id ++ toBe 4 r.inPort ++ toBe 8 r.packets ++ toBe 8 r.octets ++ ntpTime r.first ++ ntpTime r.last ++ toBe 1 reason) ∧
          ∀ x ∈ u.packet.flows, x.id = flow → x.packets = 0 ∧ x.octets = 0) ∨
         (u.packet.flows = s.packet.flows ∧ u.packet.ipfixOut = s.packet.ipfixOut ∧ u.e 0x3100 7 = (s.e 0x3100 7 + 1) % 2 ^ 64)))) ∧
  (∀ (s : State), (s.exports = false ∨ s.now < s.packet.templateAt + s.e 0x3100 6 →
      Completes (exec .ipfixTemplateRefresh s) fun u => u = s) ∧
    (s.exports = true → s.packet.templateAt + s.e 0x3100 6 ≤ s.now → Completes (exec .ipfixTemplateRefresh s) fun u => u.mem = s.mem ∧
      u.packet.templateAt = s.now ∧ ((∃ m, u.packet.ipfixOut = m :: s.packet.ipfixOut ∧ m.length = 52) ∨
        (u.packet.ipfixOut = s.packet.ipfixOut ∧ u.e 0x3100 7 = (s.e 0x3100 7 + 1) % 2 ^ 64)))) ∧
  (∀ (s : State) (agent comp size maxT : Nat), (s.faults.safe = true → Completes (exec (.requestUpdate agent comp size maxT) s) fun u => u = s) ∧
    (s.faults.safe = false → s.steral.update ≠ none → Completes (exec (.requestUpdate agent comp size maxT) s) fun u =>
      u.mem = s.mem ∧ u.steral.update = s.steral.update ∧ u.steral.pldmOut = (0x81, []) :: s.steral.pldmOut) ∧
    (s.faults.safe = false → s.steral.update = none → 1 ≤ comp → comp ≤ 3 → maxT ≠ 0 →
      Completes (exec (.requestUpdate agent comp size maxT) s) fun u => u.mem = s.mem ∧ u.dict = s.dict ∧ u.trust = s.trust ∧
        ∃ x, u.steral.update = some x ∧ x.agent = agent ∧ x.component = comp ∧ x.size = size ∧ x.received = [] ∧ x.verified = false)) ∧
  (∀ (s : State) (d : Bytes) (x : Update), s.steral.update = some x →
    (s.faults.safe = true ∨ x.size ≤ x.received.length ∨ d.length ≠ min (min x.maxTransfer 4096) (x.size - x.received.length) →
      Completes (exec (.requestFirmwareData d) s) fun u => u = s) ∧
    (s.faults.safe = false → d ≠ [] → d.length = min (min x.maxTransfer 4096) (x.size - x.received.length) →
      Completes (exec (.requestFirmwareData d) s) fun u => u.mem = s.mem ∧ u.dict = s.dict ∧
        u.steral.update = some { x with received := x.received ++ d } ∧
        (x.component = 1 → 1 ≤ s.e 0x1003 0 → s.trust.runningSlot ≤ 1 →
          u.trust.flash[s.trust.runningSlot]? = s.trust.flash[s.trust.runningSlot]? ∧
          ∀ f, u.trust.flash[1 - s.trust.runningSlot]? = some f → f.digestOk = false) ∧
        (x.component ≠ 1 → u.trust = s.trust))) ∧
  (∀ (s : State) (x : Update) (f : FlashIn), s.steral.update = some x →
    (s.faults.safe = true ∨ x.verified = true ∨ x.received.length < x.size → Completes (exec (.verifyComplete f) s) fun u => u = s) ∧
    (s.faults.safe = false → x.verified = false → x.size ≤ x.received.length → x.component = 1 → 1 ≤ s.e 0x1003 0 → s.trust.runningSlot ≤ 1 →
      (f.headerOk = true → f.digestOk = true → f.rsaOk = true → f.slhOk = true → s.floorInForce ≤ f.svn →
        Completes (exec (.verifyComplete f) s) fun u => u.mem = s.mem ∧ u.e 0x1001 1 = f.release % 2 ^ 32 ∧ u.e 0x1001 0 = s.e 0x1001 0 ∧
          u.steral.update = some { x with verified := true } ∧ u.steral.pldmOut = (0, []) :: s.steral.pldmOut ∧
          u.trust.flash[s.trust.runningSlot]? = s.trust.flash[s.trust.runningSlot]?) ∧
      (f.headerOk = false ∨ f.digestOk = false ∨ f.rsaOk = false ∨ f.slhOk = false ∨ f.svn < s.floorInForce →
        Completes (exec (.verifyComplete f) s) fun u => u.mem = s.mem ∧ u.e 0x1001 1 = s.e 0x1001 1 ∧ u.e 0x1001 0 = s.e 0x1001 0 ∧
          u.steral.update = none ∧ u.steral.pldmOut = (1, []) :: s.steral.pldmOut ∧
          u.trust.flash[s.trust.runningSlot]? = s.trust.flash[s.trust.runningSlot]?))) ∧
  (∀ (s : State) (agent : Nat) (x : Update), (s.faults.safe = true → Completes (exec (.activateFirmware agent) s) fun u => u = s) ∧
    (s.faults.safe = false → s.steral.update = none → Completes (exec (.activateFirmware agent) s) fun u =>
      u.contract = s.contract ∧ u.steral.pldmOut = (0x80, []) :: s.steral.pldmOut) ∧
    (s.faults.safe = false → s.steral.update = some x → x.agent = agent → x.verified = true → x.component = 1 → 1 ≤ s.e 0x1003 0 →
      s.contract.activation = 0 → Completes (exec (.activateFirmware agent) s) fun u => SameBytes s u ∧ u.steral.update = none ∧
        (s.mayActivate = true → u.contract.activation = 1 ∧ u.contract.draining = true ∧ u.contract.activationStart = s.now) ∧
        (s.mayActivate = false → u.contract.activation = 2 ∧ u.e 0x2E07 0 = 1 ∧ u.contract.queues = s.contract.queues))) ∧
  (∀ (s : State) (i : Nat), (s.faults.safe = true ∨ s.e 0x1003 0 = 0 → Completes (exec (.getSensorReading i) s) fun u => u = s) ∧
    (s.faults.safe = false → 1 ≤ s.e 0x1003 0 → 14 ≤ i → Completes (exec (.getSensorReading i) s) fun u => u.mem = s.mem ∧
      u.steral.pldmOut = (0x80, []) :: s.steral.pldmOut) ∧
    (∀ v, s.faults.safe = false → 1 ≤ s.e 0x1003 0 →
      (i = 0 ∧ v = s.e 0x2E01 3) ∨ (1 ≤ i ∧ i ≤ 6 ∧ v = s.e 0x2E03 i) ∨ (7 ≤ i ∧ i ≤ 10 ∧ v = s.e 0x2000 (i - 6)) ∨
        (i = 11 ∧ v = s.e 0x1003 0) ∨ (i = 12 ∧ v = s.e 0x2E00 0) ∨ (i = 13 ∧ v = s.e 0x2F05 0) →
      Completes (exec (.getSensorReading i) s) fun u => u.mem = s.mem ∧ u.dict = s.dict ∧
        u.steral.pldmOut = (0, toLe 4 v) :: s.steral.pldmOut))
/-- Bring-up stages (R641 to R644). -/
def Obligations.StagesComplete : Prop :=
  (∀ (s : State) (p : BitVec 16), (s.heldInReset = true ∨ s.faults.safe = true ∨ s.e 0x1003 0 ≠ 0 ∨ s.e 0x2D00 0 ≠ 1 ∨
      s.e 0x2D01 (2 + s.e 0x2D01 0) ≠ 1 → Completes (exec (.stageB1 p) s) fun u => u = s) ∧
    (s.heldInReset = false → s.faults.safe = false → s.e 0x1003 0 = 0 → s.e 0x2D00 0 = 1 → s.e 0x2D01 0 ≤ 1 → s.e 0x2D01 (2 + s.e 0x2D01 0) = 1 →
      s.contract.draining = false → s.trust.appliedProfile = [] → p ≠ 0 → Completes (exec (.stageB1 p) s) fun u =>
        u.e 0x1003 0 = 1 ∧ u.trust.runningSlot = s.e 0x2D01 0 ∧
        u.e 0x1001 0 = (s.trust.flash.getD (s.e 0x2D01 0) default).release % 2 ^ 32 ∧
        u.e 0x2D01 6 = (s.trust.flash.getD (s.e 0x2D01 0) default).svn % 2 ^ 32 ∧
        (∀ c ∈ u.faults.components, c.lastCheckin = s.now ∧ c.restarting = false) ∧ (∀ w ∈ u.faults.watchdogs, w = s.now) ∧
        (s.e 0x2F03 0 = 4 → u.e 0x2F03 0 = 0) ∧ u.faults.safe = false)) ∧
  (∀ (s : State), (s.heldInReset = true ∨ s.faults.safe = true ∨ s.e 0x1003 0 ≠ 1 ∨ s.e 0x1003 2 = 1 →
      Completes (exec .stageB2 s) fun u => u = s) ∧
    (s.heldInReset = false → s.faults.safe = false → s.e 0x1003 0 = 1 → s.e 0x1003 2 ≠ 1 → s.contract.draining = false →
      s.trust.appliedProfile = [] → Completes (exec .stageB2 s) fun u => u.e 0x1003 0 = 2 ∧ u.pins.apPerstN = List.replicate 8 true ∧
        u.tiers.cxlEnumerated = true ∧ u.e 0x2E01 5 = 680 ∧ u.e 0x2300 2 = 1 ∧ u.transform.selfcheckStart = s.now ∧ u.e 0x2901 0 = 0)) ∧
  (∀ (s : State), (s.heldInReset = true ∨ s.faults.safe = true ∨ s.e 0x1003 0 ≠ 2 ∨ s.e 0x2300 2 ≠ 2 ∨ s.tiers.cxlEnumerated = false →
      Completes (exec .stageB3 s) fun u => u = s) ∧
    (s.heldInReset = false → s.faults.safe = false → s.e 0x1003 0 = 2 → s.e 0x2300 2 = 2 → s.tiers.cxlEnumerated = true →
      s.contract.draining = false → Completes (exec .stageB3 s) fun u => SameBytes s u ∧ u.e 0x1003 0 = 3 ∧ u.contract = s.contract ∧
        (s.storage.flashTable = [] → u.storage = s.storage))) ∧
  (∀ (s : State), (s.heldInReset = true ∨ s.faults.safe = true ∨ s.e 0x1003 0 ≠ 1 ∨ s.e 0x1003 2 ≠ 0 ∨ s.now < s.stageTime 1 + 1000000000 →
      Completes (exec .b2Limit s) fun u => u = s) ∧
    (s.heldInReset = false → s.faults.safe = false → s.e 0x1003 0 = 1 → s.e 0x1003 2 = 0 → s.stageTime 1 + 1000000000 ≤ s.now →
      s.contract.draining = false → s.e 0x2F00 0 < 2 ^ 64 → Completes (exec .b2Limit s) fun u => SameBytes s u ∧ u.e 0x1003 0 = 1 ∧
        u.e 0x1003 2 = 1 ∧ bit (u.e 0x2F00 0) 5 = true)) ∧
  (∀ (s : State), (s.heldInReset = true ∨ s.faults.safe = true ∨ s.e 0x1003 0 ≠ 2 ∨ s.e 0x1003 2 ≠ 0 ∨ s.now < s.stageTime 2 + 10000000000 →
      Completes (exec .b3Limit s) fun u => u = s) ∧
    (s.heldInReset = false → s.faults.safe = false → s.e 0x1003 0 = 2 → s.e 0x1003 2 = 0 → s.stageTime 2 + 10000000000 ≤ s.now →
      s.contract.draining = false → s.e 0x2F00 0 < 2 ^ 64 → Completes (exec .b3Limit s) fun u => SameBytes s u ∧ u.e 0x1003 0 = 3 ∧
        u.e 0x1003 2 = 3 ∧ bit (u.e 0x2F00 0) 24 = true))
/-- Pins and rails (R655 to R670). -/
def Obligations.PinsComplete : Prop :=
  (∀ (s : State), (s.pins.aonPwrgood = true → Completes (exec .aonPwrgoodRise s) fun u => u = s) ∧
    (s.pins.aonPwrgood = false → Completes (exec .aonPwrgoodRise s) fun u => u.mem = s.mem ∧ u.now = 0 ∧ u.pins.aonPwrgood = true ∧
      u.pins.powered = true ∧ u.pins.faultN = true ∧ u.pins.thermtripN = true ∧ u.pins.apRefclk = s.pins.pwrgood ∧ u.dict = s.dict) ∧
    (s.pins.aonPwrgood = false → Completes (exec .aonPwrgoodFall s) fun u => u = s) ∧
    (s.pins.aonPwrgood = true → Completes (exec .aonPwrgoodFall s) fun u => u.now = 0 ∧ u.pins.aonPwrgood = false ∧ u.pins.powered = false ∧
      u.pins.apRefclk = false ∧ u.faults = State.reset.faults ∧ u.contract = State.reset.contract ∧ u.e 0x1004 2 = 0xFF ∧
      u.e 0x2F05 2 = 0 ∧ u.e 0x2D01 1 = s.e 0x2D01 1 ∧ u.trust.flash = s.trust.flash ∧
      ∀ a, Memory.get u.mem a = if cxlBase ≤ a then Memory.get s.mem a else 0) ∧
    (s.pins.pwrgood = true → Completes (exec .pwrgoodRise s) fun u => u = s) ∧
    (s.pins.pwrgood = false → Completes (exec .pwrgoodRise s) fun u => u.mem = s.mem ∧ u.pins.pwrgood = true ∧
      u.pins.apRefclk = s.pins.aonPwrgood ∧ u.dict = s.dict)) ∧
  (∀ (s : State), (s.pins.pwrgood = false → Completes (exec (.pwrgoodFall none) s) fun u => u = s) ∧
    (∀ r, (7 ≤ r → exec (.pwrgoodFall (some r)) s = .fault .noSuchUnit ∧ exec (.railBackInWindow r) s = .fault .noSuchUnit) ∧
      (r < 7 → r ∈ s.pins.railsOut → Completes (exec (.pwrgoodFall (some r)) s) fun u => u = s) ∧
      (r < 7 → r ∉ s.pins.railsOut → Completes (exec (.railBackInWindow r) s) fun u => u = s) ∧
      (∀ i, (i = .pwrgoodFall none ∧ s.pins.pwrgood = true) ∨ (i = .pwrgoodFall (some r) ∧ r < 7 ∧ r ∉ s.pins.railsOut) →
        s.contract.draining = false → s.faults.openInc = none → Completes (exec i s) fun u =>
          (i = .pwrgoodFall none → u.pins.pwrgood = false ∧ u.pins.apRefclk = false ∧ u.pins.railsOut = s.pins.railsOut) ∧
          (i = .pwrgoodFall (some r) → u.pins.railsOut = s.pins.railsOut ++ [r] ∧ u.pins.selfReset = true) ∧
          (s.pins.resetN = true → s.pins.powered = true → s.faults.safe = false → u.faults.safe = true ∧ u.faults.safeCause = 0x15 ∧
            ∃ x, u.faults.openInc = some x ∧ x.firstRung = 4 ∧ x.firstSource = 21) ∧
          (s.pins.resetN = false ∨ s.pins.powered = false → SameBytes s u ∧ u.faults = s.faults)) ∧
      (r < 7 → (∃ x ∈ s.pins.railsOut, x ≠ r) → r ∈ s.pins.railsOut → Completes (exec (.railBackInWindow r) s) fun u => u.mem = s.mem ∧
        u.pins.railsOut = s.pins.railsOut.filter (· != r) ∧ u.pins.selfReset = true ∧ u.faults = s.faults) ∧
      (r < 7 → s.pins.railsOut = [r] → Completes (exec (.railBackInWindow r) s) fun u => u.pins.railsOut = [] ∧ u.pins.selfReset = false ∧
        u.contract = State.reset.contract ∧ u.e 0x1003 0 = 0 ∧ u.now = s.now ∧
        (s.trust.pufOk.any id = true → u.faults.safe = false ∧
          u.trust.rootReady = (s.pins.resetN && s.pins.powered))))) ∧
  (∀ (s : State), (s.pins.resetN = false → Completes (exec .resetNAssert s) fun u => u = s) ∧
    (s.pins.resetN = true → Completes (exec .resetNAssert s) fun u => u.pins.resetN = false ∧ u.faults.safe = false ∧ u.now = s.now ∧
      u.contract = State.reset.contract ∧ u.cabs = State.reset.cabs ∧ u.e 0x1003 0 = 0 ∧ u.e 0x2F05 2 = s.e 0x2F05 2 ∧
      u.e 0x1004 2 = s.e 0x1004 2 ∧ u.faults.dumps = s.faults.dumps ∧ u.energy.savedSram = [] ∧ u.contract.activation = 0 ∧
      (s.e 0x2F03 0 = 4 → u.e 0x2F03 0 = 4) ∧
      ∀ a, Memory.get u.mem a = if (aonBase ≤ a ∧ a < 0xA240000) ∨ cxlBase ≤ a then Memory.get s.mem a else 0) ∧
    (s.pins.resetN = true ∨ s.pins.powered = false → Completes (exec .resetNRelease s) fun u => u = s) ∧
    (s.pins.resetN = false → s.pins.powered = true → s.pins.selfReset = true → Completes (exec .resetNRelease s) fun u => u.mem = s.mem ∧
      u.pins.resetN = true ∧ u.trust = s.trust ∧ u.dict = s.dict) ∧
    (s.pins.resetN = false → s.pins.powered = true → s.pins.selfReset = false → s.trust.pufOk.any id = true → s.pins.profileSel ≤ 3 →
      Completes (exec .resetNRelease s) fun u => SameBytes s u ∧ u.pins.resetN = true ∧ u.trust.rootReady = true ∧ u.e 0x2D00 0 = 1 ∧
        u.pins.i3cAddr = 80 + s.pins.i3cSel ∧ u.ports.hostSplit = s.pins.hostSplit ∧ u.e 0x1004 0 = s.pins.profileSel ∧
        u.e 0x1003 0 = s.e 0x1003 0) ∧
    (s.pins.resetN = false → s.pins.powered = true → s.pins.selfReset = false → s.trust.pufOk.any id = false → s.faults.openInc = none →
      s.faults.safe = false → Completes (exec .resetNRelease s) fun u => u.pins.resetN = true ∧ u.e 0x2D00 0 = 2 ∧ u.faults.safe = true ∧
        u.faults.safeCause = 0x17 ∧ u.faults.openInc = none)) ∧
  (∀ (s : State) (w : Nat), (2 ≤ w → exec (.perstNAssert w) s = .fault .noSuchUnit ∧ exec (.perstNRelease w) s = .fault .noSuchUnit) ∧
    (w < 2 → s.pins.perstN.getD w true = false → Completes (exec (.perstNAssert w) s) fun u => u = s) ∧
    (w < 2 → s.pins.perstN.length = 2 → Completes (exec (.perstNRelease w) s) fun u => u.mem = s.mem ∧ u.dict = s.dict ∧
      u.pins.perstN.getD w false = true ∧ u.contract = s.contract ∧ u.ports = s.ports) ∧
    (w < 2 → s.pins.perstN.length = 2 → s.pins.perstN.getD w true = true → Completes (exec (.perstNAssert w) s) fun u =>
      u.pins.perstN.getD w true = false ∧
      (w = 1 → s.ports.hostSplit = false → u.mem = s.mem ∧ u.ports = s.ports ∧ u.contract = s.contract) ∧
      (w = 0 ∨ s.ports.hostSplit = true → ∀ l ∈ u.ports.linkState, l.1 ≠ w) ∧
      (s.faults.safe = true → u.mem = s.mem ∧ u.contract = s.contract ∧ u.faults.safe = true)))

end
end

