-- ==== Sys2Proof/Laws/Memory.lean ====
section
/-! SUPPORT. Device memory: every operation keeps the canonical form, a read after a write to the same place gives the
value written, and a write leaves every other place alone. -/

namespace Sys2Proof.Machine

/-- The first listed address is above k. -/
def Memory.above (k : Nat) : List Host.Cell → Prop
  | [] => True
  | (a, _) :: _ => k < a

theorem Memory.wf_cons (a : Nat) (b : Byte) (r : List Host.Cell) :
    Memory.wf ((a, b) :: r) = true ↔ b ≠ 0 ∧ Memory.above a r ∧ Memory.wf r = true := by
  cases r with
  | nil => simp [Memory.wf, Memory.above]
  | cons c r =>
    obtain ⟨a', b'⟩ := c
    simp [Memory.wf, Memory.above, and_assoc]

theorem Memory.above_put (m : List Host.Cell) (j k : Nat) (v : Byte) (h : Memory.wf m = true)
    (hj : Memory.above j m) (hk : j < k) : Memory.above j (Memory.put m k v) := by
  cases m with
  | nil => simp only [Memory.put]; split <;> simp [Memory.above, hk]
  | cons c r =>
    obtain ⟨a, b⟩ := c
    have hr := (Memory.wf_cons a b r).1 h
    simp only [Memory.above] at hj
    simp only [Memory.put]
    split
    · split <;> simp [Memory.above, hj, hk]
    · split
      · split
        · cases r with
          | nil => simp [Memory.above]
          | cons d r => obtain ⟨a', b'⟩ := d; have := hr.2.1; simp only [Memory.above] at this ⊢; omega
        · simp [Memory.above, hk]
      · simpa [Memory.above] using hj

/-- A written byte keeps the canonical form. -/
theorem Memory.wf_put (m : List Host.Cell) (k : Nat) (v : Byte) (h : Memory.wf m = true) :
    Memory.wf (Memory.put m k v) = true := by
  induction m with
  | nil => simp only [Memory.put]; split <;> simp_all [Memory.wf]
  | cons c r ih =>
    obtain ⟨a, b⟩ := c
    have hr := (Memory.wf_cons a b r).1 h
    simp only [Memory.put]
    split
    · split
      · exact h
      · exact (Memory.wf_cons _ _ _).2 ⟨‹_›, by simpa [Memory.above] using ‹k < a›, h⟩
    · split
      · split
        · exact hr.2.2
        · exact (Memory.wf_cons _ _ _).2 ⟨‹_›, by rename_i h2 _; exact h2 ▸ hr.2.1, hr.2.2⟩
      · exact (Memory.wf_cons _ _ _).2 ⟨hr.1, Memory.above_put r a k v hr.2.2 hr.2.1 (by omega), ih hr.2.2⟩

/-- A run of bytes written keeps the canonical form. -/
theorem Memory.wf_write (bs : Bytes) (m : List Host.Cell) (a : Nat) (h : Memory.wf m = true) :
    Memory.wf (Memory.write m a bs) = true := by
  induction bs generalizing m a with
  | nil => exact h
  | cons b r ih => exact ih _ _ (Memory.wf_put m a b h)

/-- The canonical list is canonical. -/
@[simp] theorem Memory.wf_canon (m : List Host.Cell) : Memory.wf (Memory.canon m) = true := by
  induction m with
  | nil => rfl
  | cons c r ih => exact Memory.wf_put _ _ _ ih

theorem Memory.put_self (m : List Host.Cell) (k : Nat) (v : Byte) (h : Memory.above k m) (hv : v ≠ 0) :
    Memory.put m k v = (k, v) :: m := by
  cases m with
  | nil => simp only [Memory.put, if_neg hv]
  | cons c r => obtain ⟨a, b⟩ := c; simp only [Memory.above] at h; simp only [Memory.put, if_pos h, if_neg hv]

/-- A canonical list is its own canonical list. -/
theorem Memory.canon_of_wf (m : List Host.Cell) (h : Memory.wf m = true) : Memory.canon m = m := by
  induction m with
  | nil => rfl
  | cons c r ih =>
    obtain ⟨a, b⟩ := c
    have hr := (Memory.wf_cons a b r).1 h
    have hc : Memory.canon ((a, b) :: r) = Memory.put (Memory.canon r) a b := rfl
    rw [hc, ih hr.2.2, Memory.put_self r a b hr.2.1 hr.1]

theorem Memory.get_above (m : List Host.Cell) (k j : Nat) (h : Memory.wf m = true) (ha : Memory.above j m)
    (hk : k ≤ j) : Memory.get m k = 0 := by
  induction m generalizing j with
  | nil => rfl
  | cons c r ih =>
    obtain ⟨a, b⟩ := c
    have hr := (Memory.wf_cons a b r).1 h
    simp only [Memory.above] at ha
    simp only [Memory.get, if_neg (show ¬ a = k by omega)]
    exact ih a hr.2.2 hr.2.1 (by omega)

/-- A read after a write: the byte written at its address, every other byte as before. -/
theorem Memory.get_put (m : List Host.Cell) (k j : Nat) (v : Byte) (h : Memory.wf m = true) :
    Memory.get (Memory.put m k v) j = if j = k then v else Memory.get m j := by
  induction m with
  | nil =>
    by_cases hv : v = 0
    · subst hv; simp [Memory.put, Memory.get]
    · simp only [Memory.put, if_neg hv, Memory.get]
      by_cases hj : j = k
      · rw [if_pos hj.symm, if_pos hj]
      · rw [if_neg (by omega), if_neg hj]
  | cons c r ih =>
    obtain ⟨a, b⟩ := c
    have hr := (Memory.wf_cons a b r).1 h
    simp only [Memory.put]
    split
    · rename_i hka
      split
      · rename_i hv
        by_cases hj : j = k
        · subst hj
          rw [if_pos rfl, hv]
          exact Memory.get_above _ j j h (by simpa [Memory.above] using hka) (Nat.le_refl _)
        · rw [if_neg hj]
      · by_cases hj : j = k
        · simp [Memory.get, hj]
        · rw [if_neg hj]; simp only [Memory.get, if_neg (show ¬ k = j by omega)]
    · split
      · rename_i hka
        split
        · rename_i hv
          by_cases hj : j = k
          · subst hj
            rw [if_pos rfl, hv]
            exact Memory.get_above _ j a hr.2.2 hr.2.1 (by omega)
          · rw [if_neg hj]; simp only [Memory.get, if_neg (show ¬ a = j by omega)]
        · by_cases hj : j = k
          · simp [Memory.get, hj]
          · rw [if_neg hj]; simp only [Memory.get, if_neg (show ¬ k = j by omega), if_neg (show ¬ a = j by omega)]
      · by_cases hj : a = j
        · subst hj; simp only [Memory.get, if_true]; rw [if_neg (by omega)]
        · simp only [Memory.get, if_neg hj]; exact ih hr.2.2

/-- The canonical list holds the same bytes. -/
@[simp] theorem Memory.get_canon (m : List Host.Cell) (k : Nat) : Memory.get (Memory.canon m) k = Memory.get m k := by
  induction m with
  | nil => rfl
  | cons c r ih =>
    obtain ⟨a, b⟩ := c
    have hc : Memory.canon ((a, b) :: r) = Memory.put (Memory.canon r) a b := rfl
    rw [hc, Memory.get_put _ _ _ _ (Memory.wf_canon r), ih]
    simp only [Memory.get]
    split
    · rename_i h; rw [if_pos h.symm]
    · rename_i h; rw [if_neg (fun e => h e.symm)]

/-- A read of one byte after a run of bytes is written. -/
theorem Memory.get_write (bs : Bytes) (m : List Host.Cell) (a k : Nat) (h : Memory.wf m = true) :
    Memory.get (Memory.write m a bs) k =
      if a ≤ k ∧ k < a + bs.length then bs.getD (k - a) 0 else Memory.get m k := by
  induction bs generalizing m a with
  | nil => exact (if_neg fun e => by have := e.1; have := e.2; simp only [List.length_nil] at this; omega).symm
  | cons b r ih =>
    simp only [Memory.write, List.length_cons]
    rw [ih _ _ (Memory.wf_put m a b h), Memory.get_put _ _ _ _ h]
    by_cases h1 : k = a
    · subst h1
      rw [if_neg (by omega), if_pos rfl, if_pos (by omega)]; simp
    · by_cases h2 : a + 1 ≤ k ∧ k < a + 1 + r.length
      · rw [if_pos h2, if_pos (by omega)]
        have : k - a = (k - (a + 1)) + 1 := by omega
        rw [this]; simp
      · rw [if_neg h2, if_neg h1, if_neg (by omega)]

end Sys2Proof.Machine
end

