-- ==== Sys2Proof/Laws/State.lean ====
section
/-! SUPPORT. What each update of the state leaves unchanged, field by field, and what a read gives after it: later proofs
cite these and unfold no record update. -/

namespace Sys2Proof.Machine

/-! ### Fields that an update leaves -/

@[simp] theorem State.stored_now (s t : State) : (s.stored t).now = t.now := rfl
@[simp] theorem State.stored_fresh (s t : State) : (s.stored t).fresh = t.fresh := rfl
@[simp] theorem State.stored_dict (s t : State) : (s.stored t).dict = t.dict := rfl
@[simp] theorem State.stored_fabric (s t : State) : (s.stored t).fabric = t.fabric := rfl
@[simp] theorem State.stored_contract (s t : State) : (s.stored t).contract = t.contract := rfl
@[simp] theorem State.stored_transform (s t : State) : (s.stored t).transform = t.transform := rfl
@[simp] theorem State.stored_cores (s t : State) : (s.stored t).cores = t.cores := rfl
@[simp] theorem State.stored_tiers (s t : State) : (s.stored t).tiers = t.tiers := rfl
@[simp] theorem State.stored_zt (s t : State) : (s.stored t).zt = t.zt := rfl
@[simp] theorem State.stored_coll (s t : State) : (s.stored t).coll = t.coll := rfl
@[simp] theorem State.stored_snap (s t : State) : (s.stored t).snap = t.snap := rfl
@[simp] theorem State.stored_packet (s t : State) : (s.stored t).packet = t.packet := rfl
@[simp] theorem State.stored_ports (s t : State) : (s.stored t).ports = t.ports := rfl
@[simp] theorem State.stored_storage (s t : State) : (s.stored t).storage = t.storage := rfl
@[simp] theorem State.stored_cabs (s t : State) : (s.stored t).cabs = t.cabs := rfl
@[simp] theorem State.stored_trust (s t : State) : (s.stored t).trust = t.trust := rfl
@[simp] theorem State.stored_energy (s t : State) : (s.stored t).energy = t.energy := rfl
@[simp] theorem State.stored_faults (s t : State) : (s.stored t).faults = t.faults := rfl
@[simp] theorem State.stored_steral (s t : State) : (s.stored t).steral = t.steral := rfl
@[simp] theorem State.stored_pins (s t : State) : (s.stored t).pins = t.pins := rfl

@[simp] theorem State.unstored_now (s t : State) : (s.unstored t).now = t.now := rfl
@[simp] theorem State.unstored_fresh (s t : State) : (s.unstored t).fresh = t.fresh := rfl
@[simp] theorem State.unstored_dict (s t : State) : (s.unstored t).dict = t.dict := rfl
@[simp] theorem State.unstored_fabric (s t : State) : (s.unstored t).fabric = t.fabric := rfl
@[simp] theorem State.unstored_contract (s t : State) : (s.unstored t).contract = t.contract := rfl
@[simp] theorem State.unstored_transform (s t : State) : (s.unstored t).transform = t.transform := rfl
@[simp] theorem State.unstored_cores (s t : State) : (s.unstored t).cores = t.cores := rfl
@[simp] theorem State.unstored_tiers (s t : State) : (s.unstored t).tiers = t.tiers := rfl
@[simp] theorem State.unstored_zt (s t : State) : (s.unstored t).zt = t.zt := rfl
@[simp] theorem State.unstored_coll (s t : State) : (s.unstored t).coll = t.coll := rfl
@[simp] theorem State.unstored_snap (s t : State) : (s.unstored t).snap = t.snap := rfl
@[simp] theorem State.unstored_packet (s t : State) : (s.unstored t).packet = t.packet := rfl
@[simp] theorem State.unstored_ports (s t : State) : (s.unstored t).ports = t.ports := rfl
@[simp] theorem State.unstored_storage (s t : State) : (s.unstored t).storage = t.storage := rfl
@[simp] theorem State.unstored_cabs (s t : State) : (s.unstored t).cabs = t.cabs := rfl
@[simp] theorem State.unstored_trust (s t : State) : (s.unstored t).trust = t.trust := rfl
@[simp] theorem State.unstored_energy (s t : State) : (s.unstored t).energy = t.energy := rfl
@[simp] theorem State.unstored_faults (s t : State) : (s.unstored t).faults = t.faults := rfl
@[simp] theorem State.unstored_steral (s t : State) : (s.unstored t).steral = t.steral := rfl
@[simp] theorem State.unstored_pins (s t : State) : (s.unstored t).pins = t.pins := rfl

@[simp] theorem State.drawn_pending (s : State) : (s.drawn).pending = s.pending := rfl
@[simp] theorem State.drawn_now (s : State) : (s.drawn).now = s.now := rfl
@[simp] theorem State.drawn_dict (s : State) : (s.drawn).dict = s.dict := rfl
@[simp] theorem State.drawn_mem (s : State) : (s.drawn).mem = s.mem := rfl
@[simp] theorem State.drawn_fabric (s : State) : (s.drawn).fabric = s.fabric := rfl
@[simp] theorem State.drawn_contract (s : State) : (s.drawn).contract = s.contract := rfl
@[simp] theorem State.drawn_transform (s : State) : (s.drawn).transform = s.transform := rfl
@[simp] theorem State.drawn_cores (s : State) : (s.drawn).cores = s.cores := rfl
@[simp] theorem State.drawn_tiers (s : State) : (s.drawn).tiers = s.tiers := rfl
@[simp] theorem State.drawn_zt (s : State) : (s.drawn).zt = s.zt := rfl
@[simp] theorem State.drawn_coll (s : State) : (s.drawn).coll = s.coll := rfl
@[simp] theorem State.drawn_snap (s : State) : (s.drawn).snap = s.snap := rfl
@[simp] theorem State.drawn_packet (s : State) : (s.drawn).packet = s.packet := rfl
@[simp] theorem State.drawn_ports (s : State) : (s.drawn).ports = s.ports := rfl
@[simp] theorem State.drawn_storage (s : State) : (s.drawn).storage = s.storage := rfl
@[simp] theorem State.drawn_cabs (s : State) : (s.drawn).cabs = s.cabs := rfl
@[simp] theorem State.drawn_trust (s : State) : (s.drawn).trust = s.trust := rfl
@[simp] theorem State.drawn_energy (s : State) : (s.drawn).energy = s.energy := rfl
@[simp] theorem State.drawn_faults (s : State) : (s.drawn).faults = s.faults := rfl
@[simp] theorem State.drawn_steral (s : State) : (s.drawn).steral = s.steral := rfl
@[simp] theorem State.drawn_pins (s : State) : (s.drawn).pins = s.pins := rfl

@[simp] theorem State.putEnt_pending (s : State) (c i j v : Nat) : (s.putEnt c i j v).pending = s.pending := rfl
@[simp] theorem State.putEnt_now (s : State) (c i j v : Nat) : (s.putEnt c i j v).now = s.now := rfl
@[simp] theorem State.putEnt_fresh (s : State) (c i j v : Nat) : (s.putEnt c i j v).fresh = s.fresh := rfl
@[simp] theorem State.putEnt_mem (s : State) (c i j v : Nat) : (s.putEnt c i j v).mem = s.mem := rfl
@[simp] theorem State.putEnt_fabric (s : State) (c i j v : Nat) : (s.putEnt c i j v).fabric = s.fabric := rfl
@[simp] theorem State.putEnt_contract (s : State) (c i j v : Nat) : (s.putEnt c i j v).contract = s.contract := rfl
@[simp] theorem State.putEnt_transform (s : State) (c i j v : Nat) : (s.putEnt c i j v).transform = s.transform := rfl
@[simp] theorem State.putEnt_cores (s : State) (c i j v : Nat) : (s.putEnt c i j v).cores = s.cores := rfl
@[simp] theorem State.putEnt_tiers (s : State) (c i j v : Nat) : (s.putEnt c i j v).tiers = s.tiers := rfl
@[simp] theorem State.putEnt_zt (s : State) (c i j v : Nat) : (s.putEnt c i j v).zt = s.zt := rfl
@[simp] theorem State.putEnt_coll (s : State) (c i j v : Nat) : (s.putEnt c i j v).coll = s.coll := rfl
@[simp] theorem State.putEnt_snap (s : State) (c i j v : Nat) : (s.putEnt c i j v).snap = s.snap := rfl
@[simp] theorem State.putEnt_packet (s : State) (c i j v : Nat) : (s.putEnt c i j v).packet = s.packet := rfl
@[simp] theorem State.putEnt_ports (s : State) (c i j v : Nat) : (s.putEnt c i j v).ports = s.ports := rfl
@[simp] theorem State.putEnt_storage (s : State) (c i j v : Nat) : (s.putEnt c i j v).storage = s.storage := rfl
@[simp] theorem State.putEnt_cabs (s : State) (c i j v : Nat) : (s.putEnt c i j v).cabs = s.cabs := rfl
@[simp] theorem State.putEnt_trust (s : State) (c i j v : Nat) : (s.putEnt c i j v).trust = s.trust := rfl
@[simp] theorem State.putEnt_energy (s : State) (c i j v : Nat) : (s.putEnt c i j v).energy = s.energy := rfl
@[simp] theorem State.putEnt_faults (s : State) (c i j v : Nat) : (s.putEnt c i j v).faults = s.faults := rfl
@[simp] theorem State.putEnt_steral (s : State) (c i j v : Nat) : (s.putEnt c i j v).steral = s.steral := rfl
@[simp] theorem State.putEnt_pins (s : State) (c i j v : Nat) : (s.putEnt c i j v).pins = s.pins := rfl

@[simp] theorem State.bumpEnt_pending (s : State) (c i j n : Nat) : (s.bumpEnt c i j n).pending = s.pending := by unfold State.bumpEnt; split <;> rfl
@[simp] theorem State.bumpEnt_now (s : State) (c i j n : Nat) : (s.bumpEnt c i j n).now = s.now := by unfold State.bumpEnt; split <;> rfl
@[simp] theorem State.bumpEnt_fresh (s : State) (c i j n : Nat) : (s.bumpEnt c i j n).fresh = s.fresh := by unfold State.bumpEnt; split <;> rfl
@[simp] theorem State.bumpEnt_mem (s : State) (c i j n : Nat) : (s.bumpEnt c i j n).mem = s.mem := by unfold State.bumpEnt; split <;> rfl
@[simp] theorem State.bumpEnt_fabric (s : State) (c i j n : Nat) : (s.bumpEnt c i j n).fabric = s.fabric := by unfold State.bumpEnt; split <;> rfl
@[simp] theorem State.bumpEnt_contract (s : State) (c i j n : Nat) : (s.bumpEnt c i j n).contract = s.contract := by unfold State.bumpEnt; split <;> rfl
@[simp] theorem State.bumpEnt_transform (s : State) (c i j n : Nat) : (s.bumpEnt c i j n).transform = s.transform := by unfold State.bumpEnt; split <;> rfl
@[simp] theorem State.bumpEnt_cores (s : State) (c i j n : Nat) : (s.bumpEnt c i j n).cores = s.cores := by unfold State.bumpEnt; split <;> rfl
@[simp] theorem State.bumpEnt_tiers (s : State) (c i j n : Nat) : (s.bumpEnt c i j n).tiers = s.tiers := by unfold State.bumpEnt; split <;> rfl
@[simp] theorem State.bumpEnt_zt (s : State) (c i j n : Nat) : (s.bumpEnt c i j n).zt = s.zt := by unfold State.bumpEnt; split <;> rfl
@[simp] theorem State.bumpEnt_coll (s : State) (c i j n : Nat) : (s.bumpEnt c i j n).coll = s.coll := by unfold State.bumpEnt; split <;> rfl
@[simp] theorem State.bumpEnt_snap (s : State) (c i j n : Nat) : (s.bumpEnt c i j n).snap = s.snap := by unfold State.bumpEnt; split <;> rfl
@[simp] theorem State.bumpEnt_packet (s : State) (c i j n : Nat) : (s.bumpEnt c i j n).packet = s.packet := by unfold State.bumpEnt; split <;> rfl
@[simp] theorem State.bumpEnt_ports (s : State) (c i j n : Nat) : (s.bumpEnt c i j n).ports = s.ports := by unfold State.bumpEnt; split <;> rfl
@[simp] theorem State.bumpEnt_storage (s : State) (c i j n : Nat) : (s.bumpEnt c i j n).storage = s.storage := by unfold State.bumpEnt; split <;> rfl
@[simp] theorem State.bumpEnt_cabs (s : State) (c i j n : Nat) : (s.bumpEnt c i j n).cabs = s.cabs := by unfold State.bumpEnt; split <;> rfl
@[simp] theorem State.bumpEnt_trust (s : State) (c i j n : Nat) : (s.bumpEnt c i j n).trust = s.trust := by unfold State.bumpEnt; split <;> rfl
@[simp] theorem State.bumpEnt_energy (s : State) (c i j n : Nat) : (s.bumpEnt c i j n).energy = s.energy := by unfold State.bumpEnt; split <;> rfl
@[simp] theorem State.bumpEnt_faults (s : State) (c i j n : Nat) : (s.bumpEnt c i j n).faults = s.faults := by unfold State.bumpEnt; split <;> rfl
@[simp] theorem State.bumpEnt_steral (s : State) (c i j n : Nat) : (s.bumpEnt c i j n).steral = s.steral := by unfold State.bumpEnt; split <;> rfl
@[simp] theorem State.bumpEnt_pins (s : State) (c i j n : Nat) : (s.bumpEnt c i j n).pins = s.pins := by unfold State.bumpEnt; split <;> rfl

@[simp] theorem State.storeRaw_pending (s : State) (a : Nat) (bs : Bytes) : (s.storeRaw a bs).pending = s.pending := rfl
@[simp] theorem State.storeRaw_now (s : State) (a : Nat) (bs : Bytes) : (s.storeRaw a bs).now = s.now := rfl
@[simp] theorem State.storeRaw_fresh (s : State) (a : Nat) (bs : Bytes) : (s.storeRaw a bs).fresh = s.fresh := rfl
@[simp] theorem State.storeRaw_dict (s : State) (a : Nat) (bs : Bytes) : (s.storeRaw a bs).dict = s.dict := rfl
@[simp] theorem State.storeRaw_fabric (s : State) (a : Nat) (bs : Bytes) : (s.storeRaw a bs).fabric = s.fabric := rfl
@[simp] theorem State.storeRaw_contract (s : State) (a : Nat) (bs : Bytes) : (s.storeRaw a bs).contract = s.contract := rfl
@[simp] theorem State.storeRaw_transform (s : State) (a : Nat) (bs : Bytes) : (s.storeRaw a bs).transform = s.transform := rfl
@[simp] theorem State.storeRaw_cores (s : State) (a : Nat) (bs : Bytes) : (s.storeRaw a bs).cores = s.cores := rfl
@[simp] theorem State.storeRaw_zt (s : State) (a : Nat) (bs : Bytes) : (s.storeRaw a bs).zt = s.zt := rfl
@[simp] theorem State.storeRaw_coll (s : State) (a : Nat) (bs : Bytes) : (s.storeRaw a bs).coll = s.coll := rfl
@[simp] theorem State.storeRaw_snap (s : State) (a : Nat) (bs : Bytes) : (s.storeRaw a bs).snap = s.snap := rfl
@[simp] theorem State.storeRaw_packet (s : State) (a : Nat) (bs : Bytes) : (s.storeRaw a bs).packet = s.packet := rfl
@[simp] theorem State.storeRaw_ports (s : State) (a : Nat) (bs : Bytes) : (s.storeRaw a bs).ports = s.ports := rfl
@[simp] theorem State.storeRaw_storage (s : State) (a : Nat) (bs : Bytes) : (s.storeRaw a bs).storage = s.storage := rfl
@[simp] theorem State.storeRaw_cabs (s : State) (a : Nat) (bs : Bytes) : (s.storeRaw a bs).cabs = s.cabs := rfl
@[simp] theorem State.storeRaw_trust (s : State) (a : Nat) (bs : Bytes) : (s.storeRaw a bs).trust = s.trust := rfl
@[simp] theorem State.storeRaw_energy (s : State) (a : Nat) (bs : Bytes) : (s.storeRaw a bs).energy = s.energy := rfl
@[simp] theorem State.storeRaw_faults (s : State) (a : Nat) (bs : Bytes) : (s.storeRaw a bs).faults = s.faults := rfl
@[simp] theorem State.storeRaw_steral (s : State) (a : Nat) (bs : Bytes) : (s.storeRaw a bs).steral = s.steral := rfl
@[simp] theorem State.storeRaw_pins (s : State) (a : Nat) (bs : Bytes) : (s.storeRaw a bs).pins = s.pins := rfl

@[simp] theorem State.updQueue_pending (s : State) (i : Nat) (f : Queue → Queue) : (s.updQueue i f).pending = s.pending := rfl
@[simp] theorem State.updQueue_now (s : State) (i : Nat) (f : Queue → Queue) : (s.updQueue i f).now = s.now := rfl
@[simp] theorem State.updQueue_fresh (s : State) (i : Nat) (f : Queue → Queue) : (s.updQueue i f).fresh = s.fresh := rfl
@[simp] theorem State.updQueue_dict (s : State) (i : Nat) (f : Queue → Queue) : (s.updQueue i f).dict = s.dict := rfl
@[simp] theorem State.updQueue_mem (s : State) (i : Nat) (f : Queue → Queue) : (s.updQueue i f).mem = s.mem := rfl
@[simp] theorem State.updQueue_fabric (s : State) (i : Nat) (f : Queue → Queue) : (s.updQueue i f).fabric = s.fabric := rfl
@[simp] theorem State.updQueue_transform (s : State) (i : Nat) (f : Queue → Queue) : (s.updQueue i f).transform = s.transform := rfl
@[simp] theorem State.updQueue_cores (s : State) (i : Nat) (f : Queue → Queue) : (s.updQueue i f).cores = s.cores := rfl
@[simp] theorem State.updQueue_tiers (s : State) (i : Nat) (f : Queue → Queue) : (s.updQueue i f).tiers = s.tiers := rfl
@[simp] theorem State.updQueue_zt (s : State) (i : Nat) (f : Queue → Queue) : (s.updQueue i f).zt = s.zt := rfl
@[simp] theorem State.updQueue_coll (s : State) (i : Nat) (f : Queue → Queue) : (s.updQueue i f).coll = s.coll := rfl
@[simp] theorem State.updQueue_snap (s : State) (i : Nat) (f : Queue → Queue) : (s.updQueue i f).snap = s.snap := rfl
@[simp] theorem State.updQueue_packet (s : State) (i : Nat) (f : Queue → Queue) : (s.updQueue i f).packet = s.packet := rfl
@[simp] theorem State.updQueue_ports (s : State) (i : Nat) (f : Queue → Queue) : (s.updQueue i f).ports = s.ports := rfl
@[simp] theorem State.updQueue_storage (s : State) (i : Nat) (f : Queue → Queue) : (s.updQueue i f).storage = s.storage := rfl
@[simp] theorem State.updQueue_cabs (s : State) (i : Nat) (f : Queue → Queue) : (s.updQueue i f).cabs = s.cabs := rfl
@[simp] theorem State.updQueue_trust (s : State) (i : Nat) (f : Queue → Queue) : (s.updQueue i f).trust = s.trust := rfl
@[simp] theorem State.updQueue_energy (s : State) (i : Nat) (f : Queue → Queue) : (s.updQueue i f).energy = s.energy := rfl
@[simp] theorem State.updQueue_faults (s : State) (i : Nat) (f : Queue → Queue) : (s.updQueue i f).faults = s.faults := rfl
@[simp] theorem State.updQueue_steral (s : State) (i : Nat) (f : Queue → Queue) : (s.updQueue i f).steral = s.steral := rfl
@[simp] theorem State.updQueue_pins (s : State) (i : Nat) (f : Queue → Queue) : (s.updQueue i f).pins = s.pins := rfl

@[simp] theorem State.updCtx_pending (s : State) (i : Nat) (f : Ctx → Ctx) : (s.updCtx i f).pending = s.pending := rfl
@[simp] theorem State.updCtx_now (s : State) (i : Nat) (f : Ctx → Ctx) : (s.updCtx i f).now = s.now := rfl
@[simp] theorem State.updCtx_fresh (s : State) (i : Nat) (f : Ctx → Ctx) : (s.updCtx i f).fresh = s.fresh := rfl
@[simp] theorem State.updCtx_dict (s : State) (i : Nat) (f : Ctx → Ctx) : (s.updCtx i f).dict = s.dict := rfl
@[simp] theorem State.updCtx_mem (s : State) (i : Nat) (f : Ctx → Ctx) : (s.updCtx i f).mem = s.mem := rfl
@[simp] theorem State.updCtx_fabric (s : State) (i : Nat) (f : Ctx → Ctx) : (s.updCtx i f).fabric = s.fabric := rfl
@[simp] theorem State.updCtx_transform (s : State) (i : Nat) (f : Ctx → Ctx) : (s.updCtx i f).transform = s.transform := rfl
@[simp] theorem State.updCtx_cores (s : State) (i : Nat) (f : Ctx → Ctx) : (s.updCtx i f).cores = s.cores := rfl
@[simp] theorem State.updCtx_tiers (s : State) (i : Nat) (f : Ctx → Ctx) : (s.updCtx i f).tiers = s.tiers := rfl
@[simp] theorem State.updCtx_zt (s : State) (i : Nat) (f : Ctx → Ctx) : (s.updCtx i f).zt = s.zt := rfl
@[simp] theorem State.updCtx_coll (s : State) (i : Nat) (f : Ctx → Ctx) : (s.updCtx i f).coll = s.coll := rfl
@[simp] theorem State.updCtx_snap (s : State) (i : Nat) (f : Ctx → Ctx) : (s.updCtx i f).snap = s.snap := rfl
@[simp] theorem State.updCtx_packet (s : State) (i : Nat) (f : Ctx → Ctx) : (s.updCtx i f).packet = s.packet := rfl
@[simp] theorem State.updCtx_ports (s : State) (i : Nat) (f : Ctx → Ctx) : (s.updCtx i f).ports = s.ports := rfl
@[simp] theorem State.updCtx_storage (s : State) (i : Nat) (f : Ctx → Ctx) : (s.updCtx i f).storage = s.storage := rfl
@[simp] theorem State.updCtx_cabs (s : State) (i : Nat) (f : Ctx → Ctx) : (s.updCtx i f).cabs = s.cabs := rfl
@[simp] theorem State.updCtx_trust (s : State) (i : Nat) (f : Ctx → Ctx) : (s.updCtx i f).trust = s.trust := rfl
@[simp] theorem State.updCtx_energy (s : State) (i : Nat) (f : Ctx → Ctx) : (s.updCtx i f).energy = s.energy := rfl
@[simp] theorem State.updCtx_faults (s : State) (i : Nat) (f : Ctx → Ctx) : (s.updCtx i f).faults = s.faults := rfl
@[simp] theorem State.updCtx_steral (s : State) (i : Nat) (f : Ctx → Ctx) : (s.updCtx i f).steral = s.steral := rfl
@[simp] theorem State.updCtx_pins (s : State) (i : Nat) (f : Ctx → Ctx) : (s.updCtx i f).pins = s.pins := rfl

@[simp] theorem State.dropCtx_pending (s : State) (i : Nat) : (s.dropCtx i).pending = s.pending := rfl
@[simp] theorem State.dropCtx_now (s : State) (i : Nat) : (s.dropCtx i).now = s.now := rfl
@[simp] theorem State.dropCtx_fresh (s : State) (i : Nat) : (s.dropCtx i).fresh = s.fresh := rfl
@[simp] theorem State.dropCtx_dict (s : State) (i : Nat) : (s.dropCtx i).dict = s.dict := rfl
@[simp] theorem State.dropCtx_mem (s : State) (i : Nat) : (s.dropCtx i).mem = s.mem := rfl
@[simp] theorem State.dropCtx_fabric (s : State) (i : Nat) : (s.dropCtx i).fabric = s.fabric := rfl
@[simp] theorem State.dropCtx_transform (s : State) (i : Nat) : (s.dropCtx i).transform = s.transform := rfl
@[simp] theorem State.dropCtx_cores (s : State) (i : Nat) : (s.dropCtx i).cores = s.cores := rfl
@[simp] theorem State.dropCtx_tiers (s : State) (i : Nat) : (s.dropCtx i).tiers = s.tiers := rfl
@[simp] theorem State.dropCtx_zt (s : State) (i : Nat) : (s.dropCtx i).zt = s.zt := rfl
@[simp] theorem State.dropCtx_coll (s : State) (i : Nat) : (s.dropCtx i).coll = s.coll := rfl
@[simp] theorem State.dropCtx_snap (s : State) (i : Nat) : (s.dropCtx i).snap = s.snap := rfl
@[simp] theorem State.dropCtx_packet (s : State) (i : Nat) : (s.dropCtx i).packet = s.packet := rfl
@[simp] theorem State.dropCtx_ports (s : State) (i : Nat) : (s.dropCtx i).ports = s.ports := rfl
@[simp] theorem State.dropCtx_storage (s : State) (i : Nat) : (s.dropCtx i).storage = s.storage := rfl
@[simp] theorem State.dropCtx_cabs (s : State) (i : Nat) : (s.dropCtx i).cabs = s.cabs := rfl
@[simp] theorem State.dropCtx_trust (s : State) (i : Nat) : (s.dropCtx i).trust = s.trust := rfl
@[simp] theorem State.dropCtx_energy (s : State) (i : Nat) : (s.dropCtx i).energy = s.energy := rfl
@[simp] theorem State.dropCtx_faults (s : State) (i : Nat) : (s.dropCtx i).faults = s.faults := rfl
@[simp] theorem State.dropCtx_steral (s : State) (i : Nat) : (s.dropCtx i).steral = s.steral := rfl
@[simp] theorem State.dropCtx_pins (s : State) (i : Nat) : (s.dropCtx i).pins = s.pins := rfl

@[simp] theorem State.updSync_pending (s : State) (i : Nat) (f : SyncObj → SyncObj) : (s.updSync i f).pending = s.pending := rfl
@[simp] theorem State.updSync_now (s : State) (i : Nat) (f : SyncObj → SyncObj) : (s.updSync i f).now = s.now := rfl
@[simp] theorem State.updSync_fresh (s : State) (i : Nat) (f : SyncObj → SyncObj) : (s.updSync i f).fresh = s.fresh := rfl
@[simp] theorem State.updSync_dict (s : State) (i : Nat) (f : SyncObj → SyncObj) : (s.updSync i f).dict = s.dict := rfl
@[simp] theorem State.updSync_mem (s : State) (i : Nat) (f : SyncObj → SyncObj) : (s.updSync i f).mem = s.mem := rfl
@[simp] theorem State.updSync_fabric (s : State) (i : Nat) (f : SyncObj → SyncObj) : (s.updSync i f).fabric = s.fabric := rfl
@[simp] theorem State.updSync_transform (s : State) (i : Nat) (f : SyncObj → SyncObj) : (s.updSync i f).transform = s.transform := rfl
@[simp] theorem State.updSync_cores (s : State) (i : Nat) (f : SyncObj → SyncObj) : (s.updSync i f).cores = s.cores := rfl
@[simp] theorem State.updSync_tiers (s : State) (i : Nat) (f : SyncObj → SyncObj) : (s.updSync i f).tiers = s.tiers := rfl
@[simp] theorem State.updSync_zt (s : State) (i : Nat) (f : SyncObj → SyncObj) : (s.updSync i f).zt = s.zt := rfl
@[simp] theorem State.updSync_coll (s : State) (i : Nat) (f : SyncObj → SyncObj) : (s.updSync i f).coll = s.coll := rfl
@[simp] theorem State.updSync_snap (s : State) (i : Nat) (f : SyncObj → SyncObj) : (s.updSync i f).snap = s.snap := rfl
@[simp] theorem State.updSync_packet (s : State) (i : Nat) (f : SyncObj → SyncObj) : (s.updSync i f).packet = s.packet := rfl
@[simp] theorem State.updSync_ports (s : State) (i : Nat) (f : SyncObj → SyncObj) : (s.updSync i f).ports = s.ports := rfl
@[simp] theorem State.updSync_storage (s : State) (i : Nat) (f : SyncObj → SyncObj) : (s.updSync i f).storage = s.storage := rfl
@[simp] theorem State.updSync_cabs (s : State) (i : Nat) (f : SyncObj → SyncObj) : (s.updSync i f).cabs = s.cabs := rfl
@[simp] theorem State.updSync_trust (s : State) (i : Nat) (f : SyncObj → SyncObj) : (s.updSync i f).trust = s.trust := rfl
@[simp] theorem State.updSync_energy (s : State) (i : Nat) (f : SyncObj → SyncObj) : (s.updSync i f).energy = s.energy := rfl
@[simp] theorem State.updSync_faults (s : State) (i : Nat) (f : SyncObj → SyncObj) : (s.updSync i f).faults = s.faults := rfl
@[simp] theorem State.updSync_steral (s : State) (i : Nat) (f : SyncObj → SyncObj) : (s.updSync i f).steral = s.steral := rfl
@[simp] theorem State.updSync_pins (s : State) (i : Nat) (f : SyncObj → SyncObj) : (s.updSync i f).pins = s.pins := rfl

@[simp] theorem State.updCabinet_pending (s : State) (c : Nat) (f : Cabinet → Cabinet) : (s.updCabinet c f).pending = s.pending := rfl
@[simp] theorem State.updCabinet_now (s : State) (c : Nat) (f : Cabinet → Cabinet) : (s.updCabinet c f).now = s.now := rfl
@[simp] theorem State.updCabinet_fresh (s : State) (c : Nat) (f : Cabinet → Cabinet) : (s.updCabinet c f).fresh = s.fresh := rfl
@[simp] theorem State.updCabinet_dict (s : State) (c : Nat) (f : Cabinet → Cabinet) : (s.updCabinet c f).dict = s.dict := rfl
@[simp] theorem State.updCabinet_mem (s : State) (c : Nat) (f : Cabinet → Cabinet) : (s.updCabinet c f).mem = s.mem := rfl
@[simp] theorem State.updCabinet_fabric (s : State) (c : Nat) (f : Cabinet → Cabinet) : (s.updCabinet c f).fabric = s.fabric := rfl
@[simp] theorem State.updCabinet_contract (s : State) (c : Nat) (f : Cabinet → Cabinet) : (s.updCabinet c f).contract = s.contract := rfl
@[simp] theorem State.updCabinet_transform (s : State) (c : Nat) (f : Cabinet → Cabinet) : (s.updCabinet c f).transform = s.transform := rfl
@[simp] theorem State.updCabinet_cores (s : State) (c : Nat) (f : Cabinet → Cabinet) : (s.updCabinet c f).cores = s.cores := rfl
@[simp] theorem State.updCabinet_tiers (s : State) (c : Nat) (f : Cabinet → Cabinet) : (s.updCabinet c f).tiers = s.tiers := rfl
@[simp] theorem State.updCabinet_zt (s : State) (c : Nat) (f : Cabinet → Cabinet) : (s.updCabinet c f).zt = s.zt := rfl
@[simp] theorem State.updCabinet_coll (s : State) (c : Nat) (f : Cabinet → Cabinet) : (s.updCabinet c f).coll = s.coll := rfl
@[simp] theorem State.updCabinet_snap (s : State) (c : Nat) (f : Cabinet → Cabinet) : (s.updCabinet c f).snap = s.snap := rfl
@[simp] theorem State.updCabinet_packet (s : State) (c : Nat) (f : Cabinet → Cabinet) : (s.updCabinet c f).packet = s.packet := rfl
@[simp] theorem State.updCabinet_ports (s : State) (c : Nat) (f : Cabinet → Cabinet) : (s.updCabinet c f).ports = s.ports := rfl
@[simp] theorem State.updCabinet_storage (s : State) (c : Nat) (f : Cabinet → Cabinet) : (s.updCabinet c f).storage = s.storage := rfl
@[simp] theorem State.updCabinet_trust (s : State) (c : Nat) (f : Cabinet → Cabinet) : (s.updCabinet c f).trust = s.trust := rfl
@[simp] theorem State.updCabinet_energy (s : State) (c : Nat) (f : Cabinet → Cabinet) : (s.updCabinet c f).energy = s.energy := rfl
@[simp] theorem State.updCabinet_faults (s : State) (c : Nat) (f : Cabinet → Cabinet) : (s.updCabinet c f).faults = s.faults := rfl
@[simp] theorem State.updCabinet_steral (s : State) (c : Nat) (f : Cabinet → Cabinet) : (s.updCabinet c f).steral = s.steral := rfl
@[simp] theorem State.updCabinet_pins (s : State) (c : Nat) (f : Cabinet → Cabinet) : (s.updCabinet c f).pins = s.pins := rfl

@[simp] theorem State.updFunction_pending (s : State) (c : Nat) (f : Function → Function) : (s.updFunction c f).pending = s.pending := rfl
@[simp] theorem State.updFunction_now (s : State) (c : Nat) (f : Function → Function) : (s.updFunction c f).now = s.now := rfl
@[simp] theorem State.updFunction_fresh (s : State) (c : Nat) (f : Function → Function) : (s.updFunction c f).fresh = s.fresh := rfl
@[simp] theorem State.updFunction_dict (s : State) (c : Nat) (f : Function → Function) : (s.updFunction c f).dict = s.dict := rfl
@[simp] theorem State.updFunction_mem (s : State) (c : Nat) (f : Function → Function) : (s.updFunction c f).mem = s.mem := rfl
@[simp] theorem State.updFunction_fabric (s : State) (c : Nat) (f : Function → Function) : (s.updFunction c f).fabric = s.fabric := rfl
@[simp] theorem State.updFunction_contract (s : State) (c : Nat) (f : Function → Function) : (s.updFunction c f).contract = s.contract := rfl
@[simp] theorem State.updFunction_transform (s : State) (c : Nat) (f : Function → Function) : (s.updFunction c f).transform = s.transform := rfl
@[simp] theorem State.updFunction_cores (s : State) (c : Nat) (f : Function → Function) : (s.updFunction c f).cores = s.cores := rfl
@[simp] theorem State.updFunction_tiers (s : State) (c : Nat) (f : Function → Function) : (s.updFunction c f).tiers = s.tiers := rfl
@[simp] theorem State.updFunction_zt (s : State) (c : Nat) (f : Function → Function) : (s.updFunction c f).zt = s.zt := rfl
@[simp] theorem State.updFunction_coll (s : State) (c : Nat) (f : Function → Function) : (s.updFunction c f).coll = s.coll := rfl
@[simp] theorem State.updFunction_snap (s : State) (c : Nat) (f : Function → Function) : (s.updFunction c f).snap = s.snap := rfl
@[simp] theorem State.updFunction_packet (s : State) (c : Nat) (f : Function → Function) : (s.updFunction c f).packet = s.packet := rfl
@[simp] theorem State.updFunction_storage (s : State) (c : Nat) (f : Function → Function) : (s.updFunction c f).storage = s.storage := rfl
@[simp] theorem State.updFunction_cabs (s : State) (c : Nat) (f : Function → Function) : (s.updFunction c f).cabs = s.cabs := rfl
@[simp] theorem State.updFunction_trust (s : State) (c : Nat) (f : Function → Function) : (s.updFunction c f).trust = s.trust := rfl
@[simp] theorem State.updFunction_energy (s : State) (c : Nat) (f : Function → Function) : (s.updFunction c f).energy = s.energy := rfl
@[simp] theorem State.updFunction_faults (s : State) (c : Nat) (f : Function → Function) : (s.updFunction c f).faults = s.faults := rfl
@[simp] theorem State.updFunction_steral (s : State) (c : Nat) (f : Function → Function) : (s.updFunction c f).steral = s.steral := rfl
@[simp] theorem State.updFunction_pins (s : State) (c : Nat) (f : Function → Function) : (s.updFunction c f).pins = s.pins := rfl

@[simp] theorem State.finish_pending (s : State) (id st d : Nat) (area : Bytes) : (s.finish id st d area).pending = s.pending := rfl
@[simp] theorem State.finish_now (s : State) (id st d : Nat) (area : Bytes) : (s.finish id st d area).now = s.now := rfl
@[simp] theorem State.finish_fresh (s : State) (id st d : Nat) (area : Bytes) : (s.finish id st d area).fresh = s.fresh := rfl
@[simp] theorem State.finish_dict (s : State) (id st d : Nat) (area : Bytes) : (s.finish id st d area).dict = s.dict := rfl
@[simp] theorem State.finish_mem (s : State) (id st d : Nat) (area : Bytes) : (s.finish id st d area).mem = s.mem := rfl
@[simp] theorem State.finish_fabric (s : State) (id st d : Nat) (area : Bytes) : (s.finish id st d area).fabric = s.fabric := rfl
@[simp] theorem State.finish_transform (s : State) (id st d : Nat) (area : Bytes) : (s.finish id st d area).transform = s.transform := rfl
@[simp] theorem State.finish_cores (s : State) (id st d : Nat) (area : Bytes) : (s.finish id st d area).cores = s.cores := rfl
@[simp] theorem State.finish_tiers (s : State) (id st d : Nat) (area : Bytes) : (s.finish id st d area).tiers = s.tiers := rfl
@[simp] theorem State.finish_zt (s : State) (id st d : Nat) (area : Bytes) : (s.finish id st d area).zt = s.zt := rfl
@[simp] theorem State.finish_coll (s : State) (id st d : Nat) (area : Bytes) : (s.finish id st d area).coll = s.coll := rfl
@[simp] theorem State.finish_snap (s : State) (id st d : Nat) (area : Bytes) : (s.finish id st d area).snap = s.snap := rfl
@[simp] theorem State.finish_packet (s : State) (id st d : Nat) (area : Bytes) : (s.finish id st d area).packet = s.packet := rfl
@[simp] theorem State.finish_ports (s : State) (id st d : Nat) (area : Bytes) : (s.finish id st d area).ports = s.ports := rfl
@[simp] theorem State.finish_storage (s : State) (id st d : Nat) (area : Bytes) : (s.finish id st d area).storage = s.storage := rfl
@[simp] theorem State.finish_cabs (s : State) (id st d : Nat) (area : Bytes) : (s.finish id st d area).cabs = s.cabs := rfl
@[simp] theorem State.finish_trust (s : State) (id st d : Nat) (area : Bytes) : (s.finish id st d area).trust = s.trust := rfl
@[simp] theorem State.finish_energy (s : State) (id st d : Nat) (area : Bytes) : (s.finish id st d area).energy = s.energy := rfl
@[simp] theorem State.finish_faults (s : State) (id st d : Nat) (area : Bytes) : (s.finish id st d area).faults = s.faults := rfl
@[simp] theorem State.finish_steral (s : State) (id st d : Nat) (area : Bytes) : (s.finish id st d area).steral = s.steral := rfl
@[simp] theorem State.finish_pins (s : State) (id st d : Nat) (area : Bytes) : (s.finish id st d area).pins = s.pins := rfl

@[simp] theorem State.stored_pending (s t : State) : (s.stored t).pending = s.pending := rfl
@[simp] theorem State.unstored_pending (s t : State) : (s.unstored t).pending = s.pending := rfl
@[simp] theorem State.unstored_mem (s t : State) : (s.unstored t).mem = s.mem := rfl
@[simp] theorem State.stored_mem (s t : State) : (s.stored t).mem = Memory.canon t.mem := rfl
@[simp] theorem State.drawn_fresh (s : State) : s.drawn.fresh = s.fresh + 1 := rfl

/-! ### Dictionary -/

@[simp] theorem State.e_def (s : State) (i j : Nat) : s.e i j = s.ent 0 i j := rfl
@[simp] theorem State.put_def (s : State) (i j v : Nat) : s.put i j v = s.putEnt 0 i j v := rfl
@[simp] theorem State.bump_def (s : State) (i j n : Nat) : s.bump i j n = s.bumpEnt 0 i j n := rfl

theorem kvGet_filter_ne (l : List (Nat × Nat)) (k j : Nat) (h : j ≠ k) : kvGet (dropKey l k) j = kvGet l j := by
  induction l with
  | nil => rfl
  | cons c r ih =>
    obtain ⟨a, b⟩ := c
    by_cases ha : a = k
    · subst ha
      have : dropKey ((a, b) :: r) a = dropKey r a := by simp [dropKey]
      rw [this, ih]; simp only [kvGet]; rw [if_neg (by omega)]
    · have : dropKey ((a, b) :: r) k = (a, b) :: dropKey r k := by simp [dropKey, ha]
      rw [this]; simp only [kvGet]; rw [ih]

theorem kvGet_dropKey (l : List (Nat × Nat)) (k : Nat) : kvGet (dropKey l k) k = none := by
  induction l with
  | nil => rfl
  | cons c r ih =>
    obtain ⟨a, b⟩ := c
    by_cases ha : a = k
    · subst ha
      have : dropKey ((a, b) :: r) a = dropKey r a := by simp [dropKey]
      rw [this, ih]
    · have : dropKey ((a, b) :: r) k = (a, b) :: dropKey r k := by simp [dropKey, ha]
      rw [this]; simp only [kvGet]; rw [if_neg ha, ih]

theorem kvGet_kvInsert (l : List (Nat × Nat)) (k x j : Nat) (h : kvGet l k = none) :
    kvGet (kvInsert l k x) j = if j = k then some x else kvGet l j := by
  induction l with
  | nil => simp only [kvInsert, kvGet, eq_comm]
  | cons c r ih =>
    obtain ⟨a, b⟩ := c
    by_cases ha : a = k
    · simp [kvGet, ha] at h
    · simp only [kvGet, if_neg ha] at h
      by_cases hj : j = k
      · subst hj
        simp only [kvInsert]
        split
        · simp [kvGet]
        · simp [kvGet, ha, ih h]
      · simp only [kvInsert]
        split
        · simp [kvGet, Ne.symm hj]
        · simp [kvGet, hj, ih h]

/-- A look-up in the store after one key's value is set or removed. -/
theorem kvGet_kvPut (l : List (Nat × Nat)) (k j : Nat) (v : Option Nat) :
    kvGet (kvPut l k v) j = if j = k then v else kvGet l j := by
  by_cases h : j = k
  · subst h
    cases v with
    | none => simp [kvPut, kvGet_dropKey]
    | some x => simp [kvPut, kvGet_kvInsert _ _ _ _ (kvGet_dropKey l j)]
  · cases v with
    | none => simp [kvPut, h, kvGet_filter_ne l k j h]
    | some x => simp [kvPut, kvGet_kvInsert _ _ _ _ (kvGet_dropKey l k), h, kvGet_filter_ne l k j h]

/-- An entry's value depends on the store of entries alone. -/
theorem State.ent_eq (s : State) (c i j : Nat) : s.ent c i j = entIn s.dict c i j := rfl

theorem State.ent_congr {s t : State} (h : t.dict = s.dict) (c i j : Nat) : t.ent c i j = s.ent c i j := by
  unfold State.ent; rw [h]

/-- The value of an entry after it is written: the value, at the width of the entry's type. -/
@[simp] theorem entIn_putEnt (s : State) (c i j v : Nat) :
    entIn (s.putEnt c i j v).dict c i j = v % 2 ^ (8 * entrySize i j) := by
  simp only [entIn, State.putEnt, kvGet_kvPut, if_true]
  split
  · rename_i h
    split at h
    · cases h
    · cases h; rfl
  · rename_i h
    split at h
    · rename_i e; exact e.symm
    · cases h

/-- The value of an entry after another is written. -/
theorem entIn_putEnt_ne (s : State) (c i j v c' i' j' : Nat) (h : canonEntry c' i' j' ≠ canonEntry c i j) :
    entIn (s.putEnt c i j v).dict c' i' j' = entIn s.dict c' i' j' := by
  simp only [entIn, State.putEnt, kvGet_kvPut, if_neg h]

/-- The value of an entry after it is written: the value, at the width of the entry's type. -/
@[simp] theorem State.ent_putEnt (s : State) (c i j v : Nat) :
    (s.putEnt c i j v).ent c i j = v % 2 ^ (8 * entrySize i j) := entIn_putEnt s c i j v

/-- The value of an entry after another is written. -/
theorem State.ent_putEnt_ne (s : State) (c i j v c' i' j' : Nat) (h : canonEntry c' i' j' ≠ canonEntry c i j) :
    (s.putEnt c i j v).ent c' i' j' = s.ent c' i' j' := entIn_putEnt_ne s c i j v c' i' j' h

/-- The value of a counter after it advances. -/
theorem State.ent_bumpEnt (s : State) (c i j n : Nat) (h : n ≠ 0) :
    (s.bumpEnt c i j n).ent c i j = (s.ent c i j + n) % 2 ^ (8 * entrySize i j) := by
  simp only [State.bumpEnt, if_neg h, State.ent_putEnt]

/-- The value of an entry after a counter that is another advances. -/
theorem State.ent_bumpEnt_ne (s : State) (c i j n c' i' j' : Nat) (h : canonEntry c' i' j' ≠ canonEntry c i j) :
    (s.bumpEnt c i j n).ent c' i' j' = s.ent c' i' j' := by
  unfold State.bumpEnt
  split
  · rfl
  · exact State.ent_putEnt_ne _ _ _ _ _ _ _ _ h

@[simp] theorem State.ent_stored (s t : State) (c i j : Nat) : (s.stored t).ent c i j = t.ent c i j := rfl
@[simp] theorem State.ent_unstored (s t : State) (c i j : Nat) : (s.unstored t).ent c i j = t.ent c i j := rfl
@[simp] theorem State.ent_drawn (s : State) (c i j : Nat) : s.drawn.ent c i j = s.ent c i j := rfl
@[simp] theorem State.ent_updQueue (s : State) (k : Nat) (f : Queue → Queue) (c i j : Nat) :
    (s.updQueue k f).ent c i j = s.ent c i j := rfl
@[simp] theorem State.ent_updCtx (s : State) (k : Nat) (f : Ctx → Ctx) (c i j : Nat) :
    (s.updCtx k f).ent c i j = s.ent c i j := rfl
@[simp] theorem State.ent_finish (s : State) (id st d : Nat) (a : Bytes) (c i j : Nat) :
    (s.finish id st d a).ent c i j = s.ent c i j := rfl

/-! ### Tables -/

/-- The value of a key after it is put. -/
@[simp] theorem lookupD_putKey {β : Type} (l : List (Nat × β)) (k : Nat) (v d : β) : lookupD (putKey l k v) k d = v := by
  unfold putKey
  split
  · rename_i h
    induction l with
    | nil => simp at h
    | cons c r ih =>
      by_cases hc : c.1 == k
      · simp only [lookupD, List.map_cons, hc, if_true, List.find?_cons, beq_self_eq_true]
      · have : r.any (fun p => p.1 == k) = true := by simpa [hc] using h
        have ih' := ih this
        simp only [lookupD] at ih' ⊢
        simp only [List.map_cons, hc, List.find?_cons, Bool.false_eq_true, if_false]
        exact ih'
  · rename_i h
    have h' : ∀ p ∈ l, ¬ (p.1 == k) = true := by
      intro p hp hk; exact h (List.any_eq_true.2 ⟨p, hp, hk⟩)
    simp only [lookupD, List.find?_append, List.find?_eq_none.2 h']
    simp


theorem find?_updWhere {α : Type} (p : α → Bool) (f : α → α) (l : List α) (h : ∀ x, p x = true → p (f x) = true) :
    (updWhere p f l).find? p = (l.find? p).map f := by
  induction l with
  | nil => rfl
  | cons x r ih =>
    by_cases hx : p x = true
    · simp [updWhere, hx, h x hx]
    · have : updWhere p f (x :: r) = x :: updWhere p f r := by simp [updWhere, hx]
      rw [this]; simp [List.find?, hx, ih]

/-- A started command after its own context is changed. -/
theorem State.ctx?_updCtx (s : State) (i : Nat) (f : Ctx → Ctx) (h : ∀ c, (f c).id = c.id) :
    (s.updCtx i f).ctx? i = (s.ctx? i).map f := by
  unfold State.ctx? State.updCtx
  exact find?_updWhere _ _ _ (by intro x hx; simpa [h] using hx)

/-- A queue after it is changed. -/
theorem State.queue?_updQueue (s : State) (i : Nat) (f : Queue → Queue) (h : ∀ q, (f q).index = q.index) :
    (s.updQueue i f).queue? i = (s.queue? i).map f := by
  unfold State.queue? State.updQueue
  exact find?_updWhere _ _ _ (by intro x hx; simpa [h] using hx)

/-! ### Answers -/

@[simp] theorem completes_next (t : State) (p : State → Prop) : Completes (.next t) p ↔ p t := by
  simp [Completes]

@[simp] theorem completes_commit (s t : State) (p : State → Prop) : Completes (s.commit t) p ↔ p (s.stored t) := by
  simp [Completes, State.commit]

@[simp] theorem completes_quiet (s t : State) (p : State → Prop) : Completes (s.quiet t) p ↔ p (s.unstored t) := by
  simp [Completes, State.quiet]

/-- A command whose effect stores nothing leaves every byte as it is. -/
theorem sameBytes_stored (s t : State) (h : t.mem = s.mem) : SameBytes s (s.stored t) := by
  intro a; rw [State.stored_mem, Memory.get_canon, h]

theorem sameBytes_of_mem (s t : State) (h : t.mem = s.mem) : SameBytes s t := by
  intro a; rw [h]

/-- The context of a started command whose operation has ended. -/
theorem State.ctx?_finish (s : State) (id st d : Nat) (a : Bytes) (c : Ctx) (h : s.ctx? id = some c)
    (hf : c.finished = false) :
    (s.finish id st d a).ctx? id =
      some { c with finished := true, waiting := false, status := st, detail := d, area := a, lastProgress := s.now } := by
  unfold State.finish
  rw [State.ctx?_updCtx, h]
  · simp [hf]
  · intro c; split <;> rfl

end Sys2Proof.Machine
end

