-- ==== Sys2Proof/Laws/Flags.lean ====
section
/-! SUPPORT. What the operations that raise flags leave unchanged, and what each can do to the fault collector's status
word. -/

namespace Sys2Proof.Machine

/-! ### Fields that a raised flag leaves -/

@[simp] theorem State.setFn_pending (s : State) (c : Nat) (g : Function → Function) : (s.setFn c g).pending = s.pending := by unfold State.setFn; split <;> rfl
@[simp] theorem State.setFn_now (s : State) (c : Nat) (g : Function → Function) : (s.setFn c g).now = s.now := by unfold State.setFn; split <;> rfl
@[simp] theorem State.setFn_fresh (s : State) (c : Nat) (g : Function → Function) : (s.setFn c g).fresh = s.fresh := by unfold State.setFn; split <;> rfl
@[simp] theorem State.setFn_dict (s : State) (c : Nat) (g : Function → Function) : (s.setFn c g).dict = s.dict := by unfold State.setFn; split <;> rfl
@[simp] theorem State.setFn_mem (s : State) (c : Nat) (g : Function → Function) : (s.setFn c g).mem = s.mem := by unfold State.setFn; split <;> rfl
@[simp] theorem State.setFn_fabric (s : State) (c : Nat) (g : Function → Function) : (s.setFn c g).fabric = s.fabric := by unfold State.setFn; split <;> rfl
@[simp] theorem State.setFn_contract (s : State) (c : Nat) (g : Function → Function) : (s.setFn c g).contract = s.contract := by unfold State.setFn; split <;> rfl
@[simp] theorem State.setFn_transform (s : State) (c : Nat) (g : Function → Function) : (s.setFn c g).transform = s.transform := by unfold State.setFn; split <;> rfl
@[simp] theorem State.setFn_cores (s : State) (c : Nat) (g : Function → Function) : (s.setFn c g).cores = s.cores := by unfold State.setFn; split <;> rfl
@[simp] theorem State.setFn_tiers (s : State) (c : Nat) (g : Function → Function) : (s.setFn c g).tiers = s.tiers := by unfold State.setFn; split <;> rfl
@[simp] theorem State.setFn_zt (s : State) (c : Nat) (g : Function → Function) : (s.setFn c g).zt = s.zt := by unfold State.setFn; split <;> rfl
@[simp] theorem State.setFn_coll (s : State) (c : Nat) (g : Function → Function) : (s.setFn c g).coll = s.coll := by unfold State.setFn; split <;> rfl
@[simp] theorem State.setFn_snap (s : State) (c : Nat) (g : Function → Function) : (s.setFn c g).snap = s.snap := by unfold State.setFn; split <;> rfl
@[simp] theorem State.setFn_packet (s : State) (c : Nat) (g : Function → Function) : (s.setFn c g).packet = s.packet := by unfold State.setFn; split <;> rfl
@[simp] theorem State.setFn_storage (s : State) (c : Nat) (g : Function → Function) : (s.setFn c g).storage = s.storage := by unfold State.setFn; split <;> rfl
@[simp] theorem State.setFn_cabs (s : State) (c : Nat) (g : Function → Function) : (s.setFn c g).cabs = s.cabs := by unfold State.setFn; split <;> rfl
@[simp] theorem State.setFn_trust (s : State) (c : Nat) (g : Function → Function) : (s.setFn c g).trust = s.trust := by unfold State.setFn; split <;> rfl
@[simp] theorem State.setFn_energy (s : State) (c : Nat) (g : Function → Function) : (s.setFn c g).energy = s.energy := by unfold State.setFn; split <;> rfl
@[simp] theorem State.setFn_faults (s : State) (c : Nat) (g : Function → Function) : (s.setFn c g).faults = s.faults := by unfold State.setFn; split <;> rfl
@[simp] theorem State.setFn_steral (s : State) (c : Nat) (g : Function → Function) : (s.setFn c g).steral = s.steral := by unfold State.setFn; split <;> rfl
@[simp] theorem State.setFn_pins (s : State) (c : Nat) (g : Function → Function) : (s.setFn c g).pins = s.pins := by unfold State.setFn; split <;> rfl

@[simp] theorem State.sendMsix_pending (s : State) (c v : Nat) : (s.sendMsix c v).pending = s.pending := by unfold State.sendMsix; split; rfl; split; simp; split <;> rfl
@[simp] theorem State.sendMsix_now (s : State) (c v : Nat) : (s.sendMsix c v).now = s.now := by unfold State.sendMsix; split; rfl; split; simp; split <;> rfl
@[simp] theorem State.sendMsix_fresh (s : State) (c v : Nat) : (s.sendMsix c v).fresh = s.fresh := by unfold State.sendMsix; split; rfl; split; simp; split <;> rfl
@[simp] theorem State.sendMsix_dict (s : State) (c v : Nat) : (s.sendMsix c v).dict = s.dict := by unfold State.sendMsix; split; rfl; split; simp; split <;> rfl
@[simp] theorem State.sendMsix_mem (s : State) (c v : Nat) : (s.sendMsix c v).mem = s.mem := by unfold State.sendMsix; split; rfl; split; simp; split <;> rfl
@[simp] theorem State.sendMsix_fabric (s : State) (c v : Nat) : (s.sendMsix c v).fabric = s.fabric := by unfold State.sendMsix; split; rfl; split; simp; split <;> rfl
@[simp] theorem State.sendMsix_contract (s : State) (c v : Nat) : (s.sendMsix c v).contract = s.contract := by unfold State.sendMsix; split; rfl; split; simp; split <;> rfl
@[simp] theorem State.sendMsix_transform (s : State) (c v : Nat) : (s.sendMsix c v).transform = s.transform := by unfold State.sendMsix; split; rfl; split; simp; split <;> rfl
@[simp] theorem State.sendMsix_cores (s : State) (c v : Nat) : (s.sendMsix c v).cores = s.cores := by unfold State.sendMsix; split; rfl; split; simp; split <;> rfl
@[simp] theorem State.sendMsix_tiers (s : State) (c v : Nat) : (s.sendMsix c v).tiers = s.tiers := by unfold State.sendMsix; split; rfl; split; simp; split <;> rfl
@[simp] theorem State.sendMsix_zt (s : State) (c v : Nat) : (s.sendMsix c v).zt = s.zt := by unfold State.sendMsix; split; rfl; split; simp; split <;> rfl
@[simp] theorem State.sendMsix_coll (s : State) (c v : Nat) : (s.sendMsix c v).coll = s.coll := by unfold State.sendMsix; split; rfl; split; simp; split <;> rfl
@[simp] theorem State.sendMsix_snap (s : State) (c v : Nat) : (s.sendMsix c v).snap = s.snap := by unfold State.sendMsix; split; rfl; split; simp; split <;> rfl
@[simp] theorem State.sendMsix_packet (s : State) (c v : Nat) : (s.sendMsix c v).packet = s.packet := by unfold State.sendMsix; split; rfl; split; simp; split <;> rfl
@[simp] theorem State.sendMsix_storage (s : State) (c v : Nat) : (s.sendMsix c v).storage = s.storage := by unfold State.sendMsix; split; rfl; split; simp; split <;> rfl
@[simp] theorem State.sendMsix_cabs (s : State) (c v : Nat) : (s.sendMsix c v).cabs = s.cabs := by unfold State.sendMsix; split; rfl; split; simp; split <;> rfl
@[simp] theorem State.sendMsix_trust (s : State) (c v : Nat) : (s.sendMsix c v).trust = s.trust := by unfold State.sendMsix; split; rfl; split; simp; split <;> rfl
@[simp] theorem State.sendMsix_energy (s : State) (c v : Nat) : (s.sendMsix c v).energy = s.energy := by unfold State.sendMsix; split; rfl; split; simp; split <;> rfl
@[simp] theorem State.sendMsix_faults (s : State) (c v : Nat) : (s.sendMsix c v).faults = s.faults := by unfold State.sendMsix; split; rfl; split; simp; split <;> rfl
@[simp] theorem State.sendMsix_steral (s : State) (c v : Nat) : (s.sendMsix c v).steral = s.steral := by unfold State.sendMsix; split; rfl; split; simp; split <;> rfl
@[simp] theorem State.sendMsix_pins (s : State) (c v : Nat) : (s.sendMsix c v).pins = s.pins := by unfold State.sendMsix; split; rfl; split; simp; split <;> rfl

@[simp] theorem State.raiseEvent_pending (s : State) (c b : Nat) : (s.raiseEvent c b).pending = s.pending := by unfold State.raiseEvent; simp only; split <;> simp
@[simp] theorem State.raiseEvent_now (s : State) (c b : Nat) : (s.raiseEvent c b).now = s.now := by unfold State.raiseEvent; simp only; split <;> simp
@[simp] theorem State.raiseEvent_fresh (s : State) (c b : Nat) : (s.raiseEvent c b).fresh = s.fresh := by unfold State.raiseEvent; simp only; split <;> simp
@[simp] theorem State.raiseEvent_dict (s : State) (c b : Nat) : (s.raiseEvent c b).dict = s.dict := by unfold State.raiseEvent; simp only; split <;> simp
@[simp] theorem State.raiseEvent_mem (s : State) (c b : Nat) : (s.raiseEvent c b).mem = s.mem := by unfold State.raiseEvent; simp only; split <;> simp
@[simp] theorem State.raiseEvent_fabric (s : State) (c b : Nat) : (s.raiseEvent c b).fabric = s.fabric := by unfold State.raiseEvent; simp only; split <;> simp
@[simp] theorem State.raiseEvent_contract (s : State) (c b : Nat) : (s.raiseEvent c b).contract = s.contract := by unfold State.raiseEvent; simp only; split <;> simp
@[simp] theorem State.raiseEvent_transform (s : State) (c b : Nat) : (s.raiseEvent c b).transform = s.transform := by unfold State.raiseEvent; simp only; split <;> simp
@[simp] theorem State.raiseEvent_cores (s : State) (c b : Nat) : (s.raiseEvent c b).cores = s.cores := by unfold State.raiseEvent; simp only; split <;> simp
@[simp] theorem State.raiseEvent_tiers (s : State) (c b : Nat) : (s.raiseEvent c b).tiers = s.tiers := by unfold State.raiseEvent; simp only; split <;> simp
@[simp] theorem State.raiseEvent_zt (s : State) (c b : Nat) : (s.raiseEvent c b).zt = s.zt := by unfold State.raiseEvent; simp only; split <;> simp
@[simp] theorem State.raiseEvent_coll (s : State) (c b : Nat) : (s.raiseEvent c b).coll = s.coll := by unfold State.raiseEvent; simp only; split <;> simp
@[simp] theorem State.raiseEvent_snap (s : State) (c b : Nat) : (s.raiseEvent c b).snap = s.snap := by unfold State.raiseEvent; simp only; split <;> simp
@[simp] theorem State.raiseEvent_packet (s : State) (c b : Nat) : (s.raiseEvent c b).packet = s.packet := by unfold State.raiseEvent; simp only; split <;> simp
@[simp] theorem State.raiseEvent_storage (s : State) (c b : Nat) : (s.raiseEvent c b).storage = s.storage := by unfold State.raiseEvent; simp only; split <;> simp
@[simp] theorem State.raiseEvent_cabs (s : State) (c b : Nat) : (s.raiseEvent c b).cabs = s.cabs := by unfold State.raiseEvent; simp only; split <;> simp
@[simp] theorem State.raiseEvent_trust (s : State) (c b : Nat) : (s.raiseEvent c b).trust = s.trust := by unfold State.raiseEvent; simp only; split <;> simp
@[simp] theorem State.raiseEvent_energy (s : State) (c b : Nat) : (s.raiseEvent c b).energy = s.energy := by unfold State.raiseEvent; simp only; split <;> simp
@[simp] theorem State.raiseEvent_faults (s : State) (c b : Nat) : (s.raiseEvent c b).faults = s.faults := by unfold State.raiseEvent; simp only; split <;> simp
@[simp] theorem State.raiseEvent_steral (s : State) (c b : Nat) : (s.raiseEvent c b).steral = s.steral := by unfold State.raiseEvent; simp only; split <;> simp
@[simp] theorem State.raiseEvent_pins (s : State) (c b : Nat) : (s.raiseEvent c b).pins = s.pins := by unfold State.raiseEvent; simp only; split <;> simp

@[simp] theorem State.capture_pending (s : State) (e : ErrorIn) : (s.capture e).pending = s.pending := by unfold State.capture; simp only; split <;> rfl
@[simp] theorem State.capture_now (s : State) (e : ErrorIn) : (s.capture e).now = s.now := by unfold State.capture; simp only; split <;> rfl
@[simp] theorem State.capture_fresh (s : State) (e : ErrorIn) : (s.capture e).fresh = s.fresh := by unfold State.capture; simp only; split <;> rfl
@[simp] theorem State.capture_dict (s : State) (e : ErrorIn) : (s.capture e).dict = s.dict := by unfold State.capture; simp only; split <;> rfl
@[simp] theorem State.capture_mem (s : State) (e : ErrorIn) : (s.capture e).mem = s.mem := by unfold State.capture; simp only; split <;> rfl
@[simp] theorem State.capture_fabric (s : State) (e : ErrorIn) : (s.capture e).fabric = s.fabric := by unfold State.capture; simp only; split <;> rfl
@[simp] theorem State.capture_contract (s : State) (e : ErrorIn) : (s.capture e).contract = s.contract := by unfold State.capture; simp only; split <;> rfl
@[simp] theorem State.capture_transform (s : State) (e : ErrorIn) : (s.capture e).transform = s.transform := by unfold State.capture; simp only; split <;> rfl
@[simp] theorem State.capture_cores (s : State) (e : ErrorIn) : (s.capture e).cores = s.cores := by unfold State.capture; simp only; split <;> rfl
@[simp] theorem State.capture_tiers (s : State) (e : ErrorIn) : (s.capture e).tiers = s.tiers := by unfold State.capture; simp only; split <;> rfl
@[simp] theorem State.capture_zt (s : State) (e : ErrorIn) : (s.capture e).zt = s.zt := by unfold State.capture; simp only; split <;> rfl
@[simp] theorem State.capture_coll (s : State) (e : ErrorIn) : (s.capture e).coll = s.coll := by unfold State.capture; simp only; split <;> rfl
@[simp] theorem State.capture_snap (s : State) (e : ErrorIn) : (s.capture e).snap = s.snap := by unfold State.capture; simp only; split <;> rfl
@[simp] theorem State.capture_packet (s : State) (e : ErrorIn) : (s.capture e).packet = s.packet := by unfold State.capture; simp only; split <;> rfl
@[simp] theorem State.capture_ports (s : State) (e : ErrorIn) : (s.capture e).ports = s.ports := by unfold State.capture; simp only; split <;> rfl
@[simp] theorem State.capture_storage (s : State) (e : ErrorIn) : (s.capture e).storage = s.storage := by unfold State.capture; simp only; split <;> rfl
@[simp] theorem State.capture_cabs (s : State) (e : ErrorIn) : (s.capture e).cabs = s.cabs := by unfold State.capture; simp only; split <;> rfl
@[simp] theorem State.capture_trust (s : State) (e : ErrorIn) : (s.capture e).trust = s.trust := by unfold State.capture; simp only; split <;> rfl
@[simp] theorem State.capture_energy (s : State) (e : ErrorIn) : (s.capture e).energy = s.energy := by unfold State.capture; simp only; split <;> rfl
@[simp] theorem State.capture_steral (s : State) (e : ErrorIn) : (s.capture e).steral = s.steral := by unfold State.capture; simp only; split <;> rfl
@[simp] theorem State.capture_pins (s : State) (e : ErrorIn) : (s.capture e).pins = s.pins := by unfold State.capture; simp only; split <;> rfl

@[simp] theorem State.countMerged_pending (s : State) : (s.countMerged).pending = s.pending := by unfold State.countMerged; split; split; rfl; simp; rfl
@[simp] theorem State.countMerged_now (s : State) : (s.countMerged).now = s.now := by unfold State.countMerged; split; split; rfl; simp; rfl
@[simp] theorem State.countMerged_fresh (s : State) : (s.countMerged).fresh = s.fresh := by unfold State.countMerged; split; split; rfl; simp; rfl
@[simp] theorem State.countMerged_mem (s : State) : (s.countMerged).mem = s.mem := by unfold State.countMerged; split; split; rfl; simp; rfl
@[simp] theorem State.countMerged_fabric (s : State) : (s.countMerged).fabric = s.fabric := by unfold State.countMerged; split; split; rfl; simp; rfl
@[simp] theorem State.countMerged_contract (s : State) : (s.countMerged).contract = s.contract := by unfold State.countMerged; split; split; rfl; simp; rfl
@[simp] theorem State.countMerged_transform (s : State) : (s.countMerged).transform = s.transform := by unfold State.countMerged; split; split; rfl; simp; rfl
@[simp] theorem State.countMerged_cores (s : State) : (s.countMerged).cores = s.cores := by unfold State.countMerged; split; split; rfl; simp; rfl
@[simp] theorem State.countMerged_tiers (s : State) : (s.countMerged).tiers = s.tiers := by unfold State.countMerged; split; split; rfl; simp; rfl
@[simp] theorem State.countMerged_zt (s : State) : (s.countMerged).zt = s.zt := by unfold State.countMerged; split; split; rfl; simp; rfl
@[simp] theorem State.countMerged_coll (s : State) : (s.countMerged).coll = s.coll := by unfold State.countMerged; split; split; rfl; simp; rfl
@[simp] theorem State.countMerged_snap (s : State) : (s.countMerged).snap = s.snap := by unfold State.countMerged; split; split; rfl; simp; rfl
@[simp] theorem State.countMerged_packet (s : State) : (s.countMerged).packet = s.packet := by unfold State.countMerged; split; split; rfl; simp; rfl
@[simp] theorem State.countMerged_ports (s : State) : (s.countMerged).ports = s.ports := by unfold State.countMerged; split; split; rfl; simp; rfl
@[simp] theorem State.countMerged_storage (s : State) : (s.countMerged).storage = s.storage := by unfold State.countMerged; split; split; rfl; simp; rfl
@[simp] theorem State.countMerged_cabs (s : State) : (s.countMerged).cabs = s.cabs := by unfold State.countMerged; split; split; rfl; simp; rfl
@[simp] theorem State.countMerged_trust (s : State) : (s.countMerged).trust = s.trust := by unfold State.countMerged; split; split; rfl; simp; rfl
@[simp] theorem State.countMerged_energy (s : State) : (s.countMerged).energy = s.energy := by unfold State.countMerged; split; split; rfl; simp; rfl
@[simp] theorem State.countMerged_steral (s : State) : (s.countMerged).steral = s.steral := by unfold State.countMerged; split; split; rfl; simp; rfl
@[simp] theorem State.countMerged_pins (s : State) : (s.countMerged).pins = s.pins := by unfold State.countMerged; split; split; rfl; simp; rfl

@[simp] theorem State.markMerged_pending (s : State) (n : Nat) : (s.markMerged n).pending = s.pending := by unfold State.markMerged; split; rfl; split; rfl; split <;> rfl
@[simp] theorem State.markMerged_now (s : State) (n : Nat) : (s.markMerged n).now = s.now := by unfold State.markMerged; split; rfl; split; rfl; split <;> rfl
@[simp] theorem State.markMerged_fresh (s : State) (n : Nat) : (s.markMerged n).fresh = s.fresh := by unfold State.markMerged; split; rfl; split; rfl; split <;> rfl
@[simp] theorem State.markMerged_dict (s : State) (n : Nat) : (s.markMerged n).dict = s.dict := by unfold State.markMerged; split; rfl; split; rfl; split <;> rfl
@[simp] theorem State.markMerged_mem (s : State) (n : Nat) : (s.markMerged n).mem = s.mem := by unfold State.markMerged; split; rfl; split; rfl; split <;> rfl
@[simp] theorem State.markMerged_fabric (s : State) (n : Nat) : (s.markMerged n).fabric = s.fabric := by unfold State.markMerged; split; rfl; split; rfl; split <;> rfl
@[simp] theorem State.markMerged_contract (s : State) (n : Nat) : (s.markMerged n).contract = s.contract := by unfold State.markMerged; split; rfl; split; rfl; split <;> rfl
@[simp] theorem State.markMerged_transform (s : State) (n : Nat) : (s.markMerged n).transform = s.transform := by unfold State.markMerged; split; rfl; split; rfl; split <;> rfl
@[simp] theorem State.markMerged_cores (s : State) (n : Nat) : (s.markMerged n).cores = s.cores := by unfold State.markMerged; split; rfl; split; rfl; split <;> rfl
@[simp] theorem State.markMerged_tiers (s : State) (n : Nat) : (s.markMerged n).tiers = s.tiers := by unfold State.markMerged; split; rfl; split; rfl; split <;> rfl
@[simp] theorem State.markMerged_zt (s : State) (n : Nat) : (s.markMerged n).zt = s.zt := by unfold State.markMerged; split; rfl; split; rfl; split <;> rfl
@[simp] theorem State.markMerged_coll (s : State) (n : Nat) : (s.markMerged n).coll = s.coll := by unfold State.markMerged; split; rfl; split; rfl; split <;> rfl
@[simp] theorem State.markMerged_snap (s : State) (n : Nat) : (s.markMerged n).snap = s.snap := by unfold State.markMerged; split; rfl; split; rfl; split <;> rfl
@[simp] theorem State.markMerged_packet (s : State) (n : Nat) : (s.markMerged n).packet = s.packet := by unfold State.markMerged; split; rfl; split; rfl; split <;> rfl
@[simp] theorem State.markMerged_ports (s : State) (n : Nat) : (s.markMerged n).ports = s.ports := by unfold State.markMerged; split; rfl; split; rfl; split <;> rfl
@[simp] theorem State.markMerged_storage (s : State) (n : Nat) : (s.markMerged n).storage = s.storage := by unfold State.markMerged; split; rfl; split; rfl; split <;> rfl
@[simp] theorem State.markMerged_cabs (s : State) (n : Nat) : (s.markMerged n).cabs = s.cabs := by unfold State.markMerged; split; rfl; split; rfl; split <;> rfl
@[simp] theorem State.markMerged_trust (s : State) (n : Nat) : (s.markMerged n).trust = s.trust := by unfold State.markMerged; split; rfl; split; rfl; split <;> rfl
@[simp] theorem State.markMerged_energy (s : State) (n : Nat) : (s.markMerged n).energy = s.energy := by unfold State.markMerged; split; rfl; split; rfl; split <;> rfl
@[simp] theorem State.markMerged_steral (s : State) (n : Nat) : (s.markMerged n).steral = s.steral := by unfold State.markMerged; split; rfl; split; rfl; split <;> rfl
@[simp] theorem State.markMerged_pins (s : State) (n : Nat) : (s.markMerged n).pins = s.pins := by unfold State.markMerged; split; rfl; split; rfl; split <;> rfl

@[simp] theorem State.mergeError_pending (s : State) (e : ErrorIn) : (s.mergeError e).pending = s.pending := by simp [State.mergeError]
@[simp] theorem State.mergeError_now (s : State) (e : ErrorIn) : (s.mergeError e).now = s.now := by simp [State.mergeError]
@[simp] theorem State.mergeError_fresh (s : State) (e : ErrorIn) : (s.mergeError e).fresh = s.fresh := by simp [State.mergeError]
@[simp] theorem State.mergeError_mem (s : State) (e : ErrorIn) : (s.mergeError e).mem = s.mem := by simp [State.mergeError]
@[simp] theorem State.mergeError_fabric (s : State) (e : ErrorIn) : (s.mergeError e).fabric = s.fabric := by simp [State.mergeError]
@[simp] theorem State.mergeError_contract (s : State) (e : ErrorIn) : (s.mergeError e).contract = s.contract := by simp [State.mergeError]
@[simp] theorem State.mergeError_transform (s : State) (e : ErrorIn) : (s.mergeError e).transform = s.transform := by simp [State.mergeError]
@[simp] theorem State.mergeError_cores (s : State) (e : ErrorIn) : (s.mergeError e).cores = s.cores := by simp [State.mergeError]
@[simp] theorem State.mergeError_tiers (s : State) (e : ErrorIn) : (s.mergeError e).tiers = s.tiers := by simp [State.mergeError]
@[simp] theorem State.mergeError_zt (s : State) (e : ErrorIn) : (s.mergeError e).zt = s.zt := by simp [State.mergeError]
@[simp] theorem State.mergeError_coll (s : State) (e : ErrorIn) : (s.mergeError e).coll = s.coll := by simp [State.mergeError]
@[simp] theorem State.mergeError_snap (s : State) (e : ErrorIn) : (s.mergeError e).snap = s.snap := by simp [State.mergeError]
@[simp] theorem State.mergeError_packet (s : State) (e : ErrorIn) : (s.mergeError e).packet = s.packet := by simp [State.mergeError]
@[simp] theorem State.mergeError_ports (s : State) (e : ErrorIn) : (s.mergeError e).ports = s.ports := by simp [State.mergeError]
@[simp] theorem State.mergeError_storage (s : State) (e : ErrorIn) : (s.mergeError e).storage = s.storage := by simp [State.mergeError]
@[simp] theorem State.mergeError_cabs (s : State) (e : ErrorIn) : (s.mergeError e).cabs = s.cabs := by simp [State.mergeError]
@[simp] theorem State.mergeError_trust (s : State) (e : ErrorIn) : (s.mergeError e).trust = s.trust := by simp [State.mergeError]
@[simp] theorem State.mergeError_energy (s : State) (e : ErrorIn) : (s.mergeError e).energy = s.energy := by simp [State.mergeError]
@[simp] theorem State.mergeError_steral (s : State) (e : ErrorIn) : (s.mergeError e).steral = s.steral := by simp [State.mergeError]
@[simp] theorem State.mergeError_pins (s : State) (e : ErrorIn) : (s.mergeError e).pins = s.pins := by simp [State.mergeError]

@[simp] theorem State.refreshFaultN_pending (s : State) : (s.refreshFaultN).pending = s.pending := rfl
@[simp] theorem State.refreshFaultN_now (s : State) : (s.refreshFaultN).now = s.now := rfl
@[simp] theorem State.refreshFaultN_fresh (s : State) : (s.refreshFaultN).fresh = s.fresh := rfl
@[simp] theorem State.refreshFaultN_dict (s : State) : (s.refreshFaultN).dict = s.dict := rfl
@[simp] theorem State.refreshFaultN_mem (s : State) : (s.refreshFaultN).mem = s.mem := rfl
@[simp] theorem State.refreshFaultN_fabric (s : State) : (s.refreshFaultN).fabric = s.fabric := rfl
@[simp] theorem State.refreshFaultN_contract (s : State) : (s.refreshFaultN).contract = s.contract := rfl
@[simp] theorem State.refreshFaultN_transform (s : State) : (s.refreshFaultN).transform = s.transform := rfl
@[simp] theorem State.refreshFaultN_cores (s : State) : (s.refreshFaultN).cores = s.cores := rfl
@[simp] theorem State.refreshFaultN_tiers (s : State) : (s.refreshFaultN).tiers = s.tiers := rfl
@[simp] theorem State.refreshFaultN_zt (s : State) : (s.refreshFaultN).zt = s.zt := rfl
@[simp] theorem State.refreshFaultN_coll (s : State) : (s.refreshFaultN).coll = s.coll := rfl
@[simp] theorem State.refreshFaultN_snap (s : State) : (s.refreshFaultN).snap = s.snap := rfl
@[simp] theorem State.refreshFaultN_packet (s : State) : (s.refreshFaultN).packet = s.packet := rfl
@[simp] theorem State.refreshFaultN_ports (s : State) : (s.refreshFaultN).ports = s.ports := rfl
@[simp] theorem State.refreshFaultN_storage (s : State) : (s.refreshFaultN).storage = s.storage := rfl
@[simp] theorem State.refreshFaultN_cabs (s : State) : (s.refreshFaultN).cabs = s.cabs := rfl
@[simp] theorem State.refreshFaultN_trust (s : State) : (s.refreshFaultN).trust = s.trust := rfl
@[simp] theorem State.refreshFaultN_energy (s : State) : (s.refreshFaultN).energy = s.energy := rfl
@[simp] theorem State.refreshFaultN_faults (s : State) : (s.refreshFaultN).faults = s.faults := rfl
@[simp] theorem State.refreshFaultN_steral (s : State) : (s.refreshFaultN).steral = s.steral := rfl

@[simp] theorem State.latchBit_pending (s : State) (e : ErrorIn) : (s.latchBit e).pending = s.pending := by unfold State.latchBit; simp only; split <;> rfl
@[simp] theorem State.latchBit_now (s : State) (e : ErrorIn) : (s.latchBit e).now = s.now := by unfold State.latchBit; simp only; split <;> rfl
@[simp] theorem State.latchBit_fresh (s : State) (e : ErrorIn) : (s.latchBit e).fresh = s.fresh := by unfold State.latchBit; simp only; split <;> rfl
@[simp] theorem State.latchBit_mem (s : State) (e : ErrorIn) : (s.latchBit e).mem = s.mem := by unfold State.latchBit; simp only; split <;> rfl
@[simp] theorem State.latchBit_fabric (s : State) (e : ErrorIn) : (s.latchBit e).fabric = s.fabric := by unfold State.latchBit; simp only; split <;> rfl
@[simp] theorem State.latchBit_contract (s : State) (e : ErrorIn) : (s.latchBit e).contract = s.contract := by unfold State.latchBit; simp only; split <;> rfl
@[simp] theorem State.latchBit_transform (s : State) (e : ErrorIn) : (s.latchBit e).transform = s.transform := by unfold State.latchBit; simp only; split <;> rfl
@[simp] theorem State.latchBit_cores (s : State) (e : ErrorIn) : (s.latchBit e).cores = s.cores := by unfold State.latchBit; simp only; split <;> rfl
@[simp] theorem State.latchBit_tiers (s : State) (e : ErrorIn) : (s.latchBit e).tiers = s.tiers := by unfold State.latchBit; simp only; split <;> rfl
@[simp] theorem State.latchBit_zt (s : State) (e : ErrorIn) : (s.latchBit e).zt = s.zt := by unfold State.latchBit; simp only; split <;> rfl
@[simp] theorem State.latchBit_coll (s : State) (e : ErrorIn) : (s.latchBit e).coll = s.coll := by unfold State.latchBit; simp only; split <;> rfl
@[simp] theorem State.latchBit_snap (s : State) (e : ErrorIn) : (s.latchBit e).snap = s.snap := by unfold State.latchBit; simp only; split <;> rfl
@[simp] theorem State.latchBit_packet (s : State) (e : ErrorIn) : (s.latchBit e).packet = s.packet := by unfold State.latchBit; simp only; split <;> rfl
@[simp] theorem State.latchBit_ports (s : State) (e : ErrorIn) : (s.latchBit e).ports = s.ports := by unfold State.latchBit; simp only; split <;> rfl
@[simp] theorem State.latchBit_storage (s : State) (e : ErrorIn) : (s.latchBit e).storage = s.storage := by unfold State.latchBit; simp only; split <;> rfl
@[simp] theorem State.latchBit_cabs (s : State) (e : ErrorIn) : (s.latchBit e).cabs = s.cabs := by unfold State.latchBit; simp only; split <;> rfl
@[simp] theorem State.latchBit_trust (s : State) (e : ErrorIn) : (s.latchBit e).trust = s.trust := by unfold State.latchBit; simp only; split <;> rfl
@[simp] theorem State.latchBit_energy (s : State) (e : ErrorIn) : (s.latchBit e).energy = s.energy := by unfold State.latchBit; simp only; split <;> rfl
@[simp] theorem State.latchBit_faults (s : State) (e : ErrorIn) : (s.latchBit e).faults = s.faults := by unfold State.latchBit; simp only; split <;> rfl
@[simp] theorem State.latchBit_steral (s : State) (e : ErrorIn) : (s.latchBit e).steral = s.steral := by unfold State.latchBit; simp only; split <;> rfl
@[simp] theorem State.latchBit_pins (s : State) (e : ErrorIn) : (s.latchBit e).pins = s.pins := by unfold State.latchBit; simp only; split <;> rfl

@[simp] theorem State.latchRecord_pending (s : State) (m : Bool) (e : ErrorIn) : (s.latchRecord m e).pending = s.pending := by unfold State.latchRecord; split <;> simp
@[simp] theorem State.latchRecord_now (s : State) (m : Bool) (e : ErrorIn) : (s.latchRecord m e).now = s.now := by unfold State.latchRecord; split <;> simp
@[simp] theorem State.latchRecord_fresh (s : State) (m : Bool) (e : ErrorIn) : (s.latchRecord m e).fresh = s.fresh := by unfold State.latchRecord; split <;> simp
@[simp] theorem State.latchRecord_mem (s : State) (m : Bool) (e : ErrorIn) : (s.latchRecord m e).mem = s.mem := by unfold State.latchRecord; split <;> simp
@[simp] theorem State.latchRecord_fabric (s : State) (m : Bool) (e : ErrorIn) : (s.latchRecord m e).fabric = s.fabric := by unfold State.latchRecord; split <;> simp
@[simp] theorem State.latchRecord_contract (s : State) (m : Bool) (e : ErrorIn) : (s.latchRecord m e).contract = s.contract := by unfold State.latchRecord; split <;> simp
@[simp] theorem State.latchRecord_transform (s : State) (m : Bool) (e : ErrorIn) : (s.latchRecord m e).transform = s.transform := by unfold State.latchRecord; split <;> simp
@[simp] theorem State.latchRecord_cores (s : State) (m : Bool) (e : ErrorIn) : (s.latchRecord m e).cores = s.cores := by unfold State.latchRecord; split <;> simp
@[simp] theorem State.latchRecord_tiers (s : State) (m : Bool) (e : ErrorIn) : (s.latchRecord m e).tiers = s.tiers := by unfold State.latchRecord; split <;> simp
@[simp] theorem State.latchRecord_zt (s : State) (m : Bool) (e : ErrorIn) : (s.latchRecord m e).zt = s.zt := by unfold State.latchRecord; split <;> simp
@[simp] theorem State.latchRecord_coll (s : State) (m : Bool) (e : ErrorIn) : (s.latchRecord m e).coll = s.coll := by unfold State.latchRecord; split <;> simp
@[simp] theorem State.latchRecord_snap (s : State) (m : Bool) (e : ErrorIn) : (s.latchRecord m e).snap = s.snap := by unfold State.latchRecord; split <;> simp
@[simp] theorem State.latchRecord_packet (s : State) (m : Bool) (e : ErrorIn) : (s.latchRecord m e).packet = s.packet := by unfold State.latchRecord; split <;> simp
@[simp] theorem State.latchRecord_ports (s : State) (m : Bool) (e : ErrorIn) : (s.latchRecord m e).ports = s.ports := by unfold State.latchRecord; split <;> simp
@[simp] theorem State.latchRecord_storage (s : State) (m : Bool) (e : ErrorIn) : (s.latchRecord m e).storage = s.storage := by unfold State.latchRecord; split <;> simp
@[simp] theorem State.latchRecord_cabs (s : State) (m : Bool) (e : ErrorIn) : (s.latchRecord m e).cabs = s.cabs := by unfold State.latchRecord; split <;> simp
@[simp] theorem State.latchRecord_trust (s : State) (m : Bool) (e : ErrorIn) : (s.latchRecord m e).trust = s.trust := by unfold State.latchRecord; split <;> simp
@[simp] theorem State.latchRecord_energy (s : State) (m : Bool) (e : ErrorIn) : (s.latchRecord m e).energy = s.energy := by unfold State.latchRecord; split <;> simp
@[simp] theorem State.latchRecord_steral (s : State) (m : Bool) (e : ErrorIn) : (s.latchRecord m e).steral = s.steral := by unfold State.latchRecord; split <;> simp
@[simp] theorem State.latchRecord_pins (s : State) (m : Bool) (e : ErrorIn) : (s.latchRecord m e).pins = s.pins := by unfold State.latchRecord; split <;> simp

@[simp] theorem State.latchNotice_pending (s : State) (o b : Nat) : (s.latchNotice o b).pending = s.pending := by unfold State.latchNotice; split <;> simp
@[simp] theorem State.latchNotice_now (s : State) (o b : Nat) : (s.latchNotice o b).now = s.now := by unfold State.latchNotice; split <;> simp
@[simp] theorem State.latchNotice_fresh (s : State) (o b : Nat) : (s.latchNotice o b).fresh = s.fresh := by unfold State.latchNotice; split <;> simp
@[simp] theorem State.latchNotice_dict (s : State) (o b : Nat) : (s.latchNotice o b).dict = s.dict := by unfold State.latchNotice; split <;> simp
@[simp] theorem State.latchNotice_mem (s : State) (o b : Nat) : (s.latchNotice o b).mem = s.mem := by unfold State.latchNotice; split <;> simp
@[simp] theorem State.latchNotice_fabric (s : State) (o b : Nat) : (s.latchNotice o b).fabric = s.fabric := by unfold State.latchNotice; split <;> simp
@[simp] theorem State.latchNotice_contract (s : State) (o b : Nat) : (s.latchNotice o b).contract = s.contract := by unfold State.latchNotice; split <;> simp
@[simp] theorem State.latchNotice_transform (s : State) (o b : Nat) : (s.latchNotice o b).transform = s.transform := by unfold State.latchNotice; split <;> simp
@[simp] theorem State.latchNotice_cores (s : State) (o b : Nat) : (s.latchNotice o b).cores = s.cores := by unfold State.latchNotice; split <;> simp
@[simp] theorem State.latchNotice_tiers (s : State) (o b : Nat) : (s.latchNotice o b).tiers = s.tiers := by unfold State.latchNotice; split <;> simp
@[simp] theorem State.latchNotice_zt (s : State) (o b : Nat) : (s.latchNotice o b).zt = s.zt := by unfold State.latchNotice; split <;> simp
@[simp] theorem State.latchNotice_coll (s : State) (o b : Nat) : (s.latchNotice o b).coll = s.coll := by unfold State.latchNotice; split <;> simp
@[simp] theorem State.latchNotice_snap (s : State) (o b : Nat) : (s.latchNotice o b).snap = s.snap := by unfold State.latchNotice; split <;> simp
@[simp] theorem State.latchNotice_packet (s : State) (o b : Nat) : (s.latchNotice o b).packet = s.packet := by unfold State.latchNotice; split <;> simp
@[simp] theorem State.latchNotice_storage (s : State) (o b : Nat) : (s.latchNotice o b).storage = s.storage := by unfold State.latchNotice; split <;> simp
@[simp] theorem State.latchNotice_cabs (s : State) (o b : Nat) : (s.latchNotice o b).cabs = s.cabs := by unfold State.latchNotice; split <;> simp
@[simp] theorem State.latchNotice_trust (s : State) (o b : Nat) : (s.latchNotice o b).trust = s.trust := by unfold State.latchNotice; split <;> simp
@[simp] theorem State.latchNotice_energy (s : State) (o b : Nat) : (s.latchNotice o b).energy = s.energy := by unfold State.latchNotice; split <;> simp
@[simp] theorem State.latchNotice_faults (s : State) (o b : Nat) : (s.latchNotice o b).faults = s.faults := by unfold State.latchNotice; split <;> simp
@[simp] theorem State.latchNotice_steral (s : State) (o b : Nat) : (s.latchNotice o b).steral = s.steral := by unfold State.latchNotice; split <;> simp
@[simp] theorem State.latchNotice_pins (s : State) (o b : Nat) : (s.latchNotice o b).pins = s.pins := by unfold State.latchNotice; split <;> simp

@[simp] theorem State.latchError_pending (s : State) (e : ErrorIn) : (s.latchError e).pending = s.pending := by unfold State.latchError; split <;> simp
@[simp] theorem State.latchError_now (s : State) (e : ErrorIn) : (s.latchError e).now = s.now := by unfold State.latchError; split <;> simp
@[simp] theorem State.latchError_fresh (s : State) (e : ErrorIn) : (s.latchError e).fresh = s.fresh := by unfold State.latchError; split <;> simp
@[simp] theorem State.latchError_mem (s : State) (e : ErrorIn) : (s.latchError e).mem = s.mem := by unfold State.latchError; split <;> simp
@[simp] theorem State.latchError_fabric (s : State) (e : ErrorIn) : (s.latchError e).fabric = s.fabric := by unfold State.latchError; split <;> simp
@[simp] theorem State.latchError_contract (s : State) (e : ErrorIn) : (s.latchError e).contract = s.contract := by unfold State.latchError; split <;> simp
@[simp] theorem State.latchError_transform (s : State) (e : ErrorIn) : (s.latchError e).transform = s.transform := by unfold State.latchError; split <;> simp
@[simp] theorem State.latchError_cores (s : State) (e : ErrorIn) : (s.latchError e).cores = s.cores := by unfold State.latchError; split <;> simp
@[simp] theorem State.latchError_tiers (s : State) (e : ErrorIn) : (s.latchError e).tiers = s.tiers := by unfold State.latchError; split <;> simp
@[simp] theorem State.latchError_zt (s : State) (e : ErrorIn) : (s.latchError e).zt = s.zt := by unfold State.latchError; split <;> simp
@[simp] theorem State.latchError_coll (s : State) (e : ErrorIn) : (s.latchError e).coll = s.coll := by unfold State.latchError; split <;> simp
@[simp] theorem State.latchError_snap (s : State) (e : ErrorIn) : (s.latchError e).snap = s.snap := by unfold State.latchError; split <;> simp
@[simp] theorem State.latchError_packet (s : State) (e : ErrorIn) : (s.latchError e).packet = s.packet := by unfold State.latchError; split <;> simp
@[simp] theorem State.latchError_storage (s : State) (e : ErrorIn) : (s.latchError e).storage = s.storage := by unfold State.latchError; split <;> simp
@[simp] theorem State.latchError_cabs (s : State) (e : ErrorIn) : (s.latchError e).cabs = s.cabs := by unfold State.latchError; split <;> simp
@[simp] theorem State.latchError_trust (s : State) (e : ErrorIn) : (s.latchError e).trust = s.trust := by unfold State.latchError; split <;> simp
@[simp] theorem State.latchError_energy (s : State) (e : ErrorIn) : (s.latchError e).energy = s.energy := by unfold State.latchError; split <;> simp
@[simp] theorem State.latchError_steral (s : State) (e : ErrorIn) : (s.latchError e).steral = s.steral := by unfold State.latchError; split <;> simp

@[simp] theorem State.note_pending (s : State) (src cause addr master access : Nat) : (s.note src cause addr master access).pending = s.pending := by simp [State.note]
@[simp] theorem State.note_now (s : State) (src cause addr master access : Nat) : (s.note src cause addr master access).now = s.now := by simp [State.note]
@[simp] theorem State.note_fresh (s : State) (src cause addr master access : Nat) : (s.note src cause addr master access).fresh = s.fresh := by simp [State.note]
@[simp] theorem State.note_mem (s : State) (src cause addr master access : Nat) : (s.note src cause addr master access).mem = s.mem := by simp [State.note]
@[simp] theorem State.note_fabric (s : State) (src cause addr master access : Nat) : (s.note src cause addr master access).fabric = s.fabric := by simp [State.note]
@[simp] theorem State.note_contract (s : State) (src cause addr master access : Nat) : (s.note src cause addr master access).contract = s.contract := by simp [State.note]
@[simp] theorem State.note_transform (s : State) (src cause addr master access : Nat) : (s.note src cause addr master access).transform = s.transform := by simp [State.note]
@[simp] theorem State.note_cores (s : State) (src cause addr master access : Nat) : (s.note src cause addr master access).cores = s.cores := by simp [State.note]
@[simp] theorem State.note_tiers (s : State) (src cause addr master access : Nat) : (s.note src cause addr master access).tiers = s.tiers := by simp [State.note]
@[simp] theorem State.note_zt (s : State) (src cause addr master access : Nat) : (s.note src cause addr master access).zt = s.zt := by simp [State.note]
@[simp] theorem State.note_coll (s : State) (src cause addr master access : Nat) : (s.note src cause addr master access).coll = s.coll := by simp [State.note]
@[simp] theorem State.note_snap (s : State) (src cause addr master access : Nat) : (s.note src cause addr master access).snap = s.snap := by simp [State.note]
@[simp] theorem State.note_packet (s : State) (src cause addr master access : Nat) : (s.note src cause addr master access).packet = s.packet := by simp [State.note]
@[simp] theorem State.note_storage (s : State) (src cause addr master access : Nat) : (s.note src cause addr master access).storage = s.storage := by simp [State.note]
@[simp] theorem State.note_cabs (s : State) (src cause addr master access : Nat) : (s.note src cause addr master access).cabs = s.cabs := by simp [State.note]
@[simp] theorem State.note_trust (s : State) (src cause addr master access : Nat) : (s.note src cause addr master access).trust = s.trust := by simp [State.note]
@[simp] theorem State.note_energy (s : State) (src cause addr master access : Nat) : (s.note src cause addr master access).energy = s.energy := by simp [State.note]
@[simp] theorem State.note_steral (s : State) (src cause addr master access : Nat) : (s.note src cause addr master access).steral = s.steral := by simp [State.note]

@[simp] theorem State.trayNotice_pending (s : State) (code src d : Nat) : (s.trayNotice code src d).pending = s.pending := by unfold State.trayNotice; split; rfl; simp [State.setNotice, State.callTray]
@[simp] theorem State.trayNotice_now (s : State) (code src d : Nat) : (s.trayNotice code src d).now = s.now := by unfold State.trayNotice; split; rfl; simp [State.setNotice, State.callTray]
@[simp] theorem State.trayNotice_fresh (s : State) (code src d : Nat) : (s.trayNotice code src d).fresh = s.fresh := by unfold State.trayNotice; split; rfl; simp [State.setNotice, State.callTray]
@[simp] theorem State.trayNotice_mem (s : State) (code src d : Nat) : (s.trayNotice code src d).mem = s.mem := by unfold State.trayNotice; split; rfl; simp [State.setNotice, State.callTray]
@[simp] theorem State.trayNotice_fabric (s : State) (code src d : Nat) : (s.trayNotice code src d).fabric = s.fabric := by unfold State.trayNotice; split; rfl; simp [State.setNotice, State.callTray]
@[simp] theorem State.trayNotice_contract (s : State) (code src d : Nat) : (s.trayNotice code src d).contract = s.contract := by unfold State.trayNotice; split; rfl; simp [State.setNotice, State.callTray]
@[simp] theorem State.trayNotice_transform (s : State) (code src d : Nat) : (s.trayNotice code src d).transform = s.transform := by unfold State.trayNotice; split; rfl; simp [State.setNotice, State.callTray]
@[simp] theorem State.trayNotice_cores (s : State) (code src d : Nat) : (s.trayNotice code src d).cores = s.cores := by unfold State.trayNotice; split; rfl; simp [State.setNotice, State.callTray]
@[simp] theorem State.trayNotice_tiers (s : State) (code src d : Nat) : (s.trayNotice code src d).tiers = s.tiers := by unfold State.trayNotice; split; rfl; simp [State.setNotice, State.callTray]
@[simp] theorem State.trayNotice_zt (s : State) (code src d : Nat) : (s.trayNotice code src d).zt = s.zt := by unfold State.trayNotice; split; rfl; simp [State.setNotice, State.callTray]
@[simp] theorem State.trayNotice_coll (s : State) (code src d : Nat) : (s.trayNotice code src d).coll = s.coll := by unfold State.trayNotice; split; rfl; simp [State.setNotice, State.callTray]
@[simp] theorem State.trayNotice_snap (s : State) (code src d : Nat) : (s.trayNotice code src d).snap = s.snap := by unfold State.trayNotice; split; rfl; simp [State.setNotice, State.callTray]
@[simp] theorem State.trayNotice_packet (s : State) (code src d : Nat) : (s.trayNotice code src d).packet = s.packet := by unfold State.trayNotice; split; rfl; simp [State.setNotice, State.callTray]
@[simp] theorem State.trayNotice_ports (s : State) (code src d : Nat) : (s.trayNotice code src d).ports = s.ports := by unfold State.trayNotice; split; rfl; simp [State.setNotice, State.callTray]
@[simp] theorem State.trayNotice_storage (s : State) (code src d : Nat) : (s.trayNotice code src d).storage = s.storage := by unfold State.trayNotice; split; rfl; simp [State.setNotice, State.callTray]
@[simp] theorem State.trayNotice_cabs (s : State) (code src d : Nat) : (s.trayNotice code src d).cabs = s.cabs := by unfold State.trayNotice; split; rfl; simp [State.setNotice, State.callTray]
@[simp] theorem State.trayNotice_trust (s : State) (code src d : Nat) : (s.trayNotice code src d).trust = s.trust := by unfold State.trayNotice; split; rfl; simp [State.setNotice, State.callTray]
@[simp] theorem State.trayNotice_energy (s : State) (code src d : Nat) : (s.trayNotice code src d).energy = s.energy := by unfold State.trayNotice; split; rfl; simp [State.setNotice, State.callTray]
@[simp] theorem State.trayNotice_steral (s : State) (code src d : Nat) : (s.trayNotice code src d).steral = s.steral := by unfold State.trayNotice; split; rfl; simp [State.setNotice, State.callTray]

@[simp] theorem State.appendUe_pending (s : State) (a : Nat) : (s.appendUe a).pending = s.pending := by simp [State.appendUe]
@[simp] theorem State.appendUe_now (s : State) (a : Nat) : (s.appendUe a).now = s.now := by simp [State.appendUe]
@[simp] theorem State.appendUe_fresh (s : State) (a : Nat) : (s.appendUe a).fresh = s.fresh := by simp [State.appendUe]
@[simp] theorem State.appendUe_mem (s : State) (a : Nat) : (s.appendUe a).mem = s.mem := by simp [State.appendUe]
@[simp] theorem State.appendUe_fabric (s : State) (a : Nat) : (s.appendUe a).fabric = s.fabric := by simp [State.appendUe]
@[simp] theorem State.appendUe_contract (s : State) (a : Nat) : (s.appendUe a).contract = s.contract := by simp [State.appendUe]
@[simp] theorem State.appendUe_transform (s : State) (a : Nat) : (s.appendUe a).transform = s.transform := by simp [State.appendUe]
@[simp] theorem State.appendUe_cores (s : State) (a : Nat) : (s.appendUe a).cores = s.cores := by simp [State.appendUe]
@[simp] theorem State.appendUe_tiers (s : State) (a : Nat) : (s.appendUe a).tiers = s.tiers := by simp [State.appendUe]
@[simp] theorem State.appendUe_zt (s : State) (a : Nat) : (s.appendUe a).zt = s.zt := by simp [State.appendUe]
@[simp] theorem State.appendUe_coll (s : State) (a : Nat) : (s.appendUe a).coll = s.coll := by simp [State.appendUe]
@[simp] theorem State.appendUe_snap (s : State) (a : Nat) : (s.appendUe a).snap = s.snap := by simp [State.appendUe]
@[simp] theorem State.appendUe_packet (s : State) (a : Nat) : (s.appendUe a).packet = s.packet := by simp [State.appendUe]
@[simp] theorem State.appendUe_ports (s : State) (a : Nat) : (s.appendUe a).ports = s.ports := by simp [State.appendUe]
@[simp] theorem State.appendUe_storage (s : State) (a : Nat) : (s.appendUe a).storage = s.storage := by simp [State.appendUe]
@[simp] theorem State.appendUe_cabs (s : State) (a : Nat) : (s.appendUe a).cabs = s.cabs := by simp [State.appendUe]
@[simp] theorem State.appendUe_trust (s : State) (a : Nat) : (s.appendUe a).trust = s.trust := by simp [State.appendUe]
@[simp] theorem State.appendUe_energy (s : State) (a : Nat) : (s.appendUe a).energy = s.energy := by simp [State.appendUe]
@[simp] theorem State.appendUe_faults (s : State) (a : Nat) : (s.appendUe a).faults = s.faults := by simp [State.appendUe]
@[simp] theorem State.appendUe_steral (s : State) (a : Nat) : (s.appendUe a).steral = s.steral := by simp [State.appendUe]
@[simp] theorem State.appendUe_pins (s : State) (a : Nat) : (s.appendUe a).pins = s.pins := by simp [State.appendUe]

@[simp] theorem State.countUe_pending (s : State) (a : Nat) : (s.countUe a).pending = s.pending := by unfold State.countUe; split; simp; split <;> simp
@[simp] theorem State.countUe_now (s : State) (a : Nat) : (s.countUe a).now = s.now := by unfold State.countUe; split; simp; split <;> simp
@[simp] theorem State.countUe_fresh (s : State) (a : Nat) : (s.countUe a).fresh = s.fresh := by unfold State.countUe; split; simp; split <;> simp
@[simp] theorem State.countUe_mem (s : State) (a : Nat) : (s.countUe a).mem = s.mem := by unfold State.countUe; split; simp; split <;> simp
@[simp] theorem State.countUe_fabric (s : State) (a : Nat) : (s.countUe a).fabric = s.fabric := by unfold State.countUe; split; simp; split <;> simp
@[simp] theorem State.countUe_contract (s : State) (a : Nat) : (s.countUe a).contract = s.contract := by unfold State.countUe; split; simp; split <;> simp
@[simp] theorem State.countUe_transform (s : State) (a : Nat) : (s.countUe a).transform = s.transform := by unfold State.countUe; split; simp; split <;> simp
@[simp] theorem State.countUe_cores (s : State) (a : Nat) : (s.countUe a).cores = s.cores := by unfold State.countUe; split; simp; split <;> simp
@[simp] theorem State.countUe_tiers (s : State) (a : Nat) : (s.countUe a).tiers = s.tiers := by unfold State.countUe; split; simp; split <;> simp
@[simp] theorem State.countUe_zt (s : State) (a : Nat) : (s.countUe a).zt = s.zt := by unfold State.countUe; split; simp; split <;> simp
@[simp] theorem State.countUe_coll (s : State) (a : Nat) : (s.countUe a).coll = s.coll := by unfold State.countUe; split; simp; split <;> simp
@[simp] theorem State.countUe_snap (s : State) (a : Nat) : (s.countUe a).snap = s.snap := by unfold State.countUe; split; simp; split <;> simp
@[simp] theorem State.countUe_packet (s : State) (a : Nat) : (s.countUe a).packet = s.packet := by unfold State.countUe; split; simp; split <;> simp
@[simp] theorem State.countUe_ports (s : State) (a : Nat) : (s.countUe a).ports = s.ports := by unfold State.countUe; split; simp; split <;> simp
@[simp] theorem State.countUe_storage (s : State) (a : Nat) : (s.countUe a).storage = s.storage := by unfold State.countUe; split; simp; split <;> simp
@[simp] theorem State.countUe_cabs (s : State) (a : Nat) : (s.countUe a).cabs = s.cabs := by unfold State.countUe; split; simp; split <;> simp
@[simp] theorem State.countUe_trust (s : State) (a : Nat) : (s.countUe a).trust = s.trust := by unfold State.countUe; split; simp; split <;> simp
@[simp] theorem State.countUe_energy (s : State) (a : Nat) : (s.countUe a).energy = s.energy := by unfold State.countUe; split; simp; split <;> simp
@[simp] theorem State.countUe_faults (s : State) (a : Nat) : (s.countUe a).faults = s.faults := by unfold State.countUe; split; simp; split <;> simp
@[simp] theorem State.countUe_steral (s : State) (a : Nat) : (s.countUe a).steral = s.steral := by unfold State.countUe; split; simp; split <;> simp
@[simp] theorem State.countUe_pins (s : State) (a : Nat) : (s.countUe a).pins = s.pins := by unfold State.countUe; split; simp; split <;> simp

@[simp] theorem State.reportUe_pending (s : State) (a m : Nat) : (s.reportUe a m).pending = s.pending := by simp [State.reportUe]
@[simp] theorem State.reportUe_now (s : State) (a m : Nat) : (s.reportUe a m).now = s.now := by simp [State.reportUe]
@[simp] theorem State.reportUe_fresh (s : State) (a m : Nat) : (s.reportUe a m).fresh = s.fresh := by simp [State.reportUe]
@[simp] theorem State.reportUe_mem (s : State) (a m : Nat) : (s.reportUe a m).mem = s.mem := by simp [State.reportUe]
@[simp] theorem State.reportUe_fabric (s : State) (a m : Nat) : (s.reportUe a m).fabric = s.fabric := by simp [State.reportUe]
@[simp] theorem State.reportUe_contract (s : State) (a m : Nat) : (s.reportUe a m).contract = s.contract := by simp [State.reportUe]
@[simp] theorem State.reportUe_transform (s : State) (a m : Nat) : (s.reportUe a m).transform = s.transform := by simp [State.reportUe]
@[simp] theorem State.reportUe_cores (s : State) (a m : Nat) : (s.reportUe a m).cores = s.cores := by simp [State.reportUe]
@[simp] theorem State.reportUe_tiers (s : State) (a m : Nat) : (s.reportUe a m).tiers = s.tiers := by simp [State.reportUe]
@[simp] theorem State.reportUe_zt (s : State) (a m : Nat) : (s.reportUe a m).zt = s.zt := by simp [State.reportUe]
@[simp] theorem State.reportUe_coll (s : State) (a m : Nat) : (s.reportUe a m).coll = s.coll := by simp [State.reportUe]
@[simp] theorem State.reportUe_snap (s : State) (a m : Nat) : (s.reportUe a m).snap = s.snap := by simp [State.reportUe]
@[simp] theorem State.reportUe_packet (s : State) (a m : Nat) : (s.reportUe a m).packet = s.packet := by simp [State.reportUe]
@[simp] theorem State.reportUe_storage (s : State) (a m : Nat) : (s.reportUe a m).storage = s.storage := by simp [State.reportUe]
@[simp] theorem State.reportUe_cabs (s : State) (a m : Nat) : (s.reportUe a m).cabs = s.cabs := by simp [State.reportUe]
@[simp] theorem State.reportUe_trust (s : State) (a m : Nat) : (s.reportUe a m).trust = s.trust := by simp [State.reportUe]
@[simp] theorem State.reportUe_energy (s : State) (a m : Nat) : (s.reportUe a m).energy = s.energy := by simp [State.reportUe]
@[simp] theorem State.reportUe_steral (s : State) (a m : Nat) : (s.reportUe a m).steral = s.steral := by simp [State.reportUe]

theorem bit_eq_testBit (v n : Nat) : bit v n = v.testBit n := by
  rw [Nat.testBit_eq_decide_div_mod_eq]; rfl

/-- A bit that is set reads as set, at every width that holds it. -/
theorem bit_setBit_mod (v n k : Nat) (h : n < k) : bit (setBit v n % 2 ^ k) n = true := by
  rw [bit_eq_testBit, Nat.testBit_mod_two_pow]
  simp only [h, decide_true, Bool.true_and]
  unfold setBit
  split
  · rename_i h; rw [bit_eq_testBit] at h; exact h
  · rename_i h; rw [bit_eq_testBit] at h
    rw [Nat.add_comm, Nat.testBit_two_pow_add_eq]; simpa using h

/-! ### Entries that a raised flag leaves -/

@[simp] theorem State.ent_setFn (s : State) (k : Nat) (g : Function → Function) (c i j : Nat) :
    (s.setFn k g).ent c i j = s.ent c i j := State.ent_congr (by simp) c i j
@[simp] theorem State.ent_sendMsix (s : State) (k v c i j : Nat) :
    (s.sendMsix k v).ent c i j = s.ent c i j := State.ent_congr (by simp) c i j
@[simp] theorem State.ent_raiseEvent (s : State) (k b c i j : Nat) :
    (s.raiseEvent k b).ent c i j = s.ent c i j := State.ent_congr (by simp) c i j
@[simp] theorem State.ent_capture (s : State) (e : ErrorIn) (c i j : Nat) :
    (s.capture e).ent c i j = s.ent c i j := State.ent_congr (by simp) c i j
@[simp] theorem State.ent_refreshFaultN (s : State) (c i j : Nat) :
    s.refreshFaultN.ent c i j = s.ent c i j := State.ent_congr (by simp) c i j

@[simp] theorem State.ent_markMerged (s : State) (n c i j : Nat) :
    (s.markMerged n).ent c i j = s.ent c i j := State.ent_congr (by simp) c i j
@[simp] theorem State.ent_latchNotice (s : State) (o b c i j : Nat) :
    (s.latchNotice o b).ent c i j = s.ent c i j := State.ent_congr (by simp) c i j

/-- A merged error changes no entry but the count of merges that did not fit. -/
theorem State.ent_mergeError (s : State) (e : ErrorIn) (c i j : Nat) (h : canonEntry c i j ≠ canonEntry 0 0x2F02 2) :
    (s.mergeError e).ent c i j = s.ent c i j := by
  simp only [State.mergeError, State.ent_markMerged]
  unfold State.countMerged
  split
  · split
    · rfl
    · exact State.ent_bumpEnt_ne _ _ _ _ _ _ _ _ h
  · rfl

theorem State.ent_latchRecord (s : State) (m : Bool) (e : ErrorIn) (c i j : Nat)
    (h : canonEntry c i j ≠ canonEntry 0 0x2F02 2) : (s.latchRecord m e).ent c i j = s.ent c i j := by
  unfold State.latchRecord
  split
  · exact State.ent_mergeError _ _ _ _ _ h
  · exact State.ent_capture _ _ _ _ _

/-- A latched error changes no entry but the status word, the first source and the count of merges that did not fit. -/
theorem State.ent_latchError (s : State) (e : ErrorIn) (c i j : Nat)
    (h0 : canonEntry c i j ≠ canonEntry 0 0x2F00 0) (h3 : canonEntry c i j ≠ canonEntry 0 0x2F00 3)
    (h2 : canonEntry c i j ≠ canonEntry 0 0x2F02 2) : (s.latchError e).ent c i j = s.ent c i j := by
  unfold State.latchError
  split
  · rfl
  · simp only [State.ent_refreshFaultN, State.ent_latchNotice, State.ent_latchRecord _ _ _ _ _ _ h2]
    unfold State.latchBit
    simp only
    split <;> simp [State.ent_putEnt_ne _ _ _ _ _ _ _ _ h0, State.ent_putEnt_ne _ _ _ _ _ _ _ _ h3]

/-- A latched error of a source that exists sets its bit of the status word and no other (R595). -/
theorem State.status_latchError (s : State) (e : ErrorIn) (h : sourceDefined e.source = true) :
    (s.latchError e).ent 0 0x2F00 0 = setBit (s.ent 0 0x2F00 0) (faultBit e) % 2 ^ 64 := by
  have hz : (8 * entrySize 0x2F00 0) = 64 := by decide
  have h3 : canonEntry 0 0x2F00 0 ≠ canonEntry 0 0x2F00 3 := by decide
  have h2 : canonEntry 0 0x2F00 0 ≠ canonEntry 0 0x2F02 2 := by decide
  unfold State.latchError
  simp only [h, Bool.not_true, Bool.false_eq_true, if_false, State.ent_refreshFaultN, State.ent_latchNotice,
    State.ent_latchRecord _ _ _ _ _ _ h2]
  unfold State.latchBit
  simp only
  split
  · rw [State.ent_putEnt_ne _ _ _ _ _ _ _ _ h3, State.ent_putEnt, hz]
  · rw [State.ent_putEnt, hz]

/-- A note changes no entry but the status word, the first source and the count of merges that did not fit. -/
theorem State.ent_note (s : State) (src cause addr master access c i j : Nat)
    (h0 : canonEntry c i j ≠ canonEntry 0 0x2F00 0) (h3 : canonEntry c i j ≠ canonEntry 0 0x2F00 3)
    (h2 : canonEntry c i j ≠ canonEntry 0 0x2F02 2) :
    (s.note src cause addr master access).ent c i j = s.ent c i j := State.ent_latchError _ _ _ _ _ h0 h3 h2

/-- A note of a source that exists sets the source's non-fatal bit of the status word and no other (R595). -/
theorem State.status_note (s : State) (src cause addr master access : Nat) (h : src < 26) :
    (s.note src cause addr master access).ent 0 0x2F00 0 = setBit (s.ent 0 0x2F00 0) src % 2 ^ 64 := by
  unfold State.note
  rw [State.status_latchError _ _ (by simp [sourceDefined, nonFatal, h])]
  rfl

end Sys2Proof.Machine
end

