-- ==== Sys2Proof/Laws/Access.lean ====
section
/-! SUPPORT. What a store to cabinet memory and a signal on a sync object leave unchanged. -/

namespace Sys2Proof.Machine

/-- What every step of a fold keeps, the fold keeps. -/
theorem foldl_keeps {α β γ : Type} (F : α → γ) (g : α → β → α) (l : List β) (s : α) (h : ∀ s b, F (g s b) = F s) :
    F (l.foldl g s) = F s := by
  induction l generalizing s with
  | nil => rfl
  | cons b r ih => rw [List.foldl_cons, ih, h]

/-! ### Fields that a store or a signal leaves -/

@[simp] theorem State.markDirty_pending (s : State) (d n : Nat) : (s.markDirty d n).pending = s.pending := rfl
@[simp] theorem State.markDirty_now (s : State) (d n : Nat) : (s.markDirty d n).now = s.now := rfl
@[simp] theorem State.markDirty_fresh (s : State) (d n : Nat) : (s.markDirty d n).fresh = s.fresh := rfl
@[simp] theorem State.markDirty_dict (s : State) (d n : Nat) : (s.markDirty d n).dict = s.dict := rfl
@[simp] theorem State.markDirty_mem (s : State) (d n : Nat) : (s.markDirty d n).mem = s.mem := rfl
@[simp] theorem State.markDirty_fabric (s : State) (d n : Nat) : (s.markDirty d n).fabric = s.fabric := rfl
@[simp] theorem State.markDirty_contract (s : State) (d n : Nat) : (s.markDirty d n).contract = s.contract := rfl
@[simp] theorem State.markDirty_transform (s : State) (d n : Nat) : (s.markDirty d n).transform = s.transform := rfl
@[simp] theorem State.markDirty_cores (s : State) (d n : Nat) : (s.markDirty d n).cores = s.cores := rfl
@[simp] theorem State.markDirty_tiers (s : State) (d n : Nat) : (s.markDirty d n).tiers = s.tiers := rfl
@[simp] theorem State.markDirty_zt (s : State) (d n : Nat) : (s.markDirty d n).zt = s.zt := rfl
@[simp] theorem State.markDirty_coll (s : State) (d n : Nat) : (s.markDirty d n).coll = s.coll := rfl
@[simp] theorem State.markDirty_packet (s : State) (d n : Nat) : (s.markDirty d n).packet = s.packet := rfl
@[simp] theorem State.markDirty_ports (s : State) (d n : Nat) : (s.markDirty d n).ports = s.ports := rfl
@[simp] theorem State.markDirty_storage (s : State) (d n : Nat) : (s.markDirty d n).storage = s.storage := rfl
@[simp] theorem State.markDirty_cabs (s : State) (d n : Nat) : (s.markDirty d n).cabs = s.cabs := rfl
@[simp] theorem State.markDirty_trust (s : State) (d n : Nat) : (s.markDirty d n).trust = s.trust := rfl
@[simp] theorem State.markDirty_energy (s : State) (d n : Nat) : (s.markDirty d n).energy = s.energy := rfl
@[simp] theorem State.markDirty_faults (s : State) (d n : Nat) : (s.markDirty d n).faults = s.faults := rfl
@[simp] theorem State.markDirty_steral (s : State) (d n : Nat) : (s.markDirty d n).steral = s.steral := rfl
@[simp] theorem State.markDirty_pins (s : State) (d n : Nat) : (s.markDirty d n).pins = s.pins := rfl

@[simp] theorem State.store_pending (s : State) (d : Nat) (bs : Bytes) : (s.store d bs).pending = s.pending := by simp [State.store]
@[simp] theorem State.store_now (s : State) (d : Nat) (bs : Bytes) : (s.store d bs).now = s.now := by simp [State.store]
@[simp] theorem State.store_fresh (s : State) (d : Nat) (bs : Bytes) : (s.store d bs).fresh = s.fresh := by simp [State.store]
@[simp] theorem State.store_dict (s : State) (d : Nat) (bs : Bytes) : (s.store d bs).dict = s.dict := by simp [State.store]
@[simp] theorem State.store_fabric (s : State) (d : Nat) (bs : Bytes) : (s.store d bs).fabric = s.fabric := by simp [State.store]
@[simp] theorem State.store_contract (s : State) (d : Nat) (bs : Bytes) : (s.store d bs).contract = s.contract := by simp [State.store]
@[simp] theorem State.store_transform (s : State) (d : Nat) (bs : Bytes) : (s.store d bs).transform = s.transform := by simp [State.store]
@[simp] theorem State.store_cores (s : State) (d : Nat) (bs : Bytes) : (s.store d bs).cores = s.cores := by simp [State.store]
@[simp] theorem State.store_zt (s : State) (d : Nat) (bs : Bytes) : (s.store d bs).zt = s.zt := by simp [State.store]
@[simp] theorem State.store_coll (s : State) (d : Nat) (bs : Bytes) : (s.store d bs).coll = s.coll := by simp [State.store]
@[simp] theorem State.store_packet (s : State) (d : Nat) (bs : Bytes) : (s.store d bs).packet = s.packet := by simp [State.store]
@[simp] theorem State.store_ports (s : State) (d : Nat) (bs : Bytes) : (s.store d bs).ports = s.ports := by simp [State.store]
@[simp] theorem State.store_storage (s : State) (d : Nat) (bs : Bytes) : (s.store d bs).storage = s.storage := by simp [State.store]
@[simp] theorem State.store_cabs (s : State) (d : Nat) (bs : Bytes) : (s.store d bs).cabs = s.cabs := by simp [State.store]
@[simp] theorem State.store_trust (s : State) (d : Nat) (bs : Bytes) : (s.store d bs).trust = s.trust := by simp [State.store]
@[simp] theorem State.store_energy (s : State) (d : Nat) (bs : Bytes) : (s.store d bs).energy = s.energy := by simp [State.store]
@[simp] theorem State.store_faults (s : State) (d : Nat) (bs : Bytes) : (s.store d bs).faults = s.faults := by simp [State.store]
@[simp] theorem State.store_steral (s : State) (d : Nat) (bs : Bytes) : (s.store d bs).steral = s.steral := by simp [State.store]
@[simp] theorem State.store_pins (s : State) (d : Nat) (bs : Bytes) : (s.store d bs).pins = s.pins := by simp [State.store]

@[simp] theorem State.storePieces_pending (s : State) (ps : List (Nat × Nat)) (bs : Bytes) : (s.storePieces ps bs).pending = s.pending := by
  induction ps generalizing s bs with
  | nil => rfl
  | cons p r ih => obtain ⟨d, n⟩ := p; simp [State.storePieces, ih]
@[simp] theorem State.storePieces_now (s : State) (ps : List (Nat × Nat)) (bs : Bytes) : (s.storePieces ps bs).now = s.now := by
  induction ps generalizing s bs with
  | nil => rfl
  | cons p r ih => obtain ⟨d, n⟩ := p; simp [State.storePieces, ih]
@[simp] theorem State.storePieces_fresh (s : State) (ps : List (Nat × Nat)) (bs : Bytes) : (s.storePieces ps bs).fresh = s.fresh := by
  induction ps generalizing s bs with
  | nil => rfl
  | cons p r ih => obtain ⟨d, n⟩ := p; simp [State.storePieces, ih]
@[simp] theorem State.storePieces_dict (s : State) (ps : List (Nat × Nat)) (bs : Bytes) : (s.storePieces ps bs).dict = s.dict := by
  induction ps generalizing s bs with
  | nil => rfl
  | cons p r ih => obtain ⟨d, n⟩ := p; simp [State.storePieces, ih]
@[simp] theorem State.storePieces_fabric (s : State) (ps : List (Nat × Nat)) (bs : Bytes) : (s.storePieces ps bs).fabric = s.fabric := by
  induction ps generalizing s bs with
  | nil => rfl
  | cons p r ih => obtain ⟨d, n⟩ := p; simp [State.storePieces, ih]
@[simp] theorem State.storePieces_contract (s : State) (ps : List (Nat × Nat)) (bs : Bytes) : (s.storePieces ps bs).contract = s.contract := by
  induction ps generalizing s bs with
  | nil => rfl
  | cons p r ih => obtain ⟨d, n⟩ := p; simp [State.storePieces, ih]
@[simp] theorem State.storePieces_transform (s : State) (ps : List (Nat × Nat)) (bs : Bytes) : (s.storePieces ps bs).transform = s.transform := by
  induction ps generalizing s bs with
  | nil => rfl
  | cons p r ih => obtain ⟨d, n⟩ := p; simp [State.storePieces, ih]
@[simp] theorem State.storePieces_cores (s : State) (ps : List (Nat × Nat)) (bs : Bytes) : (s.storePieces ps bs).cores = s.cores := by
  induction ps generalizing s bs with
  | nil => rfl
  | cons p r ih => obtain ⟨d, n⟩ := p; simp [State.storePieces, ih]
@[simp] theorem State.storePieces_zt (s : State) (ps : List (Nat × Nat)) (bs : Bytes) : (s.storePieces ps bs).zt = s.zt := by
  induction ps generalizing s bs with
  | nil => rfl
  | cons p r ih => obtain ⟨d, n⟩ := p; simp [State.storePieces, ih]
@[simp] theorem State.storePieces_coll (s : State) (ps : List (Nat × Nat)) (bs : Bytes) : (s.storePieces ps bs).coll = s.coll := by
  induction ps generalizing s bs with
  | nil => rfl
  | cons p r ih => obtain ⟨d, n⟩ := p; simp [State.storePieces, ih]
@[simp] theorem State.storePieces_packet (s : State) (ps : List (Nat × Nat)) (bs : Bytes) : (s.storePieces ps bs).packet = s.packet := by
  induction ps generalizing s bs with
  | nil => rfl
  | cons p r ih => obtain ⟨d, n⟩ := p; simp [State.storePieces, ih]
@[simp] theorem State.storePieces_ports (s : State) (ps : List (Nat × Nat)) (bs : Bytes) : (s.storePieces ps bs).ports = s.ports := by
  induction ps generalizing s bs with
  | nil => rfl
  | cons p r ih => obtain ⟨d, n⟩ := p; simp [State.storePieces, ih]
@[simp] theorem State.storePieces_storage (s : State) (ps : List (Nat × Nat)) (bs : Bytes) : (s.storePieces ps bs).storage = s.storage := by
  induction ps generalizing s bs with
  | nil => rfl
  | cons p r ih => obtain ⟨d, n⟩ := p; simp [State.storePieces, ih]
@[simp] theorem State.storePieces_cabs (s : State) (ps : List (Nat × Nat)) (bs : Bytes) : (s.storePieces ps bs).cabs = s.cabs := by
  induction ps generalizing s bs with
  | nil => rfl
  | cons p r ih => obtain ⟨d, n⟩ := p; simp [State.storePieces, ih]
@[simp] theorem State.storePieces_trust (s : State) (ps : List (Nat × Nat)) (bs : Bytes) : (s.storePieces ps bs).trust = s.trust := by
  induction ps generalizing s bs with
  | nil => rfl
  | cons p r ih => obtain ⟨d, n⟩ := p; simp [State.storePieces, ih]
@[simp] theorem State.storePieces_energy (s : State) (ps : List (Nat × Nat)) (bs : Bytes) : (s.storePieces ps bs).energy = s.energy := by
  induction ps generalizing s bs with
  | nil => rfl
  | cons p r ih => obtain ⟨d, n⟩ := p; simp [State.storePieces, ih]
@[simp] theorem State.storePieces_faults (s : State) (ps : List (Nat × Nat)) (bs : Bytes) : (s.storePieces ps bs).faults = s.faults := by
  induction ps generalizing s bs with
  | nil => rfl
  | cons p r ih => obtain ⟨d, n⟩ := p; simp [State.storePieces, ih]
@[simp] theorem State.storePieces_steral (s : State) (ps : List (Nat × Nat)) (bs : Bytes) : (s.storePieces ps bs).steral = s.steral := by
  induction ps generalizing s bs with
  | nil => rfl
  | cons p r ih => obtain ⟨d, n⟩ := p; simp [State.storePieces, ih]
@[simp] theorem State.storePieces_pins (s : State) (ps : List (Nat × Nat)) (bs : Bytes) : (s.storePieces ps bs).pins = s.pins := by
  induction ps generalizing s bs with
  | nil => rfl
  | cons p r ih => obtain ⟨d, n⟩ := p; simp [State.storePieces, ih]

@[simp] theorem State.logWrite_pending (s : State) (c a n : Nat) : (s.logWrite c a n).pending = s.pending := by
  unfold State.logWrite; split
  · rfl
  · exact foldl_keeps State.pending _ _ _ fun s g => by simp only []; split; split <;> simp; rfl
@[simp] theorem State.logWrite_now (s : State) (c a n : Nat) : (s.logWrite c a n).now = s.now := by
  unfold State.logWrite; split
  · rfl
  · exact foldl_keeps State.now _ _ _ fun s g => by simp only []; split; split <;> simp; rfl
@[simp] theorem State.logWrite_fresh (s : State) (c a n : Nat) : (s.logWrite c a n).fresh = s.fresh := by
  unfold State.logWrite; split
  · rfl
  · exact foldl_keeps State.fresh _ _ _ fun s g => by simp only []; split; split <;> simp; rfl
@[simp] theorem State.logWrite_dict (s : State) (c a n : Nat) : (s.logWrite c a n).dict = s.dict := by
  unfold State.logWrite; split
  · rfl
  · exact foldl_keeps State.dict _ _ _ fun s g => by simp only []; split; split <;> simp; rfl
@[simp] theorem State.logWrite_fabric (s : State) (c a n : Nat) : (s.logWrite c a n).fabric = s.fabric := by
  unfold State.logWrite; split
  · rfl
  · exact foldl_keeps State.fabric _ _ _ fun s g => by simp only []; split; split <;> simp; rfl
@[simp] theorem State.logWrite_contract (s : State) (c a n : Nat) : (s.logWrite c a n).contract = s.contract := by
  unfold State.logWrite; split
  · rfl
  · exact foldl_keeps State.contract _ _ _ fun s g => by simp only []; split; split <;> simp; rfl
@[simp] theorem State.logWrite_transform (s : State) (c a n : Nat) : (s.logWrite c a n).transform = s.transform := by
  unfold State.logWrite; split
  · rfl
  · exact foldl_keeps State.transform _ _ _ fun s g => by simp only []; split; split <;> simp; rfl
@[simp] theorem State.logWrite_cores (s : State) (c a n : Nat) : (s.logWrite c a n).cores = s.cores := by
  unfold State.logWrite; split
  · rfl
  · exact foldl_keeps State.cores _ _ _ fun s g => by simp only []; split; split <;> simp; rfl
@[simp] theorem State.logWrite_zt (s : State) (c a n : Nat) : (s.logWrite c a n).zt = s.zt := by
  unfold State.logWrite; split
  · rfl
  · exact foldl_keeps State.zt _ _ _ fun s g => by simp only []; split; split <;> simp; rfl
@[simp] theorem State.logWrite_coll (s : State) (c a n : Nat) : (s.logWrite c a n).coll = s.coll := by
  unfold State.logWrite; split
  · rfl
  · exact foldl_keeps State.coll _ _ _ fun s g => by simp only []; split; split <;> simp; rfl
@[simp] theorem State.logWrite_snap (s : State) (c a n : Nat) : (s.logWrite c a n).snap = s.snap := by
  unfold State.logWrite; split
  · rfl
  · exact foldl_keeps State.snap _ _ _ fun s g => by simp only []; split; split <;> simp; rfl
@[simp] theorem State.logWrite_packet (s : State) (c a n : Nat) : (s.logWrite c a n).packet = s.packet := by
  unfold State.logWrite; split
  · rfl
  · exact foldl_keeps State.packet _ _ _ fun s g => by simp only []; split; split <;> simp; rfl
@[simp] theorem State.logWrite_ports (s : State) (c a n : Nat) : (s.logWrite c a n).ports = s.ports := by
  unfold State.logWrite; split
  · rfl
  · exact foldl_keeps State.ports _ _ _ fun s g => by simp only []; split; split <;> simp; rfl
@[simp] theorem State.logWrite_storage (s : State) (c a n : Nat) : (s.logWrite c a n).storage = s.storage := by
  unfold State.logWrite; split
  · rfl
  · exact foldl_keeps State.storage _ _ _ fun s g => by simp only []; split; split <;> simp; rfl
@[simp] theorem State.logWrite_cabs (s : State) (c a n : Nat) : (s.logWrite c a n).cabs = s.cabs := by
  unfold State.logWrite; split
  · rfl
  · exact foldl_keeps State.cabs _ _ _ fun s g => by simp only []; split; split <;> simp; rfl
@[simp] theorem State.logWrite_trust (s : State) (c a n : Nat) : (s.logWrite c a n).trust = s.trust := by
  unfold State.logWrite; split
  · rfl
  · exact foldl_keeps State.trust _ _ _ fun s g => by simp only []; split; split <;> simp; rfl
@[simp] theorem State.logWrite_energy (s : State) (c a n : Nat) : (s.logWrite c a n).energy = s.energy := by
  unfold State.logWrite; split
  · rfl
  · exact foldl_keeps State.energy _ _ _ fun s g => by simp only []; split; split <;> simp; rfl
@[simp] theorem State.logWrite_faults (s : State) (c a n : Nat) : (s.logWrite c a n).faults = s.faults := by
  unfold State.logWrite; split
  · rfl
  · exact foldl_keeps State.faults _ _ _ fun s g => by simp only []; split; split <;> simp; rfl
@[simp] theorem State.logWrite_steral (s : State) (c a n : Nat) : (s.logWrite c a n).steral = s.steral := by
  unfold State.logWrite; split
  · rfl
  · exact foldl_keeps State.steral _ _ _ fun s g => by simp only []; split; split <;> simp; rfl
@[simp] theorem State.logWrite_pins (s : State) (c a n : Nat) : (s.logWrite c a n).pins = s.pins := by
  unfold State.logWrite; split
  · rfl
  · exact foldl_keeps State.pins _ _ _ fun s g => by simp only []; split; split <;> simp; rfl

@[simp] theorem State.putCab_pending (s : State) (c a : Nat) (bs : Bytes) : (s.putCab c a bs).pending = s.pending := by unfold State.putCab; split <;> simp
@[simp] theorem State.putCab_now (s : State) (c a : Nat) (bs : Bytes) : (s.putCab c a bs).now = s.now := by unfold State.putCab; split <;> simp
@[simp] theorem State.putCab_fresh (s : State) (c a : Nat) (bs : Bytes) : (s.putCab c a bs).fresh = s.fresh := by unfold State.putCab; split <;> simp
@[simp] theorem State.putCab_dict (s : State) (c a : Nat) (bs : Bytes) : (s.putCab c a bs).dict = s.dict := by unfold State.putCab; split <;> simp
@[simp] theorem State.putCab_fabric (s : State) (c a : Nat) (bs : Bytes) : (s.putCab c a bs).fabric = s.fabric := by unfold State.putCab; split <;> simp
@[simp] theorem State.putCab_contract (s : State) (c a : Nat) (bs : Bytes) : (s.putCab c a bs).contract = s.contract := by unfold State.putCab; split <;> simp
@[simp] theorem State.putCab_transform (s : State) (c a : Nat) (bs : Bytes) : (s.putCab c a bs).transform = s.transform := by unfold State.putCab; split <;> simp
@[simp] theorem State.putCab_cores (s : State) (c a : Nat) (bs : Bytes) : (s.putCab c a bs).cores = s.cores := by unfold State.putCab; split <;> simp
@[simp] theorem State.putCab_zt (s : State) (c a : Nat) (bs : Bytes) : (s.putCab c a bs).zt = s.zt := by unfold State.putCab; split <;> simp
@[simp] theorem State.putCab_coll (s : State) (c a : Nat) (bs : Bytes) : (s.putCab c a bs).coll = s.coll := by unfold State.putCab; split <;> simp
@[simp] theorem State.putCab_packet (s : State) (c a : Nat) (bs : Bytes) : (s.putCab c a bs).packet = s.packet := by unfold State.putCab; split <;> simp
@[simp] theorem State.putCab_ports (s : State) (c a : Nat) (bs : Bytes) : (s.putCab c a bs).ports = s.ports := by unfold State.putCab; split <;> simp
@[simp] theorem State.putCab_storage (s : State) (c a : Nat) (bs : Bytes) : (s.putCab c a bs).storage = s.storage := by unfold State.putCab; split <;> simp
@[simp] theorem State.putCab_cabs (s : State) (c a : Nat) (bs : Bytes) : (s.putCab c a bs).cabs = s.cabs := by unfold State.putCab; split <;> simp
@[simp] theorem State.putCab_trust (s : State) (c a : Nat) (bs : Bytes) : (s.putCab c a bs).trust = s.trust := by unfold State.putCab; split <;> simp
@[simp] theorem State.putCab_energy (s : State) (c a : Nat) (bs : Bytes) : (s.putCab c a bs).energy = s.energy := by unfold State.putCab; split <;> simp
@[simp] theorem State.putCab_faults (s : State) (c a : Nat) (bs : Bytes) : (s.putCab c a bs).faults = s.faults := by unfold State.putCab; split <;> simp
@[simp] theorem State.putCab_steral (s : State) (c a : Nat) (bs : Bytes) : (s.putCab c a bs).steral = s.steral := by unfold State.putCab; split <;> simp
@[simp] theorem State.putCab_pins (s : State) (c a : Nat) (bs : Bytes) : (s.putCab c a bs).pins = s.pins := by unfold State.putCab; split <;> simp

@[simp] theorem State.noteChange_pending (s : State) (c : Nat) : (s.noteChange c).pending = s.pending := by unfold State.noteChange; split; rfl; split <;> simp
@[simp] theorem State.noteChange_now (s : State) (c : Nat) : (s.noteChange c).now = s.now := by unfold State.noteChange; split; rfl; split <;> simp
@[simp] theorem State.noteChange_fresh (s : State) (c : Nat) : (s.noteChange c).fresh = s.fresh := by unfold State.noteChange; split; rfl; split <;> simp
@[simp] theorem State.noteChange_mem (s : State) (c : Nat) : (s.noteChange c).mem = s.mem := by unfold State.noteChange; split; rfl; split <;> simp
@[simp] theorem State.noteChange_fabric (s : State) (c : Nat) : (s.noteChange c).fabric = s.fabric := by unfold State.noteChange; split; rfl; split <;> simp
@[simp] theorem State.noteChange_contract (s : State) (c : Nat) : (s.noteChange c).contract = s.contract := by unfold State.noteChange; split; rfl; split <;> simp
@[simp] theorem State.noteChange_transform (s : State) (c : Nat) : (s.noteChange c).transform = s.transform := by unfold State.noteChange; split; rfl; split <;> simp
@[simp] theorem State.noteChange_cores (s : State) (c : Nat) : (s.noteChange c).cores = s.cores := by unfold State.noteChange; split; rfl; split <;> simp
@[simp] theorem State.noteChange_tiers (s : State) (c : Nat) : (s.noteChange c).tiers = s.tiers := by unfold State.noteChange; split; rfl; split <;> simp
@[simp] theorem State.noteChange_zt (s : State) (c : Nat) : (s.noteChange c).zt = s.zt := by unfold State.noteChange; split; rfl; split <;> simp
@[simp] theorem State.noteChange_coll (s : State) (c : Nat) : (s.noteChange c).coll = s.coll := by unfold State.noteChange; split; rfl; split <;> simp
@[simp] theorem State.noteChange_snap (s : State) (c : Nat) : (s.noteChange c).snap = s.snap := by unfold State.noteChange; split; rfl; split <;> simp
@[simp] theorem State.noteChange_packet (s : State) (c : Nat) : (s.noteChange c).packet = s.packet := by unfold State.noteChange; split; rfl; split <;> simp
@[simp] theorem State.noteChange_ports (s : State) (c : Nat) : (s.noteChange c).ports = s.ports := by unfold State.noteChange; split; rfl; split <;> simp
@[simp] theorem State.noteChange_storage (s : State) (c : Nat) : (s.noteChange c).storage = s.storage := by unfold State.noteChange; split; rfl; split <;> simp
@[simp] theorem State.noteChange_cabs (s : State) (c : Nat) : (s.noteChange c).cabs = s.cabs := by unfold State.noteChange; split; rfl; split <;> simp
@[simp] theorem State.noteChange_trust (s : State) (c : Nat) : (s.noteChange c).trust = s.trust := by unfold State.noteChange; split; rfl; split <;> simp
@[simp] theorem State.noteChange_energy (s : State) (c : Nat) : (s.noteChange c).energy = s.energy := by unfold State.noteChange; split; rfl; split <;> simp
@[simp] theorem State.noteChange_faults (s : State) (c : Nat) : (s.noteChange c).faults = s.faults := by unfold State.noteChange; split; rfl; split <;> simp
@[simp] theorem State.noteChange_steral (s : State) (c : Nat) : (s.noteChange c).steral = s.steral := by unfold State.noteChange; split; rfl; split <;> simp
@[simp] theorem State.noteChange_pins (s : State) (c : Nat) : (s.noteChange c).pins = s.pins := by unfold State.noteChange; split; rfl; split <;> simp

@[simp] theorem State.writeMirror_pending (s : State) (o : SyncObj) : (s.writeMirror o).pending = s.pending := by
  unfold State.writeMirror; split; rfl; split; simp; split <;> simp
@[simp] theorem State.writeMirror_now (s : State) (o : SyncObj) : (s.writeMirror o).now = s.now := by
  unfold State.writeMirror; split; rfl; split; simp; split <;> simp
@[simp] theorem State.writeMirror_fresh (s : State) (o : SyncObj) : (s.writeMirror o).fresh = s.fresh := by
  unfold State.writeMirror; split; rfl; split; simp; split <;> simp
@[simp] theorem State.writeMirror_fabric (s : State) (o : SyncObj) : (s.writeMirror o).fabric = s.fabric := by
  unfold State.writeMirror; split; rfl; split; simp; split <;> simp
@[simp] theorem State.writeMirror_transform (s : State) (o : SyncObj) : (s.writeMirror o).transform = s.transform := by
  unfold State.writeMirror; split; rfl; split; simp; split <;> simp
@[simp] theorem State.writeMirror_cores (s : State) (o : SyncObj) : (s.writeMirror o).cores = s.cores := by
  unfold State.writeMirror; split; rfl; split; simp; split <;> simp
@[simp] theorem State.writeMirror_zt (s : State) (o : SyncObj) : (s.writeMirror o).zt = s.zt := by
  unfold State.writeMirror; split; rfl; split; simp; split <;> simp
@[simp] theorem State.writeMirror_coll (s : State) (o : SyncObj) : (s.writeMirror o).coll = s.coll := by
  unfold State.writeMirror; split; rfl; split; simp; split <;> simp
@[simp] theorem State.writeMirror_packet (s : State) (o : SyncObj) : (s.writeMirror o).packet = s.packet := by
  unfold State.writeMirror; split; rfl; split; simp; split <;> simp
@[simp] theorem State.writeMirror_storage (s : State) (o : SyncObj) : (s.writeMirror o).storage = s.storage := by
  unfold State.writeMirror; split; rfl; split; simp; split <;> simp
@[simp] theorem State.writeMirror_cabs (s : State) (o : SyncObj) : (s.writeMirror o).cabs = s.cabs := by
  unfold State.writeMirror; split; rfl; split; simp; split <;> simp
@[simp] theorem State.writeMirror_trust (s : State) (o : SyncObj) : (s.writeMirror o).trust = s.trust := by
  unfold State.writeMirror; split; rfl; split; simp; split <;> simp
@[simp] theorem State.writeMirror_energy (s : State) (o : SyncObj) : (s.writeMirror o).energy = s.energy := by
  unfold State.writeMirror; split; rfl; split; simp; split <;> simp
@[simp] theorem State.writeMirror_steral (s : State) (o : SyncObj) : (s.writeMirror o).steral = s.steral := by
  unfold State.writeMirror; split; rfl; split; simp; split <;> simp

@[simp] theorem State.judgeHead_pending (s : State) (q : Nat) : (s.judgeHead q).pending = s.pending := by
  unfold State.judgeHead; split; rfl; split; rfl; split; rfl; rfl; split; rfl; rfl
@[simp] theorem State.judgeHead_now (s : State) (q : Nat) : (s.judgeHead q).now = s.now := by
  unfold State.judgeHead; split; rfl; split; rfl; split; rfl; rfl; split; rfl; rfl
@[simp] theorem State.judgeHead_fresh (s : State) (q : Nat) : (s.judgeHead q).fresh = s.fresh := by
  unfold State.judgeHead; split; rfl; split; rfl; split; rfl; rfl; split; rfl; rfl
@[simp] theorem State.judgeHead_dict (s : State) (q : Nat) : (s.judgeHead q).dict = s.dict := by
  unfold State.judgeHead; split; rfl; split; rfl; split; rfl; rfl; split; rfl; rfl
@[simp] theorem State.judgeHead_mem (s : State) (q : Nat) : (s.judgeHead q).mem = s.mem := by
  unfold State.judgeHead; split; rfl; split; rfl; split; rfl; rfl; split; rfl; rfl
@[simp] theorem State.judgeHead_fabric (s : State) (q : Nat) : (s.judgeHead q).fabric = s.fabric := by
  unfold State.judgeHead; split; rfl; split; rfl; split; rfl; rfl; split; rfl; rfl
@[simp] theorem State.judgeHead_transform (s : State) (q : Nat) : (s.judgeHead q).transform = s.transform := by
  unfold State.judgeHead; split; rfl; split; rfl; split; rfl; rfl; split; rfl; rfl
@[simp] theorem State.judgeHead_cores (s : State) (q : Nat) : (s.judgeHead q).cores = s.cores := by
  unfold State.judgeHead; split; rfl; split; rfl; split; rfl; rfl; split; rfl; rfl
@[simp] theorem State.judgeHead_tiers (s : State) (q : Nat) : (s.judgeHead q).tiers = s.tiers := by
  unfold State.judgeHead; split; rfl; split; rfl; split; rfl; rfl; split; rfl; rfl
@[simp] theorem State.judgeHead_zt (s : State) (q : Nat) : (s.judgeHead q).zt = s.zt := by
  unfold State.judgeHead; split; rfl; split; rfl; split; rfl; rfl; split; rfl; rfl
@[simp] theorem State.judgeHead_coll (s : State) (q : Nat) : (s.judgeHead q).coll = s.coll := by
  unfold State.judgeHead; split; rfl; split; rfl; split; rfl; rfl; split; rfl; rfl
@[simp] theorem State.judgeHead_snap (s : State) (q : Nat) : (s.judgeHead q).snap = s.snap := by
  unfold State.judgeHead; split; rfl; split; rfl; split; rfl; rfl; split; rfl; rfl
@[simp] theorem State.judgeHead_packet (s : State) (q : Nat) : (s.judgeHead q).packet = s.packet := by
  unfold State.judgeHead; split; rfl; split; rfl; split; rfl; rfl; split; rfl; rfl
@[simp] theorem State.judgeHead_ports (s : State) (q : Nat) : (s.judgeHead q).ports = s.ports := by
  unfold State.judgeHead; split; rfl; split; rfl; split; rfl; rfl; split; rfl; rfl
@[simp] theorem State.judgeHead_storage (s : State) (q : Nat) : (s.judgeHead q).storage = s.storage := by
  unfold State.judgeHead; split; rfl; split; rfl; split; rfl; rfl; split; rfl; rfl
@[simp] theorem State.judgeHead_cabs (s : State) (q : Nat) : (s.judgeHead q).cabs = s.cabs := by
  unfold State.judgeHead; split; rfl; split; rfl; split; rfl; rfl; split; rfl; rfl
@[simp] theorem State.judgeHead_trust (s : State) (q : Nat) : (s.judgeHead q).trust = s.trust := by
  unfold State.judgeHead; split; rfl; split; rfl; split; rfl; rfl; split; rfl; rfl
@[simp] theorem State.judgeHead_energy (s : State) (q : Nat) : (s.judgeHead q).energy = s.energy := by
  unfold State.judgeHead; split; rfl; split; rfl; split; rfl; rfl; split; rfl; rfl
@[simp] theorem State.judgeHead_faults (s : State) (q : Nat) : (s.judgeHead q).faults = s.faults := by
  unfold State.judgeHead; split; rfl; split; rfl; split; rfl; rfl; split; rfl; rfl
@[simp] theorem State.judgeHead_steral (s : State) (q : Nat) : (s.judgeHead q).steral = s.steral := by
  unfold State.judgeHead; split; rfl; split; rfl; split; rfl; rfl; split; rfl; rfl
@[simp] theorem State.judgeHead_pins (s : State) (q : Nat) : (s.judgeHead q).pins = s.pins := by
  unfold State.judgeHead; split; rfl; split; rfl; split; rfl; rfl; split; rfl; rfl

@[simp] theorem State.judgeWaits_pending (s : State) (c : Nat) : (s.judgeWaits c).pending = s.pending := by
  unfold State.judgeWaits; exact foldl_keeps State.pending _ _ _ fun s g => by simp
@[simp] theorem State.judgeWaits_now (s : State) (c : Nat) : (s.judgeWaits c).now = s.now := by
  unfold State.judgeWaits; exact foldl_keeps State.now _ _ _ fun s g => by simp
@[simp] theorem State.judgeWaits_fresh (s : State) (c : Nat) : (s.judgeWaits c).fresh = s.fresh := by
  unfold State.judgeWaits; exact foldl_keeps State.fresh _ _ _ fun s g => by simp
@[simp] theorem State.judgeWaits_dict (s : State) (c : Nat) : (s.judgeWaits c).dict = s.dict := by
  unfold State.judgeWaits; exact foldl_keeps State.dict _ _ _ fun s g => by simp
@[simp] theorem State.judgeWaits_mem (s : State) (c : Nat) : (s.judgeWaits c).mem = s.mem := by
  unfold State.judgeWaits; exact foldl_keeps State.mem _ _ _ fun s g => by simp
@[simp] theorem State.judgeWaits_fabric (s : State) (c : Nat) : (s.judgeWaits c).fabric = s.fabric := by
  unfold State.judgeWaits; exact foldl_keeps State.fabric _ _ _ fun s g => by simp
@[simp] theorem State.judgeWaits_transform (s : State) (c : Nat) : (s.judgeWaits c).transform = s.transform := by
  unfold State.judgeWaits; exact foldl_keeps State.transform _ _ _ fun s g => by simp
@[simp] theorem State.judgeWaits_cores (s : State) (c : Nat) : (s.judgeWaits c).cores = s.cores := by
  unfold State.judgeWaits; exact foldl_keeps State.cores _ _ _ fun s g => by simp
@[simp] theorem State.judgeWaits_tiers (s : State) (c : Nat) : (s.judgeWaits c).tiers = s.tiers := by
  unfold State.judgeWaits; exact foldl_keeps State.tiers _ _ _ fun s g => by simp
@[simp] theorem State.judgeWaits_zt (s : State) (c : Nat) : (s.judgeWaits c).zt = s.zt := by
  unfold State.judgeWaits; exact foldl_keeps State.zt _ _ _ fun s g => by simp
@[simp] theorem State.judgeWaits_coll (s : State) (c : Nat) : (s.judgeWaits c).coll = s.coll := by
  unfold State.judgeWaits; exact foldl_keeps State.coll _ _ _ fun s g => by simp
@[simp] theorem State.judgeWaits_snap (s : State) (c : Nat) : (s.judgeWaits c).snap = s.snap := by
  unfold State.judgeWaits; exact foldl_keeps State.snap _ _ _ fun s g => by simp
@[simp] theorem State.judgeWaits_packet (s : State) (c : Nat) : (s.judgeWaits c).packet = s.packet := by
  unfold State.judgeWaits; exact foldl_keeps State.packet _ _ _ fun s g => by simp
@[simp] theorem State.judgeWaits_ports (s : State) (c : Nat) : (s.judgeWaits c).ports = s.ports := by
  unfold State.judgeWaits; exact foldl_keeps State.ports _ _ _ fun s g => by simp
@[simp] theorem State.judgeWaits_storage (s : State) (c : Nat) : (s.judgeWaits c).storage = s.storage := by
  unfold State.judgeWaits; exact foldl_keeps State.storage _ _ _ fun s g => by simp
@[simp] theorem State.judgeWaits_cabs (s : State) (c : Nat) : (s.judgeWaits c).cabs = s.cabs := by
  unfold State.judgeWaits; exact foldl_keeps State.cabs _ _ _ fun s g => by simp
@[simp] theorem State.judgeWaits_trust (s : State) (c : Nat) : (s.judgeWaits c).trust = s.trust := by
  unfold State.judgeWaits; exact foldl_keeps State.trust _ _ _ fun s g => by simp
@[simp] theorem State.judgeWaits_energy (s : State) (c : Nat) : (s.judgeWaits c).energy = s.energy := by
  unfold State.judgeWaits; exact foldl_keeps State.energy _ _ _ fun s g => by simp
@[simp] theorem State.judgeWaits_faults (s : State) (c : Nat) : (s.judgeWaits c).faults = s.faults := by
  unfold State.judgeWaits; exact foldl_keeps State.faults _ _ _ fun s g => by simp
@[simp] theorem State.judgeWaits_steral (s : State) (c : Nat) : (s.judgeWaits c).steral = s.steral := by
  unfold State.judgeWaits; exact foldl_keeps State.steral _ _ _ fun s g => by simp
@[simp] theorem State.judgeWaits_pins (s : State) (c : Nat) : (s.judgeWaits c).pins = s.pins := by
  unfold State.judgeWaits; exact foldl_keeps State.pins _ _ _ fun s g => by simp

@[simp] theorem State.changeSync_pending (s : State) (c i : Nat) (f : SyncObj → SyncObj) : (s.changeSync c i f).pending = s.pending := by unfold State.changeSync; split <;> simp
@[simp] theorem State.changeSync_now (s : State) (c i : Nat) (f : SyncObj → SyncObj) : (s.changeSync c i f).now = s.now := by unfold State.changeSync; split <;> simp
@[simp] theorem State.changeSync_fresh (s : State) (c i : Nat) (f : SyncObj → SyncObj) : (s.changeSync c i f).fresh = s.fresh := by unfold State.changeSync; split <;> simp
@[simp] theorem State.changeSync_fabric (s : State) (c i : Nat) (f : SyncObj → SyncObj) : (s.changeSync c i f).fabric = s.fabric := by unfold State.changeSync; split <;> simp
@[simp] theorem State.changeSync_transform (s : State) (c i : Nat) (f : SyncObj → SyncObj) : (s.changeSync c i f).transform = s.transform := by unfold State.changeSync; split <;> simp
@[simp] theorem State.changeSync_cores (s : State) (c i : Nat) (f : SyncObj → SyncObj) : (s.changeSync c i f).cores = s.cores := by unfold State.changeSync; split <;> simp
@[simp] theorem State.changeSync_zt (s : State) (c i : Nat) (f : SyncObj → SyncObj) : (s.changeSync c i f).zt = s.zt := by unfold State.changeSync; split <;> simp
@[simp] theorem State.changeSync_coll (s : State) (c i : Nat) (f : SyncObj → SyncObj) : (s.changeSync c i f).coll = s.coll := by unfold State.changeSync; split <;> simp
@[simp] theorem State.changeSync_packet (s : State) (c i : Nat) (f : SyncObj → SyncObj) : (s.changeSync c i f).packet = s.packet := by unfold State.changeSync; split <;> simp
@[simp] theorem State.changeSync_storage (s : State) (c i : Nat) (f : SyncObj → SyncObj) : (s.changeSync c i f).storage = s.storage := by unfold State.changeSync; split <;> simp
@[simp] theorem State.changeSync_cabs (s : State) (c i : Nat) (f : SyncObj → SyncObj) : (s.changeSync c i f).cabs = s.cabs := by unfold State.changeSync; split <;> simp
@[simp] theorem State.changeSync_trust (s : State) (c i : Nat) (f : SyncObj → SyncObj) : (s.changeSync c i f).trust = s.trust := by unfold State.changeSync; split <;> simp
@[simp] theorem State.changeSync_energy (s : State) (c i : Nat) (f : SyncObj → SyncObj) : (s.changeSync c i f).energy = s.energy := by unfold State.changeSync; split <;> simp
@[simp] theorem State.changeSync_steral (s : State) (c i : Nat) (f : SyncObj → SyncObj) : (s.changeSync c i f).steral = s.steral := by unfold State.changeSync; split <;> simp

@[simp] theorem State.signal_pending (s : State) (c i op : Nat) (x : BitVec 64) : (s.signal c i op x).pending = s.pending := by simp [State.signal]
@[simp] theorem State.signal_now (s : State) (c i op : Nat) (x : BitVec 64) : (s.signal c i op x).now = s.now := by simp [State.signal]
@[simp] theorem State.signal_fresh (s : State) (c i op : Nat) (x : BitVec 64) : (s.signal c i op x).fresh = s.fresh := by simp [State.signal]
@[simp] theorem State.signal_fabric (s : State) (c i op : Nat) (x : BitVec 64) : (s.signal c i op x).fabric = s.fabric := by simp [State.signal]
@[simp] theorem State.signal_transform (s : State) (c i op : Nat) (x : BitVec 64) : (s.signal c i op x).transform = s.transform := by simp [State.signal]
@[simp] theorem State.signal_cores (s : State) (c i op : Nat) (x : BitVec 64) : (s.signal c i op x).cores = s.cores := by simp [State.signal]
@[simp] theorem State.signal_zt (s : State) (c i op : Nat) (x : BitVec 64) : (s.signal c i op x).zt = s.zt := by simp [State.signal]
@[simp] theorem State.signal_coll (s : State) (c i op : Nat) (x : BitVec 64) : (s.signal c i op x).coll = s.coll := by simp [State.signal]
@[simp] theorem State.signal_packet (s : State) (c i op : Nat) (x : BitVec 64) : (s.signal c i op x).packet = s.packet := by simp [State.signal]
@[simp] theorem State.signal_storage (s : State) (c i op : Nat) (x : BitVec 64) : (s.signal c i op x).storage = s.storage := by simp [State.signal]
@[simp] theorem State.signal_cabs (s : State) (c i op : Nat) (x : BitVec 64) : (s.signal c i op x).cabs = s.cabs := by simp [State.signal]
@[simp] theorem State.signal_trust (s : State) (c i op : Nat) (x : BitVec 64) : (s.signal c i op x).trust = s.trust := by simp [State.signal]
@[simp] theorem State.signal_energy (s : State) (c i op : Nat) (x : BitVec 64) : (s.signal c i op x).energy = s.energy := by simp [State.signal]
@[simp] theorem State.signal_steral (s : State) (c i op : Nat) (x : BitVec 64) : (s.signal c i op x).steral = s.steral := by simp [State.signal]

@[simp] theorem State.signalHandle_pending (s : State) (h op : Nat) (x : BitVec 64) : (s.signalHandle h op x).pending = s.pending := by unfold State.signalHandle; split <;> simp
@[simp] theorem State.signalHandle_now (s : State) (h op : Nat) (x : BitVec 64) : (s.signalHandle h op x).now = s.now := by unfold State.signalHandle; split <;> simp
@[simp] theorem State.signalHandle_fresh (s : State) (h op : Nat) (x : BitVec 64) : (s.signalHandle h op x).fresh = s.fresh := by unfold State.signalHandle; split <;> simp
@[simp] theorem State.signalHandle_fabric (s : State) (h op : Nat) (x : BitVec 64) : (s.signalHandle h op x).fabric = s.fabric := by unfold State.signalHandle; split <;> simp
@[simp] theorem State.signalHandle_transform (s : State) (h op : Nat) (x : BitVec 64) : (s.signalHandle h op x).transform = s.transform := by unfold State.signalHandle; split <;> simp
@[simp] theorem State.signalHandle_cores (s : State) (h op : Nat) (x : BitVec 64) : (s.signalHandle h op x).cores = s.cores := by unfold State.signalHandle; split <;> simp
@[simp] theorem State.signalHandle_zt (s : State) (h op : Nat) (x : BitVec 64) : (s.signalHandle h op x).zt = s.zt := by unfold State.signalHandle; split <;> simp
@[simp] theorem State.signalHandle_coll (s : State) (h op : Nat) (x : BitVec 64) : (s.signalHandle h op x).coll = s.coll := by unfold State.signalHandle; split <;> simp
@[simp] theorem State.signalHandle_packet (s : State) (h op : Nat) (x : BitVec 64) : (s.signalHandle h op x).packet = s.packet := by unfold State.signalHandle; split <;> simp
@[simp] theorem State.signalHandle_storage (s : State) (h op : Nat) (x : BitVec 64) : (s.signalHandle h op x).storage = s.storage := by unfold State.signalHandle; split <;> simp
@[simp] theorem State.signalHandle_cabs (s : State) (h op : Nat) (x : BitVec 64) : (s.signalHandle h op x).cabs = s.cabs := by unfold State.signalHandle; split <;> simp
@[simp] theorem State.signalHandle_trust (s : State) (h op : Nat) (x : BitVec 64) : (s.signalHandle h op x).trust = s.trust := by unfold State.signalHandle; split <;> simp
@[simp] theorem State.signalHandle_energy (s : State) (h op : Nat) (x : BitVec 64) : (s.signalHandle h op x).energy = s.energy := by unfold State.signalHandle; split <;> simp
@[simp] theorem State.signalHandle_steral (s : State) (h op : Nat) (x : BitVec 64) : (s.signalHandle h op x).steral = s.steral := by unfold State.signalHandle; split <;> simp

@[simp] theorem State.setRates_pending (s : State) (l : List Nat) : (s.setRates l).pending = s.pending := by
  have hf := foldl_keeps State.pending (fun (s : State) q => s.put 0x2003 (q + 1) (l.getD q 0)) (List.range 4) s (fun s b => by simp)
  unfold State.setRates; simp only; split
  · exact hf
  · split <;> simpa using hf
@[simp] theorem State.setRates_now (s : State) (l : List Nat) : (s.setRates l).now = s.now := by
  have hf := foldl_keeps State.now (fun (s : State) q => s.put 0x2003 (q + 1) (l.getD q 0)) (List.range 4) s (fun s b => by simp)
  unfold State.setRates; simp only; split
  · exact hf
  · split <;> simpa using hf
@[simp] theorem State.setRates_fresh (s : State) (l : List Nat) : (s.setRates l).fresh = s.fresh := by
  have hf := foldl_keeps State.fresh (fun (s : State) q => s.put 0x2003 (q + 1) (l.getD q 0)) (List.range 4) s (fun s b => by simp)
  unfold State.setRates; simp only; split
  · exact hf
  · split <;> simpa using hf
@[simp] theorem State.setRates_fabric (s : State) (l : List Nat) : (s.setRates l).fabric = s.fabric := by
  have hf := foldl_keeps State.fabric (fun (s : State) q => s.put 0x2003 (q + 1) (l.getD q 0)) (List.range 4) s (fun s b => by simp)
  unfold State.setRates; simp only; split
  · exact hf
  · split <;> simpa using hf
@[simp] theorem State.setRates_transform (s : State) (l : List Nat) : (s.setRates l).transform = s.transform := by
  have hf := foldl_keeps State.transform (fun (s : State) q => s.put 0x2003 (q + 1) (l.getD q 0)) (List.range 4) s (fun s b => by simp)
  unfold State.setRates; simp only; split
  · exact hf
  · split <;> simpa using hf
@[simp] theorem State.setRates_cores (s : State) (l : List Nat) : (s.setRates l).cores = s.cores := by
  have hf := foldl_keeps State.cores (fun (s : State) q => s.put 0x2003 (q + 1) (l.getD q 0)) (List.range 4) s (fun s b => by simp)
  unfold State.setRates; simp only; split
  · exact hf
  · split <;> simpa using hf
@[simp] theorem State.setRates_zt (s : State) (l : List Nat) : (s.setRates l).zt = s.zt := by
  have hf := foldl_keeps State.zt (fun (s : State) q => s.put 0x2003 (q + 1) (l.getD q 0)) (List.range 4) s (fun s b => by simp)
  unfold State.setRates; simp only; split
  · exact hf
  · split <;> simpa using hf
@[simp] theorem State.setRates_coll (s : State) (l : List Nat) : (s.setRates l).coll = s.coll := by
  have hf := foldl_keeps State.coll (fun (s : State) q => s.put 0x2003 (q + 1) (l.getD q 0)) (List.range 4) s (fun s b => by simp)
  unfold State.setRates; simp only; split
  · exact hf
  · split <;> simpa using hf
@[simp] theorem State.setRates_packet (s : State) (l : List Nat) : (s.setRates l).packet = s.packet := by
  have hf := foldl_keeps State.packet (fun (s : State) q => s.put 0x2003 (q + 1) (l.getD q 0)) (List.range 4) s (fun s b => by simp)
  unfold State.setRates; simp only; split
  · exact hf
  · split <;> simpa using hf
@[simp] theorem State.setRates_storage (s : State) (l : List Nat) : (s.setRates l).storage = s.storage := by
  have hf := foldl_keeps State.storage (fun (s : State) q => s.put 0x2003 (q + 1) (l.getD q 0)) (List.range 4) s (fun s b => by simp)
  unfold State.setRates; simp only; split
  · exact hf
  · split <;> simpa using hf
@[simp] theorem State.setRates_cabs (s : State) (l : List Nat) : (s.setRates l).cabs = s.cabs := by
  have hf := foldl_keeps State.cabs (fun (s : State) q => s.put 0x2003 (q + 1) (l.getD q 0)) (List.range 4) s (fun s b => by simp)
  unfold State.setRates; simp only; split
  · exact hf
  · split <;> simpa using hf
@[simp] theorem State.setRates_trust (s : State) (l : List Nat) : (s.setRates l).trust = s.trust := by
  have hf := foldl_keeps State.trust (fun (s : State) q => s.put 0x2003 (q + 1) (l.getD q 0)) (List.range 4) s (fun s b => by simp)
  unfold State.setRates; simp only; split
  · exact hf
  · split <;> simpa using hf
@[simp] theorem State.setRates_energy (s : State) (l : List Nat) : (s.setRates l).energy = s.energy := by
  have hf := foldl_keeps State.energy (fun (s : State) q => s.put 0x2003 (q + 1) (l.getD q 0)) (List.range 4) s (fun s b => by simp)
  unfold State.setRates; simp only; split
  · exact hf
  · split <;> simpa using hf
@[simp] theorem State.setRates_steral (s : State) (l : List Nat) : (s.setRates l).steral = s.steral := by
  have hf := foldl_keeps State.steral (fun (s : State) q => s.put 0x2003 (q + 1) (l.getD q 0)) (List.range 4) s (fun s b => by simp)
  unfold State.setRates; simp only; split
  · exact hf
  · split <;> simpa using hf

@[simp] theorem State.failHandle_pending (s : State) (h : Nat) : (s.failHandle h).pending = s.pending := by simp [State.failHandle]
@[simp] theorem State.failHandle_now (s : State) (h : Nat) : (s.failHandle h).now = s.now := by simp [State.failHandle]
@[simp] theorem State.failHandle_fresh (s : State) (h : Nat) : (s.failHandle h).fresh = s.fresh := by simp [State.failHandle]
@[simp] theorem State.failHandle_fabric (s : State) (h : Nat) : (s.failHandle h).fabric = s.fabric := by simp [State.failHandle]
@[simp] theorem State.failHandle_transform (s : State) (h : Nat) : (s.failHandle h).transform = s.transform := by simp [State.failHandle]
@[simp] theorem State.failHandle_cores (s : State) (h : Nat) : (s.failHandle h).cores = s.cores := by simp [State.failHandle]
@[simp] theorem State.failHandle_zt (s : State) (h : Nat) : (s.failHandle h).zt = s.zt := by simp [State.failHandle]
@[simp] theorem State.failHandle_coll (s : State) (h : Nat) : (s.failHandle h).coll = s.coll := by simp [State.failHandle]
@[simp] theorem State.failHandle_packet (s : State) (h : Nat) : (s.failHandle h).packet = s.packet := by simp [State.failHandle]
@[simp] theorem State.failHandle_storage (s : State) (h : Nat) : (s.failHandle h).storage = s.storage := by simp [State.failHandle]
@[simp] theorem State.failHandle_cabs (s : State) (h : Nat) : (s.failHandle h).cabs = s.cabs := by simp [State.failHandle]
@[simp] theorem State.failHandle_trust (s : State) (h : Nat) : (s.failHandle h).trust = s.trust := by simp [State.failHandle]
@[simp] theorem State.failHandle_energy (s : State) (h : Nat) : (s.failHandle h).energy = s.energy := by simp [State.failHandle]
@[simp] theorem State.failHandle_steral (s : State) (h : Nat) : (s.failHandle h).steral = s.steral := by simp [State.failHandle]

/-! ### Entries that a store or a signal leaves -/

@[simp] theorem State.ent_putCab (s : State) (k a : Nat) (bs : Bytes) (c i j : Nat) :
    (s.putCab k a bs).ent c i j = s.ent c i j := State.ent_congr (by simp) c i j
@[simp] theorem State.ent_judgeHead (s : State) (q c i j : Nat) :
    (s.judgeHead q).ent c i j = s.ent c i j := State.ent_congr (by simp) c i j
@[simp] theorem State.ent_judgeWaits (s : State) (k c i j : Nat) :
    (s.judgeWaits k).ent c i j = s.ent c i j := State.ent_congr (by simp) c i j
@[simp] theorem State.ent_updSync (s : State) (k : Nat) (f : SyncObj → SyncObj) (c i j : Nat) :
    (s.updSync k f).ent c i j = s.ent c i j := rfl

/-- The entries that a signal may change: the flags of the fault collector and the mark of a change since a SAVE. -/
def signalEntry (c i j : Nat) : Bool :=
  canonEntry c i j == canonEntry 0 0x2F00 0 || canonEntry c i j == canonEntry 0 0x2F00 3 ||
  canonEntry c i j == canonEntry 0 0x2F02 2 || (i == 0x4007 && j == 7)

/-- The entry that a changed cabinet marks is another than every entry of another index. -/
theorem canonEntry_ne_mark (c i j k : Nat) (hi : i < 65536) (hj : j < 256) (h : ¬ (i = 0x4007 ∧ j = 7)) :
    canonEntry c i j ≠ canonEntry k 0x4007 7 := by
  unfold canonEntry entryKey
  split <;> simp <;> omega

theorem State.ent_noteChange (s : State) (k c i j : Nat) (h : canonEntry c i j ≠ canonEntry k 0x4007 7) :
    (s.noteChange k).ent c i j = s.ent c i j := by
  unfold State.noteChange
  split
  · rfl
  · split
    · exact State.ent_putEnt_ne _ _ _ _ _ _ _ _ h
    · rfl

/-- A mirror that cannot be written changes no entry but the fault collector's. -/
theorem State.ent_writeMirror (s : State) (o : SyncObj) (c i j : Nat) (h : signalEntry c i j = false) :
    (s.writeMirror o).ent c i j = s.ent c i j := by
  simp only [signalEntry, Bool.or_eq_false_iff, beq_eq_false_iff_ne] at h
  unfold State.writeMirror
  split
  · rfl
  · split
    · simp
    · split
      · simp
      · exact State.ent_note _ _ _ _ _ _ _ _ _ h.1.1.1 h.1.1.2 h.1.2

/-- A change to a sync object changes no entry but those of signalEntry. -/
theorem State.ent_changeSync (s : State) (k n : Nat) (f : SyncObj → SyncObj) (c i j : Nat) (hi : i < 65536)
    (hj : j < 256) (h : signalEntry c i j = false) : (s.changeSync k n f).ent c i j = s.ent c i j := by
  have h' := h
  simp only [signalEntry, Bool.or_eq_false_iff, Bool.and_eq_false_iff, beq_eq_false_iff_ne] at h'
  unfold State.changeSync
  split
  · rfl
  · rw [State.ent_noteChange _ _ _ _ _ (canonEntry_ne_mark c i j k hi hj (by omega)), State.ent_judgeWaits,
      State.ent_writeMirror _ _ _ _ _ h, State.ent_updSync]

/-- A signal changes no entry but those of signalEntry. -/
theorem State.ent_signal (s : State) (k n op : Nat) (x : BitVec 64) (c i j : Nat) (hi : i < 65536) (hj : j < 256)
    (h : signalEntry c i j = false) : (s.signal k n op x).ent c i j = s.ent c i j :=
  State.ent_changeSync _ _ _ _ _ _ _ hi hj h

/-- A signal on the object of a handle changes no entry but those of signalEntry. -/
theorem State.ent_signalHandle (s : State) (n op : Nat) (x : BitVec 64) (c i j : Nat) (hi : i < 65536) (hj : j < 256)
    (h : signalEntry c i j = false) : (s.signalHandle n op x).ent c i j = s.ent c i j := by
  unfold State.signalHandle
  split
  · exact State.ent_signal _ _ _ _ _ _ _ _ hi hj h
  · rfl

/-- The fields of an address above a 2 MiB page. -/
theorem bits_of_page {a b : Nat} (h : a / 2 ^ 21 = b / 2 ^ 21) (hi lo : Nat) (hl : 21 ≤ lo) : bits a hi lo = bits b hi lo := by
  have e : ∀ x : Nat, x / 2 ^ lo = x / 2 ^ 21 / 2 ^ (lo - 21) := fun x => by
    rw [Nat.div_div_eq_div_mul, ← Nat.pow_add, Nat.add_sub_cancel' hl]
  simp only [bits, e, h]

/-- A 2 MiB page maps every address in it. -/
theorem State.leaf_page {s : State} {cab a b e base : Nat} (h : a / 2 ^ 21 = b / 2 ^ 21)
    (hb : s.leaf cab b = some (e, base, 2097152)) : s.leaf cab a = some (e, base, 2097152) := by
  have ha : a < 2 ^ 48 := by
    have : b < 2 ^ 48 := by
      unfold State.leaf at hb; split at hb
      · assumption
      · cases hb
    omega
  unfold State.leaf at hb ⊢
  split at hb
  · rw [if_pos ha]
    rw [bits_of_page h 47 39 (by decide), bits_of_page h 38 30 (by decide), bits_of_page h 29 21 (by decide)]
    repeat' (split at hb <;> try cases hb)
    all_goals simp_all
  · cases hb

/-- An address of a 2 MiB page translates to its place in the page. -/
theorem State.translate_page {s : State} {cab a b d : Nat} {e base : Nat} {n : Need} (h : a / 2 ^ 21 = b / 2 ^ 21)
    (hb : s.leaf cab b = some (e, base, 2097152)) (ht : s.translate cab b n = some d) :
    s.translate cab a n = some (base + a % 2097152) := by
  unfold State.translate at ht ⊢
  rw [hb] at ht; rw [State.leaf_page h hb]
  simp only at ht ⊢
  split at ht
  · rw [if_pos (by assumption)]
  · cases ht

end Sys2Proof.Machine
end

