-- ==== Sys2Proof/Laws/Answer.lean ====
section
/-! SUPPORT. What every answer has in common: the shared forms of a command's meaning either stop for a unit that the block does
not have, or leave the queue of waiting commands and the canonical form of memory as they were. -/

namespace Sys2Proof.Machine

/-- A next state with the same commands waiting and with memory canonical if it was, or the stop of a unit that does not
exist. -/
def Answers (s : State) (o : Result) : Prop :=
  (∃ t, o = .next t ∧ t.pending = s.pending ∧ (s.sound → t.sound)) ∨ o = .fault .noSuchUnit

theorem answers_next {s t : State} (hp : t.pending = s.pending) (hm : s.sound → t.sound) : Answers s (.next t) :=
  .inl ⟨t, rfl, hp, hm⟩

theorem answers_fault (s : State) : Answers s (.fault .noSuchUnit) := .inr rfl
theorem answers_commit (s t : State) : Answers s (s.commit t) := answers_next rfl fun _ => Memory.wf_canon _
theorem answers_quiet (s t : State) : Answers s (s.quiet t) := answers_next rfl id
theorem answers_idle (s : State) : Answers s s.idle := answers_next rfl id
theorem answers_settled (s t : State) : Answers s (s.settled t) := answers_commit s _

theorem answers_land (s : State) (who : Option Nat) (t : State) : Answers s (s.land who t) := by
  unfold State.land; split
  · exact answers_commit s t
  · exact answers_quiet s _

/-- Answers to a state that differs from the command's own in neither its queue nor its memory. -/
theorem Answers.of_same {s t : State} {o : Result} (hp : t.pending = s.pending) (hm : t.mem = s.mem) (h : Answers t o) :
    Answers s o := by
  obtain ⟨u, rfl, hu, hs⟩ | rfl := h
  · refine answers_next (hu.trans hp) fun k => hs ?_
    have : Memory.wf s.mem = true := k
    show Memory.wf t.mem = true
    rw [hm]; exact this
  · exact answers_fault s

theorem Answers.andThen {s : State} {o : Result} {f : State → Result} (h : Answers s o) (k : ∀ t, Answers t (f t)) :
    Answers s (o.andThen f) := by
  obtain ⟨t, rfl, hp, hm⟩ | rfl := h
  · obtain ⟨u, hu, hq, hn⟩ | hf := k t
    · exact .inl ⟨u, hu, hq.trans hp, fun x => hn (hm x)⟩
    · exact .inr hf
  · exact answers_fault s

theorem answers_onCtx {s : State} {id : Nat} {p : State → Ctx → Bool} {f : Ctx → Result} (h : ∀ c, Answers s (f c)) :
    Answers s (s.onCtx id p f) := by
  unfold State.onCtx; split
  · exact answers_idle s
  · split
    · exact h _
    · exact answers_idle s

theorem answers_control (s : State) (id op : Nat) (named : List (Nat × Nat)) (f : Queue → Ctx → Except Err (State × Nat)) :
    Answers s (s.control id op named f) := by
  unfold State.control; apply answers_onCtx; intro c; split
  · exact answers_idle s
  · split <;> exact answers_commit s _

theorem answers_onTrigger (s : State) (core u p : Nat) (t : W32) : Answers s (s.onTrigger core u p t) := by
  unfold State.onTrigger; split
  · exact answers_fault s
  · split
    · exact answers_fault s
    · split
      · exact answers_idle s
      · split
        · exact answers_commit s _
        · exact answers_commit s _
        · exact answers_quiet s _

theorem answers_act (s : State) (r : ActReq) (idx sub : Nat) (eff : ActEffect) : Answers s (s.act r idx sub eff) := by
  unfold State.act; split
  · exact answers_idle s
  · split
    · exact answers_quiet s _
    · exact answers_commit s _

theorem answers_actOpen (s : State) (r : ActReq) (idx sub : Nat) (eff : ActEffect) : Answers s (s.actOpen r idx sub eff) := by
  unfold State.actOpen; split
  · exact answers_idle s
  · exact answers_commit s _

theorem answers_actSettled (s : State) (r : ActReq) (idx sub : Nat) (eff : ActEffect) :
    Answers s (s.actSettled r idx sub eff) := by
  unfold State.actSettled; split
  · exact answers_idle s
  · split
    · exact answers_quiet s _
    · exact answers_settled s _

theorem answers_transformCmd (s : State) (id op : Nat) (f : Ctx → XCmd → Except Err (State × XDone)) :
    Answers s (s.transformCmd id op f) := by
  unfold State.transformCmd; apply answers_onCtx; intro c; unfold State.xEnd; split
  · exact answers_commit s _
  · exact answers_land s _ _

theorem answers_moveEnd (s : State) (id : Nat) (r : Except Err State) : Answers s (s.moveEnd id r) := by
  unfold State.moveEnd; split
  · exact answers_commit s _
  · exact answers_land s _ _

theorem answers_spdm (s : State) (t : Nat) (f : State → State) : Answers s (s.spdm t f) := by
  unfold State.spdm; split
  · exact answers_idle s
  · split <;> exact answers_quiet s _

theorem answers_doorbell (s : State) (cab qi : Nat) (f : Queue → State) : Answers s (s.doorbell cab qi f) := by
  unfold State.doorbell; split
  · exact answers_idle s
  · split
    · exact answers_quiet s _
    · split
      · exact answers_idle s
      · split
        · exact answers_idle s
        · exact answers_commit s _

theorem answers_signalPage (s : State) (cab requester op : Nat) : Answers s (s.signalPage cab requester op) := by
  unfold State.signalPage; dsimp only; split
  · exact answers_idle s
  · split
    · exact answers_quiet s _
    · split
      · exact answers_next rfl id
      · exact answers_commit s _

theorem answers_fetchNvme {s : State} {cab sqid op : Nat} {f : NvmeCtrl → IoPair → Bytes → State → Result}
    (h : ∀ c q r t, Answers s (f c q r t)) : Answers s (s.fetchNvme cab sqid op f) := by
  unfold State.fetchNvme; split
  · exact answers_idle s
  · split
    · exact answers_idle s
    · dsimp only; split
      · exact answers_commit s _
      · split
        · exact answers_idle s
        · split
          · exact answers_commit s _
          · exact h _ _ _ _

theorem answers_onMessage {s : State} {m : GroupIn} {f : Group → Result} (h : ∀ g, Answers s (f g)) :
    Answers s (s.onMessage m f) := by
  unfold State.onMessage; split
  · exact answers_idle s
  · split
    · exact answers_idle s
    · split
      · exact answers_idle s
      · split
        · exact answers_quiet s _
        · exact h _

theorem answers_onSnap {s : State} {m : SnapIn} {f : Group → SnapSet → Nat → Result} (h : ∀ g x k, Answers s (f g x k)) :
    Answers s (s.onSnap m f) := by
  unfold State.onSnap; split
  · exact answers_idle s
  · split
    · exact answers_idle s
    · split
      · exact answers_idle s
      · split
        · exact answers_quiet s _
        · split
          · exact answers_idle s
          · split
            · exact answers_idle s
            · exact h _ _ _

theorem answers_ztRow (s : State) (ty : Nat) (p : ZtIn) : Answers s (s.ztRow ty p) := by
  unfold State.ztRow State.ztPacket; split
  · exact answers_idle s
  · split
    · exact answers_commit s _
    · split
      · exact answers_quiet s _
      · split
        · exact answers_quiet s _
        · exact answers_commit s _

end Sys2Proof.Machine
end

