-- ==== Sys2Proof/Laws/Report.lean ====
section
/-! SUPPORT. What an error that acts leaves unchanged: the entries of every index but those of the fault collector, the
reset ladder, the activation, the rates, the rail and the tiles. -/

namespace Sys2Proof.Machine

/-- Two entries of different indices are different entries. -/
theorem canonEntry_ne_of_index (c i j c' i' j' : Nat) (hi : i < 65536) (hj : j < 256) (hi' : i' < 65536)
    (hj' : j' < 256) (hne : i ≠ i') (hl : i' ≠ 0x2102) (hl' : i' ≠ 0x4004) :
    canonEntry c i j ≠ canonEntry c' i' j' := by
  unfold canonEntry entryKey
  rw [if_neg hl]
  split <;> omega

/-- The indices of the entries that an error that acts may change. -/
def reportIndices : List Nat :=
  [0x2F00, 0x2F02, 0x2F03, 0x2F05, 0x2F06, 0x2E07, 0x2E01, 0x2300, 0x2003, 0x2004, 0x4007]

theorem ne_report (c i j c' i' j' : Nat) (hi : i < 65536) (hj : j < 256) (h : i ∉ reportIndices)
    (h' : i' ∈ reportIndices) (hj' : j' < 256) : canonEntry c i j ≠ canonEntry c' i' j' := by
  have h2 : i' < 65536 ∧ i' ≠ 0x2102 ∧ i' ≠ 0x4004 := by
    revert h'; revert i'; decide
  exact canonEntry_ne_of_index c i j c' i' j' hi hj h2.1 hj' (fun e => h (e ▸ h')) h2.2.1 h2.2.2

theorem State.ent_fenceDomain (s : State) (r t c i j : Nat) : (s.fenceDomain r t).ent c i j = s.ent c i j := by
  unfold State.fenceDomain
  simp only
  split
  · rfl
  · split
    · split <;> rfl
    · rfl

theorem State.ent_fenceCrossings (s : State) (r t c i j : Nat) : (s.fenceCrossings r t).ent c i j = s.ent c i j := by
  unfold State.fenceCrossings
  split <;> rfl

theorem causeRung_le (k : Nat) : causeRung k ≤ 4 := by unfold causeRung; split <;> (try split) <;> (try split) <;> (try split) <;> (try split) <;> (try split) <;> omega

theorem State.ent_callTray (s : State) (k c i j : Nat) : (s.callTray k).ent c i j = s.ent c i j := rfl
theorem State.ent_releaseThermtrip (s : State) (c i j : Nat) : s.releaseThermtrip.ent c i j = s.ent c i j := rfl
theorem State.ent_noteRung (s : State) (inc : Incident) (r t c i j : Nat) :
    (s.noteRung inc r t).ent c i j = s.ent c i j := rfl

section
variable (c i j : Nat) (hi : i < 65536) (hj : j < 256) (h : i ∉ reportIndices)
include hi hj h

theorem State.ent_put_report (s : State) (i' j' v : Nat) (h' : i' ∈ reportIndices) (hj' : j' < 256) :
    (s.putEnt 0 i' j' v).ent c i j = s.ent c i j :=
  State.ent_putEnt_ne _ _ _ _ _ _ _ _ (ne_report c i j 0 i' j' hi hj h h' hj')

theorem State.ent_bump_report (s : State) (i' j' v : Nat) (h' : i' ∈ reportIndices) (hj' : j' < 256) :
    (s.bumpEnt 0 i' j' v).ent c i j = s.ent c i j :=
  State.ent_bumpEnt_ne _ _ _ _ _ _ _ _ (ne_report c i j 0 i' j' hi hj h h' hj')

theorem signalEntry_report : signalEntry c i j = false := by
  have h0 := ne_report c i j 0 0x2F00 0 hi hj h (by decide) (by decide)
  have h3 := ne_report c i j 0 0x2F00 3 hi hj h (by decide) (by decide)
  have h2 := ne_report c i j 0 0x2F02 2 hi hj h (by decide) (by decide)
  have h7 : ¬ i = 0x4007 := fun e => h (e ▸ by decide)
  simp [signalEntry, h0, h3, h2, h7]

theorem State.ent_latchError_report (s : State) (e : ErrorIn) : (s.latchError e).ent c i j = s.ent c i j :=
  State.ent_latchError s e c i j (ne_report c i j 0 0x2F00 0 hi hj h (by decide) (by decide))
    (ne_report c i j 0 0x2F00 3 hi hj h (by decide) (by decide))
    (ne_report c i j 0 0x2F02 2 hi hj h (by decide) (by decide))

theorem State.ent_trayNotice_report (s : State) (a b d : Nat) : (s.trayNotice a b d).ent c i j = s.ent c i j := by
  unfold State.trayNotice
  split
  · rfl
  · rw [State.ent_refreshFaultN]
    unfold State.setNotice
    rw [State.ent_callTray]
    exact State.ent_put_report c i j hi hj h s 0x2F06 0 _ (by decide) (by decide)

theorem State.ent_cancelActivation_report (s : State) : s.cancelActivation.ent c i j = s.ent c i j := by
  unfold State.cancelActivation
  split
  · rfl
  · exact State.ent_put_report c i j hi hj h _ 0x2E07 0 _ (by decide) (by decide)

theorem State.ent_setRates_report (s : State) (l : List Nat) : (s.setRates l).ent c i j = s.ent c i j := by
  have hf : ((List.range 4).foldl (fun (s : State) q => s.put 0x2003 (q + 1) (l.getD q 0)) s).ent c i j = s.ent c i j := by
    have key : ∀ (qs : List Nat) (s : State), (∀ q ∈ qs, q < 4) →
        (qs.foldl (fun (s : State) q => s.put 0x2003 (q + 1) (l.getD q 0)) s).ent c i j = s.ent c i j := by
      intro qs
      induction qs with
      | nil => intro s _; rfl
      | cons q r ih =>
        intro s hq
        rw [List.foldl_cons, ih _ fun x hx => hq x (by simp [hx])]
        exact State.ent_put_report c i j hi hj h s 0x2003 (q + 1) _ (by decide)
          (by have := hq q (by simp); omega)
    exact key _ s (by simp)
  unfold State.setRates
  simp only
  split
  · exact hf
  · split
    · rw [State.ent_signalHandle _ _ _ _ _ _ _ hi hj (signalEntry_report c i j hi hj h), State.bump_def,
        State.ent_bump_report c i j hi hj h _ 0x2004 2 _ (by decide) (by decide), hf]
    · rw [State.bump_def, State.ent_bump_report c i j hi hj h _ 0x2004 2 _ (by decide) (by decide), hf]

theorem State.ent_enterSafeState_report (s : State) (k : Nat) : (s.enterSafeState k).ent c i j = s.ent c i j := by
  unfold State.enterSafeState
  split
  · rfl
  · simp only [State.ent_setFn]
    have := State.ent_put_report c i j hi hj h
      ((s.zeroRates.put 0x2F05 0 1).bump 0x2F05 2 1).cancelActivation 0x2E01 5 600 (by decide) (by decide)
    refine Eq.trans (State.ent_congr (s := ((s.zeroRates.put 0x2F05 0 1).bump 0x2F05 2 1).cancelActivation.put 0x2E01 5 600) rfl _ _ _) ?_
    rw [State.put_def, this, State.ent_cancelActivation_report c i j hi hj h, State.bump_def,
      State.ent_bump_report c i j hi hj h _ 0x2F05 2 1 (by decide) (by decide), State.put_def,
      State.ent_put_report c i j hi hj h _ 0x2F05 0 1 (by decide) (by decide)]
    exact State.ent_setRates_report c i j hi hj h s _

theorem State.ent_rungEffects_report (s : State) (inc : Incident) (r : Nat) :
    (s.rungEffects inc r).ent c i j = s.ent c i j := by
  have C := State.ent_cancelActivation_report c i j hi hj h
  unfold State.rungEffects
  split
  · split
    · rw [State.ent_releaseThermtrip, C]
    · rw [State.ent_trayNotice_report c i j hi hj h, State.ent_releaseThermtrip, C]
  · split
    · unfold State.deferDrain
      rw [State.bump_def, State.ent_bump_report c i j hi hj h _ 0x2E07 1 1 (by decide) (by decide), State.put_def,
        State.ent_put_report c i j hi hj h _ 0x2E07 0 1 (by decide) (by decide)]
      rfl
    · rfl

theorem State.ent_startRung_report (s : State) (r : Nat) (hr : 5 + r < 256) : (s.startRung r).ent c i j = s.ent c i j := by
  unfold State.startRung
  split
  · rfl
  · simp only
    rw [State.ent_rungEffects_report c i j hi hj h, State.ent_fenceCrossings, State.ent_fenceDomain, State.bump_def,
      State.ent_bump_report c i j hi hj h _ 0x2F03 (5 + r) _ (by decide) hr, State.put_def,
      State.ent_put_report c i j hi hj h _ 0x2F03 0 r (by decide) (by decide), State.ent_noteRung]

theorem State.ent_openIncident_report (s : State) (inc : Incident) (hr : 5 + inc.firstRung < 256) :
    (s.openIncident inc).ent c i j = s.ent c i j := by
  unfold State.openIncident
  simp only
  rw [State.ent_startRung_report c i j hi hj h _ _ hr]
  split
  · rfl
  · rw [State.bump_def, State.ent_bump_report c i j hi hj h _ 0x2F02 1 1 (by decide) (by decide)]; rfl

theorem State.ent_preemptIncident_report (s : State) (inc : Incident) (hr : 5 + inc.firstRung < 256) :
    (s.preemptIncident inc).ent c i j = s.ent c i j := by
  unfold State.preemptIncident
  split
  · exact State.ent_openIncident_report c i j hi hj h s inc hr
  · exact State.ent_openIncident_report c i j hi hj h s _ hr

theorem State.ent_holdIncident_report (s : State) (inc : Incident) : (s.holdIncident inc).ent c i j = s.ent c i j := by
  unfold State.holdIncident
  simp only
  rw [State.bump_def, State.ent_bump_report c i j hi hj h _ 0x2F02 1 1 (by decide) (by decide), State.put_def,
    State.ent_put_report c i j hi hj h _ 0x2F03 0 0 (by decide) (by decide)]
  rfl

theorem State.ent_addIncident_report (s : State) (inc : Incident) (hr : 5 + inc.firstRung < 256) :
    (s.addIncident inc).ent c i j = s.ent c i j := by
  unfold State.addIncident
  split
  · exact State.ent_preemptIncident_report c i j hi hj h s inc hr
  · split
    · exact State.ent_openIncident_report c i j hi hj h s inc hr
    · split
      · rfl
      · exact (State.ent_preemptIncident_report c i j hi hj h _ _ (show 5 + 4 < 256 by decide)).trans rfl

theorem State.ent_fenceTiles_report (s : State) (e : ErrorIn) : (s.fenceTiles e).ent c i j = s.ent c i j := by
  unfold State.fenceTiles
  split
  · exact State.ent_put_report c i j hi hj h s 0x2300 1 _ (by decide) (by decide)
  · split
    · split
      · exact State.ent_put_report c i j hi hj h s 0x2300 1 _ (by decide) (by decide)
      · rfl
    · rfl

/-- An error that acts changes no entry of another index than reportIndices (R595 to R623). -/
theorem State.ent_raiseError (s : State) (e : ErrorIn) (ctx : Option Nat) :
    (s.raiseError e ctx).ent c i j = s.ent c i j := by
  have hrung : 5 + causeRung e.causeCode < 256 := by
    have := causeRung_le e.causeCode; omega
  have L := State.ent_latchError_report c i j hi hj h
  have T := State.ent_trayNotice_report c i j hi hj h
  have F := State.ent_fenceTiles_report c i j hi hj h
  have E := State.ent_enterSafeState_report c i j hi hj h
  have H := State.ent_holdIncident_report c i j hi hj h
  have A := State.ent_addIncident_report c i j hi hj h
  have N : ∀ (x : State) (b : Bool) (p q r : Nat), (if b = true then x.trayNotice p q r else x).ent c i j = x.ent c i j := by
    intro x b p q r; cases b
    · rfl
    · exact T _ _ _ _
  have N2 : ∀ (x : State) (p q r : Nat), (if e.causeCode = 0x0E then x.trayNotice p q r else x).ent c i j = x.ent c i j := by
    intro x p q r; split
    · exact T _ _ _ _
    · rfl
  unfold State.raiseError
  simp only
  split
  · rfl
  · split
    · exact L _ _
    · split
      · split
        · split
          · rw [E, F, N2, L]
          · split
            · rw [T, E, F, N2, L]
            · rw [H, T, E, F, N2, L]
        · split
          · rw [F, N2, L]
          · rw [A _ _ hrung, F, N2, L]
      · split
        · rw [N2, L]
        · rw [A _ _ hrung, N2, L]

end

/-- Setting the committed rates changes, of the entries of their index, the rates alone (R20, R21). -/
theorem State.setRates_entry (s : State) (l : List Nat) (j : Nat) (hj : j < 256) :
    (s.setRates l).ent 0 0x2003 j =
      ((List.range 4).foldl (fun (s : State) q => s.put 0x2003 (q + 1) (l.getD q 0)) s).ent 0 0x2003 j := by
  have hs : signalEntry 0 0x2003 j = false := by
    have h1 := canonEntry_ne_of_index 0 0x2003 j 0 0x2F00 0 (by decide) hj (by decide) (by decide) (by decide) (by decide) (by decide)
    have h2 := canonEntry_ne_of_index 0 0x2003 j 0 0x2F00 3 (by decide) hj (by decide) (by decide) (by decide) (by decide) (by decide)
    have h3 := canonEntry_ne_of_index 0 0x2003 j 0 0x2F02 2 (by decide) hj (by decide) (by decide) (by decide) (by decide) (by decide)
    simp [signalEntry, h1, h2, h3]
  have hb := canonEntry_ne_of_index 0 0x2003 j 0 0x2004 2 (by decide) hj (by decide) (by decide) (by decide) (by decide) (by decide)
  unfold State.setRates
  simp only
  split
  · rfl
  · split
    · rw [State.ent_signalHandle _ _ _ _ _ _ _ (by decide) hj hs, State.bump_def, State.ent_bumpEnt_ne _ _ _ _ _ _ _ _ hb]
    · rw [State.bump_def, State.ent_bumpEnt_ne _ _ _ _ _ _ _ _ hb]

end Sys2Proof.Machine
end

