-- ==== Sys2Proof/Laws/Sync.lean ====
section
/-! SUPPORT. Everything a judged wait and a signal can do to queues, sync objects and started commands. -/

namespace Sys2Proof.Machine

/-! ### Look-ups in a table after an update -/

@[simp] theorem State.queue?_stored (s t : State) (i : Nat) : (s.stored t).queue? i = t.queue? i := rfl
@[simp] theorem State.queue?_unstored (s t : State) (i : Nat) : (s.unstored t).queue? i = t.queue? i := rfl
@[simp] theorem State.ctx?_stored (s t : State) (i : Nat) : (s.stored t).ctx? i = t.ctx? i := rfl
@[simp] theorem State.ctx?_unstored (s t : State) (i : Nat) : (s.unstored t).ctx? i = t.ctx? i := rfl
@[simp] theorem State.sync?_stored (s t : State) (c i : Nat) : (s.stored t).sync? c i = t.sync? c i := rfl
@[simp] theorem State.sync?_unstored (s t : State) (c i : Nat) : (s.unstored t).sync? c i = t.sync? c i := rfl
@[simp] theorem State.queue?_noteChange (s : State) (c i : Nat) : (s.noteChange c).queue? i = s.queue? i := by
  unfold State.queue?; simp
@[simp] theorem State.ctx?_noteChange (s : State) (c i : Nat) : (s.noteChange c).ctx? i = s.ctx? i := by
  unfold State.ctx?; simp
@[simp] theorem State.sync?_noteChange (s : State) (c k i : Nat) : (s.noteChange c).sync? k i = s.sync? k i := by
  unfold State.sync?; simp
@[simp] theorem State.queue?_finish (s : State) (id st d : Nat) (a : Bytes) (i : Nat) :
    (s.finish id st d a).queue? i = s.queue? i := rfl
@[simp] theorem State.sync?_finish (s : State) (id st d : Nat) (a : Bytes) (c i : Nat) :
    (s.finish id st d a).sync? c i = s.sync? c i := rfl

theorem find?_map_keep {α : Type} (p : α → Bool) (g : α → α) (l : List α) (h : ∀ x, p (g x) = p x) :
    (l.map g).find? p = (l.find? p).map g := by
  induction l with
  | nil => rfl
  | cons x r ih =>
    simp only [List.map_cons, List.find?_cons, h]
    cases p x <;> simp [ih]

/-- A queue after any queue is changed by a function that keeps its number. -/
theorem State.queue?_updQueue_any (s : State) (i k : Nat) (f : Queue → Queue) (h : ∀ q, (f q).index = q.index) :
    (s.updQueue i f).queue? k = (s.queue? k).map fun q => if q.index == i then f q else q := by
  unfold State.queue? State.updQueue updWhere
  exact find?_map_keep _ _ _ (by intro x; split <;> simp [h])

/-- The number of a queue that was found is the one looked for. -/
theorem State.queue?_index {s : State} {i : Nat} {q : Queue} (h : s.queue? i = some q) : q.index = i := by
  have := List.find?_some h
  simpa using this

/-- The number of a started command that was found is the one looked for. -/
theorem State.ctx?_id {s : State} {i : Nat} {c : Ctx} (h : s.ctx? i = some c) : c.id = i := by
  have := List.find?_some h
  simpa using this

/-! ### Judging the command at HEAD -/

/-- What a queue keeps while the command at its HEAD is judged: everything but what was found of its wait. -/
def Queue.judged (q q' : Queue) : Prop :=
  ∃ e d r u, q' = { q with eligibleAt := e, deadlineLeft := d, readyAt := r, upstreamError := u }

theorem Queue.judged_refl (q : Queue) : q.judged q := ⟨_, _, _, _, rfl⟩

theorem Queue.judged.trans {a b c : Queue} (h : a.judged b) (h' : b.judged c) : a.judged c := by
  obtain ⟨e, d, r, u, rfl⟩ := h
  obtain ⟨e', d', r', u', rfl⟩ := h'
  exact ⟨e', d', r', u', rfl⟩

theorem State.judgeQueue_judged (s : State) (f : Form) (q : Queue) : q.judged (s.judgeQueue f q) := by
  have h1 : ∀ x : Queue, x.judged (s.findWait f x) := by
    intro x; unfold State.findWait
    split
    · exact x.judged_refl
    · split <;> exact ⟨_, _, _, _, rfl⟩
  have h2 : q.judged (s.beginWait f q) := by
    unfold State.beginWait; split <;> exact ⟨_, _, _, _, rfl⟩
  exact h2.trans (h1 _)

/-- A judged HEAD is one change of its queue, or none. -/
theorem State.judgeHead_cases (s : State) (qi : Nat) :
    s.judgeHead qi = s ∨ ∃ f, s.judgeHead qi = s.updQueue qi (s.judgeQueue f) := by
  unfold State.judgeHead
  split
  · exact .inl rfl
  · split
    · exact .inl rfl
    · split
      · exact .inl rfl
      · exact .inl rfl
      · split
        · exact .inl rfl
        · exact .inr ⟨_, rfl⟩

@[simp] theorem State.judgeHead_syncs (s : State) (qi : Nat) : (s.judgeHead qi).contract.syncs = s.contract.syncs := by
  obtain h | ⟨f, h⟩ := s.judgeHead_cases qi <;> rw [h]; rfl
@[simp] theorem State.judgeHead_ctxs (s : State) (qi : Nat) : (s.judgeHead qi).contract.ctxs = s.contract.ctxs := by
  obtain h | ⟨f, h⟩ := s.judgeHead_cases qi <;> rw [h]; rfl
@[simp] theorem State.judgeHead_nextCtx (s : State) (qi : Nat) : (s.judgeHead qi).contract.nextCtx = s.contract.nextCtx := by
  obtain h | ⟨f, h⟩ := s.judgeHead_cases qi <;> rw [h]; rfl
@[simp] theorem State.judgeHead_latches (s : State) (qi : Nat) : (s.judgeHead qi).contract.latches = s.contract.latches := by
  obtain h | ⟨f, h⟩ := s.judgeHead_cases qi <;> rw [h]; rfl
@[simp] theorem State.judgeHead_negotiated (s : State) (qi : Nat) :
    (s.judgeHead qi).contract.negotiated = s.contract.negotiated := by
  obtain h | ⟨f, h⟩ := s.judgeHead_cases qi <;> rw [h]; rfl

/-- A judged HEAD changes of a queue at most what was found of its wait. -/
theorem State.judgeHead_queue {s : State} {k : Nat} {q : Queue} (qi : Nat) (h : s.queue? k = some q) :
    ∃ q', (s.judgeHead qi).queue? k = some q' ∧ q.judged q' := by
  obtain h' | ⟨f, h'⟩ := s.judgeHead_cases qi <;> rw [h']
  · exact ⟨q, h, q.judged_refl⟩
  · rw [State.queue?_updQueue_any, h]
    · refine ⟨_, rfl, ?_⟩
      dsimp only
      split
      · exact s.judgeQueue_judged f q
      · exact q.judged_refl
    · intro x
      obtain ⟨_, _, _, _, e⟩ := s.judgeQueue_judged f x
      rw [e]

/-- Judging the waits of a cabinet changes of a queue at most what was found of its wait. -/
theorem State.judgeWaits_queue {s : State} {k : Nat} {q : Queue} (cab : Nat) (h : s.queue? k = some q) :
    ∃ q', (s.judgeWaits cab).queue? k = some q' ∧ q.judged q' := by
  unfold State.judgeWaits
  generalize ((s.contract.queues.filter fun q => q.cabinet == cab && q.eligibleAt.isSome).map (·.index)) = l
  induction l generalizing s q with
  | nil => exact ⟨q, h, q.judged_refl⟩
  | cons i r ih =>
    obtain ⟨q1, h1, j1⟩ := State.judgeHead_queue i h
    obtain ⟨q2, h2, j2⟩ := ih h1
    exact ⟨q2, h2, j1.trans j2⟩

@[simp] theorem State.judgeWaits_syncs (s : State) (c : Nat) : (s.judgeWaits c).contract.syncs = s.contract.syncs := by
  unfold State.judgeWaits
  exact foldl_keeps (fun s : State => s.contract.syncs) _ _ _ fun s g => by simp
@[simp] theorem State.judgeWaits_ctxs (s : State) (c : Nat) : (s.judgeWaits c).contract.ctxs = s.contract.ctxs := by
  unfold State.judgeWaits
  exact foldl_keeps (fun s : State => s.contract.ctxs) _ _ _ fun s g => by simp
@[simp] theorem State.judgeWaits_latches (s : State) (c : Nat) : (s.judgeWaits c).contract.latches = s.contract.latches := by
  unfold State.judgeWaits
  exact foldl_keeps (fun s : State => s.contract.latches) _ _ _ fun s g => by simp
@[simp] theorem State.judgeWaits_negotiated (s : State) (c : Nat) :
    (s.judgeWaits c).contract.negotiated = s.contract.negotiated := by
  unfold State.judgeWaits
  exact foldl_keeps (fun s : State => s.contract.negotiated) _ _ _ fun s g => by simp
@[simp] theorem State.judgeWaits_nextCtx (s : State) (c : Nat) :
    (s.judgeWaits c).contract.nextCtx = s.contract.nextCtx := by
  unfold State.judgeWaits
  exact foldl_keeps (fun s : State => s.contract.nextCtx) _ _ _ fun s g => by simp

/-! ### Mirrors and signals -/

/-- A mirror write changes of the contract at most the mark of a held mirror. -/
theorem State.writeMirror_cases (s : State) (o : SyncObj) :
    (s.writeMirror o).contract = s.contract ∨
    (s.writeMirror o).contract = (s.updSync o.index fun x => { x with mirrorHeld := true }).contract := by
  unfold State.writeMirror
  split
  · exact .inl rfl
  · split
    · exact .inl (by simp)
    · split
      · exact .inr rfl
      · exact .inl (by simp)

theorem State.ctx?_congr {s t : State} (h : t.contract.ctxs = s.contract.ctxs) (i : Nat) : t.ctx? i = s.ctx? i := by
  unfold State.ctx?; rw [h]

theorem State.queue?_congr {s t : State} (h : t.contract.queues = s.contract.queues) (i : Nat) :
    t.queue? i = s.queue? i := by
  unfold State.queue?; rw [h]

theorem State.sync?_congr {s t : State} (h : t.contract.syncs = s.contract.syncs) (c i : Nat) :
    t.sync? c i = s.sync? c i := by
  unfold State.sync?; rw [h]

@[simp] theorem State.writeMirror_ctxs (s : State) (o : SyncObj) :
    (s.writeMirror o).contract.ctxs = s.contract.ctxs := by
  obtain h | h := s.writeMirror_cases o <;> rw [h]; rfl
@[simp] theorem State.writeMirror_queues (s : State) (o : SyncObj) :
    (s.writeMirror o).contract.queues = s.contract.queues := by
  obtain h | h := s.writeMirror_cases o <;> rw [h]; rfl
@[simp] theorem State.writeMirror_latches (s : State) (o : SyncObj) :
    (s.writeMirror o).contract.latches = s.contract.latches := by
  obtain h | h := s.writeMirror_cases o <;> rw [h]; rfl
@[simp] theorem State.writeMirror_negotiated (s : State) (o : SyncObj) :
    (s.writeMirror o).contract.negotiated = s.contract.negotiated := by
  obtain h | h := s.writeMirror_cases o <;> rw [h]; rfl
@[simp] theorem State.writeMirror_nextCtx (s : State) (o : SyncObj) :
    (s.writeMirror o).contract.nextCtx = s.contract.nextCtx := by
  obtain h | h := s.writeMirror_cases o <;> rw [h]; rfl

/-- A change of a sync object starts and ends no command. -/
@[simp] theorem State.changeSync_ctxs (s : State) (c i : Nat) (f : SyncObj → SyncObj) :
    (s.changeSync c i f).contract.ctxs = s.contract.ctxs := by
  unfold State.changeSync; split <;> simp; rfl
@[simp] theorem State.changeSync_nextCtx (s : State) (c i : Nat) (f : SyncObj → SyncObj) :
    (s.changeSync c i f).contract.nextCtx = s.contract.nextCtx := by
  unfold State.changeSync; split <;> simp; rfl
@[simp] theorem State.changeSync_negotiated (s : State) (c i : Nat) (f : SyncObj → SyncObj) :
    (s.changeSync c i f).contract.negotiated = s.contract.negotiated := by
  unfold State.changeSync; split <;> simp; rfl
@[simp] theorem State.signal_ctxs (s : State) (c i op : Nat) (x : BitVec 64) :
    (s.signal c i op x).contract.ctxs = s.contract.ctxs := by simp [State.signal]
@[simp] theorem State.signalHandle_ctxs (s : State) (h op : Nat) (x : BitVec 64) :
    (s.signalHandle h op x).contract.ctxs = s.contract.ctxs := by unfold State.signalHandle; split <;> simp

/-- A change of a sync object changes of a queue at most what was found of its wait. -/
theorem State.changeSync_queue {s : State} {k : Nat} {q : Queue} (c i : Nat) (f : SyncObj → SyncObj)
    (h : s.queue? k = some q) : ∃ q', (s.changeSync c i f).queue? k = some q' ∧ q.judged q' := by
  unfold State.changeSync
  split
  · exact ⟨q, h, q.judged_refl⟩
  · rename_i o _
    have h1 : ((s.updSync i fun _ => f o).writeMirror (f o)).queue? k = some q := by
      rw [State.queue?_congr (State.writeMirror_queues _ _)]; exact h
    obtain ⟨q', h2, j⟩ := State.judgeWaits_queue c h1
    exact ⟨q', (State.queue?_congr (s := ((s.updSync i fun _ => f o).writeMirror (f o)).judgeWaits c) (by simp) k).trans h2, j⟩

/-- A sync object after its change: the changed object, but for the mark of a held mirror. -/
theorem State.changeSync_sync {s : State} {c i : Nat} {o : SyncObj} (f : SyncObj → SyncObj) (h : s.sync? c i = some o)
    (hi : (f o).index = o.index) (hc : (f o).cabinet = o.cabinet) :
    ∃ m, (s.changeSync c i f).sync? c i = some { f o with mirrorHeld := m } := by
  have ho : o.index = i ∧ o.cabinet = c := by
    have := List.find?_some h; simpa using this
  have h1 : (s.updSync i fun _ => f o).sync? c i = some (f o) := by
    have hh : ∀ l : List SyncObj, l.find? (fun o => o.index == i && o.cabinet == c) = some o →
        (updWhere (fun o => o.index == i) (fun _ => f o) l).find? (fun o => o.index == i && o.cabinet == c) = some (f o) := by
      intro l
      induction l with
      | nil => intro h; cases h
      | cons x r ih =>
        intro hx
        by_cases hxi : x.index = i
        · simp [updWhere, hxi, hi, hc, ho]
        · simp only [List.find?_cons, show (x.index == i) = false by simp [hxi], Bool.false_and] at hx
          have := ih hx
          simp only [updWhere] at this ⊢
          simp only [List.map_cons, show (x.index == i) = false by simp [hxi], Bool.false_eq_true, if_false,
            List.find?_cons, Bool.false_and]
          exact this
    exact hh _ h
  unfold State.changeSync
  rw [h]
  simp only
  have h2 : ∃ m, ((s.updSync i fun _ => f o).writeMirror (f o)).sync? c i = some { f o with mirrorHeld := m } := by
    obtain hw | hw := (s.updSync i fun _ => f o).writeMirror_cases (f o)
    · exact ⟨(f o).mirrorHeld, (State.sync?_congr (s := s.updSync i fun _ => f o) (by rw [hw]) c i).trans h1⟩
    · refine ⟨true, ?_⟩
      rw [State.sync?_congr (s := (s.updSync i fun _ => f o).updSync (f o).index fun x => { x with mirrorHeld := true }) (by rw [hw])]
      unfold State.sync? State.updSync updWhere
      rw [find?_map_keep]
      · have : (s.updSync i fun _ => f o).contract.syncs.find? (fun o => o.index == i && o.cabinet == c) = some (f o) := h1
        unfold State.updSync updWhere at this
        rw [this]
        simp [hi, ho]
      · intro x; split <;> rfl
  obtain ⟨m, h2⟩ := h2
  refine ⟨m, ?_⟩
  rw [State.sync?_congr (s := (s.updSync i fun _ => f o).writeMirror (f o)) (by simp), h2]

end Sys2Proof.Machine
end

