-- ==== Sys2Proof/Laws/Run.lean ====
section
/-! SUPPORT. The gates that many meanings share, taken once: a started command whose operation may run, a Control
command whose reserved bytes are zero, a granted dictionary write, and the answer to a request. -/

namespace Sys2Proof.Machine

/-- The meaning of a command runs on a started command that may run. -/
theorem onCtx_of_running {s : State} {id op : Nat} {c : Ctx} {q : Queue} (h : Running s id op c q) (f : Ctx → Result) :
    s.onCtx id (isCommand op) f = f c := by
  obtain ⟨h1, h2, h3, h4, h5, h6⟩ := h
  simp [State.onCtx, h1, h2, h3, h4, h5]

/-- A Control command whose reserved bytes are zero has its effect. -/
theorem control_of_running {s : State} {id op : Nat} {c : Ctx} {q : Queue} {named : List (Nat × Nat)}
    (h : Running s id op c q) (hr : reservedErr c.record named = none) (f : Queue → Ctx → Except Err (State × Nat)) :
    s.control id op named f = s.commit (s.finishWith id (f q c)) := by
  unfold State.control
  rw [onCtx_of_running h]
  simp only [h.2.2.2.2.2, hr]

theorem Completes.imp {o : Result} {p q : State → Prop} (h : Completes o p) (k : ∀ t, p t → q t) : Completes o q :=
  h.elim fun t ht => ⟨t, ht.1, k t ht.2⟩

/-- A command that is finished has ended. -/
theorem ended_finish {s t : State} {id : Nat} {c : Ctx} (h : t.ctx? id = some c) (hf : c.finished = false) (st d : Nat)
    (a : Bytes) : Ended (s.stored (t.finish id st d a)) id st d :=
  ⟨_, (State.ctx?_stored _ _ _).trans (State.ctx?_finish _ _ _ _ _ _ h hf), rfl, rfl, rfl⟩

/-! ### Answers of the dictionary server -/

/-- The parts of the state that an answer leaves: all but the dictionary's counters, the server and the functions. -/
theorem State.respond_rest (s : State) (r : ActReq) (op idx sub code : Nat) (p : Bytes) :
    (s.respond r op idx sub code p).mem = s.mem ∧ (s.respond r op idx sub code p).contract = s.contract ∧
    (s.respond r op idx sub code p).faults = s.faults ∧ (s.respond r op idx sub code p).now = s.now := by
  have hc : (s.countAnswer code).mem = s.mem ∧ (s.countAnswer code).contract = s.contract ∧
      (s.countAnswer code).faults = s.faults ∧ (s.countAnswer code).now = s.now := by
    unfold State.countAnswer; split <;> simp
  unfold State.respond
  split
  · exact ⟨rfl, rfl, rfl, rfl⟩
  · simp only
    unfold State.mailAnswer
    split
    · simp only [State.raiseEvent_mem, State.raiseEvent_contract, State.raiseEvent_faults, State.raiseEvent_now,
        State.setFn_mem, State.setFn_contract, State.setFn_faults, State.setFn_now]
      exact hc
    · exact hc

/-- An answer changes no entry of another index than the server's counters. -/
theorem State.ent_respond (s : State) (r : ActReq) (op idx sub code : Nat) (p : Bytes) (c i j : Nat) (hi : i < 65536)
    (hj : j < 256) (h : i ≠ 0x1006) : (s.respond r op idx sub code p).ent c i j = s.ent c i j := by
  have b : ∀ (t : State) (k n : Nat), k < 256 → (t.bump 0x1006 k n).ent c i j = t.ent c i j := by
    intro t k n hk
    exact State.ent_bumpEnt_ne _ _ _ _ _ _ _ _
      (canonEntry_ne_of_index c i j 0 0x1006 k hi hj (by decide) hk h (by decide) (by decide))
  have hc : (s.countAnswer code).ent c i j = s.ent c i j := by
    unfold State.countAnswer
    split
    · exact b _ _ _ (by decide)
    · rw [b _ _ _ (by decide), b _ _ _ (by decide)]
  unfold State.respond
  split
  · rfl
  · simp only
    unfold State.mailAnswer
    split
    · rw [State.ent_raiseEvent, State.ent_setFn]; exact hc
    · exact hc

/-- A granted write that acts and is done answers OK over its effect. -/
theorem State.act_of_granted {s t : State} {r : ActReq} {idx sub : Nat} {eff : ActEffect} (h : Granted s r idx sub)
    (he : eff r s = .ok (t, false)) :
    s.act r idx sub eff = s.commit (t.respond r 2 idx sub 0 (t.writePayload r.cabinet idx sub)) := by
  obtain ⟨h1, h2, h3, h4⟩ := h
  have hj : s.judge r 2 idx sub = (0, (s.judge r 2 idx sub).2) := by rw [← h3]
  unfold State.act State.serveWrite State.tryWrite
  rw [hj]
  simp [h1, h2, he, h4]

/-- A granted write that acts and goes on stays outstanding over its effect. -/
theorem State.act_of_granted_running {s t : State} {r : ActReq} {idx sub : Nat} {eff : ActEffect}
    (h : Granted s r idx sub) (he : eff r s = .ok (t, true)) :
    s.act r idx sub eff = s.commit (t.keepOutstanding r idx sub) := by
  obtain ⟨h1, h2, h3, h4⟩ := h
  have hj : s.judge r 2 idx sub = (0, (s.judge r 2 idx sub).2) := by rw [← h3]
  unfold State.act State.serveWrite State.tryWrite
  rw [hj]
  simp [h1, h2, he, h4]

end Sys2Proof.Machine
end

