-- ==== Sys2Proof/Laws/Tensor.lean ====
section
/-! SUPPORT. What a checked list of writes and a tensor written whole leave as they were, and the end of a Transform command
whose operation succeeded. -/

namespace Sys2Proof.Machine

/-- The parts of the state that writes of tensors leave: all but memory, the tier controller and the write tracking. -/
structure SameRest (s t : State) : Prop where
  contract : t.contract = s.contract
  dict : t.dict = s.dict
  now : t.now = s.now
  fresh : t.fresh = s.fresh
  transform : t.transform = s.transform

theorem SameRest.refl (s : State) : SameRest s s := ⟨rfl, rfl, rfl, rfl, rfl⟩

theorem SameRest.trans {s t u : State} (h : SameRest s t) (k : SameRest t u) : SameRest s u :=
  ⟨k.contract.trans h.contract, k.dict.trans h.dict, k.now.trans h.now, k.fresh.trans h.fresh,
    k.transform.trans h.transform⟩

theorem State.putCab_sameRest (s : State) (cab a : Nat) (bs : Bytes) : SameRest s (s.putCab cab a bs) := by
  unfold State.putCab
  split
  · exact SameRest.refl s
  · exact ⟨by simp, by simp, by simp, by simp, by simp⟩

/-- Writes that pass their checks change nothing but what they are for. -/
theorem State.writeAll_sameRest (cab : Nat) : ∀ (l : List (Nat × Bytes)) (s t : State),
    s.writeAll cab l = .ok t → SameRest s t
  | [], s, t, h => by cases h; exact SameRest.refl s
  | (a, bs) :: r, s, t, h => by
    unfold State.writeAll at h
    split at h
    · exact writeAll_sameRest cab r s t h
    · split at h
      · cases h
      · exact (s.putCab_sameRest cab a bs).trans (writeAll_sameRest cab r _ t h)

theorem Except.bind_eq_ok {ε α β : Type} {x : Except ε α} {f : α → Except ε β} {b : β} (h : x >>= f = .ok b) :
    ∃ a, x = .ok a ∧ f a = .ok b := by
  cases x with
  | error e => cases h
  | ok a => exact ⟨a, rfl, h⟩

/-- A tensor written whole changes nothing but what it is for. -/
theorem State.storeTensor_sameRest {s t : State} {cab : Nat} {d : Desc} {pol : Policy} {r : Rounding} {vals : List Fl}
    {used : Nat} {n : Counts} (h : s.storeTensor cab d pol r vals = .ok (t, used, n)) : SameRest s t := by
  unfold State.storeTensor at h
  simp only at h
  obtain ⟨_, _, h⟩ := Except.bind_eq_ok h
  obtain ⟨_, _, h⟩ := Except.bind_eq_ok h
  obtain ⟨u, hu, h⟩ := Except.bind_eq_ok h
  cases h
  exact State.writeAll_sameRest _ _ _ _ hu

/-- Granules written ahead of their copy are a matter of the snapshots and of the page tables alone. -/
theorem State.aheadOfCopy_congr {s t : State} (h : t.snap = s.snap) : t.aheadOfCopy = s.aheadOfCopy := by
  unfold State.aheadOfCopy; rw [h]

/-- A Transform command whose operation succeeded ends with its counts, DETAIL and ENGINE_AREA. -/
theorem transform_ended {s t : State} {id op : Nat} {c : Ctx} {q : Queue} {x : XCmd} {d : XDone}
    {f : Ctx → XCmd → Except Err (State × XDone)} (h : Running s id op c q) (hx : s.xBegin c op = .ok x)
    (hf : f c x = .ok (t, d)) (ht : t.contract = s.contract) (ha : t.aheadOfCopy = none) :
    Completes (s.transformCmd id op f) fun u => XEnded u id d ∧ SameBytes t u ∧
      u.dict = (t.bump 0x2201 1 d.counts.malformed).dict ∧ u.transform = t.transform := by
  unfold State.transformCmd
  rw [onCtx_of_running h]
  have e1 : (do let x ← s.xBegin c op; f c x) = Except.ok (t, d) := by rw [hx]; exact hf
  simp only [e1, State.xEnd, State.land]
  have e2 : ((t.bump 0x2201 1 d.counts.malformed).finish id d.counts.status d.detail
      (d.counts.bytes ++ toLe 4 d.lanes ++ toLe 4 d.heapUsed)).aheadOfCopy = none := by
    rw [← ha]; exact State.aheadOfCopy_congr (by simp)
  simp only [e2, completes_commit]
  have hc : (t.bump 0x2201 1 d.counts.malformed).ctx? id = some c :=
    (State.ctx?_congr (by simp [ht]) id).trans h.1
  refine ⟨⟨_, (State.ctx?_stored _ _ _).trans (State.ctx?_finish _ _ _ _ _ _ hc h.2.2.1), rfl, rfl, rfl, rfl⟩, ?_, ?_, ?_⟩
  · intro a; simp
  · simp
  · simp

/-! ### Writes without attached snapshot sets -/

theorem State.storePieces_noSets : ∀ (ps : List (Nat × Nat)) (s : State) (bs : Bytes), s.snap.sets = [] →
    (s.storePieces ps bs).snap.sets = []
  | [], _, _, h => h
  | (d, n) :: r, s, bs, h => storePieces_noSets r _ _ (by
      have : ((s.storeRaw d (bs.take n)).snap) = s.snap := by simp
      simp only [State.store, State.markDirty, this, h, List.map_nil])

/-- While no snapshot set is attached, no write meets a granule that has not been copied. -/
theorem State.aheadOfCopy_noSets {s : State} (h : s.snap.sets = []) : s.aheadOfCopy = none := by
  simp only [State.aheadOfCopy, h, List.findSome?_nil]

theorem State.putCab_noSets {s : State} (c a : Nat) (bs : Bytes) (h : s.snap.sets = []) :
    (s.putCab c a bs).snap.sets = [] := by
  unfold State.putCab
  split
  · exact h
  · rw [State.logWrite_snap]; exact State.storePieces_noSets _ _ _ h

/-! ### Writes without a generation that is being copied -/

theorem State.storePieces_copied : ∀ (ps : List (Nat × Nat)) (s : State) (bs : Bytes),
    (∀ x ∈ s.snap.sets, ∀ g ∈ x.gens, g.state ≠ 1) → ∀ x ∈ (s.storePieces ps bs).snap.sets, ∀ g ∈ x.gens, g.state ≠ 1
  | [], _, _, h => h
  | (d, n) :: r, s, bs, h => storePieces_copied r _ _ (by
      intro x hx g hg
      simp only [State.store, State.markDirty, State.storeRaw_snap, List.mem_map] at hx
      obtain ⟨y, hy, rfl⟩ := hx
      simp only [List.mem_map] at hg
      obtain ⟨g', hg', rfl⟩ := hg
      unfold Generation.mark
      split
      · exact h y hy g' hg'
      · exact h y hy g' hg')

theorem State.putCab_copied {s : State} (c a : Nat) (bs : Bytes) (h : ∀ x ∈ s.snap.sets, ∀ g ∈ x.gens, g.state ≠ 1) :
    ∀ x ∈ (s.putCab c a bs).snap.sets, ∀ g ∈ x.gens, g.state ≠ 1 := by
  unfold State.putCab
  split
  · exact h
  · rw [State.logWrite_snap]; exact State.storePieces_copied _ _ _ h

/-- While no generation is being copied, no write meets a granule that has not been copied. -/
theorem State.aheadOfCopy_copied {s : State} (h : ∀ x ∈ s.snap.sets, ∀ g ∈ x.gens, g.state ≠ 1) : s.aheadOfCopy = none := by
  unfold State.aheadOfCopy
  rw [List.findSome?_eq_none_iff]
  intro x hx
  rw [Option.map_eq_none_iff, List.findSome?_eq_none_iff]
  intro g hg
  rw [List.find?_eq_none]
  intro i _
  simp [Generation.lacks, h x hx g hg]

end Sys2Proof.Machine
end

