-- ==== Sys2Proof/Laws/Drevy.lean ====
section
/-! SUPPORT. What a trigger of a Drevy core leaves: the core found again after it is replaced, and the parts of it that a
result on its way does not touch. -/

namespace Sys2Proof.Machine

/-- A core found by its number has that number. -/
theorem State.core?_id {s : State} {i : Nat} {c : Core} (h : s.core? i = some c) : c.id = i := by
  have := List.find?_some h
  simpa using this

theorem find?_updWhere_self {α : Type} (p : α → Bool) (y : α) (hy : p y = true) :
    ∀ (l : List α) (x : α), l.find? p = some x → (updWhere p (fun _ => y) l).find? p = some y
  | [], _, h => by cases h
  | a :: r, x, h => by
    have e : updWhere p (fun _ => y) (a :: r) = (if p a then y else a) :: updWhere p (fun _ => y) r := rfl
    cases ha : p a with
    | true => rw [e, ha, if_pos rfl, List.find?_cons, hy]
    | false =>
      rw [List.find?_cons, ha] at h
      rw [e, ha, if_neg (by simp), List.find?_cons, ha]
      exact find?_updWhere_self p y hy r x h

/-- A core that is replaced is found. -/
theorem State.core?_setCore {s : State} {c c' : Core} (h : s.core? c'.id = some c) : (s.setCore c').core? c'.id = some c' := by
  unfold State.core? State.setCore at *
  exact find?_updWhere_self _ _ (by simp) _ _ h

@[simp] theorem State.setCore_dict (s : State) (c : Core) : (s.setCore c).dict = s.dict := rfl
@[simp] theorem State.setCore_mem (s : State) (c : Core) : (s.setCore c).mem = s.mem := rfl
@[simp] theorem State.setCore_contract (s : State) (c : Core) : (s.setCore c).contract = s.contract := rfl
@[simp] theorem State.core?_stored (s t : State) (i : Nat) : (s.stored t).core? i = t.core? i := rfl
@[simp] theorem State.core?_unstored (s t : State) (i : Nat) : (s.unstored t).core? i = t.core? i := rfl

@[simp] theorem Core.launchRes_id (c : Core) (u tr p : Nat) (v : W32) : (c.launchRes u tr p v).id = c.id := rfl
@[simp] theorem Core.launchRes_stall (c : Core) (u tr p : Nat) (v : W32) : (c.launchRes u tr p v).stall = c.stall := rfl
@[simp] theorem Core.busyUntil_id (c : Core) (u p : Nat) : (c.busyUntil u p).id = c.id := rfl
@[simp] theorem Core.busyUntil_stall (c : Core) (u p : Nat) : (c.busyUntil u p).stall = c.stall := rfl

/-- A core that executes is not stalled. -/
theorem State.executes_stall {s : State} {c : Core} (h : s.executes c = true) : c.stall = 0 := by
  unfold State.executes at h
  simp at h
  omega

/-- A trigger that takes effect and stalls nothing leaves the core that it makes. -/
theorem onTrigger_ok {s s' : State} {core u p : Nat} {t : W32} {c c' : Core} (hc : s.core? core = some c)
    (hu : c.hasUnit u = true) (he : s.executes c = true) (ht : s.trigger c u p t = .ok s' c') (hs : c'.stall ≠ 5) :
    s.onTrigger core u p t = s.commit (s'.setCore (c'.busyUntil u p)) := by
  simp [State.onTrigger, hc, hu, he, ht, State.tryHalt, hs]

/-- What holds of a core that replaces another is found to hold. -/
theorem core_setCore {s : State} {core : Nat} {c c' : Core} (hc : s.core? core = some c) (hi : c'.id = c.id) (t : State)
    (ht : t.core? core = (s.setCore c').core? core) {P : Core → Prop} (hp : P c') : ∃ d, t.core? core = some d ∧ P d := by
  have hid := State.core?_id hc
  refine ⟨c', ?_, hp⟩
  rw [ht, ← hid, ← hi]
  exact State.core?_setCore (c := c) (by rw [hi, hid]; exact hc)

/-- A core with a result on its way. -/
theorem launched_setCore {s : State} {core u tr r l : Nat} {v : W32} {c c' : Core} (hc : s.core? core = some c)
    (hl : latencyOf u tr = l) (hi : c'.id = c.id) (hf : c'.inFlight = (c.launchRes u tr r v).inFlight)
    (hn : c'.notReady = (c.launchRes u tr r v).notReady) (hp : c'.ga = c.ga ∧ c'.gb = c.gb ∧ c'.grd = c.grd ∧ c'.pc = c.pc ∧
      c'.words = c.words) (t : State) (ht : t.core? c.id = (s.setCore c').core? c.id) :
    Launched t c u r v l c'.ports := by
  have hid := State.core?_id hc
  refine ⟨c', ?_, ?_, ?_, rfl, hp⟩
  · rw [ht, ← hi]; exact State.core?_setCore (c := c) (by rw [hi, hid]; exact hc)
  · rw [hf, ← hl]; rfl
  · rw [hn]
    simp only [Core.launchRes]
    by_cases h1 : c.inFlight.any (fun f => f.unitId == u) <;> by_cases h2 : portId u r ∈ c.notReady <;> simp [h1, h2]

/-- A trigger that only computes a result puts it on its way and stores nothing. -/
theorem launched_of_trigger {s : State} {core u p r l : Nat} {t v : W32} {c : Core} (hc : s.core? core = some c)
    (hu : c.hasUnit u = true) (he : s.executes c = true) (ht : s.trigger c u p t = .ok s (c.launchRes u p r v))
    (hl : latencyOf u p = l) :
    Completes (s.onTrigger core u p t) fun w => Launched w c u r v l c.ports ∧ w.dict = s.dict ∧ SameBytes s w := by
  have hs := State.executes_stall he
  rw [onTrigger_ok hc hu he ht (by simp [hs]), completes_commit]
  exact ⟨launched_setCore (c' := (c.launchRes u p r v).busyUntil u p) hc hl rfl rfl rfl ⟨rfl, rfl, rfl, rfl, rfl⟩ _ rfl, rfl,
    sameBytes_stored _ _ rfl⟩

end Sys2Proof.Machine
end

