-- ==== Sys2Proof/Laws/PerInstr.lean ====
section
/-! SUPPORT. Laws of the commands as syntax, one lemma for each constructor: no word of the table spells a command, since the
table gives its rows no bits. -/

namespace Sys2Proof.Laws

/-- No word of the table spells the command. -/
def NoTableWord.Statement (i : Instr) : Prop := ∀ nbits w : Nat, decodeTableWord nbits w ≠ some i

theorem NoTableWord.measuredRateUpdate (x0) : NoTableWord.Statement (.measuredRateUpdate x0) := fun _ _ h => nomatch h
theorem NoTableWord.minRateUpdate : NoTableWord.Statement (.minRateUpdate) := fun _ _ h => nomatch h
theorem NoTableWord.rateFloor (x0) : NoTableWord.Statement (.rateFloor x0) := fun _ _ h => nomatch h
theorem NoTableWord.commitWindowBoundary : NoTableWord.Statement (.commitWindowBoundary) := fun _ _ h => nomatch h
theorem NoTableWord.crossingTransfer (x0 x1) : NoTableWord.Statement (.crossingTransfer x0 x1) := fun _ _ h => nomatch h
theorem NoTableWord.crossingHang (x0) : NoTableWord.Statement (.crossingHang x0) := fun _ _ h => nomatch h
theorem NoTableWord.arbiterGrant (x0 x1) : NoTableWord.Statement (.arbiterGrant x0 x1) := fun _ _ h => nomatch h
theorem NoTableWord.sqTail (x0 x1 x2) : NoTableWord.Statement (.sqTail x0 x1 x2) := fun _ _ h => nomatch h
theorem NoTableWord.cqHead (x0 x1 x2) : NoTableWord.Statement (.cqHead x0 x1 x2) := fun _ _ h => nomatch h
theorem NoTableWord.reset (x0 x1) : NoTableWord.Statement (.reset x0 x1) := fun _ _ h => nomatch h
theorem NoTableWord.resume (x0 x1) : NoTableWord.Statement (.resume x0 x1) := fun _ _ h => nomatch h
theorem NoTableWord.set (x0 x1) : NoTableWord.Statement (.set x0 x1) := fun _ _ h => nomatch h
theorem NoTableWord.add (x0 x1) : NoTableWord.Statement (.add x0 x1) := fun _ _ h => nomatch h
theorem NoTableWord.max (x0 x1) : NoTableWord.Statement (.max x0 x1) := fun _ _ h => nomatch h
theorem NoTableWord.or (x0 x1) : NoTableWord.Statement (.or x0 x1) := fun _ _ h => nomatch h
theorem NoTableWord.setError (x0 x1) : NoTableWord.Statement (.setError x0 x1) := fun _ _ h => nomatch h
theorem NoTableWord.clearError (x0 x1) : NoTableWord.Statement (.clearError x0 x1) := fun _ _ h => nomatch h
theorem NoTableWord.headRecordReadFailure (x0) : NoTableWord.Statement (.headRecordReadFailure x0) := fun _ _ h => nomatch h
theorem NoTableWord.commandAdmission (x0) : NoTableWord.Statement (.commandAdmission x0) := fun _ _ h => nomatch h
theorem NoTableWord.commandCompletion (x0) : NoTableWord.Statement (.commandCompletion x0) := fun _ _ h => nomatch h
theorem NoTableWord.waitDeadline (x0) : NoTableWord.Statement (.waitDeadline x0) := fun _ _ h => nomatch h
theorem NoTableWord.nop (x0) : NoTableWord.Statement (.nop x0) := fun _ _ h => nomatch h
theorem NoTableWord.syncOnly (x0) : NoTableWord.Statement (.syncOnly x0) := fun _ _ h => nomatch h
theorem NoTableWord.flush (x0) : NoTableWord.Statement (.flush x0) := fun _ _ h => nomatch h
theorem NoTableWord.negotiate (x0) : NoTableWord.Statement (.negotiate x0) := fun _ _ h => nomatch h
theorem NoTableWord.queueCreate (x0) : NoTableWord.Statement (.queueCreate x0) := fun _ _ h => nomatch h
theorem NoTableWord.queueDelete (x0) : NoTableWord.Statement (.queueDelete x0) := fun _ _ h => nomatch h
theorem NoTableWord.queueReset (x0) : NoTableWord.Statement (.queueReset x0) := fun _ _ h => nomatch h
theorem NoTableWord.queueResume (x0) : NoTableWord.Statement (.queueResume x0) := fun _ _ h => nomatch h
theorem NoTableWord.queueQuery (x0) : NoTableWord.Statement (.queueQuery x0) := fun _ _ h => nomatch h
theorem NoTableWord.syncAlloc (x0) : NoTableWord.Statement (.syncAlloc x0) := fun _ _ h => nomatch h
theorem NoTableWord.syncFree (x0) : NoTableWord.Statement (.syncFree x0) := fun _ _ h => nomatch h
theorem NoTableWord.syncSet (x0) : NoTableWord.Statement (.syncSet x0) := fun _ _ h => nomatch h
theorem NoTableWord.queueResetComplete (x0) : NoTableWord.Statement (.queueResetComplete x0) := fun _ _ h => nomatch h
theorem NoTableWord.queueResetTimeout (x0) : NoTableWord.Statement (.queueResetTimeout x0) := fun _ _ h => nomatch h
theorem NoTableWord.circleScan : NoTableWord.Statement (.circleScan) := fun _ _ h => nomatch h
theorem NoTableWord.hostLeaseRenew (x0) : NoTableWord.Statement (.hostLeaseRenew x0) := fun _ _ h => nomatch h
theorem NoTableWord.hostLeaseRelease (x0) : NoTableWord.Statement (.hostLeaseRelease x0) := fun _ _ h => nomatch h
theorem NoTableWord.adopt (x0) : NoTableWord.Statement (.adopt x0) := fun _ _ h => nomatch h
theorem NoTableWord.hostLeaseExpiry (x0) : NoTableWord.Statement (.hostLeaseExpiry x0) := fun _ _ h => nomatch h
theorem NoTableWord.quantize (x0) : NoTableWord.Statement (.quantize x0) := fun _ _ h => nomatch h
theorem NoTableWord.dequantize (x0) : NoTableWord.Statement (.dequantize x0) := fun _ _ h => nomatch h
theorem NoTableWord.escalate (x0) : NoTableWord.Statement (.escalate x0) := fun _ _ h => nomatch h
theorem NoTableWord.reduce (x0) : NoTableWord.Statement (.reduce x0) := fun _ _ h => nomatch h
theorem NoTableWord.sumSquares (x0) : NoTableWord.Statement (.sumSquares x0) := fun _ _ h => nomatch h
theorem NoTableWord.adamw (x0) : NoTableWord.Statement (.adamw x0) := fun _ _ h => nomatch h
theorem NoTableWord.lion (x0) : NoTableWord.Statement (.lion x0) := fun _ _ h => nomatch h
theorem NoTableWord.sgdMomentum (x0) : NoTableWord.Statement (.sgdMomentum x0) := fun _ _ h => nomatch h
theorem NoTableWord.factored (x0) : NoTableWord.Statement (.factored x0) := fun _ _ h => nomatch h
theorem NoTableWord.blockScore (x0) : NoTableWord.Statement (.blockScore x0) := fun _ _ h => nomatch h
theorem NoTableWord.adapterApply (x0) : NoTableWord.Statement (.adapterApply x0) := fun _ _ h => nomatch h
theorem NoTableWord.kernelLaunch (x0) : NoTableWord.Statement (.kernelLaunch x0) := fun _ _ h => nomatch h
theorem NoTableWord.selfcheckRun (x0) : NoTableWord.Statement (.selfcheckRun x0) := fun _ _ h => nomatch h
theorem NoTableWord.selfcheckComplete (x0) : NoTableWord.Statement (.selfcheckComplete x0) := fun _ _ h => nomatch h
theorem NoTableWord.accumulationOpen (x0 x1 x2 x3 x4) : NoTableWord.Statement (.accumulationOpen x0 x1 x2 x3 x4) := fun _ _ h => nomatch h
theorem NoTableWord.wordIssue (x0) : NoTableWord.Statement (.wordIssue x0) := fun _ _ h => nomatch h
theorem NoTableWord.addTrigger (x0 x1 x2) : NoTableWord.Statement (.addTrigger x0 x1 x2) := fun _ _ h => nomatch h
theorem NoTableWord.sub (x0 x1 x2) : NoTableWord.Statement (.sub x0 x1 x2) := fun _ _ h => nomatch h
theorem NoTableWord.and (x0 x1 x2) : NoTableWord.Statement (.and x0 x1 x2) := fun _ _ h => nomatch h
theorem NoTableWord.orTrigger (x0 x1 x2) : NoTableWord.Statement (.orTrigger x0 x1 x2) := fun _ _ h => nomatch h
theorem NoTableWord.xor (x0 x1 x2) : NoTableWord.Statement (.xor x0 x1 x2) := fun _ _ h => nomatch h
theorem NoTableWord.shl (x0 x1 x2) : NoTableWord.Statement (.shl x0 x1 x2) := fun _ _ h => nomatch h
theorem NoTableWord.shr (x0 x1 x2) : NoTableWord.Statement (.shr x0 x1 x2) := fun _ _ h => nomatch h
theorem NoTableWord.sar (x0 x1 x2) : NoTableWord.Statement (.sar x0 x1 x2) := fun _ _ h => nomatch h
theorem NoTableWord.eq (x0 x1 x2) : NoTableWord.Statement (.eq x0 x1 x2) := fun _ _ h => nomatch h
theorem NoTableWord.ne (x0 x1 x2) : NoTableWord.Statement (.ne x0 x1 x2) := fun _ _ h => nomatch h
theorem NoTableWord.lts (x0 x1 x2) : NoTableWord.Statement (.lts x0 x1 x2) := fun _ _ h => nomatch h
theorem NoTableWord.ltu (x0 x1 x2) : NoTableWord.Statement (.ltu x0 x1 x2) := fun _ _ h => nomatch h
theorem NoTableWord.mins (x0 x1 x2) : NoTableWord.Statement (.mins x0 x1 x2) := fun _ _ h => nomatch h
theorem NoTableWord.maxs (x0 x1 x2) : NoTableWord.Statement (.maxs x0 x1 x2) := fun _ _ h => nomatch h
theorem NoTableWord.carry (x0 x1 x2) : NoTableWord.Statement (.carry x0 x1 x2) := fun _ _ h => nomatch h
theorem NoTableWord.pass (x0 x1 x2) : NoTableWord.Statement (.pass x0 x1 x2) := fun _ _ h => nomatch h
theorem NoTableWord.mullo (x0 x1) : NoTableWord.Statement (.mullo x0 x1) := fun _ _ h => nomatch h
theorem NoTableWord.mulhs (x0 x1) : NoTableWord.Statement (.mulhs x0 x1) := fun _ _ h => nomatch h
theorem NoTableWord.mulhu (x0 x1) : NoTableWord.Statement (.mulhu x0 x1) := fun _ _ h => nomatch h
theorem NoTableWord.fadd (x0 x1) : NoTableWord.Statement (.fadd x0 x1) := fun _ _ h => nomatch h
theorem NoTableWord.fsub (x0 x1) : NoTableWord.Statement (.fsub x0 x1) := fun _ _ h => nomatch h
theorem NoTableWord.fmul (x0 x1) : NoTableWord.Statement (.fmul x0 x1) := fun _ _ h => nomatch h
theorem NoTableWord.ffma (x0 x1) : NoTableWord.Statement (.ffma x0 x1) := fun _ _ h => nomatch h
theorem NoTableWord.fmin (x0 x1) : NoTableWord.Statement (.fmin x0 x1) := fun _ _ h => nomatch h
theorem NoTableWord.fmax (x0 x1) : NoTableWord.Statement (.fmax x0 x1) := fun _ _ h => nomatch h
theorem NoTableWord.flt (x0 x1) : NoTableWord.Statement (.flt x0 x1) := fun _ _ h => nomatch h
theorem NoTableWord.feq (x0 x1) : NoTableWord.Statement (.feq x0 x1) := fun _ _ h => nomatch h
theorem NoTableWord.i2f (x0 x1) : NoTableWord.Statement (.i2f x0 x1) := fun _ _ h => nomatch h
theorem NoTableWord.f2i (x0 x1) : NoTableWord.Statement (.f2i x0 x1) := fun _ _ h => nomatch h
theorem NoTableWord.f2bf (x0 x1) : NoTableWord.Statement (.f2bf x0 x1) := fun _ _ h => nomatch h
theorem NoTableWord.bf2f (x0 x1) : NoTableWord.Statement (.bf2f x0 x1) := fun _ _ h => nomatch h
theorem NoTableWord.fdiv (x0 x1) : NoTableWord.Statement (.fdiv x0 x1) := fun _ _ h => nomatch h
theorem NoTableWord.fsqrt (x0 x1) : NoTableWord.Statement (.fsqrt x0 x1) := fun _ _ h => nomatch h
theorem NoTableWord.ld (x0 x1 x2) : NoTableWord.Statement (.ld x0 x1 x2) := fun _ _ h => nomatch h
theorem NoTableWord.st (x0 x1 x2) : NoTableWord.Statement (.st x0 x1 x2) := fun _ _ h => nomatch h
theorem NoTableWord.ldpi (x0 x1 x2) : NoTableWord.Statement (.ldpi x0 x1 x2) := fun _ _ h => nomatch h
theorem NoTableWord.stpi (x0 x1 x2) : NoTableWord.Statement (.stpi x0 x1 x2) := fun _ _ h => nomatch h
theorem NoTableWord.ldpd (x0 x1 x2) : NoTableWord.Statement (.ldpd x0 x1 x2) := fun _ _ h => nomatch h
theorem NoTableWord.stpd (x0 x1 x2) : NoTableWord.Statement (.stpd x0 x1 x2) := fun _ _ h => nomatch h
theorem NoTableWord.ldx (x0 x1 x2) : NoTableWord.Statement (.ldx x0 x1 x2) := fun _ _ h => nomatch h
theorem NoTableWord.stx (x0 x1 x2) : NoTableWord.Statement (.stx x0 x1 x2) := fun _ _ h => nomatch h
theorem NoTableWord.mac (x0 x1) : NoTableWord.Statement (.mac x0 x1) := fun _ _ h => nomatch h
theorem NoTableWord.vadd (x0 x1) : NoTableWord.Statement (.vadd x0 x1) := fun _ _ h => nomatch h
theorem NoTableWord.vmul (x0 x1) : NoTableWord.Statement (.vmul x0 x1) := fun _ _ h => nomatch h
theorem NoTableWord.vmax (x0 x1) : NoTableWord.Statement (.vmax x0 x1) := fun _ _ h => nomatch h
theorem NoTableWord.vfma (x0 x1) : NoTableWord.Statement (.vfma x0 x1) := fun _ _ h => nomatch h
theorem NoTableWord.vwait (x0 x1) : NoTableWord.Statement (.vwait x0 x1) := fun _ _ h => nomatch h
theorem NoTableWord.vecOperationDone (x0) : NoTableWord.Statement (.vecOperationDone x0) := fun _ _ h => nomatch h
theorem NoTableWord.dmaGet (x0 x1) : NoTableWord.Statement (.dmaGet x0 x1) := fun _ _ h => nomatch h
theorem NoTableWord.dmaPut (x0 x1) : NoTableWord.Statement (.dmaPut x0 x1) := fun _ _ h => nomatch h
theorem NoTableWord.dmaWait (x0 x1) : NoTableWord.Statement (.dmaWait x0 x1) := fun _ _ h => nomatch h
theorem NoTableWord.kernelDmaDone (x0 x1) : NoTableWord.Statement (.kernelDmaDone x0 x1) := fun _ _ h => nomatch h
theorem NoTableWord.jmp (x0 x1) : NoTableWord.Statement (.jmp x0 x1) := fun _ _ h => nomatch h
theorem NoTableWord.call (x0 x1) : NoTableWord.Statement (.call x0 x1) := fun _ _ h => nomatch h
theorem NoTableWord.ret (x0 x1) : NoTableWord.Statement (.ret x0 x1) := fun _ _ h => nomatch h
theorem NoTableWord.halt (x0 x1) : NoTableWord.Statement (.halt x0 x1) := fun _ _ h => nomatch h
theorem NoTableWord.rft (x0 x1) : NoTableWord.Statement (.rft x0 x1) := fun _ _ h => nomatch h
theorem NoTableWord.svc (x0 x1) : NoTableWord.Statement (.svc x0 x1) := fun _ _ h => nomatch h
theorem NoTableWord.syncSignal (x0 x1) : NoTableWord.Statement (.syncSignal x0 x1) := fun _ _ h => nomatch h
theorem NoTableWord.readLo (x0 x1) : NoTableWord.Statement (.readLo x0 x1) := fun _ _ h => nomatch h
theorem NoTableWord.readHi (x0 x1) : NoTableWord.Statement (.readHi x0 x1) := fun _ _ h => nomatch h
theorem NoTableWord.readErr (x0 x1) : NoTableWord.Statement (.readErr x0 x1) := fun _ _ h => nomatch h
theorem NoTableWord.kernelInstanceStart (x0 x1) : NoTableWord.Statement (.kernelInstanceStart x0 x1) := fun _ _ h => nomatch h
theorem NoTableWord.budget (x0) : NoTableWord.Statement (.budget x0) := fun _ _ h => nomatch h
theorem NoTableWord.imageCacheFlush (x0) : NoTableWord.Statement (.imageCacheFlush x0) := fun _ _ h => nomatch h
theorem NoTableWord.copy (x0) : NoTableWord.Statement (.copy x0) := fun _ _ h => nomatch h
theorem NoTableWord.copyList (x0) : NoTableWord.Statement (.copyList x0) := fun _ _ h => nomatch h
theorem NoTableWord.fill (x0) : NoTableWord.Statement (.fill x0) := fun _ _ h => nomatch h
theorem NoTableWord.invalidate (x0) : NoTableWord.Statement (.invalidate x0) := fun _ _ h => nomatch h
theorem NoTableWord.patrolScrub : NoTableWord.Statement (.patrolScrub) := fun _ _ h => nomatch h
theorem NoTableWord.cxlScrub (x0) : NoTableWord.Statement (.cxlScrub x0) := fun _ _ h => nomatch h
theorem NoTableWord.gddr7Refresh : NoTableWord.Statement (.gddr7Refresh) := fun _ _ h => nomatch h
theorem NoTableWord.cxlTimeout (x0) : NoTableWord.Statement (.cxlTimeout x0) := fun _ _ h => nomatch h
theorem NoTableWord.cxlLinkDown (x0) : NoTableWord.Statement (.cxlLinkDown x0) := fun _ _ h => nomatch h
theorem NoTableWord.seqInit (x0) : NoTableWord.Statement (.seqInit x0) := fun _ _ h => nomatch h
theorem NoTableWord.seqAcquire (x0) : NoTableWord.Statement (.seqAcquire x0) := fun _ _ h => nomatch h
theorem NoTableWord.seqRelease (x0) : NoTableWord.Statement (.seqRelease x0) := fun _ _ h => nomatch h
theorem NoTableWord.seqLoad (x0) : NoTableWord.Statement (.seqLoad x0) := fun _ _ h => nomatch h
theorem NoTableWord.seqAppend (x0) : NoTableWord.Statement (.seqAppend x0) := fun _ _ h => nomatch h
theorem NoTableWord.shelfPageIn (x0) : NoTableWord.Statement (.shelfPageIn x0) := fun _ _ h => nomatch h
theorem NoTableWord.shelfWrite (x0) : NoTableWord.Statement (.shelfWrite x0) := fun _ _ h => nomatch h
theorem NoTableWord.seqPrefetch (x0) : NoTableWord.Statement (.seqPrefetch x0) := fun _ _ h => nomatch h
theorem NoTableWord.shelfPrefetch (x0) : NoTableWord.Statement (.shelfPrefetch x0) := fun _ _ h => nomatch h
theorem NoTableWord.leaseBreak (x0 x1) : NoTableWord.Statement (.leaseBreak x0 x1) := fun _ _ h => nomatch h
theorem NoTableWord.write (x0) : NoTableWord.Statement (.write x0) := fun _ _ h => nomatch h
theorem NoTableWord.read (x0) : NoTableWord.Statement (.read x0) := fun _ _ h => nomatch h
theorem NoTableWord.fetchAdd (x0) : NoTableWord.Statement (.fetchAdd x0) := fun _ _ h => nomatch h
theorem NoTableWord.cmpSwap (x0) : NoTableWord.Statement (.cmpSwap x0) := fun _ _ h => nomatch h
theorem NoTableWord.signal (x0) : NoTableWord.Statement (.signal x0) := fun _ _ h => nomatch h
theorem NoTableWord.wait (x0) : NoTableWord.Statement (.wait x0) := fun _ _ h => nomatch h
theorem NoTableWord.connCreate (x0) : NoTableWord.Statement (.connCreate x0) := fun _ _ h => nomatch h
theorem NoTableWord.connClose (x0) : NoTableWord.Statement (.connClose x0) := fun _ _ h => nomatch h
theorem NoTableWord.connDestroy (x0) : NoTableWord.Statement (.connDestroy x0) := fun _ _ h => nomatch h
theorem NoTableWord.connRekey (x0) : NoTableWord.Statement (.connRekey x0) := fun _ _ h => nomatch h
theorem NoTableWord.reg (x0) : NoTableWord.Statement (.reg x0) := fun _ _ h => nomatch h
theorem NoTableWord.revoke (x0) : NoTableWord.Statement (.revoke x0) := fun _ _ h => nomatch h
theorem NoTableWord.regionDrained (x0) : NoTableWord.Statement (.regionDrained x0) := fun _ _ h => nomatch h
theorem NoTableWord.writePacket (x0) : NoTableWord.Statement (.writePacket x0) := fun _ _ h => nomatch h
theorem NoTableWord.readReq (x0) : NoTableWord.Statement (.readReq x0) := fun _ _ h => nomatch h
theorem NoTableWord.atomicReq (x0) : NoTableWord.Statement (.atomicReq x0) := fun _ _ h => nomatch h
theorem NoTableWord.readResp (x0) : NoTableWord.Statement (.readResp x0) := fun _ _ h => nomatch h
theorem NoTableWord.atomicResp (x0) : NoTableWord.Statement (.atomicResp x0) := fun _ _ h => nomatch h
theorem NoTableWord.errorResp (x0) : NoTableWord.Statement (.errorResp x0) := fun _ _ h => nomatch h
theorem NoTableWord.connect (x0) : NoTableWord.Statement (.connect x0) := fun _ _ h => nomatch h
theorem NoTableWord.accept (x0) : NoTableWord.Statement (.accept x0) := fun _ _ h => nomatch h
theorem NoTableWord.close (x0) : NoTableWord.Statement (.close x0) := fun _ _ h => nomatch h
theorem NoTableWord.closeAck (x0) : NoTableWord.Statement (.closeAck x0) := fun _ _ h => nomatch h
theorem NoTableWord.ack (x0) : NoTableWord.Statement (.ack x0) := fun _ _ h => nomatch h
theorem NoTableWord.unmatchedDatagram (x0) : NoTableWord.Statement (.unmatchedDatagram x0) := fun _ _ h => nomatch h
theorem NoTableWord.retransmissionTimeout (x0 x1) : NoTableWord.Statement (.retransmissionTimeout x0 x1) := fun _ _ h => nomatch h
theorem NoTableWord.retryExhaustion (x0 x1) : NoTableWord.Statement (.retryExhaustion x0 x1) := fun _ _ h => nomatch h
theorem NoTableWord.connectResend (x0) : NoTableWord.Statement (.connectResend x0) := fun _ _ h => nomatch h
theorem NoTableWord.closeResend (x0) : NoTableWord.Statement (.closeResend x0) := fun _ _ h => nomatch h
theorem NoTableWord.ackDelay (x0) : NoTableWord.Statement (.ackDelay x0) := fun _ _ h => nomatch h
theorem NoTableWord.contextFetch (x0) : NoTableWord.Statement (.contextFetch x0) := fun _ _ h => nomatch h
theorem NoTableWord.missFetchLimit (x0) : NoTableWord.Statement (.missFetchLimit x0) := fun _ _ h => nomatch h
theorem NoTableWord.groupJoin (x0) : NoTableWord.Statement (.groupJoin x0) := fun _ _ h => nomatch h
theorem NoTableWord.groupLeave (x0) : NoTableWord.Statement (.groupLeave x0) := fun _ _ h => nomatch h
theorem NoTableWord.allReduce (x0) : NoTableWord.Statement (.allReduce x0) := fun _ _ h => nomatch h
theorem NoTableWord.reduceScatter (x0) : NoTableWord.Statement (.reduceScatter x0) := fun _ _ h => nomatch h
theorem NoTableWord.allGather (x0) : NoTableWord.Statement (.allGather x0) := fun _ _ h => nomatch h
theorem NoTableWord.broadcast (x0) : NoTableWord.Statement (.broadcast x0) := fun _ _ h => nomatch h
theorem NoTableWord.allToAll (x0) : NoTableWord.Statement (.allToAll x0) := fun _ _ h => nomatch h
theorem NoTableWord.join (x0) : NoTableWord.Statement (.join x0) := fun _ _ h => nomatch h
theorem NoTableWord.view (x0) : NoTableWord.Statement (.view x0) := fun _ _ h => nomatch h
theorem NoTableWord.refuse (x0) : NoTableWord.Statement (.refuse x0) := fun _ _ h => nomatch h
theorem NoTableWord.newView (x0) : NoTableWord.Statement (.newView x0) := fun _ _ h => nomatch h
theorem NoTableWord.failView (x0) : NoTableWord.Statement (.failView x0) := fun _ _ h => nomatch h
theorem NoTableWord.contrib (x0) : NoTableWord.Statement (.contrib x0) := fun _ _ h => nomatch h
theorem NoTableWord.result (x0) : NoTableWord.Statement (.result x0) := fun _ _ h => nomatch h
theorem NoTableWord.report (x0) : NoTableWord.Statement (.report x0) := fun _ _ h => nomatch h
theorem NoTableWord.probe (x0) : NoTableWord.Statement (.probe x0) := fun _ _ h => nomatch h
theorem NoTableWord.probeAck (x0) : NoTableWord.Statement (.probeAck x0) := fun _ _ h => nomatch h
theorem NoTableWord.expel (x0) : NoTableWord.Statement (.expel x0) := fun _ _ h => nomatch h
theorem NoTableWord.abandon (x0) : NoTableWord.Statement (.abandon x0) := fun _ _ h => nomatch h
theorem NoTableWord.leave (x0) : NoTableWord.Statement (.leave x0) := fun _ _ h => nomatch h
theorem NoTableWord.formTimeout (x0) : NoTableWord.Statement (.formTimeout x0) := fun _ _ h => nomatch h
theorem NoTableWord.collHeartbeat (x0) : NoTableWord.Statement (.collHeartbeat x0) := fun _ _ h => nomatch h
theorem NoTableWord.collTimeout (x0 x1) : NoTableWord.Statement (.collTimeout x0 x1) := fun _ _ h => nomatch h
theorem NoTableWord.probeTimeout (x0 x1) : NoTableWord.Statement (.probeTimeout x0 x1) := fun _ _ h => nomatch h
theorem NoTableWord.collOpLimit (x0) : NoTableWord.Statement (.collOpLimit x0) := fun _ _ h => nomatch h
theorem NoTableWord.collEscalate (x0) : NoTableWord.Statement (.collEscalate x0) := fun _ _ h => nomatch h
theorem NoTableWord.snapAttach (x0) : NoTableWord.Statement (.snapAttach x0) := fun _ _ h => nomatch h
theorem NoTableWord.snapDetach (x0) : NoTableWord.Statement (.snapDetach x0) := fun _ _ h => nomatch h
theorem NoTableWord.snapCut (x0) : NoTableWord.Statement (.snapCut x0) := fun _ _ h => nomatch h
theorem NoTableWord.snapRollback (x0) : NoTableWord.Statement (.snapRollback x0) := fun _ _ h => nomatch h
theorem NoTableWord.snapRestore (x0) : NoTableWord.Statement (.snapRestore x0) := fun _ _ h => nomatch h
theorem NoTableWord.granuleCopy (x0 x1) : NoTableWord.Statement (.granuleCopy x0 x1) := fun _ _ h => nomatch h
theorem NoTableWord.cowCopy (x0 x1) : NoTableWord.Statement (.cowCopy x0 x1) := fun _ _ h => nomatch h
theorem NoTableWord.mirrorData (x0) : NoTableWord.Statement (.mirrorData x0) := fun _ _ h => nomatch h
theorem NoTableWord.mirrorDone (x0) : NoTableWord.Statement (.mirrorDone x0) := fun _ _ h => nomatch h
theorem NoTableWord.mirrorAck (x0) : NoTableWord.Statement (.mirrorAck x0) := fun _ _ h => nomatch h
theorem NoTableWord.fragment (x0) : NoTableWord.Statement (.fragment x0) := fun _ _ h => nomatch h
theorem NoTableWord.fragmentDone (x0) : NoTableWord.Statement (.fragmentDone x0) := fun _ _ h => nomatch h
theorem NoTableWord.fragmentDurable (x0) : NoTableWord.Statement (.fragmentDurable x0) := fun _ _ h => nomatch h
theorem NoTableWord.vote (x0) : NoTableWord.Statement (.vote x0) := fun _ _ h => nomatch h
theorem NoTableWord.rollback (x0) : NoTableWord.Statement (.rollback x0) := fun _ _ h => nomatch h
theorem NoTableWord.pull (x0) : NoTableWord.Statement (.pull x0) := fun _ _ h => nomatch h
theorem NoTableWord.rollbackReq (x0) : NoTableWord.Statement (.rollbackReq x0) := fun _ _ h => nomatch h
theorem NoTableWord.verdict (x0) : NoTableWord.Statement (.verdict x0) := fun _ _ h => nomatch h
theorem NoTableWord.restoreStep (x0) : NoTableWord.Statement (.restoreStep x0) := fun _ _ h => nomatch h
theorem NoTableWord.voteWait (x0 x1) : NoTableWord.Statement (.voteWait x0 x1) := fun _ _ h => nomatch h
theorem NoTableWord.frameReceive (x0 x1) : NoTableWord.Statement (.frameReceive x0 x1) := fun _ _ h => nomatch h
theorem NoTableWord.fragWaitLimit (x0) : NoTableWord.Statement (.fragWaitLimit x0) := fun _ _ h => nomatch h
theorem NoTableWord.fragEntryLifetime (x0) : NoTableWord.Statement (.fragEntryLifetime x0) := fun _ _ h => nomatch h
theorem NoTableWord.packetDelivery (x0) : NoTableWord.Statement (.packetDelivery x0) := fun _ _ h => nomatch h
theorem NoTableWord.frameRecord (x0) : NoTableWord.Statement (.frameRecord x0) := fun _ _ h => nomatch h
theorem NoTableWord.portDequeue (x0) : NoTableWord.Statement (.portDequeue x0) := fun _ _ h => nomatch h
theorem NoTableWord.calendarSlotExpiry (x0) : NoTableWord.Statement (.calendarSlotExpiry x0) := fun _ _ h => nomatch h
theorem NoTableWord.ruleStage (x0) : NoTableWord.Statement (.ruleStage x0) := fun _ _ h => nomatch h
theorem NoTableWord.ruleCommit (x0) : NoTableWord.Statement (.ruleCommit x0) := fun _ _ h => nomatch h
theorem NoTableWord.ruleDiscard (x0) : NoTableWord.Statement (.ruleDiscard x0) := fun _ _ h => nomatch h
theorem NoTableWord.versionDrained : NoTableWord.Statement (.versionDrained) := fun _ _ h => nomatch h
theorem NoTableWord.tmApply (x0) : NoTableWord.Statement (.tmApply x0) := fun _ _ h => nomatch h
theorem NoTableWord.configurationWrite (x0 x1 x2) : NoTableWord.Statement (.configurationWrite x0 x1 x2) := fun _ _ h => nomatch h
theorem NoTableWord.initiateFunctionLevelReset (x0) : NoTableWord.Statement (.initiateFunctionLevelReset x0) := fun _ _ h => nomatch h
theorem NoTableWord.flrComplete (x0) : NoTableWord.Statement (.flrComplete x0) := fun _ _ h => nomatch h
theorem NoTableWord.busMasterEnable (x0 x1) : NoTableWord.Statement (.busMasterEnable x0 x1) := fun _ _ h => nomatch h
theorem NoTableWord.registerWrite (x0 x1 x2 x3) : NoTableWord.Statement (.registerWrite x0 x1 x2 x3) := fun _ _ h => nomatch h
theorem NoTableWord.apertureRead (x0 x1) : NoTableWord.Statement (.apertureRead x0 x1) := fun _ _ h => nomatch h
theorem NoTableWord.apertureWrite (x0 x1) : NoTableWord.Statement (.apertureWrite x0 x1) := fun _ _ h => nomatch h
theorem NoTableWord.completionReceived (x0 x1 x2 x3 x4 x5 x6) : NoTableWord.Statement (.completionReceived x0 x1 x2 x3 x4 x5 x6) := fun _ _ h => nomatch h
theorem NoTableWord.completionTimeout (x0 x1) : NoTableWord.Statement (.completionTimeout x0 x1) := fun _ _ h => nomatch h
theorem NoTableWord.peerTlp (x0) : NoTableWord.Statement (.peerTlp x0) := fun _ _ h => nomatch h
theorem NoTableWord.windowGen (x0) : NoTableWord.Statement (.windowGen x0) := fun _ _ h => nomatch h
theorem NoTableWord.ideKm (x0 x1) : NoTableWord.Statement (.ideKm x0 x1) := fun _ _ h => nomatch h
theorem NoTableWord.linkTrained (x0 x1 x2) : NoTableWord.Statement (.linkTrained x0 x1 x2) := fun _ _ h => nomatch h
theorem NoTableWord.linkDown (x0) : NoTableWord.Statement (.linkDown x0) := fun _ _ h => nomatch h
theorem NoTableWord.createIoSq (x0) : NoTableWord.Statement (.createIoSq x0) := fun _ _ h => nomatch h
theorem NoTableWord.createIoCq (x0) : NoTableWord.Statement (.createIoCq x0) := fun _ _ h => nomatch h
theorem NoTableWord.deleteIoSq (x0) : NoTableWord.Statement (.deleteIoSq x0) := fun _ _ h => nomatch h
theorem NoTableWord.deleteIoCq (x0) : NoTableWord.Statement (.deleteIoCq x0) := fun _ _ h => nomatch h
theorem NoTableWord.getLogPage (x0) : NoTableWord.Statement (.getLogPage x0) := fun _ _ h => nomatch h
theorem NoTableWord.identify (x0) : NoTableWord.Statement (.identify x0) := fun _ _ h => nomatch h
theorem NoTableWord.abort (x0) : NoTableWord.Statement (.abort x0) := fun _ _ h => nomatch h
theorem NoTableWord.setFeatures (x0) : NoTableWord.Statement (.setFeatures x0) := fun _ _ h => nomatch h
theorem NoTableWord.getFeatures (x0) : NoTableWord.Statement (.getFeatures x0) := fun _ _ h => nomatch h
theorem NoTableWord.asynchronousEventRequest (x0) : NoTableWord.Statement (.asynchronousEventRequest x0) := fun _ _ h => nomatch h
theorem NoTableWord.deviceSelfTest (x0) : NoTableWord.Statement (.deviceSelfTest x0) := fun _ _ h => nomatch h
theorem NoTableWord.selfTestDone (x0 x1) : NoTableWord.Statement (.selfTestDone x0 x1) := fun _ _ h => nomatch h
theorem NoTableWord.nvmeFlush (x0 x1) : NoTableWord.Statement (.nvmeFlush x0 x1) := fun _ _ h => nomatch h
theorem NoTableWord.nvmeWrite (x0 x1) : NoTableWord.Statement (.nvmeWrite x0 x1) := fun _ _ h => nomatch h
theorem NoTableWord.nvmeRead (x0 x1) : NoTableWord.Statement (.nvmeRead x0 x1) := fun _ _ h => nomatch h
theorem NoTableWord.writeZeroes (x0 x1) : NoTableWord.Statement (.writeZeroes x0 x1) := fun _ _ h => nomatch h
theorem NoTableWord.datasetManagement (x0 x1) : NoTableWord.Statement (.datasetManagement x0 x1) := fun _ _ h => nomatch h
theorem NoTableWord.nsApply (x0) : NoTableWord.Statement (.nsApply x0) := fun _ _ h => nomatch h
theorem NoTableWord.backingConnected (x0 x1 x2 x3 x4) : NoTableWord.Statement (.backingConnected x0 x1 x2 x3 x4) := fun _ _ h => nomatch h
theorem NoTableWord.backingConnectionLost (x0 x1) : NoTableWord.Statement (.backingConnectionLost x0 x1) := fun _ _ h => nomatch h
theorem NoTableWord.backingReconnect (x0 x1) : NoTableWord.Statement (.backingReconnect x0 x1) := fun _ _ h => nomatch h
theorem NoTableWord.backingHold (x0 x1 x2) : NoTableWord.Statement (.backingHold x0 x1 x2) := fun _ _ h => nomatch h
theorem NoTableWord.backingResponse (x0 x1 x2 x3 x4) : NoTableWord.Statement (.backingResponse x0 x1 x2 x3 x4) := fun _ _ h => nomatch h
theorem NoTableWord.keepAlive (x0 x1) : NoTableWord.Statement (.keepAlive x0 x1) := fun _ _ h => nomatch h
theorem NoTableWord.superblockWrite (x0 x1) : NoTableWord.Statement (.superblockWrite x0 x1) := fun _ _ h => nomatch h
theorem NoTableWord.destage (x0 x1) : NoTableWord.Statement (.destage x0 x1) := fun _ _ h => nomatch h
theorem NoTableWord.nvmeEnable (x0) : NoTableWord.Statement (.nvmeEnable x0) := fun _ _ h => nomatch h
theorem NoTableWord.nvmeShutdown (x0) : NoTableWord.Statement (.nvmeShutdown x0) := fun _ _ h => nomatch h
theorem NoTableWord.assign (x0) : NoTableWord.Statement (.assign x0) := fun _ _ h => nomatch h
theorem NoTableWord.release (x0) : NoTableWord.Statement (.release x0) := fun _ _ h => nomatch h
theorem NoTableWord.releaseDone (x0) : NoTableWord.Statement (.releaseDone x0) := fun _ _ h => nomatch h
theorem NoTableWord.share (x0) : NoTableWord.Statement (.share x0) := fun _ _ h => nomatch h
theorem NoTableWord.freeze (x0) : NoTableWord.Statement (.freeze x0) := fun _ _ h => nomatch h
theorem NoTableWord.freezeDrainDone (x0) : NoTableWord.Statement (.freezeDrainDone x0) := fun _ _ h => nomatch h
theorem NoTableWord.freezeLimit (x0) : NoTableWord.Statement (.freezeLimit x0) := fun _ _ h => nomatch h
theorem NoTableWord.unfreeze (x0) : NoTableWord.Statement (.unfreeze x0) := fun _ _ h => nomatch h
theorem NoTableWord.save (x0) : NoTableWord.Statement (.save x0) := fun _ _ h => nomatch h
theorem NoTableWord.restore (x0) : NoTableWord.Statement (.restore x0) := fun _ _ h => nomatch h
theorem NoTableWord.logSwap (x0) : NoTableWord.Statement (.logSwap x0) := fun _ _ h => nomatch h
theorem NoTableWord.adminEnable (x0) : NoTableWord.Statement (.adminEnable x0) := fun _ _ h => nomatch h
theorem NoTableWord.migrationSecret (x0) : NoTableWord.Statement (.migrationSecret x0) := fun _ _ h => nomatch h
theorem NoTableWord.cipherRequest (x0) : NoTableWord.Statement (.cipherRequest x0) := fun _ _ h => nomatch h
theorem NoTableWord.keyDerivation (x0) : NoTableWord.Statement (.keyDerivation x0) := fun _ _ h => nomatch h
theorem NoTableWord.cipherLockAcquire (x0) : NoTableWord.Statement (.cipherLockAcquire x0) := fun _ _ h => nomatch h
theorem NoTableWord.cipherLockRelease (x0) : NoTableWord.Statement (.cipherLockRelease x0) := fun _ _ h => nomatch h
theorem NoTableWord.lockLimit : NoTableWord.Statement (.lockLimit) := fun _ _ h => nomatch h
theorem NoTableWord.cipherKatPeriod (x0) : NoTableWord.Statement (.cipherKatPeriod x0) := fun _ _ h => nomatch h
theorem NoTableWord.cipherKatRun (x0 x1) : NoTableWord.Statement (.cipherKatRun x0 x1) := fun _ _ h => nomatch h
theorem NoTableWord.svnCommit (x0) : NoTableWord.Statement (.svnCommit x0) := fun _ _ h => nomatch h
theorem NoTableWord.getCertificate (x0 x1 x2) : NoTableWord.Statement (.getCertificate x0 x1 x2) := fun _ _ h => nomatch h
theorem NoTableWord.challenge (x0 x1) : NoTableWord.Statement (.challenge x0 x1) := fun _ _ h => nomatch h
theorem NoTableWord.getMeasurements (x0 x1 x2) : NoTableWord.Statement (.getMeasurements x0 x1 x2) := fun _ _ h => nomatch h
theorem NoTableWord.keyExchange (x0 x1) : NoTableWord.Statement (.keyExchange x0 x1) := fun _ _ h => nomatch h
theorem NoTableWord.vendorDefinedRequest (x0 x1) : NoTableWord.Statement (.vendorDefinedRequest x0 x1) := fun _ _ h => nomatch h
theorem NoTableWord.powerLoop (x0 x1) : NoTableWord.Statement (.powerLoop x0 x1) := fun _ _ h => nomatch h
theorem NoTableWord.thermalLoop (x0) : NoTableWord.Statement (.thermalLoop x0) := fun _ _ h => nomatch h
theorem NoTableWord.snowlineFall : NoTableWord.Statement (.snowlineFall) := fun _ _ h => nomatch h
theorem NoTableWord.powerLimiter (x0) : NoTableWord.Statement (.powerLimiter x0) := fun _ _ h => nomatch h
theorem NoTableWord.thermalTrip (x0) : NoTableWord.Statement (.thermalTrip x0) := fun _ _ h => nomatch h
theorem NoTableWord.budgetWindow : NoTableWord.Statement (.budgetWindow) := fun _ _ h => nomatch h
theorem NoTableWord.powerStateReq (x0) : NoTableWord.Statement (.powerStateReq x0) := fun _ _ h => nomatch h
theorem NoTableWord.entryComplete : NoTableWord.Statement (.entryComplete) := fun _ _ h => nomatch h
theorem NoTableWord.wakeEvent (x0) : NoTableWord.Statement (.wakeEvent x0) := fun _ _ h => nomatch h
theorem NoTableWord.railReady : NoTableWord.Statement (.railReady) := fun _ _ h => nomatch h
theorem NoTableWord.clockReady : NoTableWord.Statement (.clockReady) := fun _ _ h => nomatch h
theorem NoTableWord.memReady : NoTableWord.Statement (.memReady) := fun _ _ h => nomatch h
theorem NoTableWord.logicReady : NoTableWord.Statement (.logicReady) := fun _ _ h => nomatch h
theorem NoTableWord.wakeReady (x0) : NoTableWord.Statement (.wakeReady x0) := fun _ _ h => nomatch h
theorem NoTableWord.fwActivate (x0) : NoTableWord.Statement (.fwActivate x0) := fun _ _ h => nomatch h
theorem NoTableWord.activationDrainDone : NoTableWord.Statement (.activationDrainDone) := fun _ _ h => nomatch h
theorem NoTableWord.activationDefer : NoTableWord.Statement (.activationDefer) := fun _ _ h => nomatch h
theorem NoTableWord.activationAbandoned : NoTableWord.Statement (.activationAbandoned) := fun _ _ h => nomatch h
theorem NoTableWord.errorPin (x0) : NoTableWord.Statement (.errorPin x0) := fun _ _ h => nomatch h
theorem NoTableWord.engineHangLimit (x0) : NoTableWord.Statement (.engineHangLimit x0) := fun _ _ h => nomatch h
theorem NoTableWord.monitorWatchdog (x0) : NoTableWord.Statement (.monitorWatchdog x0) := fun _ _ h => nomatch h
theorem NoTableWord.componentCheckin (x0) : NoTableWord.Statement (.componentCheckin x0) := fun _ _ h => nomatch h
theorem NoTableWord.componentRestart (x0) : NoTableWord.Statement (.componentRestart x0) := fun _ _ h => nomatch h
theorem NoTableWord.rungComplete : NoTableWord.Statement (.rungComplete) := fun _ _ h => nomatch h
theorem NoTableWord.rungDeadline : NoTableWord.Statement (.rungDeadline) := fun _ _ h => nomatch h
theorem NoTableWord.quadrantRetest (x0 x1) : NoTableWord.Statement (.quadrantRetest x0 x1) := fun _ _ h => nomatch h
theorem NoTableWord.safeStateExit : NoTableWord.Statement (.safeStateExit) := fun _ _ h => nomatch h
theorem NoTableWord.faultClear (x0) : NoTableWord.Statement (.faultClear x0) := fun _ _ h => nomatch h
theorem NoTableWord.resetRequest (x0) : NoTableWord.Statement (.resetRequest x0) := fun _ _ h => nomatch h
theorem NoTableWord.trayNoticeAck (x0) : NoTableWord.Statement (.trayNoticeAck x0) := fun _ _ h => nomatch h
theorem NoTableWord.dumpDiscard (x0) : NoTableWord.Statement (.dumpDiscard x0) := fun _ _ h => nomatch h
theorem NoTableWord.steralRead (x0 x1 x2) : NoTableWord.Statement (.steralRead x0 x1 x2) := fun _ _ h => nomatch h
theorem NoTableWord.steralWrite (x0 x1 x2) : NoTableWord.Statement (.steralWrite x0 x1 x2) := fun _ _ h => nomatch h
theorem NoTableWord.describe (x0 x1 x2) : NoTableWord.Statement (.describe x0 x1 x2) := fun _ _ h => nomatch h
theorem NoTableWord.arpRequest (x0) : NoTableWord.Statement (.arpRequest x0) := fun _ _ h => nomatch h
theorem NoTableWord.neighborSolicitation (x0) : NoTableWord.Statement (.neighborSolicitation x0) := fun _ _ h => nomatch h
theorem NoTableWord.telemetryLatch (x0) : NoTableWord.Statement (.telemetryLatch x0) := fun _ _ h => nomatch h
theorem NoTableWord.ipfixActiveTimeout (x0) : NoTableWord.Statement (.ipfixActiveTimeout x0) := fun _ _ h => nomatch h
theorem NoTableWord.ipfixIdleTimeout (x0) : NoTableWord.Statement (.ipfixIdleTimeout x0) := fun _ _ h => nomatch h
theorem NoTableWord.ipfixTemplateRefresh : NoTableWord.Statement (.ipfixTemplateRefresh) := fun _ _ h => nomatch h
theorem NoTableWord.requestUpdate (x0 x1 x2 x3) : NoTableWord.Statement (.requestUpdate x0 x1 x2 x3) := fun _ _ h => nomatch h
theorem NoTableWord.requestFirmwareData (x0) : NoTableWord.Statement (.requestFirmwareData x0) := fun _ _ h => nomatch h
theorem NoTableWord.verifyComplete (x0) : NoTableWord.Statement (.verifyComplete x0) := fun _ _ h => nomatch h
theorem NoTableWord.activateFirmware (x0) : NoTableWord.Statement (.activateFirmware x0) := fun _ _ h => nomatch h
theorem NoTableWord.getSensorReading (x0) : NoTableWord.Statement (.getSensorReading x0) := fun _ _ h => nomatch h
theorem NoTableWord.stageB1 (x0) : NoTableWord.Statement (.stageB1 x0) := fun _ _ h => nomatch h
theorem NoTableWord.stageB2 : NoTableWord.Statement (.stageB2) := fun _ _ h => nomatch h
theorem NoTableWord.stageB3 : NoTableWord.Statement (.stageB3) := fun _ _ h => nomatch h
theorem NoTableWord.b2Limit : NoTableWord.Statement (.b2Limit) := fun _ _ h => nomatch h
theorem NoTableWord.b3Limit : NoTableWord.Statement (.b3Limit) := fun _ _ h => nomatch h
theorem NoTableWord.aonPwrgoodRise : NoTableWord.Statement (.aonPwrgoodRise) := fun _ _ h => nomatch h
theorem NoTableWord.aonPwrgoodFall : NoTableWord.Statement (.aonPwrgoodFall) := fun _ _ h => nomatch h
theorem NoTableWord.pwrgoodRise : NoTableWord.Statement (.pwrgoodRise) := fun _ _ h => nomatch h
theorem NoTableWord.pwrgoodFall (x0) : NoTableWord.Statement (.pwrgoodFall x0) := fun _ _ h => nomatch h
theorem NoTableWord.resetNAssert : NoTableWord.Statement (.resetNAssert) := fun _ _ h => nomatch h
theorem NoTableWord.resetNRelease : NoTableWord.Statement (.resetNRelease) := fun _ _ h => nomatch h
theorem NoTableWord.perstNAssert (x0) : NoTableWord.Statement (.perstNAssert x0) := fun _ _ h => nomatch h
theorem NoTableWord.perstNRelease (x0) : NoTableWord.Statement (.perstNRelease x0) := fun _ _ h => nomatch h
theorem NoTableWord.pmbAlertN (x0 x1) : NoTableWord.Statement (.pmbAlertN x0 x1) := fun _ _ h => nomatch h
theorem NoTableWord.deviceWindowLoadReturn (x0) : NoTableWord.Statement (.deviceWindowLoadReturn x0) := fun _ _ h => nomatch h
theorem NoTableWord.prefetchTransferDone (x0) : NoTableWord.Statement (.prefetchTransferDone x0) := fun _ _ h => nomatch h
theorem NoTableWord.cxlLinkRetrained (x0) : NoTableWord.Statement (.cxlLinkRetrained x0) := fun _ _ h => nomatch h
theorem NoTableWord.comparatorRearm (x0) : NoTableWord.Statement (.comparatorRearm x0) := fun _ _ h => nomatch h
theorem NoTableWord.limiterPacingEnd : NoTableWord.Statement (.limiterPacingEnd) := fun _ _ h => nomatch h
theorem NoTableWord.tagReuseTimeout (x0 x1) : NoTableWord.Statement (.tagReuseTimeout x0 x1) := fun _ _ h => nomatch h
theorem NoTableWord.inProgressResponse (x0 x1 x2) : NoTableWord.Statement (.inProgressResponse x0 x1 x2) := fun _ _ h => nomatch h
theorem NoTableWord.railBackInWindow (x0) : NoTableWord.Statement (.railBackInWindow x0) := fun _ _ h => nomatch h
theorem NoTableWord.negotiateAlgorithms (x0) : NoTableWord.Statement (.negotiateAlgorithms x0) := fun _ _ h => nomatch h
theorem NoTableWord.endSession (x0) : NoTableWord.Statement (.endSession x0) := fun _ _ h => nomatch h
theorem NoTableWord.respondIfReady (x0) : NoTableWord.Statement (.respondIfReady x0) := fun _ _ h => nomatch h
theorem NoTableWord.pmeTurnOff : NoTableWord.Statement (.pmeTurnOff) := fun _ _ h => nomatch h

end Sys2Proof.Laws
end

