-- ==== Sys2Proof/Laws/Storage.lean ====
section
/-! SUPPORT. What a completion entry leaves: no write of one meets a granule while no generation is being copied, and a
transfer that one PRP names is one write of cabinet memory. -/

namespace Sys2Proof.Machine

/-- A run cut or padded to a length has it. -/
theorem fit_length (n : Nat) (b : Bytes) : (fit n b).length = n := by
  simp only [fit, zeros, List.length_append, List.length_take, List.length_replicate]
  omega

/-- No generation is being copied. -/
abbrev State.noneCopied (s : State) : Prop := ∀ x ∈ s.snap.sets, ∀ g ∈ x.gens, g.state ≠ 1

@[simp] theorem State.updCtrl_snap (s : State) (cab : Nat) (f : NvmeCtrl → NvmeCtrl) : (s.updCtrl cab f).snap = s.snap := rfl
@[simp] theorem State.updCtrl_mem (s : State) (cab : Nat) (f : NvmeCtrl → NvmeCtrl) : (s.updCtrl cab f).mem = s.mem := rfl
@[simp] theorem State.updCtrl_dict (s : State) (cab : Nat) (f : NvmeCtrl → NvmeCtrl) : (s.updCtrl cab f).dict = s.dict := rfl

theorem State.drainCqes_copied (cab : Nat) : ∀ (es : List (Nat × Bytes × Bool)) (s : State), s.noneCopied →
    (s.drainCqes cab es).noneCopied
  | [], _, h => h
  | (q, e, irq) :: rest, s, h => by
    unfold State.drainCqes
    split
    · exact drainCqes_copied cab rest s h
    · split
      · exact drainCqes_copied cab rest _ h
      · apply drainCqes_copied cab rest
        have h1 := State.putCab_copied (s := s) cab
        split
        · intro x hx; rw [State.sendMsix_snap] at hx; exact h1 _ _ h x hx
        · exact h1 _ _ h

theorem State.retryCqes_copied (s : State) (cab : Nat) (h : s.noneCopied) : (s.retryCqes cab).noneCopied := by
  unfold State.retryCqes
  split
  · exact h
  · exact State.drainCqes_copied _ _ _ h

theorem State.pushCqe_copied (s : State) (cab q : Nat) (e : Bytes) (h : s.noneCopied) : (s.pushCqe cab q e).noneCopied := by
  have key : ∀ (b : Bool) (f : Function → Function), (if b = true then s.setFn cab f else s).noneCopied := by
    intro b f x hx
    cases b
    · exact h x hx
    · rw [if_pos rfl, State.setFn_snap] at hx; exact h x hx
  unfold State.pushCqe
  split
  · exact h
  · apply State.retryCqes_copied
    exact key _ _

/-- No completion of a fetched command meets a granule while no generation is being copied. -/
theorem State.nvmeEnd_copied (s : State) (cab sqid : Nat) (r : Bytes) (dw0 st : Nat) (h : s.noneCopied) :
    (s.nvmeEnd cab sqid r dw0 st).aheadOfCopy = none := by
  apply State.aheadOfCopy_copied
  unfold State.nvmeEnd State.nvmeDone
  split
  · exact h
  · apply State.pushCqe_copied
    split
    · exact h
    · exact h

/-- The data that one PRP names is one run. -/
theorem State.prpRuns_one (s : State) (cab : Nat) (r : Bytes) (n : Nat) (ha : field r 24 8 % 4 = 0)
    (hn : n ≤ 4096 - field r 24 8 % 4096) : s.prpRuns cab r n = .ok [(field r 24 8, n)] := by
  unfold State.prpRuns
  simp [ha, Nat.min_eq_left hn]

end Sys2Proof.Machine
end

