-- ==== Sys2Proof/Laws/Zt.lean ====
section
/-! SUPPORT. What the sender of ZT leaves as it was, and what a connection is after it has been used, sent on or closed. -/

namespace Sys2Proof.Machine

/-! ### Connections -/

@[simp] theorem State.updConn_mem (s : State) (i : Nat) (f : Conn → Conn) : (s.updConn i f).mem = s.mem := rfl
@[simp] theorem State.updConn_contract (s : State) (i : Nat) (f : Conn → Conn) : (s.updConn i f).contract = s.contract := rfl
@[simp] theorem State.updConn_dict (s : State) (i : Nat) (f : Conn → Conn) : (s.updConn i f).dict = s.dict := rfl
@[simp] theorem State.updConn_packet (s : State) (i : Nat) (f : Conn → Conn) : (s.updConn i f).packet = s.packet := rfl
@[simp] theorem State.updConn_sent (s : State) (i : Nat) (f : Conn → Conn) : (s.updConn i f).zt.sent = s.zt.sent := rfl
@[simp] theorem State.updConn_jobs (s : State) (i : Nat) (f : Conn → Conn) : (s.updConn i f).zt.jobs = s.zt.jobs := rfl
@[simp] theorem State.updConn_regions (s : State) (i : Nat) (f : Conn → Conn) :
    (s.updConn i f).zt.regions = s.zt.regions := rfl
@[simp] theorem State.cacheConn_mem (s : State) (i : Nat) : (s.cacheConn i).mem = s.mem := rfl
@[simp] theorem State.cacheConn_contract (s : State) (i : Nat) : (s.cacheConn i).contract = s.contract := rfl
@[simp] theorem State.cacheConn_dict (s : State) (i : Nat) : (s.cacheConn i).dict = s.dict := rfl
@[simp] theorem State.cacheConn_sent (s : State) (i : Nat) : (s.cacheConn i).zt.sent = s.zt.sent := rfl
@[simp] theorem State.conn?_updCtx (s : State) (i j : Nat) (f : Ctx → Ctx) : (s.updCtx i f).conn? j = s.conn? j := rfl
@[simp] theorem State.conn?_stored (s t : State) (i : Nat) : (s.stored t).conn? i = t.conn? i := rfl
@[simp] theorem State.conn?_unstored (s t : State) (i : Nat) : (s.unstored t).conn? i = t.conn? i := rfl

theorem State.conn?_congr {s t : State} (h : t.zt.conns = s.zt.conns) (i : Nat) : t.conn? i = s.conn? i := by
  unfold State.conn?; rw [h]

theorem State.conn?_index {s : State} {i : Nat} {k : Conn} (h : s.conn? i = some k) : k.index = i := by
  have := List.find?_some h
  simpa using this

/-- A connection replaced is the one that is found. -/
theorem State.conn?_updConn {s : State} {i : Nat} {k : Conn} {f : Conn → Conn} (h : s.conn? i = some k)
    (hf : ∀ x, (f x).index = x.index) : (s.updConn i f).conn? i = some (f k) := by
  have hi := State.conn?_index h
  unfold State.conn? State.updConn at *
  simp only
  generalize s.zt.conns = l at *
  induction l with
  | nil => cases h
  | cons x r ih =>
    by_cases e : (x.index == i) = true
    · have hx : x = k := by simpa [List.find?_cons, e] using h
      subst hx
      have ef : ((f x).index == i) = true := by rw [hf]; exact e
      simp only [updWhere, List.map_cons, e, if_true, List.find?_cons, ef]
    · have hr : List.find? (fun k => k.index == i) r = some k := by simpa [List.find?_cons, e] using h
      have := ih hr
      simp only [updWhere, List.map_cons, e, Bool.false_eq_true, if_false, List.find?_cons] at this ⊢
      simpa [e] using this

/-- Using a connection changes no more of it than its place in the cache. -/
theorem State.conn?_cacheConn {s : State} {i : Nat} {k : Conn} (h : s.conn? i = some k) :
    ∃ b u, (s.cacheConn i).conn? i = some { k with cached := b, fetching := false, lastUse := u } := by
  have h1 : (s.updConn i fun k => { k with cached := true, fetching := false, lastUse := s.zt.useClock + 1 }).conn? i =
      some { k with cached := true, fetching := false, lastUse := s.zt.useClock + 1 } :=
    State.conn?_updConn h fun _ => rfl
  unfold State.cacheConn
  simp only
  split
  · exact ⟨_, _, h1⟩
  · have hm : ∀ (l : List Conn) (p : Conn → Bool) (k' : Conn), l.find? (fun k => k.index == i) = some k' →
        ∃ b, (updWhere p (fun k => { k with cached := false }) l).find? (fun k => k.index == i) =
          some { k' with cached := b } := by
      intro l p k' hl
      induction l with
      | nil => cases hl
      | cons x r ih =>
        by_cases e : (x.index == i) = true
        · have hx : x = k' := by simpa [List.find?_cons, e] using hl
          subst hx
          by_cases hp : p x = true
          · refine ⟨false, ?_⟩
            simp only [updWhere, List.map_cons, hp, if_true, List.find?_cons, e]
          · refine ⟨x.cached, ?_⟩
            simp only [updWhere, List.map_cons, hp, Bool.false_eq_true, if_false, List.find?_cons, e]
        · have hr : List.find? (fun k => k.index == i) r = some k' := by simpa [List.find?_cons, e] using hl
          obtain ⟨b, hb⟩ := ih hr
          refine ⟨b, ?_⟩
          simp only [updWhere, List.map_cons, List.find?_cons] at hb ⊢
          by_cases hp : p x = true
          · simpa [hp, e] using hb
          · simpa [hp, e] using hb
    obtain ⟨b, hb⟩ := hm _ _ _ h1
    exact ⟨b, _, hb⟩

/-! ### Memory is not a matter of the sender -/

@[simp] theorem State.bump_conn? (s : State) (i j n k : Nat) : (s.bump i j n).conn? k = s.conn? k :=
  State.conn?_congr (by simp) k
@[simp] theorem State.sendFrame_mem (s : State) (p u v : Nat) (b : Bytes) : (s.sendFrame p u v b).mem = s.mem := by
  unfold State.sendFrame State.enqueue; split <;> rfl
@[simp] theorem State.sendFrame_zt (s : State) (p u v : Nat) (b : Bytes) : (s.sendFrame p u v b).zt = s.zt := by
  unfold State.sendFrame State.enqueue; split <;> rfl
@[simp] theorem State.sendFrame_contract (s : State) (p u v : Nat) (b : Bytes) :
    (s.sendFrame p u v b).contract = s.contract := by
  unfold State.sendFrame State.enqueue; split <;> rfl
@[simp] theorem State.sendFrame_dict (s : State) (p u v : Nat) (b : Bytes) : (s.sendFrame p u v b).dict = s.dict := by
  unfold State.sendFrame State.enqueue; split <;> rfl

@[simp] theorem State.failConn_mem (s : State) (i : Nat) : (s.failConn i).mem = s.mem := by
  unfold State.failConn
  simp only
  rw [foldl_keeps State.mem _ _ _ fun s c => by simp]
  simp

@[simp] theorem State.emitZt_mem (s : State) (i ty fl : Nat) (n : BitVec 32) (a : Nat) (c : Bool) (b : Bytes) :
    (s.emitZt i ty fl n a c b).mem = s.mem := by
  unfold State.emitZt
  split
  · rfl
  · simp only
    split <;> (try split) <;> split <;> split <;> simp

@[simp] theorem State.sendControl_mem (s : State) (i ty : Nat) (b : Bytes) : (s.sendControl i ty b).mem = s.mem := by
  unfold State.sendControl; split <;> simp
@[simp] theorem State.sendAck_mem (s : State) (i : Nat) : (s.sendAck i).mem = s.mem := by
  unfold State.sendAck; split <;> simp
@[simp] theorem State.sendConnect_mem (s : State) (i : Nat) : (s.sendConnect i).mem = s.mem := by
  unfold State.sendConnect; split <;> simp
@[simp] theorem State.sendAccept_mem (s : State) (i : Nat) : (s.sendAccept i).mem = s.mem := by
  unfold State.sendAccept; split <;> simp
@[simp] theorem State.updJob_mem (s : State) (i : Option Nat) (f : PoolJob → PoolJob) : (s.updJob i f).mem = s.mem := by
  unfold State.updJob; split <;> rfl
@[simp] theorem State.updCtx_mem' (s : State) (i : Nat) (f : Ctx → Ctx) : (s.updCtx i f).mem = s.mem := rfl

@[simp] theorem State.tryClose_mem (s : State) (i : Nat) : (s.tryClose i).mem = s.mem := by
  unfold State.tryClose
  split
  · rfl
  · split <;> simp

/-- Nothing is sent while the window is full (R303). -/
theorem State.pump_full {s : State} {i : Nat} {k : Conn} (h : s.conn? i = some k)
    (hw : min k.window k.cwnd ≤ (k.nxt - k.una).toNat) (n : Nat) : s.pump i n = s := by
  cases n with
  | zero => rfl
  | succ n =>
    unfold State.pump
    rw [h]
    simp only [hw, decide_true, Bool.or_true, if_true]
    split <;> rfl

/-- Nothing is sent while nothing waits. -/
theorem State.pump_empty {s : State} {i : Nat} {k : Conn} (h : s.conn? i = some k) (hq : k.sendQueue = []) (n : Nat) :
    s.pump i n = s := by
  cases n with
  | zero => rfl
  | succ n => unfold State.pump; rw [h]; simp only [hq]

/-- CLOSE waits for CLOSING (R297). -/
theorem State.tryClose_open {s : State} {i : Nat} {k : Conn} (h : s.conn? i = some k) (hk : k.state ≠ 4) : s.tryClose i = s := by
  unfold State.tryClose
  rw [h]
  simp [hk]

@[simp] theorem State.queueError_mem (s : State) (i : Nat) (n : BitVec 32) (r : Nat) : (s.queueError i n r).mem = s.mem := by
  simp [State.queueError]
@[simp] theorem State.refuseZt_mem (s : State) (k : Conn) (p : RxPacket) (r : Nat) : (s.refuseZt k p r).mem = s.mem := by
  simp only [State.refuseZt, State.queueError_mem, State.updConn_mem]; rfl
@[simp] theorem State.finishZt_mem (s : State) (id st d : Nat) : (s.finishZt id st d).mem = s.mem := by
  unfold State.finishZt; split <;> simp

/-- A request that reaches its connection's end ends. -/
theorem ended_finishZt {s t : State} {id : Nat} {c : Ctx} (h : t.ctx? id = some c) (hf : c.finished = false) (st d : Nat) :
    Ended (s.stored (t.finishZt id st d)) id st d := by
  unfold State.finishZt
  rw [h]
  exact ended_finish h hf st d _

/-- The meaning of a work request runs on a started request that may run. -/
theorem onCtx_of_requested {s : State} {id op : Nat} {c : Ctx} {q : Queue} (h : Requested s id op c q) (f : Ctx → Result) :
    s.onCtx id (isWork op) f = f c := by
  obtain ⟨h1, h2, h3, h4, h5, h6⟩ := h
  simp [State.onCtx, h1, h2, h3, h4, h5]

/-- With no pool write under way there is none to judge. -/
theorem State.settleJobs_nil {s : State} (h : s.zt.jobs = []) : s.settleJobs = s := by
  simp [State.settleJobs, h]

/-! ### One packet sent -/

/-- A packet that is sent stands first in what has been sent; its connection keeps its stream while REKEY_PACKETS is not
reached. -/
theorem State.emitZt_spec {s : State} {i ty fl : Nat} {n : BitVec 32} {a : Nat} {c : Bool} {b : Bytes} {k : Conn}
    (h : s.conn? i = some k) (hk : k.pktsUnderGen + 1 < s.e 0x2603 0) :
    (∃ f, (s.emitZt i ty fl n a c b).zt.sent = f :: s.zt.sent ∧ f.conn = i ∧ f.ty = ty ∧ f.flags = fl ∧ f.seqNo = n ∧
      f.attempt = a ∧ f.body = b) ∧
    (s.emitZt i ty fl n a c b).conn? i = some { k with pktsUnderGen := k.pktsUnderGen + 1, lastTx := s.now } ∧
    (s.emitZt i ty fl n a c b).contract = s.contract ∧ (s.emitZt i ty fl n a c b).zt.jobs = s.zt.jobs := by
  unfold State.emitZt
  simp only [h, hk, if_true]
  refine ⟨?_, ?_, ?_, ?_⟩
  · split <;> split <;> simp only [State.updConn_sent, State.bump, State.bumpEnt_zt, State.sendFrame_zt] <;>
      (refine ⟨_, rfl, ?_⟩; simp)
  · refine State.conn?_updConn (f := fun k' => { k' with pktsUnderGen := k.pktsUnderGen + 1, lastTx := s.now }) (k := k) ?_
      fun _ => rfl
    split <;> split <;> exact (State.conn?_congr (by simp) i).trans h
  · split <;> split <;> simp
  · split <;> split <;> simp

/-! ### A request enters its stream -/

theorem State.connOf_conn {s : State} {cab i : Nat} {k : Conn} (h : s.connOf cab i = some k) :
    s.conn? i = some k ∧ k.index = i ∧ k.cabinet = cab := by
  unfold State.connOf at h
  split at h
  · next k' hk =>
    split at h
    · cases h; exact ⟨hk, State.conn?_index hk, ‹_›⟩
    · cases h
  · cases h

/-- The packet path depends on the subscribers and the queues alone. -/
theorem State.connPort_congr {s t : State} {k k' : Conn} (h : t.packet = s.packet) (hs : k'.subscriber = k.subscriber)
    (hi : k'.index = k.index) : t.connPort k' = s.connPort k := by
  unfold State.connPort State.portAllowed State.subscriber?
  rw [h, hs, hi]

theorem State.queueFull_congr {s t : State} (h : t.packet = s.packet) (ht : t.tiers = s.tiers) (p u v n : Nat) :
    t.queueFull p u v n = s.queueFull p u v n := by
  unfold State.queueFull State.service State.queuedBytes State.svcQueue? State.bufferUsed
  rw [h, ht]

@[simp] theorem State.ctx?_updConn (s : State) (i j : Nat) (f : Conn → Conn) : (s.updConn i f).ctx? j = s.ctx? j := rfl
@[simp] theorem State.ctx?_cacheConn (s : State) (i j : Nat) : (s.cacheConn i).ctx? j = s.ctx? j := rfl

end Sys2Proof.Machine
end

