-- ==== Sys2Proof/WellFormed.lean ====
section
/-! DEFINITION. Which commands are well formed: every number that names a unit, an object or a field lies in the range
the spec gives it, and a reading has one value for each of its sources. -/

namespace Sys2Proof

/-- A dictionary request whose fields fit their widths (R624, R628). -/
def ActReq.wf (r : ActReq) : Bool :=
  r.transport < 6 && r.source < 65536 && r.version < 256 && r.tag < 65536 && r.cabinet < 65536 && r.sub < 256
    && r.value.length ≤ 4080

/-- A raised request of one of the three classes (R34). -/
def ArbRequest.wf (r : ArbRequest) : Bool := decide (r.cls < 3)

/-- A received ZT packet whose header fields fit their widths (R285). -/
def ZtIn.wf (p : ZtIn) : Bool :=
  p.conn < 4294967296 && p.srcConn < 4294967296 && p.version < 256 && p.flags < 256 && p.keyGen < 256 && p.attempt < 256

/-- A group message whose fields fit their widths (R353). -/
def GroupIn.wf (m : GroupIn) : Bool :=
  m.slot < 64 && m.sender < 65536 && m.opSeq < 18446744073709551616 && m.opcode < 65536 && m.level < 256
    && m.shard < 4294967296 && m.chunk < 4294967296

/-- A snapshot message whose fields fit their widths (R393). -/
def SnapIn.wf (m : SnapIn) : Bool := m.slot < 64 && m.sender < 65536 && m.step < 18446744073709551616

/-- An inbound packet at one of the eight accelerator ports (R479). -/
def Tlp.wf (t : Tlp) : Bool := t.port < 8 && t.len ≤ 4096

/-- A cipher request of one of the three streams and four operations (R540, R541). -/
def CipherIn.wf (r : CipherIn) : Bool := r.stream < 3 && r.op < 4 && r.slot < 65536

/-- An error of one of the 32 sources, with a severity of R596. -/
def ErrorIn.wf (e : ErrorIn) : Bool := e.source < 32 && (e.severity == 1 || e.severity == 2) && e.causeCode < 256

/-- Whether a command is well formed. -/
def Instr.wf : Instr → Bool
  | .measuredRateUpdate steps => steps.length == 4 && steps.all fun n => decide (n ≤ 23000)
  | .minRateUpdate => true
  | .rateFloor quadrant => decide (quadrant < 4)
  | .commitWindowBoundary => true
  | .crossingTransfer crossing _ => decide (crossing < 10)
  | .crossingHang crossing => decide (crossing < 10)
  | .arbiterGrant _ raised => raised.all ArbRequest.wf
  | .sqTail cabinet queue tail => decide (cabinet < 4096) && decide (queue < 16384) && decide (tail < 65536)
  | .cqHead cabinet queue head => decide (cabinet < 4096) && decide (queue < 16384) && decide (head < 65536)
  | .reset cabinet queue => decide (cabinet < 4096) && decide (queue < 16384)
  | .resume cabinet queue => decide (cabinet < 4096) && decide (queue < 16384)
  | .set cabinet requester => decide (cabinet < 4096) && decide (requester < 65536)
  | .add cabinet requester => decide (cabinet < 4096) && decide (requester < 65536)
  | .max cabinet requester => decide (cabinet < 4096) && decide (requester < 65536)
  | .or cabinet requester => decide (cabinet < 4096) && decide (requester < 65536)
  | .setError cabinet requester => decide (cabinet < 4096) && decide (requester < 65536)
  | .clearError cabinet requester => decide (cabinet < 4096) && decide (requester < 65536)
  | .headRecordReadFailure queue => decide (queue < 16384)
  | .commandAdmission queue => decide (queue < 16384)
  | .commandCompletion _ => true
  | .waitDeadline queue => decide (queue < 16384)
  | .nop _ => true
  | .syncOnly _ => true
  | .flush _ => true
  | .negotiate _ => true
  | .queueCreate _ => true
  | .queueDelete _ => true
  | .queueReset _ => true
  | .queueResume _ => true
  | .queueQuery _ => true
  | .syncAlloc _ => true
  | .syncFree _ => true
  | .syncSet _ => true
  | .queueResetComplete queue => decide (queue < 16384)
  | .queueResetTimeout queue => decide (queue < 16384)
  | .circleScan => true
  | .hostLeaseRenew req => req.wf
  | .hostLeaseRelease req => req.wf
  | .adopt req => req.wf
  | .hostLeaseExpiry cabinet => decide (cabinet < 4096)
  | .quantize _ => true
  | .dequantize _ => true
  | .escalate _ => true
  | .reduce _ => true
  | .sumSquares _ => true
  | .adamw _ => true
  | .lion _ => true
  | .sgdMomentum _ => true
  | .factored _ => true
  | .blockScore _ => true
  | .adapterApply _ => true
  | .kernelLaunch _ => true
  | .selfcheckRun req => req.wf
  | .selfcheckComplete _ => true
  | .accumulationOpen group opSeq shard chunk level => decide (group < 64) && decide (opSeq < 18446744073709551616) && decide (shard < 4294967296) && decide (chunk < 4294967296) && decide (level < 256)
  | .wordIssue core => decide (core < 72)
  | .addTrigger core alu _ => decide (core < 72) && decide (alu < 2)
  | .sub core alu _ => decide (core < 72) && decide (alu < 2)
  | .and core alu _ => decide (core < 72) && decide (alu < 2)
  | .orTrigger core alu _ => decide (core < 72) && decide (alu < 2)
  | .xor core alu _ => decide (core < 72) && decide (alu < 2)
  | .shl core alu _ => decide (core < 72) && decide (alu < 2)
  | .shr core alu _ => decide (core < 72) && decide (alu < 2)
  | .sar core alu _ => decide (core < 72) && decide (alu < 2)
  | .eq core alu _ => decide (core < 72) && decide (alu < 2)
  | .ne core alu _ => decide (core < 72) && decide (alu < 2)
  | .lts core alu _ => decide (core < 72) && decide (alu < 2)
  | .ltu core alu _ => decide (core < 72) && decide (alu < 2)
  | .mins core alu _ => decide (core < 72) && decide (alu < 2)
  | .maxs core alu _ => decide (core < 72) && decide (alu < 2)
  | .carry core alu _ => decide (core < 72) && decide (alu < 2)
  | .pass core alu _ => decide (core < 72) && decide (alu < 2)
  | .mullo core _ => decide (core < 72)
  | .mulhs core _ => decide (core < 72)
  | .mulhu core _ => decide (core < 72)
  | .fadd core _ => decide (core < 72)
  | .fsub core _ => decide (core < 72)
  | .fmul core _ => decide (core < 72)
  | .ffma core _ => decide (core < 72)
  | .fmin core _ => decide (core < 72)
  | .fmax core _ => decide (core < 72)
  | .flt core _ => decide (core < 72)
  | .feq core _ => decide (core < 72)
  | .i2f core _ => decide (core < 72)
  | .f2i core _ => decide (core < 72)
  | .f2bf core _ => decide (core < 72)
  | .bf2f core _ => decide (core < 72)
  | .fdiv core _ => decide (core < 72)
  | .fsqrt core _ => decide (core < 72)
  | .ld core bank _ => decide (core < 72) && decide (bank < 2)
  | .st core bank _ => decide (core < 72) && decide (bank < 2)
  | .ldpi core bank _ => decide (core < 72) && decide (bank < 2)
  | .stpi core bank _ => decide (core < 72) && decide (bank < 2)
  | .ldpd core bank _ => decide (core < 72) && decide (bank < 2)
  | .stpd core bank _ => decide (core < 72) && decide (bank < 2)
  | .ldx core bank _ => decide (core < 72) && decide (bank < 2)
  | .stx core bank _ => decide (core < 72) && decide (bank < 2)
  | .mac core _ => decide (core < 72)
  | .vadd core _ => decide (core < 72)
  | .vmul core _ => decide (core < 72)
  | .vmax core _ => decide (core < 72)
  | .vfma core _ => decide (core < 72)
  | .vwait core _ => decide (core < 72)
  | .vecOperationDone core => decide (core < 72)
  | .dmaGet core _ => decide (core < 72)
  | .dmaPut core _ => decide (core < 72)
  | .dmaWait core _ => decide (core < 72)
  | .kernelDmaDone core _ => decide (core < 72)
  | .jmp core _ => decide (core < 72)
  | .call core _ => decide (core < 72)
  | .ret core _ => decide (core < 72)
  | .halt core _ => decide (core < 72)
  | .rft core _ => decide (core < 72)
  | .svc core _ => decide (core < 72)
  | .syncSignal core _ => decide (core < 72)
  | .readLo core _ => decide (core < 72)
  | .readHi core _ => decide (core < 72)
  | .readErr core _ => decide (core < 72)
  | .kernelInstanceStart _ tile => decide (tile < 64)
  | .budget core => decide (core < 72)
  | .imageCacheFlush req => req.wf
  | .copy _ => true
  | .copyList _ => true
  | .fill _ => true
  | .invalidate _ => true
  | .patrolScrub => true
  | .cxlScrub port => decide (port < 4)
  | .gddr7Refresh => true
  | .cxlTimeout _ => true
  | .cxlLinkDown port => decide (port < 4)
  | .seqInit _ => true
  | .seqAcquire _ => true
  | .seqRelease _ => true
  | .seqLoad _ => true
  | .seqAppend _ => true
  | .shelfPageIn _ => true
  | .shelfWrite _ => true
  | .seqPrefetch _ => true
  | .shelfPrefetch _ => true
  | .leaseBreak cabinet desc => decide (cabinet < 4096) && decide (desc < 281474976710656)
  | .write _ => true
  | .read _ => true
  | .fetchAdd _ => true
  | .cmpSwap _ => true
  | .signal _ => true
  | .wait _ => true
  | .connCreate _ => true
  | .connClose _ => true
  | .connDestroy _ => true
  | .connRekey _ => true
  | .reg _ => true
  | .revoke _ => true
  | .regionDrained region => decide (region < 262144)
  | .writePacket p => p.wf
  | .readReq p => p.wf
  | .atomicReq p => p.wf
  | .readResp p => p.wf
  | .atomicResp p => p.wf
  | .errorResp p => p.wf
  | .connect p => p.wf
  | .accept p => p.wf
  | .close p => p.wf
  | .closeAck p => p.wf
  | .ack p => p.wf
  | .unmatchedDatagram _ => true
  | .retransmissionTimeout conn _ => decide (conn < 4194304)
  | .retryExhaustion conn _ => decide (conn < 4194304)
  | .connectResend conn => decide (conn < 4194304)
  | .closeResend conn => decide (conn < 4194304)
  | .ackDelay conn => decide (conn < 4194304)
  | .contextFetch conn => decide (conn < 4194304)
  | .missFetchLimit conn => decide (conn < 4194304)
  | .groupJoin _ => true
  | .groupLeave _ => true
  | .allReduce _ => true
  | .reduceScatter _ => true
  | .allGather _ => true
  | .broadcast _ => true
  | .allToAll _ => true
  | .join m => m.wf
  | .view m => m.wf
  | .refuse m => m.wf
  | .newView m => m.wf
  | .failView m => m.wf
  | .contrib m => m.wf
  | .result m => m.wf
  | .report m => m.wf
  | .probe m => m.wf
  | .probeAck m => m.wf
  | .expel m => m.wf
  | .abandon m => m.wf
  | .leave m => m.wf
  | .formTimeout slot => decide (slot < 64)
  | .collHeartbeat conn => decide (conn < 4194304)
  | .collTimeout slot peer => decide (slot < 64) && decide (peer < 16384)
  | .probeTimeout slot subject => decide (slot < 64) && decide (subject < 16384)
  | .collOpLimit slot => decide (slot < 64)
  | .collEscalate slot => decide (slot < 64)
  | .snapAttach _ => true
  | .snapDetach _ => true
  | .snapCut _ => true
  | .snapRollback _ => true
  | .snapRestore _ => true
  | .granuleCopy slot _ => decide (slot < 64)
  | .cowCopy slot _ => decide (slot < 64)
  | .mirrorData m => m.wf
  | .mirrorDone m => m.wf
  | .mirrorAck m => m.wf
  | .fragment m => m.wf
  | .fragmentDone m => m.wf
  | .fragmentDurable m => m.wf
  | .vote m => m.wf
  | .rollback m => m.wf
  | .pull m => m.wf
  | .rollbackReq m => m.wf
  | .verdict m => m.wf
  | .restoreStep m => m.wf
  | .voteWait slot member => decide (slot < 64) && decide (member < 16384)
  | .frameReceive port bytes => decide (port < 4) && decide (bytes.length < 16777216)
  | .fragWaitLimit _ => true
  | .fragEntryLifetime _ => true
  | .packetDelivery queue => decide (queue < 16384)
  | .frameRecord _ => true
  | .portDequeue port => decide (port < 4)
  | .calendarSlotExpiry port => decide (port < 4)
  | .ruleStage req => req.wf
  | .ruleCommit req => req.wf
  | .ruleDiscard req => req.wf
  | .versionDrained => true
  | .tmApply req => req.wf
  | .configurationWrite function reg' _ => decide (function < 4096) && decide (reg' < 4096)
  | .initiateFunctionLevelReset function => decide (function < 4096)
  | .flrComplete function => decide (function < 4096)
  | .busMasterEnable function _ => decide (function < 4096)
  | .registerWrite function offset len _ => decide (function < 4096) && decide (offset < 18446744073709551616) && decide (len < 65536)
  | .apertureRead offset len => decide (offset < 18446744073709551616) && decide (len < 65536)
  | .apertureWrite offset data => decide (offset < 18446744073709551616) && decide (data.length < 16777216)
  | .completionReceived link tag status _ byteCount lowerAddr data => decide (link < 10) && decide (tag < 65536) && decide (status < 65536) && decide (byteCount < 4097) && decide (lowerAddr < 128) && decide (data.length < 16777216)
  | .completionTimeout link tag => decide (link < 10) && decide (tag < 65536)
  | .peerTlp tlp => tlp.wf
  | .windowGen req => req.wf
  | .ideKm link message => decide (link < 10) && decide (message.length < 16777216)
  | .linkTrained link speed width => decide (link < 10) && decide (speed < 8) && decide (width < 17)
  | .linkDown link => decide (link < 10)
  | .createIoSq cabinet => decide (cabinet < 4096)
  | .createIoCq cabinet => decide (cabinet < 4096)
  | .deleteIoSq cabinet => decide (cabinet < 4096)
  | .deleteIoCq cabinet => decide (cabinet < 4096)
  | .getLogPage cabinet => decide (cabinet < 4096)
  | .identify cabinet => decide (cabinet < 4096)
  | .abort cabinet => decide (cabinet < 4096)
  | .setFeatures cabinet => decide (cabinet < 4096)
  | .getFeatures cabinet => decide (cabinet < 4096)
  | .asynchronousEventRequest cabinet => decide (cabinet < 4096)
  | .deviceSelfTest cabinet => decide (cabinet < 4096)
  | .selfTestDone cabinet result' => decide (cabinet < 4096) && decide (result' < 16)
  | .nvmeFlush cabinet sqid => decide (cabinet < 4096) && decide (sqid < 65536)
  | .nvmeWrite cabinet sqid => decide (cabinet < 4096) && decide (sqid < 65536)
  | .nvmeRead cabinet sqid => decide (cabinet < 4096) && decide (sqid < 65536)
  | .writeZeroes cabinet sqid => decide (cabinet < 4096) && decide (sqid < 65536)
  | .datasetManagement cabinet sqid => decide (cabinet < 4096) && decide (sqid < 65536)
  | .nsApply req => req.wf
  | .backingConnected cabinet nsid _ _ _ => decide (cabinet < 4096) && decide (nsid < 4294967296)
  | .backingConnectionLost cabinet nsid => decide (cabinet < 4096) && decide (nsid < 4294967296)
  | .backingReconnect cabinet nsid => decide (cabinet < 4096) && decide (nsid < 4294967296)
  | .backingHold cabinet sqid cid => decide (cabinet < 4096) && decide (sqid < 65536) && decide (cid < 65536)
  | .backingResponse cabinet nsid _ status data => decide (cabinet < 4096) && decide (nsid < 4294967296) && decide (status < 65536) && decide (data.length < 16777216)
  | .keepAlive cabinet nsid => decide (cabinet < 4096) && decide (nsid < 4294967296)
  | .superblockWrite cabinet nsid => decide (cabinet < 4096) && decide (nsid < 4294967296)
  | .destage cabinet nsid => decide (cabinet < 4096) && decide (nsid < 4294967296)
  | .nvmeEnable req => req.wf
  | .nvmeShutdown req => req.wf
  | .assign req => req.wf
  | .release req => req.wf
  | .releaseDone cabinet => decide (cabinet < 4096)
  | .share req => req.wf
  | .freeze req => req.wf
  | .freezeDrainDone cabinet => decide (cabinet < 4096)
  | .freezeLimit cabinet => decide (cabinet < 4096)
  | .unfreeze req => req.wf
  | .save req => req.wf
  | .restore req => req.wf
  | .logSwap req => req.wf
  | .adminEnable req => req.wf
  | .migrationSecret req => req.wf
  | .cipherRequest r => r.wf
  | .keyDerivation slot => decide (slot < 65536)
  | .cipherLockAcquire _ => true
  | .cipherLockRelease _ => true
  | .lockLimit => true
  | .cipherKatPeriod _ => true
  | .cipherKatRun req _ => req.wf
  | .svnCommit req => req.wf
  | .getCertificate transport offset len => decide (transport < 6) && decide (offset < 18446744073709551616) && decide (len < 65536)
  | .challenge transport nonce => decide (transport < 6) && decide (nonce.length < 16777216)
  | .getMeasurements transport operation nonce => decide (transport < 6) && decide (operation < 256) && decide (nonce.length < 16777216)
  | .keyExchange transport exchange => decide (transport < 6) && decide (exchange.length < 16777216)
  | .vendorDefinedRequest transport request => decide (transport < 6) && decide (request.length < 16777216)
  | .powerLoop _ _ => true
  | .thermalLoop readings => readings.length == 24
  | .snowlineFall => true
  | .powerLimiter _ => true
  | .thermalTrip sensor => decide (sensor < 64)
  | .budgetWindow => true
  | .powerStateReq req => req.wf
  | .entryComplete => true
  | .wakeEvent source => decide (source < 65536)
  | .railReady => true
  | .clockReady => true
  | .memReady => true
  | .logicReady => true
  | .wakeReady signal' => decide (signal' < 4)
  | .fwActivate req => req.wf
  | .activationDrainDone => true
  | .activationDefer => true
  | .activationAbandoned => true
  | .errorPin e => e.wf
  | .engineHangLimit _ => true
  | .monitorWatchdog core => decide (core < 8)
  | .componentCheckin core => decide (core < 8)
  | .componentRestart core => decide (core < 8)
  | .rungComplete => true
  | .rungDeadline => true
  | .quadrantRetest quadrant _ => decide (quadrant < 4)
  | .safeStateExit => true
  | .faultClear req => req.wf
  | .resetRequest req => req.wf
  | .trayNoticeAck req => req.wf
  | .dumpDiscard req => req.wf
  | .steralRead req index sub' => req.wf && decide (index < 65536) && decide (sub' < 256)
  | .steralWrite req index sub' => req.wf && decide (index < 65536) && decide (sub' < 256)
  | .describe req index sub' => req.wf && decide (index < 65536) && decide (sub' < 256)
  | .arpRequest frame => decide (frame.length < 16777216)
  | .neighborSolicitation frame => decide (frame.length < 16777216)
  | .telemetryLatch req => req.wf
  | .ipfixActiveTimeout flow => decide (flow < 65536)
  | .ipfixIdleTimeout flow => decide (flow < 65536)
  | .ipfixTemplateRefresh => true
  | .requestUpdate agent component size maxTransfer => decide (agent < 65536) && decide (component < 4) && decide (size < 4294967296) && decide (maxTransfer < 4294967296)
  | .requestFirmwareData data => decide (data.length < 16777216)
  | .verifyComplete _ => true
  | .activateFirmware agent => decide (agent < 65536)
  | .getSensorReading sensor => decide (sensor < 64)
  | .stageB1 _ => true
  | .stageB2 => true
  | .stageB3 => true
  | .b2Limit => true
  | .b3Limit => true
  | .aonPwrgoodRise => true
  | .aonPwrgoodFall => true
  | .pwrgoodRise => true
  | .pwrgoodFall _ => true
  | .resetNAssert => true
  | .resetNRelease => true
  | .perstNAssert which => decide (which < 2)
  | .perstNRelease which => decide (which < 2)
  | .pmbAlertN _ _ => true
  | .deviceWindowLoadReturn core => decide (core < 72)
  | .prefetchTransferDone _ => true
  | .cxlLinkRetrained port => decide (port < 4)
  | .comparatorRearm sensor => decide (sensor < 64)
  | .limiterPacingEnd => true
  | .tagReuseTimeout link tag => decide (link < 10) && decide (tag < 65536)
  | .inProgressResponse transport source tag => decide (transport < 6) && decide (source < 65536) && decide (tag < 65536)
  | .railBackInWindow rail => decide (rail < 64)
  | .negotiateAlgorithms transport => decide (transport < 6)
  | .endSession session => decide (session < 65536)
  | .respondIfReady transport => decide (transport < 6)
  | .pmeTurnOff => true

end Sys2Proof
end

