-- ==== Sys2Proof/Tests/Slice0.lean ====
section
/-! SUPPORT. Tests: witnesses that the hypotheses of each statement can be met, ill-formed terms that each check refuses, and
single steps whose expected result comes from the spec. -/

namespace Sys2Proof.Tests

set_option Elab.async false

open Sys2Proof.Machine

/-- Whether a chain of the model's own checks succeeds and ends in a state of affairs that holds. -/
def holds (x : Except Err Bool) : Bool :=
  match x with
  | .ok b => b
  | .error _ => false

theorem witness_step_front : ({ State.reset with pending := [.rateFloor 0, .commitWindowBoundary] } : State).pending = [.rateFloor 0, .commitWindowBoundary] ∧
    State.reset.pending = [] := ⟨rfl, rfl⟩

theorem witness_step_memory : State.reset.sound ∧ ∃ t, step State.reset = .next t := ⟨by decide, ⟨_, rfl⟩⟩

theorem witness_safe_state : ({ State.reset with faults := { State.reset.faults with safe := true } } : State).faults.safe = true ∧
    heldWhenSafe (.copy 3) = true ∧ heldWhenSafe (.vfma 63 0) = true := by decide
/-- One tick of an empty queue. -/
theorem test_tick : (match step State.reset with
    | .next u => decide (u.now = 10)
    | _ => false) = true := by decide
theorem witness_memory : Memory.wf [(3, 1), (9, 2)] = true ∧ (∀ a, Memory.get [(3, 1), (9, 2)] a = Memory.get [(3, 1), (9, 2)] a) :=
  ⟨by decide, fun _ => rfl⟩
/-- A state in which quadrant 1 has been below the floor for long. -/
def slowQuadrant : State :=
  { State.reset with
    now := 200000
    dict := [(0x100300, 3), (0x200001, 1450)]
    fabric := { State.reset.fabric with belowSince := [none, some 0, none, none] } }

theorem witness_rates : (∀ n ∈ [20000, 23000, 0, 14500], n ≤ 23000) ∧
    (∀ q < 4, State.reset.fabric.minSoFar.getD q 0 ≤ 2300) ∧
    (slowQuadrant.fabric.belowSince.getD 1 none = some 0 ∧ 0 + 100000 < slowQuadrant.now ∧
      slowQuadrant.floorGuaranteed 1 = true ∧ slowQuadrant.faults.fencedQuads.contains 1 = false) ∧
    (slowQuadrant.e 0x2003 5 ≤ slowQuadrant.now ∧ slowQuadrant.e 0x2E05 0 < 2 ∧
      ∀ q < 4, slowQuadrant.e 0x2000 (q + 1) ≤ 2300) := by decide
/-- A state in which crossing 3 has held a value for 200 µs. -/
def heldCrossing : State :=
  { State.reset with
    now := 200000
    fabric := { State.reset.fabric with
      crossings := updAt 3 (fun c => { c with holding := some 7 }) State.reset.fabric.crossings } }

theorem witness_crossings : (∃ c, heldCrossing.fabric.crossings[3]? = some c ∧ c.holding = some 7) ∧
    ((heldCrossing.fabric.crossings.getD 3 default).holding.isSome = true ∧
      (heldCrossing.fabric.crossings.getD 3 default).raisedAt + 100000 ≤ heldCrossing.now) ∧
    ((State.reset.fabric.holders.all fun h => h.resource != 5) = true ∧
      (State.reset.fabric.preempted.all fun p => p.resource != 5) = true) :=
  ⟨⟨_, rfl, rfl⟩, by decide, by decide⟩
/-- A state with cabinet 0 assigned and some queues of it. -/
def withQueues (qs : List Queue) : State :=
  { State.reset with
    contract := { State.reset.contract with queues := qs }
    cabs := { State.reset.cabs with cabs := [{ (default : Cabinet) with id := 0, state := 1 }] } }

/-- A submission queue of cabinet 0 of 16 records in a state. -/
def sq (state : Nat) : Queue :=
  { (default : Queue) with index := 3, cabinet := 0, kind := 1, engine := 1, n := 4, cq := 2, state := state }

/-- A completion queue of cabinet 0 of 16 records. -/
def cq : Queue := { (default : Queue) with index := 2, cabinet := 0, kind := 0, n := 4, state := 1, phase := true }

theorem witness_doorbell (k : Nat) (h : k = 1 ∨ k = 2 ∨ k = 3) :
    PageServed (withQueues [cq, sq k]) 0 3 (sq k) ∧ (sq k).kind = 1 ∧ (sq k).state = k ∧ 15 < (sq k).size ∧
    (sq k).size ≤ 16 % 65536 := by
  rcases h with rfl | rfl | rfl <;> exact ⟨⟨rfl, rfl, rfl, rfl⟩, rfl, rfl, by decide, by decide⟩

theorem witness_cq_head : PageServed (withQueues [cq, sq 1]) 0 2 cq ∧ cq.kind = 0 ∧ cq.held = [] ∧ 15 < cq.size :=
  ⟨⟨rfl, rfl, rfl, rfl⟩, rfl, rfl, by decide⟩
/-- A state in which requester 9 of cabinet 0 has latched a handle and a value. -/
def withLatch (handle : Nat) : State :=
  { withQueues [] with
    contract := { State.reset.contract with
      negotiated := [(0, 4)]
      syncs := [{ (default : SyncObj) with index := 1000, value := 320 }]
      latches := [{ cabinet := 0, requester := 9, value := 1, handle := handle }] } }

theorem witness_signal (op : Nat) (h : op ∈ [1, 2, 3, 4, 5, 6]) :
    SignalServed (withLatch 0x400003E8) 0 9 op { (default : SyncObj) with index := 1000, value := 320 } := by
  have key : ∀ op ∈ [1, 2, 3, 4, 5, 6], signalInVersion 4 op = true := by decide
  exact ⟨rfl, rfl, rfl, by decide, key op h, by decide, by decide, by decide⟩

theorem witness_signal_bad : (withLatch 0x400003E9).bar0Drops 0 = false ∧ (withLatch 0x400003E9).cabServed 0 = true ∧
    (withLatch 0x400003E9).e 0x2E05 0 = 0 ∧
    (withLatch 0x400003E9).syncValid 0 ((withLatch 0x400003E9).latchOf 0 9).handle = false :=
  ⟨rfl, rfl, rfl, by decide⟩
/-- A command record of an opcode with given ARGS and zero elsewhere. -/
def record (op : Nat) (args : Bytes) : Bytes := toLe 2 op ++ zeros 38 ++ fit 24 args

/-- The admin queue of cabinet 0. -/
def adminQueue : Queue :=
  { (default : Queue) with index := 5, cabinet := 0, kind := 1, engine := 0x0F, n := 4, cq := 2, state := 1 }

/-- A started command with a record. -/
def started (r : Bytes) : Ctx := { (default : Ctx) with id := 7, queue := 5, cabinet := 0, record := r }

/-- A state in which one command has started in a queue, beside queues and sync objects. -/
def running (q : Queue) (qs : List Queue) (r : Bytes) : State :=
  { withQueues (q :: qs) with
    contract := { State.reset.contract with
      queues := q :: qs
      negotiated := [(0, 4)]
      syncs := [{ (default : SyncObj) with index := 1000, value := 320 }]
      ctxs := [started r] } }

/-- The running state of an admin command. -/
def admin (op : Nat) (args : Bytes) : State := running adminQueue [cq] (record op args)

theorem running_admin (op : Nat) (args : Bytes) (h : recOpcode (record op args) = op) :
    Running (admin op args) 7 op (started (record op args)) adminQueue :=
  ⟨rfl, by
    have : (started (record op args)).record = record op args := rfl
    simp only [isCommand, this, h, beq_self_eq_true, Bool.true_and]; rfl, rfl, rfl, rfl, rfl⟩

theorem witness_nop : Running (admin 0xF001 []) 7 0xF001 (started (record 0xF001 [])) adminQueue ∧
    reservedErr (record 0xF001 []) [] = none := ⟨running_admin _ _ (by decide), by decide⟩

theorem witness_sync_only : Running (admin 0xF002 []) 7 0xF002 (started (record 0xF002 [])) adminQueue ∧
    reservedErr (record 0xF002 []) [] = none := ⟨running_admin _ _ (by decide), by decide⟩

theorem witness_flush : Running (admin 0xF003 [1]) 7 0xF003 (started (record 0xF003 [1])) adminQueue ∧
    reservedErr (record 0xF003 [1]) [(0, 1)] = none ∧ arg (record 0xF003 [1]) 0 1 ≤ 1 :=
  ⟨running_admin _ _ (by decide), by decide, by decide⟩

theorem witness_negotiate : Running (admin 0xF010 [1, 4]) 7 0xF010 (started (record 0xF010 [1, 4])) adminQueue ∧
    reservedErr (record 0xF010 [1, 4]) [(0, 2)] = none ∧ arg (record 0xF010 [1, 4]) 0 1 ≤ 4 ∧
    2 ≤ arg (record 0xF010 [1, 4]) 1 1 ∧ arg (record 0xF010 [1, 4]) 0 1 ≤ arg (record 0xF010 [1, 4]) 1 1 ∧
    ((admin 0xF010 [1, 4]).contract.queues.all fun x =>
      x.cabinet != adminQueue.cabinet || x.index == adminQueue.index || x.index == adminQueue.cq) = true :=
  ⟨running_admin _ _ (by decide), by decide, by decide, by decide, by decide, by decide⟩

theorem witness_sync_alloc :
    Running (admin 0xF020 [9]) 7 0xF020 (started (record 0xF020 [9])) adminQueue ∧
    reservedErr (record 0xF020 [9]) [(0, 16)] = none ∧ arg (record 0xF020 [9]) 8 8 = 0 ∧
    ((admin 0xF020 [9]).contract.syncs.filter fun o => o.cabinet == 0).length < (admin 0xF020 [9]).share 0 2 ∧
    ∃ i, pickFree (admin 0xF020 [9]).freeValue ((admin 0xF020 [9]).contract.syncs.map (·.index)) 0 262144 = some i := by
  refine ⟨running_admin _ _ (by decide), by decide, by decide, by decide, ?_⟩
  cases h : pickFree (admin 0xF020 [9]).freeValue ((admin 0xF020 [9]).contract.syncs.map (·.index)) 0 262144 with
  | some i => exact ⟨i, rfl⟩
  | none =>
    unfold pickFree at h
    split at h
    · cases h
    · exact absurd h (by decide)

theorem witness_sync_free :
    Running (admin 0xF021 [0xE8, 3, 0, 0x40]) 7 0xF021 (started (record 0xF021 [0xE8, 3, 0, 0x40])) adminQueue ∧
    reservedErr (record 0xF021 [0xE8, 3, 0, 0x40]) [(0, 4)] = none ∧
    (admin 0xF021 [0xE8, 3, 0, 0x40]).syncArgErr 0 (arg (record 0xF021 [0xE8, 3, 0, 0x40]) 0 4) = none ∧
    ((admin 0xF021 [0xE8, 3, 0, 0x40]).contract.queues.all fun x =>
      (admin 0xF021 [0xE8, 3, 0, 0x40]).waitedHandle x != some (arg (record 0xF021 [0xE8, 3, 0, 0x40]) 0 4)) = true :=
  ⟨running_admin _ _ (by decide), by decide, by decide, by decide⟩

theorem witness_sync_set :
    Running (admin 0xF022 [0xE8, 3, 0, 0x40]) 7 0xF022 (started (record 0xF022 [0xE8, 3, 0, 0x40])) adminQueue ∧
    reservedErr (record 0xF022 [0xE8, 3, 0, 0x40]) [(0, 4), (8, 8)] = none ∧
    (admin 0xF022 [0xE8, 3, 0, 0x40]).syncArgErr 0 (arg (record 0xF022 [0xE8, 3, 0, 0x40]) 0 4) = none :=
  ⟨running_admin _ _ (by decide), by decide, by decide⟩
/-- A page table at 64 KiB of GDDR7 that maps the first 2 MiB of a cabinet's addresses to GDDR7 from 0x10020000000 on. -/
def tables : List Host.Cell :=
  [(0x10000010000, 1), (0x10000010001, 0x10), (0x10000010002, 1), (0x10000010005, 1),
   (0x10000011000, 1), (0x10000011001, 0x20), (0x10000011002, 1), (0x10000011005, 1),
   (0x10000012000, 0x0F), (0x10000012003, 0x20), (0x10000012005, 1)]

/-- A state with populated GDDR7 and the page table of cabinet 0 in place. -/
def mapped (s : State) : State :=
  { s with
    mem := tables
    dict := [(0x250000, 0x2000000000), (0x400101, 16), (0x400303, 0x10000010000)] }

/-- A command record of QUEUE_CREATE: ring at 0, n = 4, a completion queue. -/
def createArgs : Bytes := zeros 8 ++ [4]

theorem witness_queue_create :
    Running (mapped (admin 0xF011 createArgs)) 7 0xF011 (started (record 0xF011 createArgs)) adminQueue ∧
    reservedErr (record 0xF011 createArgs) [(0, 18)] = none ∧
    (mapped (admin 0xF011 createArgs)).createErr 0 (record 0xF011 createArgs) = none ∧
    (∃ ps, (mapped (admin 0xF011 createArgs)).reach 0 0 (64 * 2 ^ 4) .write = .ok ps) ∧
    ((mapped (admin 0xF011 createArgs)).queuesOf 0).length < (mapped (admin 0xF011 createArgs)).share 0 1 ∧
    (∃ p, lowestFree (((mapped (admin 0xF011 createArgs)).queuesOf 0).map (·.page)) 2
      ((mapped (admin 0xF011 createArgs)).pageLimit 0) = some p) ∧
    ∃ i, pickFree (mapped (admin 0xF011 createArgs)).freeValue
      ((mapped (admin 0xF011 createArgs)).contract.queues.map (·.index)) 0 16384 = some i := by
  refine ⟨⟨rfl, by decide, rfl, rfl, rfl, rfl⟩, by decide, by decide, ⟨_, by rfl⟩, by decide, ⟨_, by rfl⟩, ?_⟩
  cases h : pickFree (mapped (admin 0xF011 createArgs)).freeValue
      ((mapped (admin 0xF011 createArgs)).contract.queues.map (·.index)) 0 16384 with
  | some i => exact ⟨i, rfl⟩
  | none =>
    unfold pickFree at h
    split at h
    · cases h
    · exact absurd h (by decide)

/-- The running state of an admin command that names the submission queue 3 in a state. -/
def adminOn (op k : Nat) : State := running adminQueue [cq, sq k] (record op [3, 0, 0, 0x80])

theorem witness_queue_delete (k : Nat) (h : k = 1 ∨ k = 2 ∨ k = 4) :
    Running (adminOn 0xF012 k) 7 0xF012 (started (record 0xF012 [3, 0, 0, 0x80])) adminQueue ∧
    reservedErr (record 0xF012 [3, 0, 0, 0x80]) [(0, 4)] = none ∧
    (adminOn 0xF012 k).queueHandleErr 0 (arg (record 0xF012 [3, 0, 0, 0x80]) 0 4) = none ∧
    (adminOn 0xF012 k).queue? (handleIndex (arg (record 0xF012 [3, 0, 0, 0x80]) 0 4)) = some (sq k) ∧
    (sq k).engine ≠ 0x0F ∧ (sq k).kind = 1 ∧ (sq k).state = k := by
  rcases h with rfl | rfl | rfl <;>
    exact ⟨⟨rfl, by decide, rfl, rfl, rfl, rfl⟩, by decide, by decide, rfl, by decide, rfl, rfl⟩

theorem witness_queue_reset (k : Nat) (h : k = 1 ∨ k = 2) :
    Running (adminOn 0xF013 k) 7 0xF013 (started (record 0xF013 [3, 0, 0, 0x80])) adminQueue ∧
    reservedErr (record 0xF013 [3, 0, 0, 0x80]) [(0, 5)] = none ∧ arg (record 0xF013 [3, 0, 0, 0x80]) 4 1 = 0 ∧
    (adminOn 0xF013 k).queueHandleErr 0 (arg (record 0xF013 [3, 0, 0, 0x80]) 0 4) = none ∧
    (adminOn 0xF013 k).queue? (handleIndex (arg (record 0xF013 [3, 0, 0, 0x80]) 0 4)) = some (sq k) ∧
    (sq k).engine ≠ 0x0F ∧ (sq k).kind = 1 ∧ (sq k).state = k := by
  rcases h with rfl | rfl <;>
    exact ⟨⟨rfl, by decide, rfl, rfl, rfl, rfl⟩, by decide, by decide, by decide, rfl, by decide, rfl, rfl⟩

theorem witness_queue_resume :
    Running (adminOn 0xF014 2) 7 0xF014 (started (record 0xF014 [3, 0, 0, 0x80])) adminQueue ∧
    reservedErr (record 0xF014 [3, 0, 0, 0x80]) [(0, 4)] = none ∧
    (adminOn 0xF014 2).queueHandleErr 0 (arg (record 0xF014 [3, 0, 0, 0x80]) 0 4) = none ∧
    (adminOn 0xF014 2).queue? (handleIndex (arg (record 0xF014 [3, 0, 0, 0x80]) 0 4)) = some (sq 2) ∧
    (sq 2).state = 2 :=
  ⟨⟨rfl, by decide, rfl, rfl, rfl, rfl⟩, by decide, by decide, rfl, rfl⟩

/-- ARGS of a QUEUE_QUERY: 32 bytes at cabinet address 0. -/
def queryArgs : Bytes := zeros 8 ++ [32]

theorem witness_queue_query :
    Running (mapped (admin 0xF015 queryArgs)) 7 0xF015 (started (record 0xF015 queryArgs)) adminQueue ∧
    reservedErr (record 0xF015 queryArgs) [(0, 12)] = none ∧ arg (record 0xF015 queryArgs) 0 8 % 16 = 0 ∧
    arg (record 0xF015 queryArgs) 8 4 % 16 = 0 ∧ 16 ≤ arg (record 0xF015 queryArgs) 8 4 ∧
    arg (record 0xF015 queryArgs) 8 4 ≤ 262144 ∧
    (mapped (admin 0xF015 queryArgs)).canWrite 0 (arg (record 0xF015 queryArgs) 0 8)
      (((sortQueues ((mapped (admin 0xF015 queryArgs)).queuesOf 0)).take (arg (record 0xF015 queryArgs) 8 4 / 16)).flatMap
        queueEntry).length = none :=
  ⟨⟨rfl, by decide, rfl, rfl, rfl, rfl⟩, by decide, by decide, by decide, by decide, by decide, by rfl⟩

theorem witness_reset_end : (withQueues [{ cq with state := 5 }]).queue? 2 = some { cq with state := 5 } ∧
    (withQueues [{ cq with state := 5 }]).faults.safe = false := ⟨rfl, rfl⟩

theorem witness_reset_timeout :
    ({ adminOn 0xF013 1 with
        now := 1000000
        contract := { (adminOn 0xF013 1).contract with queues := [{ adminQueue with state := 4 }] } } : State).started 5 =
      [started (record 0xF013 [3, 0, 0, 0x80])] := rfl
/-- A state in which a NOP stands ready at HEAD of the admin queue, its ring at cabinet address 0x10000. -/
def readyNop : State :=
  let q := { adminQueue with ringBase := 0x10000, tail := 1, eligibleAt := some 0, readyAt := some 0 }
  { mapped (withQueues [q, cq]) with
    mem := tables ++ [(0x10020010000, 0x01), (0x10020010001, 0xF0)]
    contract := { State.reset.contract with queues := [q, cq], negotiated := [(0, 4)] } }

theorem witness_admission : ∃ q r conts, (readyNop.judgeHead 5).queue? 5 = some q ∧ readyNop.faults.safe = false ∧
    q.kind = 1 ∧ q.state = 1 ∧ q.engine ≠ 7 ∧ (readyNop.judgeHead 5).fetchAllowed q.cabinet = true ∧
    (readyNop.judgeHead 5).restarting 1 = false ∧ (readyNop.judgeHead 5).fetchHead q = .ok (some (r, conts)) ∧
    ((formOf q.engine r).fence && !((readyNop.judgeHead 5).started 5).isEmpty) = false ∧
    (readyNop.judgeHead 5).checkHead q r = none ∧ q.upstreamError = false ∧ q.readyAt.isSome = true ∧
    ((readyNop.judgeHead 5).startable q).isSome = true ∧ (readyNop.judgeHead 5).isNext q = true := by
  refine ⟨_, _, _, by rfl, rfl, rfl, rfl, by decide, by rfl, by rfl, by rfl, by rfl, by rfl, by rfl, by rfl, by rfl, by rfl⟩

theorem witness_completion :
    (running adminQueue [cq] []).ctx? 7 = some (started []) ∧
    ({ running adminQueue [cq] [] with
        contract := { (running adminQueue [cq] []).contract with ctxs := [{ started [] with finished := true }] } } : State).ctx? 7
      = some { started [] with finished := true } := ⟨rfl, rfl⟩

/-- A queue whose command at HEAD has waited for its deadline. -/
def lateQueue : Queue :=
  { adminQueue with ringBase := 0x10000, tail := 1, eligibleAt := some 0, deadlineLeft := some 5 }

/-- A state in which a NOP that waits for a value not reached stands at HEAD of the admin queue. -/
def lateNop : State :=
  { mapped (withQueues [lateQueue, cq]) with
    now := 10
    mem := tables ++ [(0x10020010000, 0x01), (0x10020010001, 0xF0), (0x10020010008, 0xE8), (0x10020010009, 0x03),
      (0x1002001000B, 0x40), (0x10020010011, 0x10), (0x10020010020, 1)]
    contract := { State.reset.contract with
      queues := [lateQueue, cq], negotiated := [(0, 4)]
      syncs := [{ (default : SyncObj) with index := 1000, value := 320 }] } }

theorem witness_deadline : ∃ q r conts, (lateNop.judgeHead 5).queue? 5 = some q ∧ lateNop.faults.safe = false ∧
    lateNop.contract.ctxs = [] ∧ q.state = 1 ∧ q.expired lateNop.now = true ∧ q.readyAt = none ∧
    q.upstreamError = false ∧ (lateNop.judgeHead 5).fetchHead q = .ok (some (r, conts)) := by
  refine ⟨_, _, _, by rfl, rfl, rfl, by rfl, by rfl, by rfl, by rfl, by rfl⟩

theorem witness_head_failure : ∃ e,
    (withQueues [{ adminQueue with tail := 1 }]).queue? 5 = some { adminQueue with tail := 1 } ∧
    ({ adminQueue with tail := 1 } : Queue).placed ≠ 0 ∧ (withQueues [{ adminQueue with tail := 1 }]).fetchAllowed 0 = true ∧
    (withQueues [{ adminQueue with tail := 1 }]).fetchHead { adminQueue with tail := 1 } = .error e ∧ e.bad = none :=
  ⟨_, rfl, by decide, rfl, by rfl, rfl⟩

theorem witness_scan : (withQueues [cq]).faults.safe = false ∧ (withQueues [cq]).waiters = [] := ⟨rfl, by decide⟩
/-- A request of the mailbox of function 0 that writes 1. -/
def mailbox (sub : Nat) (value : Bytes) : ActReq :=
  { transport := 3, source := 0, version := 0x14, tag := 7, cabinet := 0, sub := sub, value := value }

/-- A state in stage B3 with cabinet 0 assigned and its lease in a state, due at 0. -/
def leased (k : Nat) : State :=
  { withQueues [] with dict := [(0x100300, 3)] ++ (if k = 0 then [] else [(0x400402, k)]) }

theorem witness_lease_acts (k : Nat) (h : k = 0 ∨ k = 1 ∨ k = 2 ∨ k = 3) :
    (leased k).ent 0 0x4004 2 = k ∧ Granted (leased k) (mailbox 1 [1]) 0x2102 1 ∧
    Granted (leased k) (mailbox 4 [1]) 0x2102 4 ∧ Granted (leased k) (mailbox 5 [1]) 0x2102 5 ∧
    (leased k).ports.requests = [] := by
  rcases h with rfl | rfl | rfl | rfl <;>
    exact ⟨by decide, ⟨by decide, by decide, by decide, by decide⟩, ⟨by decide, by decide, by decide, by decide⟩,
      ⟨by decide, by decide, by decide, by decide⟩, rfl⟩

theorem witness_lease_expiry : (leased 1).ent 0 0x4004 2 = 1 ∧ (leased 1).ent 0 0x4004 3 ≤ (leased 1).now ∧
    (leased 1).leaseRuns 0 = true := by decide
/-- An admin command in a cabinet whose share of sync objects holds the one object there is. -/
def fullShare : State := { admin 0xF020 [] with dict := [(0x400102, 1)] }

theorem witness_full_syncs : Running fullShare 7 0xF020 (started (record 0xF020 [])) adminQueue ∧ reservedErr (record 0xF020 []) [(0, 16)] = none ∧
    arg (record 0xF020 []) 8 8 % 16 = 0 ∧ fullShare.share 0 2 ≤ (fullShare.contract.syncs.filter fun o => o.cabinet == 0).length :=
  ⟨⟨rfl, by decide, rfl, rfl, rfl, rfl⟩, by decide, by decide, by decide⟩

/-- QUEUE_CREATE in a cabinet whose two queues are its share. -/
def fullQueues : State := { mapped (admin 0xF011 createArgs) with dict := [(0x250000, 0x2000000000), (0x400101, 2), (0x400303, 0x10000010000)] }

theorem witness_full_queues : Running fullQueues 7 0xF011 (started (record 0xF011 createArgs)) adminQueue ∧
    reservedErr (record 0xF011 createArgs) [(0, 18)] = none ∧ fullQueues.createErr 0 (record 0xF011 createArgs) = none ∧
    (∃ ps, fullQueues.reach 0 0 (64 * 2 ^ 4) .write = .ok ps) ∧ fullQueues.share 0 1 ≤ (fullQueues.queuesOf 0).length :=
  ⟨⟨rfl, by decide, rfl, rfl, rfl, rfl⟩, by decide, by decide, ⟨_, by rfl⟩, by decide⟩

theorem witness_negotiate_high : Running (admin 0xF010 [3, 9]) 7 0xF010 (started (record 0xF010 [3, 9])) adminQueue ∧
    reservedErr (record 0xF010 [3, 9]) [(0, 2)] = none ∧ arg (record 0xF010 [3, 9]) 0 1 ≤ 4 ∧ 4 ≤ arg (record 0xF010 [3, 9]) 1 1 ∧
    ((admin 0xF010 [3, 9]).contract.queues.all fun x => x.cabinet != 0 || x.index == 5 || x.index == 2) = true :=
  ⟨running_admin _ _ (by decide), by decide, by decide, by decide, by decide⟩

theorem witness_negotiate_apart : Running (admin 0xF010 [5, 9]) 7 0xF010 (started (record 0xF010 [5, 9])) adminQueue ∧
    reservedErr (record 0xF010 [5, 9]) [(0, 2)] = none ∧ 4 < arg (record 0xF010 [5, 9]) 0 1 :=
  ⟨running_admin _ _ (by decide), by decide, by decide⟩

/-- A command that has ended with NO_RESOURCE, its signal at object 1000. -/
def failedCmd : Ctx :=
  { started (toLe 2 0xF001 ++ zeros 10 ++ toLe 4 (syncHandle 0 1000) ++ zeros 48) with finished := true, status := 0x0301 }

/-- The state in which it completes. -/
def failing : State :=
  { admin 0xF001 [] with contract := { (admin 0xF001 []).contract with ctxs := [failedCmd] } }

theorem witness_failed : failing.ctx? 7 = some failedCmd ∧ failing.queue? 5 = some adminQueue ∧ failedCmd.status ≠ 0 ∧ failedCmd.status ≠ 1 ∧
    failing.syncValid 0 (formOf 0x0F failedCmd.record).signalHandle = true ∧
    (failing.sync? 0 (handleIndex (formOf 0x0F failedCmd.record).signalHandle)).isSome = true := by decide
/-- It sets the flag, and the value stays. -/
theorem test_failed_flag : (match exec (.commandCompletion 7) failing with
    | .next u => u.contract.syncs.any fun o => o.index == 1000 && o.err && o.value == 320
    | _ => false) = true := by decide +kernel
theorem witness_block_order : (∀ c ∈ [5, 2, 7, 1], c < 2 ^ 3) ∧ (2 : Nat) < [5, 2, 7, 1].length ∧
    (List.replicate 64 5).length = 64 ∧ (∀ c ∈ List.replicate 64 5, c < 2 ^ 3) := by decide
/-- Element 2 of a ZN3 block crosses from byte 0 into byte 1. -/
theorem test_zn3_crosses : toLe 3 (packCodes 3 [0, 0, 7, 0]) = [0xC0, 0x01, 0x00] := by decide
/-- The nonzero bytes of a run as memory cells. -/
def cells (a : Nat) (bs : Bytes) : List Host.Cell :=
  ((List.range bs.length).zip bs).filterMap fun p => if p.2 = 0 then none else some (a + p.1, p.2)

/-- A tensor descriptor: base, elements, format. -/
def tensor (base elements format : Nat) : Bytes :=
  toLe 8 base ++ zeros 24 ++ toLe 8 elements ++ zeros 20 ++ toLe 1 format ++ zeros 3

/-- The record of a Transform command whose operation block of n bytes lies at cabinet address 0x1000. -/
def transformRecord (op n : Nat) : Bytes := record op (toLe 8 0x1000 ++ toLe 2 n ++ zeros 6 ++ toLe 8 1)

/-- A Transform command that runs over an operation block with given fields from byte 16 on, with runs of bytes at cabinet
addresses, one tile online and the self-check passed. -/
def transforming (op n : Nat) (ob : Bytes) (mem : List (Nat × Bytes)) : State :=
  let s := mapped (running { adminQueue with engine := 1 } [cq] (transformRecord op n))
  { s with
    mem := tables ++ ((0x1000, fit n (zeros 16 ++ ob)) :: mem).flatMap fun p => cells (0x10020000000 + p.1) p.2
    dict := (0x230001, 1) :: (0x230002, 2) :: s.dict }

/-- The started command of such a state. -/
def transformCtx (op n : Nat) : Ctx := started (transformRecord op n)

theorem running_transform (op n : Nat) (ob : Bytes) (mem : List (Nat × Bytes))
    (h : recOpcode (transformRecord op n) = op) :
    Running (transforming op n ob mem) 7 op (transformCtx op n) { adminQueue with engine := 1 } :=
  ⟨rfl, by
    have : (transformCtx op n).record = transformRecord op n := rfl
    simp only [isCommand, this, h, beq_self_eq_true, Bool.true_and]; rfl, rfl, rfl, rfl, rfl⟩

/-- One BF16 element 1.5 to be written as FP32 and as BF16. -/
def oneElement (op fmt : Nat) : State :=
  transforming op 32 (toLe 8 0x2000 ++ toLe 8 0x3000)
    [(0x2000, tensor 0x4000 1 4), (0x3000, tensor 0x5000 1 fmt), (0x4000, [0xC0, 0x3F])]

/-- Whether a conversion passes every check and its writes land without a stall. -/
def converts (s : State) (c : Ctx) (op : Nat) (dstOk : Nat → Bool) (plain : Bool) : Bool :=
  match s.xBegin c op with
  | .error _ => false
  | .ok x =>
    match s.conversion x (fun _ => true) dstOk plain with
    | .error _ => false
    | .ok (src, dst) =>
      match loadTensor x.rd src with
      | .error _ => false
      | .ok l =>
        match s.storeTensor c.cabinet dst x.pol x.rnd l.values with
        | .error _ => false
        | .ok (t, _, _) => t.aheadOfCopy.isNone && Memory.get t.mem 0x10020005001 == 0x3F

theorem witness_quantize : Running (oneElement 0x1001 4) 7 0x1001 (transformCtx 0x1001 32) { adminQueue with engine := 1 } ∧
    converts (oneElement 0x1001 4) (transformCtx 0x1001 32) 0x1001 (fun f => f ≤ 9) false = true :=
  ⟨running_transform _ _ _ _ (by decide), by decide +kernel⟩

theorem witness_dequantize :
    Running (oneElement 0x1002 4) 7 0x1002 (transformCtx 0x1002 32) { adminQueue with engine := 1 } ∧
    converts (oneElement 0x1002 4) (transformCtx 0x1002 32) 0x1002 (fun f => f == 4 || f == 10) true = true :=
  ⟨running_transform _ _ _ _ (by decide), by decide +kernel⟩

/-- Whether the outcome is a next state in which the started command has ended with OK and a DETAIL. -/
def endsOk (o : Result) (id detail : Nat) : Bool :=
  match o with
  | .next t =>
    match t.ctx? id with
    | some c => c.finished && (c.status == 0 || c.status == 1) && c.detail == detail
    | none => false
  | _ => false

/-- A ZN descriptor with a map and no heap. -/
def znTensor (base map elements format : Nat) : Bytes :=
  toLe 8 base ++ toLe 8 map ++ zeros 16 ++ toLe 8 elements ++ zeros 20 ++ toLe 1 format ++ zeros 3

/-- An ESCALATE of an empty ZN4 block to ZN4. -/
def escalation : State :=
  transforming 0x1003 32 (toLe 8 0x2000 ++ toLe 8 0x3000)
    [(0x2000, znTensor 0x4000 0x4400 1 2), (0x3000, znTensor 0x5000 0x5400 1 2), (0x4400, [2])]

theorem witness_escalate :
    Running escalation 7 0x1003 (transformCtx 0x1003 32) { adminQueue with engine := 1 } ∧
    (match escalation.xBegin (transformCtx 0x1003 32) 0x1003 with
      | .error _ => false
      | .ok x =>
        match escalation.escalating x with
        | .error _ => false
        | .ok (src, dst) =>
          match x.escalated src dst with
          | .error _ => false
          | .ok bs =>
            match escalation.writeAll 0 (tensorRuns dst (bs.map fun b => (b.1, b.2.1))) with
            | .error _ => false
            | .ok t => t.aheadOfCopy.isNone) = true :=
  ⟨running_transform _ _ _ _ (by decide), by decide +kernel⟩

/-- A REDUCE of two FP32 elements, 1.5 and 2.25. -/
def reduction : State :=
  transforming 0x1010 48 (toLe 8 0x3000 ++ toLe 2 2 ++ zeros 6 ++ toLe 8 0x2000 ++ toLe 8 0x2400)
    [(0x2000, tensor 0x4000 1 10), (0x2400, tensor 0x4400 1 10), (0x3000, tensor 0x5000 1 10),
     (0x4000, [0, 0, 0xC0, 0x3F]), (0x4400, [0, 0, 0x10, 0x40])]

theorem witness_reduce :
    Running reduction 7 0x1010 (transformCtx 0x1010 48) { adminQueue with engine := 1 } ∧
    (match reduction.xBegin (transformCtx 0x1010 48) 0x1010 with
      | .error _ => false
      | .ok x =>
        match reduction.reduction x with
        | .error _ => false
        | .ok (dst, srcs) =>
          match loadAll x.rd srcs with
          | .error _ => false
          | .ok ls =>
            match reduction.storeTensor 0 dst x.pol x.rnd (sumInOrder (ls.map Loaded.values)) with
            | .error _ => false
            | .ok (t, _, _) => t.aheadOfCopy.isNone && t.readNat 0x10020005000 4 == 0x40700000) = true :=
  ⟨running_transform _ _ _ _ (by decide), by decide +kernel⟩

/-- A SUM_SQUARES of one BF16 element 1.5: 2.25 is 0x40100000. -/
def squares : State :=
  transforming 0x1011 32 (toLe 8 0x2000 ++ toLe 8 0x3000) [(0x2000, tensor 0x4000 1 4), (0x4000, [0xC0, 0x3F])]

theorem witness_sum_squares :
    Running squares 7 0x1011 (transformCtx 0x1011 32) { adminQueue with engine := 1 } ∧
    (match squares.xBegin (transformCtx 0x1011 32) 0x1011 with
      | .error _ => false
      | .ok x =>
        match squares.squaring x with
        | .error _ => false
        | .ok (src, out) =>
          match loadTensor x.rd src with
          | .error _ => false
          | .ok l =>
            match squares.writeAll 0 [(out, toLe 4 (Fp.to32 (sumSquares l.values)))] with
            | .error _ => false
            | .ok t => t.aheadOfCopy.isNone && t.readNat 0x10020003000 4 == 0x40100000) = true :=
  ⟨running_transform _ _ _ _ (by decide), by decide +kernel⟩

/-- A QUANTIZE whose destination lies in a granule that a cut has not copied. -/
def stalled : State :=
  let s := oneElement 0x1001 4
  let g : Generation := { (default : Generation) with state := 1 }
  let x : SnapSet := { (default : SnapSet) with slot := 0, cabinet := 0, parts := [(0, 65536)], imageBytes := 65536, gens := [g] }
  { s with snap := { s.snap with sets := [x] } }

theorem witness_stall :
    Running stalled 7 0x1001 (transformCtx 0x1001 32) { adminQueue with engine := 1 } ∧
    (match stalled.xBegin (transformCtx 0x1001 32) 0x1001 with
      | .error _ => false
      | .ok x =>
        match stalled.conversion x (fun _ => true) (fun f => f ≤ 9) false with
        | .error _ => false
        | .ok (src, dst) =>
          match stalled.convert (transformCtx 0x1001 32) x src dst with
          | .error _ => false
          | .ok (t, _) => t.aheadOfCopy.isSome) = true :=
  ⟨⟨rfl, by decide, rfl, rfl, rfl, rfl⟩, by decide +kernel⟩
/-- R170: 1.5 + 2.25 is 3.75; R171: 1.5 squared is 2.25, in DETAIL too. -/
theorem test_reduce : endsOk (exec (.reduce 7) reduction) 7 0 = true := by decide +kernel
theorem test_sum_squares : endsOk (exec (.sumSquares 7) squares) 7 0x40100000 = true := by decide +kernel
/-- The operation block of an optimizer over one FP32 element: W at 0x6000, M at 0x6400, V at 0x6800, G at 0x4000. -/
def optBlock (m v v2 rows sumsq : Nat) : Bytes :=
  toLe 8 0x6000 ++ toLe 8 m ++ toLe 8 v ++ toLe 8 v2 ++ toLe 8 0x2000 ++ toLe 8 0 ++ toLe 8 1 ++ toLe 4 rows ++ toLe 4 rows ++
  toLe 4 0x3F000000 ++ toLe 4 0x3F000000 ++ toLe 4 0x3F000000 ++ toLe 4 0x3F000000 ++ toLe 4 0 ++ toLe 4 0x3F800000 ++
  toLe 4 0x3F800000 ++ toLe 4 0 ++ toLe 8 sumsq ++ toLe 4 0 ++ toLe 4 0

/-- A command of an optimizer in flight, with a gradient word and a sum of squares at 0x7000. -/
def optimizing (op m v v2 rows sumsq g sq : Nat) : State :=
  transforming op 128 (optBlock m v v2 rows sumsq) [(0x2000, tensor 0x4000 1 10), (0x4000, toLe 4 g), (0x7000, toLe 4 sq)]

/-- Whether an optimizer command is skipped by its norm (0), by its gradient (1), or applied (2); 3 when a check
refuses it or a write stalls. -/
def optOutcome (s : State) (op : Nat) : Nat :=
  match s.xBegin (transformCtx op 128) op with
  | .error _ => 3
  | .ok x =>
    match s.optPrepare op x with
    | .error _ => 3
    | .ok p =>
      match x.optFactor p.o with
      | .error _ => 3
      | .ok none => 0
      | .ok (some k) =>
        match loadTensor x.rd p.grad with
        | .error _ => 3
        | .ok l =>
          let g := l.values.map fun y => Fp.mul32 y k
          let bad := (g.filter fun g => !Fp.finite g).length
          if op = 0x1023 && bad != 0 then 1 else
          match p.o.update x.rd (p.o.consts x.step k) g with
          | .error _ => 3
          | .ok (xs, facs) =>
            match s.writeAll 0 (p.o.writes xs facs) with
            | .error _ => 3
            | .ok t =>
              match (t.bump 0x2303 1 (p.o.count - bad)).optStoreOut 0 x p.outs xs with
              | .error _ => 3
              | .ok (v, _, _) => if v.aheadOfCopy.isNone then 2 else 3

theorem witness_adamw : Running (optimizing 0x1020 0x6400 0x6800 0 0 0 0x3F800000 0) 7 0x1020 (transformCtx 0x1020 128)
      { adminQueue with engine := 1 } ∧
    optOutcome (optimizing 0x1020 0x6400 0x6800 0 0 0 0x3F800000 0) 0x1020 = 2 ∧
    optOutcome (optimizing 0x1020 0x6400 0x6800 0 0 0x7000 0x3F800000 0x7F800000) 0x1020 = 0 :=
  ⟨running_transform _ _ _ _ (by decide), by decide +kernel, by decide +kernel⟩

theorem witness_lion : Running (optimizing 0x1021 0x6400 0 0 0 0 0x3F800000 0) 7 0x1021 (transformCtx 0x1021 128)
      { adminQueue with engine := 1 } ∧
    optOutcome (optimizing 0x1021 0x6400 0 0 0 0 0x3F800000 0) 0x1021 = 2 :=
  ⟨running_transform _ _ _ _ (by decide), by decide +kernel⟩

theorem witness_sgd : Running (optimizing 0x1022 0 0 0 0 0 0x3F800000 0) 7 0x1022 (transformCtx 0x1022 128)
      { adminQueue with engine := 1 } ∧
    optOutcome (optimizing 0x1022 0 0 0 0 0 0x3F800000 0) 0x1022 = 2 :=
  ⟨running_transform _ _ _ _ (by decide), by decide +kernel⟩

theorem witness_factored : Running (optimizing 0x1023 0 0x6800 0x6C00 1 0 0x3F800000 0) 7 0x1023 (transformCtx 0x1023 128)
      { adminQueue with engine := 1 } ∧
    optOutcome (optimizing 0x1023 0 0x6800 0x6C00 1 0 0x3F800000 0) 0x1023 = 2 ∧
    optOutcome (optimizing 0x1023 0 0x6800 0x6C00 1 0 0x7F800000 0) 0x1023 = 1 :=
  ⟨running_transform _ _ _ _ (by decide), by decide +kernel, by decide +kernel⟩
/-- A BLOCK_SCORE of one block with one head over 64 BF16 elements. -/
def scoring : State :=
  transforming 0x1030 72 (toLe 8 0x2000 ++ toLe 8 0x2400 ++ toLe 4 1 ++ toLe 2 1 ++ toLe 2 64 ++ toLe 4 1 ++ zeros 4 ++
      toLe 4 0x3F800000 ++ zeros 4 ++ toLe 8 0x7000 ++ toLe 8 0x7400)
    [(0x2000, tensor 0x4000 64 4), (0x2400, tensor 0x5000 64 4), (0x4000, [0xC0, 0x3F]), (0x5000, [0xC0, 0x3F])]

theorem witness_block_score :
    Running scoring 7 0x1030 (transformCtx 0x1030 72) { adminQueue with engine := 1 } ∧
    (match scoring.xBegin (transformCtx 0x1030 72) 0x1030 with
      | .error _ => false
      | .ok x =>
        match scoring.scoring x with
        | .error _ => false
        | .ok k =>
          match loadDot x.rd k.q, loadDot x.rd k.s with
          | .ok (qb, _), .ok (sb, _) =>
            match scoring.writeAll 0 (k.writes (k.scores qb sb)) with
            | .error _ => false
            | .ok t => t.aheadOfCopy.isNone && t.readNat 0x10020007000 4 == 0x40100000
          | _, _ => false) = true :=
  ⟨running_transform _ _ _ _ (by decide), by decide +kernel⟩

/-- An ADAPTER_APPLY of a dense delta to one weight. -/
def adapting : State :=
  transforming 0x1040 64 (toLe 8 0x2000 ++ toLe 8 0x3000 ++ toLe 8 0x2400 ++ zeros 8 ++ toLe 4 1 ++ toLe 4 1 ++ zeros 4 ++
      toLe 4 0x3F800000)
    [(0x2000, tensor 0x4000 1 4), (0x2400, tensor 0x4400 1 4), (0x3000, tensor 0x5000 1 10), (0x4000, [0xC0, 0x3F])]

theorem witness_adapter :
    Running adapting 7 0x1040 (transformCtx 0x1040 64) { adminQueue with engine := 1 } ∧
    (match adapting.xBegin (transformCtx 0x1040 64) 0x1040 with
      | .error _ => false
      | .ok x =>
        match adapting.adapting x with
        | .error _ => false
        | .ok k =>
          match loadTensor x.rd k.base, x.deltas k with
          | .ok bl, .ok (ps, _) =>
            match adapting.storeTensor 0 k.dst x.pol x.rnd ((ps.zip bl.values).map fun p => Fp.fma32 k.alpha p.1 p.2) with
            | .error _ => false
            | .ok (t, _, _) => t.aheadOfCopy.isNone && t.readNat 0x10020005000 4 == 0x3FC00000
          | _, _ => false) = true :=
  ⟨running_transform _ _ _ _ (by decide), by decide +kernel⟩

/-- A request of the tray that writes 1. -/
def trayOne : ActReq := { transport := 0, source := 0, version := 0x14, tag := 7, cabinet := 0, sub := 1, value := [1] }

/-- A state of stage B3 in which a self-check runs for a requester (2), or none does (0). -/
def checking (k : Nat) (retest : List Nat) : State :=
  { State.reset with
    dict := [(0x100300, 3)]
    transform := { State.reset.transform with selfcheckBy := k, quadrantRetest := retest } }

theorem witness_selfcheck : Granted (checking 0 []) trayOne 0x2300 3 ∧ Granted (checking 2 []) trayOne 0x2300 3 ∧
    (checking 2 []).transform.selfcheckBy = 2 ∧ (checking 2 []).transformBusy = false ∧
    (checking 0 [3]).transform.quadrantRetest = [3] ∧ (checking 0 [3]).faults.safe = false :=
  ⟨⟨by decide, by decide, by decide, by decide⟩, ⟨by decide, by decide, by decide, by decide⟩, rfl, by decide, rfl, rfl⟩

theorem witness_accumulation : ∃ a,
    (({ checking 0 [] with transform := { State.reset.transform with
        accs := [{ (default : OrderedAcc) with opSeq := 4, isOpen := false }] } } : State).transform.accs.find?
      fun a => a.named 0 4 0 0 0 && !a.isOpen) = some a := ⟨_, rfl⟩
/-- R183: sink and recent blocks are always selected; NaN ranks below every number; a tie goes to the lower index. -/
theorem test_select : selectBlocks [Fp.one, .nan, Fp.zero, Fp.one, Fp.zero] 5 2 0 1 = [0, 3, 4] ∧
    selectBlocks [.nan, Fp.zero, Fp.zero] 3 1 0 0 = [1] := by decide
/-- A tile core that runs an instance with code, X and Y windows, and ports as given. -/
def tileCore (ports : List (Nat × W32)) : Core :=
  { (default : Core) with
    id := 3, running := true, ga := List.replicate 32 0, gb := List.replicate 32 0, grd := List.replicate 8 false
    ports := ports, kernel := some { (default : KernelWin) with
      ctx := 7, instances := 1, xLen := 4096, yLen := 4096, codeLen := 64, stackLen := 256, budget := 1024 } }

/-- A control core at monitor or component level that may access its first page. -/
def controlCore (monitor : Bool) (ports : List (Nat × W32)) : Core :=
  { (default : Core) with
    id := 66, running := true, ga := List.replicate 32 0, gb := List.replicate 32 0, grd := List.replicate 8 false
    ports := ports, monitor := monitor, trapWord := 9, vector := 0x20
    regions := [{ base := 0, limit := 3, lock := false, x := true, w := true, r := true }] }

/-- A state with one core. -/
def withCore (c : Core) : State :=
  { withQueues [cq] with cores := { State.reset.cores with cores := [c] } }

theorem witness_alu : (withCore (tileCore [(0x80, 3), (0xA0, 5)])).core? 3 = some (tileCore [(0x80, 3), (0xA0, 5)]) ∧
    (withCore (tileCore [(0x80, 3), (0xA0, 5)])).executes (tileCore [(0x80, 3), (0xA0, 5)]) = true := ⟨rfl, by decide⟩
theorem witness_fpu : (withCore (tileCore [])).core? 3 = some (tileCore []) ∧
    (withCore (tileCore [])).executes (tileCore []) = true ∧ Fp.isNan (fl 0x7FC00000) = true ∧
    fl 0x4B800000 = .fin false 0x800000 1 := ⟨rfl, by decide, by decide, by decide⟩
/-- R206: F2I rounds half to even, saturates, and gives 0 for NaN; FMIN orders −0 below +0. -/
theorem test_f2i : [f2i (fl 0x40200000), f2i (fl 0x40600000), f2i (fl 0xCF800000), f2i (fl 0x4F000000), f2i (fl 0x7FC00000),
    f2i (fl 0xBFC00000)] = [2, 4, 0x80000000, 0x7FFFFFFF, 0, 0xFFFFFFFE] := by decide
theorem test_fmin : wf (fmin (fl 0) (fl 0x80000000)) = 0x80000000 ∧ wf (fmax (fl 0x80000000) (fl 0)) = 0 ∧
    wf (fmin (fl 0x7FC00000) (fl 0x3F800000)) = 0x3F800000 := by decide
/-- A tile core whose Y pointer stands in the Y window, with stride 4. -/
def macCore : Core := tileCore [(0x141, 0x60000), (0x142, 4), (0x143, 4), (0x104, 8), (0x108, 4)]

theorem witness_tile_memory : (withCore macCore).sound ∧ (withCore macCore).core? 3 = some macCore ∧
    (withCore macCore).executes macCore = true ∧ macCore.windowOk 8 4 = true ∧ macCore.windowOk 4 4 = true ∧
    macCore.windowOk 0 4 = true ∧ (withCore macCore).badUnit (3 * 0x100000 + 8) 4 = none ∧
    macCore.bankOk 0 0 = true ∧ macCore.bankOk 0x60000 0x60000 = true ∧
    (macCore.port 10 1).toNat = 0x60000 ∧ (withCore macCore).badUnit (3 * 0x100000 + 0x60000) 4 = none := by
  refine ⟨by decide, rfl, by decide, by decide, by decide, by decide, by decide, by decide, by decide, by decide, by decide⟩
/-- R210: BF16×2 adds the exact pair sum, 1.5 × 2 + 1 × 0.5; I8×4 wraps in 32 bits. -/
theorem test_mac : macOp 1 (wf Fp.one) 0x3F803FC0 0x3F004000 = 0x40900000 ∧
    macOp 2 0x7FFFFFFF 0x01FF0203 0x010105FE = 0x80000003 := by decide
/-- A tile core ready for vector operations over 256 elements of its X window, and for transfers of 4 bytes. -/
def vecCore (vecs : List VecOp) (dmas : List DmaOp) (stall : Nat) : Core :=
  { tileCore [(0x163, 256), (0x180, 4)] with vecOps := vecs, dmaOps := dmas, stall := stall }

theorem witness_vec : (withCore (vecCore [] [] 0)).core? 3 = some (vecCore [] [] 0) ∧
    (withCore (vecCore [] [] 0)).executes (vecCore [] [] 0) = true ∧ ((vecCore [] [] 0).port 11 3).toNat = 256 ∧
    (∀ p < 3, ((vecCore [] [] 0).port 11 p).toNat % 1024 = 0 ∧
      (vecCore [] [] 0).windowOk ((vecCore [] [] 0).port 11 p).toNat (4 * 256) = true) ∧
    ((vecCore [] [] 0).port 12 0).toNat = 4 ∧ (vecCore [] [] 0).dmaLocalOk 0 4 = true := by
  refine ⟨rfl, by decide, by decide, ?_, by decide, by decide⟩
  intro p hp
  rcases (show p = 0 ∨ p = 1 ∨ p = 2 by omega) with rfl | rfl | rfl <;> decide

theorem witness_vec_done :
    (withCore (vecCore [default] [] 1)).core? 3 = some (vecCore [default] [] 1) ∧ (withCore (vecCore [default] [] 1)).sound ∧
    (withCore (vecCore [default] [] 1)).vecBad 0x300000 default = none := ⟨rfl, by decide, by decide⟩

/-- A core with one transfer of four bytes outstanding that it waits for, in a state with a page table. -/
def transferring (put : Bool) : State :=
  mapped (withCore (vecCore [] [{ put := put, len := 4, remote := 0x4000, offset := 0 }] 2))

theorem witness_dma_get : ∃ c b, (transferring false).core? 3 = some c ∧ (transferring false).sound ∧
    c.dmaOps[0]? = some { put := false, len := 4, remote := 0x4000, offset := 0 } ∧ c.stall = 2 ∧
    (transferring false).readCab ((transferring false).dmaCabinet c) 0x4000 4 = .ok b ∧
    (transferring false).aheadOfCopy = none := ⟨_, _, rfl, by decide, rfl, rfl, by rfl, by rfl⟩

theorem witness_dma_put : ∃ c t, (transferring true).core? 3 = some c ∧
    c.dmaOps[0]? = some { put := true, len := 4, remote := 0x4000, offset := 0 } ∧
    (transferring true).badUnit (c.memBase + 0) 4 = none ∧
    (transferring true).writeAll ((transferring true).dmaCabinet c) [(0x4000, (transferring true).readDev (c.memBase + 0) 4)] =
      .ok t ∧ t.aheadOfCopy = none := ⟨_, _, rfl, rfl, by decide, by rfl, by rfl⟩
theorem witness_branch : (withCore (tileCore [(0x1A0, 6)])).core? 3 = some (tileCore [(0x1A0, 6)]) ∧
    (withCore (tileCore [(0x1A0, 6)])).executes (tileCore [(0x1A0, 6)]) = true := ⟨rfl, by decide⟩

theorem witness_priv (m : Bool) : (withCore (controlCore m [])).core? 66 = some (controlCore m []) ∧
    (withCore (controlCore m [])).executes (controlCore m []) = true ∧ (controlCore m []).monitor = m := by
  cases m <;> exact ⟨rfl, by decide, rfl⟩

/-- A state of one control core whose HANDLE names sync object 1000 of cabinet 0. -/
def reading : State :=
  { running adminQueue [cq] [] with
    cores := { State.reset.cores with cores := [controlCore true [(0x240, 0x400003E8)]] } }

theorem witness_sync_read : reading.core? 66 = some (controlCore true [(0x240, 0x400003E8)]) ∧
    reading.executes (controlCore true [(0x240, 0x400003E8)]) = true ∧
    handleKind ((controlCore true [(0x240, 0x400003E8)]).port 18 0).toNat = 1 ∧
    (∃ o, reading.sync? (handleCabinet ((controlCore true [(0x240, 0x400003E8)]).port 18 0).toNat)
      (handleIndex ((controlCore true [(0x240, 0x400003E8)]).port 18 0).toNat) = some o) :=
  ⟨rfl, by decide, by decide, _, rfl⟩

theorem witness_load_return :
    (withCore { controlCore true [] with loadWait := true }).core? 66 = some { controlCore true [] with loadWait := true } ∧
    ({ controlCore true [] with loadWait := true } : Core).stall = 0 := ⟨rfl, rfl⟩
/-- An image of one HALT word. -/
def haltImage : Bytes :=
  toLe 4 0x32494B55 ++ toLe 2 2 ++ zeros 6 ++ toLe 4 128 ++ toLe 4 16 ++ zeros 12 ++ toLe 4 256 ++ zeros 92 ++
    toLe 4 (13 * 32 * 2 ^ 18 + 19 * 2 ^ 18 + 2 ^ 17) ++ zeros 12

/-- A KERNEL_LAUNCH of that image in a cabinet with the kernel right. -/
def launching : State :=
  let s := transforming 0x1050 48 (toLe 8 0x2000 ++ zeros 12 ++ toLe 4 1 ++ toLe 4 1) [(0x2000, haltImage)]
  { s with dict := s.dict ++ [(0x230200, 1), (0x400302, 1)] }

theorem witness_launch :
    Running launching 7 0x1050 (transformCtx 0x1050 48) { adminQueue with engine := 1 } ∧ launching.cores.imageCache = [] ∧
    (match launching.xBegin (transformCtx 0x1050 48) 0x1050 with
      | .error _ => false
      | .ok x =>
        (firstErr (launchChecks x.ob)).isNone && (launching.kernelGate 0).isOk && field x.ob 32 4 == 0 &&
        (match launching.readCab 0 (field x.ob 16 8) 128 with
          | .error _ => false
          | .ok h =>
            (headerFault h (imageOf h)).isNone && !(imageOf h).nondet &&
            (match launching.readCab 0 (field x.ob 16 8) (imageOf h).extent with
              | .error _ => false
              | .ok b => (verifyCode (slice b (imageOf h).codeOff (imageOf h).codeLen) (imageOf h)).isNone))) = true :=
  ⟨⟨rfl, by decide, rfl, rfl, rfl, rfl⟩, rfl, by decide +kernel⟩

/-- A launch of one instance that has been accepted, with tile 3 free. -/
def accepted : State :=
  let s := transforming 0x1050 48 [] []
  let core : Core := { (default : Core) with id := 3, ga := List.replicate 32 0, gb := List.replicate 32 0 }
  let c : Ctx := { transformCtx 0x1050 48 with
    waiting := true, captured := [(0, zeros 36 ++ [1] ++ zeros 11), (0, haltImage), (0, [])] }
  { s with
    mem := [], dict := (0x230001, 8) :: s.dict.drop 1, cores := { s.cores with cores := [core] }
    contract := { s.contract with ctxs := [c] } }

theorem witness_instance : ∃ c core, accepted.sound ∧ accepted.ctx? 7 = some c ∧ accepted.core? 3 = some core ∧
    c.captured = [(0, zeros 36 ++ [1] ++ zeros 11), (0, haltImage), (0, [])] ∧ isCommand 0x1050 accepted c = true ∧
    c.waiting = true ∧ c.finished = false ∧ accepted.faults.safe = false ∧ c.traps = [] ∧
    c.launched < field (zeros 36 ++ [1] ++ zeros 11) 36 4 ∧ accepted.tileFree 3 core = true ∧
    (imageOf haltImage).xLen ≤ 0x60000 :=
  ⟨_, _, by decide, rfl, rfl, rfl, by decide, rfl, rfl, rfl, rfl, by decide, by decide, by decide⟩

/-- A tile core about to issue the word "#7 → GA.3, GA.3 → GA.4". -/
def issuing : State :=
  { withCore { tileCore [] with ga := (List.replicate 32 (0 : W32)).set 3 9 } with
    mem := cells 0x3C0000 (toLe 4 (0x23 * 2 ^ 18 + 2 ^ 17 + 7) ++ toLe 4 (0x24 * 2 ^ 18 + 0x23)) }

theorem witness_word : ∃ c k w ms s' c', issuing.core? 3 = some c ∧ issuing.executes c = true ∧ c.kernel = some k ∧
    c.words < k.budget ∧ issuing.fetchWord c.landResults = .ok w ∧ movesOf (slotsOf w) = some ms ∧
    wordRule c.hasUnit ms (fun m => some (issuing.mvValue c.landResults m)) = none ∧ c.landResults.distanceOk ms = true ∧
    issuing.issueMoves c.landResults (ms.filter c.landResults.guardOpen) = .ok s' c' ∧ c'.stall ≠ 5 ∧
    (ms.all fun m => m.dst / 32 == 1) = true ∧ c.ga.length = 32 :=
  ⟨_, _, _, _, _, _, rfl, by decide, rfl, by decide, by rfl, by rfl, by rfl, by rfl, by rfl, by decide, by rfl, by decide⟩

/-- A tile core whose instance of the launch of context 7 has issued its budget. -/
def spent : State :=
  { running adminQueue [cq] (transformRecord 0x1050 48) with
    cores := { State.reset.cores with cores := [{ tileCore [] with words := 1024 }] } }

theorem witness_budget : ∃ c k x, spent.core? 3 = some c ∧ c.kernel = some k ∧ spent.ctx? k.ctx = some x ∧
    spent.faults.safe = false ∧ k.budget ≤ c.words ∧ c.stall ≠ 5 := ⟨_, _, _, rfl, rfl, rfl, rfl, by decide, by decide⟩

theorem witness_flush_images : Granted (checking 0 []) { trayOne with transport := 3, source := 0 } 0x2401 1 :=
  ⟨by decide, by decide, by decide, by decide⟩
/-- The worked example of chapter 05: the bytes of word 11 are these four moves. -/
theorem test_word11 : movesOf (slotsOf [0x04, 0x00, 0x42, 0x05, 0x81, 0x00, 0x8C, 0x00, 0x81, 0x00, 0x80, 0x02, 0x00, 0x00,
    0xE6, 0x02]) = some [{ gsel := 0, ginv := false, dst := 0x150, src := .const 4 },
      { gsel := 0, ginv := false, dst := 0x023, src := .port 0x081 },
      { gsel := 0, ginv := false, dst := 0x0A0, src := .port 0x081 },
      { gsel := 0, ginv := false, dst := 0x0B9, src := .const 0 }] := by decide
/-- A Move command in a cabinet whose first 2 MiB are mapped. -/
def moving (op : Nat) (args : Bytes) (mem : List (Nat × Bytes)) : State :=
  let s := mapped (running { adminQueue with engine := 0 } [cq] (record op args))
  { s with mem := tables ++ mem.flatMap fun p => cells (0x10020000000 + p.1) p.2 }

/-- The arguments of a COPY of 4 bytes. -/
def copyArgs : Bytes := toLe 8 0x1000 ++ toLe 8 0x2000 ++ toLe 8 4

theorem witness_copy : ∃ t, Running (moving 1 copyArgs []) 7 1 (started (record 1 copyArgs)) { adminQueue with engine := 0 } ∧
    (copyRun (record 1 copyArgs)).len = 4 ∧ (moving 1 copyArgs []).reading 7 = false ∧
    runsClash [copyRun (record 1 copyArgs)] = false ∧
    (moving 1 copyArgs []).checkRuns 0 [copyRun (record 1 copyArgs)] = .ok () ∧
    (((moving 1 copyArgs []).runPieces 0 (copyRun (record 1 copyArgs))).all fun p =>
      ((moving 1 copyArgs []).linkOf p.2.2.2).isNone) = true ∧
    (moving 1 copyArgs []).copyPieces 0 (moving 1 copyArgs [])
      ((moving 1 copyArgs []).runPieces 0 (copyRun (record 1 copyArgs))) = .ok t ∧ t.aheadOfCopy = none :=
  ⟨_, ⟨rfl, by decide, rfl, rfl, rfl, rfl⟩, by decide, by decide, by decide, by rfl, by decide +kernel, by rfl, by rfl⟩

/-- A COPY_LIST of one entry. -/
def copyingList : State := moving 2 (toLe 8 0x3000 ++ toLe 4 1) [(0x3000, copyArgs)]

theorem witness_copy_list : ∃ b t, Running copyingList 7 2 (started (record 2 (toLe 8 0x3000 ++ toLe 4 1)))
      { adminQueue with engine := 0 } ∧
    copyingList.readCab 0 0x3000 32 = .ok b ∧ (listRuns 1 b).map (·.1) = [{ src := 0x1000, dst := 0x2000, len := 4 }] ∧
    copyingList.moveRuns (started (record 2 (toLe 8 0x3000 ++ toLe 4 1))) [{ src := 0x1000, dst := 0x2000, len := 4 }] =
      .ok t ∧ t.aheadOfCopy = none :=
  ⟨_, _, ⟨rfl, by decide, rfl, rfl, rfl, rfl⟩, by rfl, by decide +kernel, by rfl, by rfl⟩

/-- The arguments of a FILL of 8 bytes. -/
def fillArgs : Bytes := toLe 8 0x2000 ++ toLe 8 8 ++ toLe 8 0x1122334455667788

theorem witness_fill : ∃ ps, Running (moving 3 fillArgs []) 7 3 (started (record 3 fillArgs)) { adminQueue with engine := 0 } ∧
    arg (record 3 fillArgs) 8 8 = 8 ∧ (moving 3 fillArgs []).reach 0 0x2000 8 .write = .ok ps ∧
    ((moving 3 fillArgs []).putCab 0 0x2000 (toLe 8 0x1122334455667788)).aheadOfCopy = none :=
  ⟨_, ⟨rfl, by decide, rfl, rfl, rfl, rfl⟩, by decide, by rfl, by rfl⟩

theorem witness_invalidate : Running (moving 0x10 [] []) 7 0x10 (started (record 0x10 [])) { adminQueue with engine := 0 } ∧
    reservedErr (record 0x10 []) [(0, 2), (8, 16)] = none ∧ ((moving 0x10 [] []).cabinet? 0).isSome = true :=
  ⟨⟨rfl, by decide, rfl, rfl, rfl, rfl⟩, by decide, by decide⟩

/-- The same command from cabinet 1. -/
def foreign : State :=
  let s := moving 0x10 [] []
  { s with contract := { s.contract with ctxs := [{ started (record 0x10 []) with cabinet := 1 }] } }

theorem witness_invalidate_foreign :
    Running foreign 7 0x10 { started (record 0x10 []) with cabinet := 1 } { adminQueue with engine := 0 } :=
  ⟨rfl, by decide, rfl, rfl, rfl, rfl⟩

theorem witness_tiers : State.reset.sound ∧ (moving 1 [] []).faults.safe = false ∧
    ({ moving 1 [] [] with tiers := { State.reset.tiers with selfRefresh := false, badUnits := [0x10000000000] } } : State).tiers.selfRefresh
      = false ∧
    0x10000000000 + 64 * State.reset.tiers.scrubNext = 0x10000000000 := by decide

/-- A state with a CXL device of 4 KiB on each port, in which a command has run past CXL_TIMEOUT. -/
def cxlLate : State :=
  let s := moving 1 [] []
  { s with now := 20000000, tiers := { s.tiers with interleave := 2, cxlBytes := [4096, 4096, 4096, 4096] } }

theorem witness_cxl : cxlLate.cxlAddr 1 (64 * cxlLate.tiers.cxlScrubNext.getD 1 0) = some 0x100000001000 ∧
    cxlLate.e 0x2E05 0 ≤ 1 ∧ cxlLate.ctx? 7 = some (started (record 1 [])) ∧ cxlLate.held (started (record 1 [])) = false ∧
    (started (record 1 [])).startTime + cxlLate.e 0x2501 6 ≤ cxlLate.now ∧
    (cxlLate.tiers.cxlBytes.any fun n => decide (0 < n)) = true := by
  refine ⟨by decide, by decide, rfl, by decide, by decide, by decide⟩
/-- A sequence of up to 512 tokens of 1,024 bytes, blocks at 0x10000 and 0x20000, in a state. -/
def sequence (state committed lease : Nat) : Seq :=
  { table := 0x3000, summary := 0, recBytes := 1024, maxTokens := 512, committed := committed, keyOffset := 0, heads := 0
    dim := 0, keyFormat := 4, state := state, note := 1, res := 0, leaseQueue := if state = 2 then queueHandle 0 5 else 0
    leaseEpoch := 0, leaseExpiry := lease, commits := 0 }

/-- A Sequence command on the descriptor at 0x2000; a LOCKED one is resident. -/
def sequencing (op : Nat) (args cont : Bytes) (d : Seq) : State :=
  let s := mapped (running { adminQueue with engine := 4 } [cq] (record op (toLe 8 0x2000 ++ args)))
  { s with
    mem := tables ++ ([(0x2000, d.bytes), (0x3000, toLe 8 0x10000 ++ toLe 8 0x20000)] : List (Nat × Bytes)).flatMap
      fun p => cells (0x10020000000 + p.1) p.2
    dict := s.dict ++ [(0x400108, 16)]
    contract := { s.contract with ctxs := [{ started (record op (toLe 8 0x2000 ++ args)) with conts := [cont] }] }
    tiers := { s.tiers with resident := if d.state = 2 then
      [{ (default : SeqDesc) with cabinet := 0, addr := 0x2000, bytes := d.bytes, leaseMs := 0 }] else [] } }

/-- The started command of such a state. -/
def seqCtx (op : Nat) (args cont : Bytes) : Ctx := { started (record op (toLe 8 0x2000 ++ args)) with conts := [cont] }

theorem running_seq (op : Nat) (args cont : Bytes) (d : Seq) (h : recOpcode (record op (toLe 8 0x2000 ++ args)) = op) :
    Running (sequencing op args cont d) 7 op (seqCtx op args cont) { adminQueue with engine := 4 } :=
  ⟨rfl, by
    have : (seqCtx op args cont).record = record op (toLe 8 0x2000 ++ args) := rfl
    simp only [isCommand, this, h, beq_self_eq_true, Bool.true_and]; rfl, rfl, rfl, rfl, rfl⟩

theorem witness_seq_init : Running (sequencing 0x4001 [] [] (sequence 0 0 0)) 7 0x4001 (seqCtx 0x4001 [] [])
      { adminQueue with engine := 4 } ∧
    (sequencing 0x4001 [] [] (sequence 0 0 0)).resident? 0 0x2000 = none ∧
    holds (do
      let s := sequencing 0x4001 [] [] (sequence 0 0 0)
      let b ← s.readCab 0 0x2000 64
      s.seqErr 0 (parseSeq b)
      let t ← s.writeAll 0 [(0x2000, { parseSeq b with
        state := 1, committed := 0, note := 0, leaseQueue := 0, leaseEpoch := 0, leaseExpiry := 0, commits := 0 }.bytes)]
      pure ((parseSeq b).state == 0 && t.aheadOfCopy.isNone)) = true :=
  ⟨running_seq _ _ _ _ (by decide), by rfl, by decide +kernel⟩

theorem witness_seq_acquire : Running (sequencing 0x4002 [] [] (sequence 1 300 0)) 7 0x4002 (seqCtx 0x4002 [] [])
      { adminQueue with engine := 4 } ∧
    (sequencing 0x4002 [] [] (sequence 1 300 0)).resident? 0 0x2000 = none ∧
    holds (do
      let s := sequencing 0x4002 [] [] (sequence 1 300 0)
      let b ← s.readCab 0 0x2000 64
      let (t, detail) ← s.lockSeq (seqCtx 0x4002 [] []) 0x2000 (parseSeq b) 0
      pure ((parseSeq b).state == 1 && t.aheadOfCopy.isNone && detail == 2 ^ 32 + 300)) = true :=
  ⟨running_seq _ _ _ _ (by decide), by rfl, by decide +kernel⟩

/-- A sequence that another queue holds. -/
def heldElsewhere : Seq := { sequence 2 300 0 with leaseQueue := queueHandle 0 6 }

theorem witness_seq_wait (w : Nat) (h : w = 0 ∨ w = 1) :
    Running (sequencing 0x4002 (zeros 4 ++ toLe 1 w) [] heldElsewhere) 7 0x4002 (seqCtx 0x4002 (zeros 4 ++ toLe 1 w) [])
      { adminQueue with engine := 4 } ∧
    (∃ r, (sequencing 0x4002 (zeros 4 ++ toLe 1 w) [] heldElsewhere).resident? 0 0x2000 = some r ∧
      (parseSeq r.bytes).state = 2 ∧
      (sequencing 0x4002 (zeros 4 ++ toLe 1 w) [] heldElsewhere).owns (seqCtx 0x4002 (zeros 4 ++ toLe 1 w) [])
        (parseSeq r.bytes) = false) ∧
    (sequencing 0x4002 (zeros 4 ++ toLe 1 w) [] heldElsewhere).aheadOfCopy = none := by
  rcases h with rfl | rfl <;>
    exact ⟨running_seq _ _ _ _ (by decide), ⟨_, by rfl, by decide +kernel, by decide +kernel⟩, by decide⟩

theorem witness_seq_release : Running (sequencing 0x4003 [] [] (sequence 2 300 0)) 7 0x4003 (seqCtx 0x4003 [] [])
      { adminQueue with engine := 4 } ∧
    ∃ r, (sequencing 0x4003 [] [] (sequence 2 300 0)).resident? 0 0x2000 = some r ∧ r.waiters = [] ∧
      holds (do
        let (t, d) ← (sequencing 0x4003 [] [] (sequence 2 300 0)).renewSeq (seqCtx 0x4003 [] []) 0x2000 (parseSeq r.bytes)
        pure (t.putCab 0 0x2000 { d with state := 1 }.bytes).aheadOfCopy.isNone) = true :=
  ⟨running_seq _ _ _ _ (by decide), _, by rfl, by rfl, by decide +kernel⟩

/-- The arguments of a SEQ_LOAD of one block to 0x40000, and its continuation: the first 64 bytes of each record. -/
def loadArgs : Bytes := toLe 8 0x40000 ++ toLe 4 0 ++ toLe 4 1

theorem witness_seq_load :
    Running (sequencing 0x4004 loadArgs (zeros 4 ++ toLe 4 64 ++ zeros 56) (sequence 2 2 0)) 7 0x4004
      (seqCtx 0x4004 loadArgs (zeros 4 ++ toLe 4 64 ++ zeros 56)) { adminQueue with engine := 4 } ∧
    ∃ r, (sequencing 0x4004 loadArgs (zeros 4 ++ toLe 4 64 ++ zeros 56) (sequence 2 2 0)).resident? 0 0x2000 = some r ∧
      holds (do
        let c := seqCtx 0x4004 loadArgs (zeros 4 ++ toLe 4 64 ++ zeros 56)
        let k := c.conts.headD []
        let (s2, d) ← (sequencing 0x4004 loadArgs (zeros 4 ++ toLe 4 64 ++ zeros 56) (sequence 2 2 0)).renewSeq c 0x2000
          (parseSeq r.bytes)
        let bs ← s2.loadSources 0 d c.record k
        let data ← s2.readRuns 0 (bs.flatMap fun p => loadReads d 0 64 p.1 p.2)
        let t ← s2.writeAll 0 (splitRuns (loadRuns d 0x40000 64 0 (bs.map (·.1))) data.flatten)
        pure ((firstErr (s2.loadChecks d c.record k)).isNone && field k 0 4 == 0 && field k 4 4 == 64 &&
          arg c.record 8 8 == 0x40000 && t.aheadOfCopy.isNone)) = true :=
  ⟨running_seq _ _ _ _ (by decide), _, by rfl, by decide +kernel⟩

/-- The arguments of a SEQ_APPEND of one token from 0x50000. -/
def appendArgs : Bytes := toLe 8 0x50000 ++ toLe 4 1

theorem witness_seq_append :
    Running (sequencing 0x4005 appendArgs [] (sequence 2 2 0)) 7 0x4005 (seqCtx 0x4005 appendArgs [])
      { adminQueue with engine := 4 } ∧
    (sequencing 0x4005 appendArgs [] (sequence 2 2 0)).appendWaits (seqCtx 0x4005 appendArgs []) = false ∧
    ∃ r, (sequencing 0x4005 appendArgs [] (sequence 2 2 0)).resident? 0 0x2000 = some r ∧
      holds (do
        let c := seqCtx 0x4005 appendArgs []
        let (s2, d) ← (sequencing 0x4005 appendArgs [] (sequence 2 2 0)).renewSeq c 0x2000 (parseSeq r.bytes)
        let ts ← s2.appendTargets 0 d 1
        let t ← s2.appendRecords 0 d (arg c.record 8 8) ts
        let t1 ← t.appendSummaries 0 d (d.committed + 1) ts
        let t2 ← t1.writeAll 0 [(0x2000, { d with committed := d.committed + 1, commits := (d.commits + 1) % 2 ^ 64 }.bytes)]
        pure (t2.aheadOfCopy.isNone && arg c.record 16 4 == 1)) = true :=
  ⟨running_seq _ _ _ _ (by decide), by decide, _, by rfl, by decide +kernel⟩

/-- A state in which a lease has expired and no command runs. -/
def expired : State :=
  let s := sequencing 0x4003 [] [] (sequence 2 2 5)
  { s with now := 10, contract := { s.contract with ctxs := [] } }

theorem witness_lease_break : ∃ r, expired.resident? 0 0x2000 = some r ∧ expired.faults.safe = false ∧
    expired.contract.activation ≠ 1 ∧ field r.bytes 48 8 = 5 ∧ r.waiters = [] ∧ expired.now = 10 :=
  ⟨_, by rfl, rfl, by decide, by decide +kernel, by rfl, rfl⟩
/-- A shelf of one entry, a ZN4 tensor of one chunk: the header at 0x2000, the entry at 0x2040, the descriptor at 0x2100. -/
def shelfMemory : List (Nat × Bytes) :=
  [(0x2000, toLe 4 1 ++ zeros 4 ++ toLe 8 0x2040 ++ toLe 8 0x10000), (0x2040, toLe 8 0x2100), (0x2100, znTensor 0x5000 0x5400 1 2)]

theorem witness_shelf_page_in : Running (moving 0x4010 (toLe 8 0x2000 ++ toLe 8 0x80000 ++ toLe 4 0 ++ toLe 2 1) shelfMemory)
      7 0x4010 (started (record 0x4010 (toLe 8 0x2000 ++ toLe 8 0x80000 ++ toLe 4 0 ++ toLe 2 1)))
      { adminQueue with engine := 0 } ∧
    holds (do
      let s := moving 0x4010 (toLe 8 0x2000 ++ toLe 8 0x80000 ++ toLe 4 0 ++ toLe 2 1) shelfMemory
      let (entries, table, landBytes) ← s.shelfHeader 0 0x2000
      let es ← s.shelfEntries 0 table 0 1
      let ws ← s.imagesOf 0 0x80000 es
      let t ← s.writeAll 0 ws
      pure (entries == 1 && !rangesClash [] ((es.map fun e => (e.landing, e.desc.imageBytes)).map fun x => [x]) &&
        (es.all fun e => e.landing + e.desc.imageBytes ≤ landBytes) && t.aheadOfCopy.isNone)) = true :=
  ⟨⟨rfl, by decide, rfl, rfl, rfl, rfl⟩, by decide +kernel⟩

theorem witness_shelf_write : Running (moving 0x4011 (toLe 8 0x2000 ++ toLe 8 0 ++ toLe 8 0x2200)
      (shelfMemory ++ [(0x2200, znTensor 0x6000 0x6400 1 2)])) 7 0x4011
      (started (record 0x4011 (toLe 8 0x2000 ++ toLe 8 0 ++ toLe 8 0x2200))) { adminQueue with engine := 0 } ∧
    holds (do
      let s := moving 0x4011 (toLe 8 0x2000 ++ toLe 8 0 ++ toLe 8 0x2200) (shelfMemory ++ [(0x2200, znTensor 0x6000 0x6400 1 2)])
      let (entries, table, _) ← s.shelfHeader 0 0x2000
      let e ← s.shelfEntry 0 table 0
      let b ← s.readCab 0 0x2200 64
      let src := parseDesc 0x2200 b
      let ws ← copyRuns (s.readCab 0) src e.desc
      let t ← s.writeAll 0 ws
      pure (entries == 1 && (descErr (fun _ => 16) b src).isNone && src.format == e.desc.format &&
        src.layout == e.desc.layout && src.elements == e.desc.elements && decide (src.heapUsed ≤ e.desc.heapSlots) &&
        t.aheadOfCopy.isNone)) = true :=
  ⟨⟨rfl, by decide, rfl, rfl, rfl, rfl⟩, by decide +kernel⟩

theorem witness_prefetch (op : Nat) (h : op = 0x4020 ∨ op = 0x4021) :
    Running (moving op (toLe 8 0x2000 ++ toLe 4 0 ++ toLe 4 1) shelfMemory) 7 op
      (started (record op (toLe 8 0x2000 ++ toLe 4 0 ++ toLe 4 1))) { adminQueue with engine := 0 } ∧
    reservedErr (record op (toLe 8 0x2000 ++ toLe 4 0 ++ toLe 4 1)) [(0, 16)] = none ∧
    (moving op (toLe 8 0x2000 ++ toLe 4 0 ++ toLe 4 1) shelfMemory).e 0x2504 0 = 1 := by
  rcases h with rfl | rfl <;> exact ⟨⟨rfl, by decide, rfl, rfl, rfl, rfl⟩, by decide, by decide +kernel⟩

/-- A state in which a prefetch of one granule runs, with some staging granted. -/
def prefetching (granted : Nat) : State :=
  { State.reset with tiers := { State.reset.tiers with
      runaheadGranted := granted
      prefetches := [{ cabinet := 0, granules := [0x10020000000], started := true }] } }

theorem witness_prefetch_done : (prefetching 65536).tiers.prefetches[0]? =
      some { cabinet := 0, granules := [0x10020000000], started := true } ∧ (prefetching 65536).faults.safe = false ∧
    (prefetching 65536).badUnit 0x10020000000 65536 = none ∧ (prefetching 65536).tiers.staged = [] :=
  ⟨rfl, rfl, by decide +kernel, rfl⟩
/-- A ZT 2 connection that is ESTABLISHED. -/
def zconn : Conn :=
  { (default : Conn) with
    index := 9, state := 3, verMin := 1, verMax := 2, version := 2, mtu := 1024, peerConn := 11, cwnd := 256, cached := true }

/-- A work request of 64 bytes: WR_OP, WR_FLAGS, and the fields from byte 20 on. -/
def workRecord (op flags : Nat) (rest : Bytes) : Bytes := fit 64 (toLe 1 op ++ toLe 1 flags ++ zeros 6 ++ toLe 4 9 ++ zeros 8 ++ rest)

/-- A state in which a work request has been started on a connection. -/
def working (r : Bytes) (k : Conn) : State :=
  let s := mapped (running { adminQueue with engine := 6 } [cq] r)
  { s with mem := tables, zt := { s.zt with conns := [k] } }

theorem requested_working (op : Nat) (r : Bytes) (k : Conn) (h : field r 0 1 = op) :
    Requested (working r k) 7 op (started r) { adminQueue with engine := 6 } :=
  ⟨rfl, by
    have : (started r).record = r := rfl
    simp only [isWork, this, h, beq_self_eq_true, Bool.true_and]; rfl, rfl, rfl, rfl, rfl⟩

/-- A WRITE of 8 bytes. -/
def writeReq : Bytes := workRecord 1 0 (toLe 4 0x40003 ++ toLe 8 0x3000 ++ toLe 8 0 ++ toLe 4 8)

theorem witness_zt_write : Requested (working writeReq zconn) 7 1 (started writeReq) { adminQueue with engine := 6 } ∧
    StreamOpen (working writeReq zconn) (started writeReq) zconn 8 [(8, 4), (20, 24)] ∧ field writeReq 40 4 = 8 ∧
    bit (field writeReq 1 1) 3 = false :=
  ⟨requested_working _ _ _ (by decide), by decide +kernel, by decide, by decide⟩

/-- A READ of 8 bytes. -/
def readReq : Bytes := workRecord 2 0 (toLe 4 0x40003 ++ toLe 8 0x3000 ++ toLe 8 0 ++ toLe 4 8)

theorem witness_zt_read : Requested (working readReq zconn) 7 2 (started readReq) { adminQueue with engine := 6 } ∧
    StreamOpen (working readReq zconn) (started readReq) zconn 0 [(8, 4), (20, 24)] ∧ field readReq 40 4 = 8 ∧
    zconn.sendQueue = [] ∧ (zconn.nxt - zconn.una).toNat < min zconn.window zconn.cwnd ∧
    (working readReq zconn).connPort zconn = none ∧ zconn.pktsUnderGen + 1 < (working readReq zconn).e 0x2603 0 :=
  ⟨requested_working _ _ _ (by decide), by decide +kernel, by decide, rfl, by decide, by decide +kernel, by decide +kernel⟩

theorem witness_zt_window : min zconn.window { zconn with nxt := 256 }.cwnd ≤ (({ zconn with nxt := 256 } : Conn).nxt - zconn.una).toNat := by
  decide

theorem witness_zt_refused : (working readReq { zconn with index := 8 }).connOf 0 9 = none ∧
    (∀ n ∈ [1, 2, 4, 5, 6], (working readReq { zconn with state := n }).connOf 0 9 = some { zconn with state := n }) ∧
    field readReq 8 4 = 9 := by
  refine ⟨by decide, by decide, by decide⟩

/-- FETCH_ADD and CMP_SWAP on memory, and SIGNAL. -/
def atomicReq (op : Nat) : Bytes := workRecord op 0 (toLe 4 0x40003 ++ zeros 8 ++ toLe 8 64)

theorem witness_zt_atomic (op : Nat) (h : op = 3 ∨ op = 4) :
    Requested (working (atomicReq op) zconn) 7 op (started (atomicReq op)) { adminQueue with engine := 6 } ∧
    StreamOpen (working (atomicReq op) zconn) (started (atomicReq op)) zconn 16
      [(8, 4), (20, 4), (48, if op = 3 then 8 else 16), (32, 8)] ∧ bit (field (atomicReq op) 1 1) 4 = false ∧
    field (atomicReq op) 32 8 = 64 := by
  rcases h with rfl | rfl <;>
    exact ⟨requested_working _ _ _ (by decide), by decide +kernel, by decide, by decide⟩

/-- A SIGNAL of ADD 1. -/
def signalReq : Bytes := toLe 1 5 ++ [0, 0, 2] ++ zeros 4 ++ toLe 4 9 ++ zeros 8 ++ toLe 4 0x40003 ++ zeros 20 ++ toLe 4 0x52000000 ++ toLe 8 1 ++ zeros 8

theorem witness_zt_signal : Requested (working signalReq zconn) 7 5 (started signalReq) { adminQueue with engine := 6 } ∧
    StreamOpen (working signalReq zconn) (started signalReq) zconn 0 [(3, 1), (8, 4), (20, 4), (44, 12)] ∧
    field signalReq 3 1 = 2 ∧ zconn.version = 2 :=
  ⟨requested_working _ _ _ (by decide), by decide +kernel, by decide, rfl⟩

/-- A WAIT for the value 1. -/
def waitReq : Bytes := toLe 1 6 ++ zeros 11 ++ toLe 4 0x52000000 ++ zeros 32 ++ toLe 8 1 ++ zeros 8

theorem witness_zt_wait : Requested (working waitReq zconn) 7 6 (started waitReq) { adminQueue with engine := 6 } ∧
    workReserved waitReq 0 [(48, 8)] = none := ⟨requested_working _ _ _ (by decide), by decide +kernel⟩

/-- A CONN_CREATE whose descriptor lies at 0x2000. -/
def createReq : Bytes := toLe 1 0x10 ++ zeros 23 ++ toLe 8 0x2000 ++ zeros 32

/-- A connection descriptor with a given PEER_CONN, ROLE and a one-byte secret. -/
def connDesc (peer role : Nat) : Bytes :=
  toLe 4 peer ++ [BitVec.ofNat 8 role, 1, 2, 0] ++ toLe 2 1024 ++ zeros 54 ++ [0x77] ++ zeros 63

/-- A state in which such a command runs, with a subscriber and a share of the connections. -/
def creating (peer role : Nat) : State :=
  let s := working createReq zconn
  { s with
    mem := tables ++ cells 0x10020002000 (connDesc peer role)
    packet := { s.packet with subscribers := [{ (default : Subscriber) with id := 0, cabinet := 0 }] } }

theorem witness_conn_create : ∃ b i, Requested (creating 11 1) 7 0x10 (started createReq) { adminQueue with engine := 6 } ∧
    (creating 11 1).contract.activation = 0 ∧ workReserved createReq 0 [(24, 8)] = none ∧ field createReq 24 8 = 0x2000 ∧
    (creating 11 1).readCab 0 0x2000 128 = .ok b ∧
    (creating 11 1).createConn (started createReq) b =
      .ok ((creating 11 1).drawn.addConn ((creating 11 1).newConn i 0 b), i) ∧ 1 < (creating 11 1).e 0x2603 0 ∧
    ((((creating 11 1).drawn.addConn ((creating 11 1).newConn i 0 b)).finishZt 7 0 i).putCab 0 0x2040 (zeros 32)).aheadOfCopy.isNone = true := by
  have h : ∀ f, ∃ i, pickFree f [9] 0 0x200000 = some i := by
    intro f
    refine Option.isSome_iff_exists.1 ?_
    unfold pickFree
    split
    · rfl
    · decide +kernel
  obtain ⟨i, hi⟩ := h (creating 11 1).freeValue
  have hb : (creating 11 1).readCab 0 0x2000 128 = .ok (fit 128 (connDesc 11 1)) := by
    have : (match (creating 11 1).readCab 0 0x2000 128 with
      | .ok b => b == fit 128 (connDesc 11 1)
      | .error _ => false) = true := by decide +kernel
    cases h : (creating 11 1).readCab 0 0x2000 128 with
    | error e => rw [h] at this; cases this
    | ok b => rw [h] at this; rw [eq_of_beq this]
  refine ⟨fit 128 (connDesc 11 1), i, ⟨rfl, by decide, rfl, rfl, rfl, rfl⟩, by decide +kernel, by decide +kernel, by decide,
    hb, ?_, by decide +kernel, ?_⟩
  · have e : (creating 11 1).zt.conns.map (·.index) = [9] := rfl
    have e1 : (connDescBad (fit 128 (connDesc 11 1)) || (((creating 11 1).subscriber? (field (fit 128 (connDesc 11 1)) 12 2)).map
      (·.cabinet)) != some (started createReq).cabinet) = false := by decide +kernel
    have e2 : (!(creating 11 1).tiers.backingInGddr && decide ((creating 11 1).e 0x2601 4 = 0)) = false := by decide +kernel
    have e3 : ¬ (creating 11 1).share (started createReq).cabinet 3 ≤ (creating 11 1).connCount (started createReq).cabinet := by
      decide +kernel
    have e4 : field (fit 128 (connDesc 11 1)) 4 1 = 1 := by decide +kernel
    simp only [State.createConn, e1, e2, e3, e, hi, e4, if_false, Bool.false_eq_true]
    rfl
  · rw [State.aheadOfCopy_noSets (State.putCab_noSets _ _ _ rfl)]; rfl

theorem witness_conn_create_refused :
    Requested (creating 0xFFFFFFFF 0) 7 0x10 (started createReq) { adminQueue with engine := 6 } ∧
    holds (do
      let b ← (creating 0xFFFFFFFF 0).readCab 0 0x2000 128
      match (creating 0xFFFFFFFF 0).createConn (started createReq) b with
      | .error e => pure (e.status == stBadRange &&
          (((creating 0xFFFFFFFF 0).finishErr 7 e).putCab 0 0x2040 (zeros 32)).aheadOfCopy.isNone)
      | .ok _ => pure false) = true :=
  ⟨⟨rfl, by decide, rfl, rfl, rfl, rfl⟩, by decide +kernel⟩

/-- CONN_CLOSE, CONN_DESTROY and CONN_REKEY. -/
theorem witness_conn_commands (op : Nat) (h : op = 0x11 ∨ op = 0x12 ∨ op = 0x13) :
    Requested (working (workRecord op 0 []) zconn) 7 op (started (workRecord op 0 [])) { adminQueue with engine := 6 } ∧
    workReserved (workRecord op 0 []) 0 [(8, 4)] = none ∧
    (working (workRecord op 0 []) zconn).connOf 0 (field (workRecord op 0 []) 8 4) = some zconn ∧
    zconn.pktsUnderGen + 1 < (working (workRecord op 0 []) zconn).e 0x2603 0 ∧
    (working (workRecord op 0 []) zconn).zt.jobs = [] ∧ zconn.tx = [] ∧ zconn.firstClose = none := by
  rcases h with rfl | rfl | rfl <;>
    exact ⟨requested_working _ _ _ (by decide), by decide +kernel, by decide, by decide +kernel, rfl, rfl, rfl⟩

/-- A REG of 4 KiB for reads and writes, bound to no connection. -/
def regReq : Bytes := toLe 1 0x20 ++ zeros 7 ++ toLe 4 0xFFFFFFFF ++ zeros 12 ++ toLe 8 0x3000 ++ zeros 16 ++ toLe 8 4096 ++ toLe 8 3

theorem witness_reg : Requested (working regReq zconn) 7 0x20 (started regReq) { adminQueue with engine := 6 } ∧
    workReserved regReq 0 [(8, 4), (24, 8), (48, 16)] = none ∧ (working regReq zconn).regErr (started regReq) = none ∧
    ∀ f, (pickFree f [] 0 262144).isSome = true := by
  refine ⟨requested_working _ _ _ (by decide), by decide +kernel, by decide +kernel, fun f => ?_⟩
  have : f % 262144 < 262144 := Nat.mod_lt _ (by decide)
  simp [pickFree, lowestFree, this]

/-- A REVOKE of region 3 with TAG 1. -/
def revokeReq : Bytes := toLe 1 0x21 ++ zeros 19 ++ toLe 4 0x40003 ++ zeros 40

/-- A region of a state in which a request runs. -/
def withRegion (r : ZtRegion) (s : State) : State := { s with zt := { s.zt with regions := [r] } }

/-- Region 3, OPEN for everything. -/
def region3 : ZtRegion :=
  { index := 3, tag := 1, cabinet := 0, isClosing := false, base := 0x3000, len := 4096, rights := 7, bound := none
    inFlight := 0, revokeCtx := none }

theorem witness_revoke (b : Bool) :
    Requested (withRegion { region3 with isClosing := b } (working revokeReq zconn)) 7 0x21 (started revokeReq)
      { adminQueue with engine := 6 } ∧ workReserved revokeReq 0 [(20, 4)] = none ∧
    (withRegion { region3 with isClosing := b } (working revokeReq zconn)).region? (rkeyIndex (field revokeReq 20 4)) =
      some { region3 with isClosing := b } ∧ rkeyTag (field revokeReq 20 4) = 1 := by
  cases b <;> exact ⟨⟨rfl, by decide, rfl, rfl, rfl, rfl⟩, by decide +kernel, by rfl, by decide⟩

theorem witness_region_drained :
    (withRegion { region3 with isClosing := true, revokeCtx := some 7 } (working revokeReq zconn)).region? 3 =
      some { region3 with isClosing := true, revokeCtx := some 7 } ∧ (working revokeReq zconn).ztRuns = true ∧
    (working revokeReq zconn).ctx? 7 = some (started revokeReq) := ⟨rfl, rfl, rfl⟩
/-- A packet of connection 9 from its peer. -/
def zpacket (flags : Nat) (psn : BitVec 32) (body : Bytes) : ZtIn :=
  { conn := 9, srcConn := 11, srcIp := zeros 16, version := 2, flags := flags, keyGen := 0, seqNo := psn, attempt := 0
    auth := true, body := body }

/-- A state whose connection 9 is given, with region 3 of 4 KiB at cabinet address 0x3000. -/
def receiving (k : Conn) : State := withRegion region3 (working readReq k)

theorem witness_arrives (ty n f : Nat) (psn : BitVec 32) (body : Bytes) :
    Arrives (receiving { zconn with state := n }) ty (zpacket f psn body) { zconn with state := n } := by
  refine ⟨rfl, rfl, rfl, fun m h => (by cases h), ?_, rfl, rfl, show 9 < 0x200000 by decide, rfl⟩
  simp [Conn.matches, zpacket, zconn]
  rfl

theorem witness_in_order (ty f : Nat) (body : Bytes) :
    InOrder (receiving zconn) ty (zpacket f 0 body) zconn :=
  ⟨witness_arrives ty 3 f 0 body, .inl rfl, rfl, rfl, rfl, rfl⟩

theorem witness_zt_dropped (p : ZtIn) (h : p = zpacket 0 0 []) :
    (receiving { zconn with index := 8 }).conn? p.conn = none ∧
    (receiving { zconn with cached := false }).conn? 9 = some { zconn with cached := false } ∧
    (receiving { zconn with cached := false }).missFull 9 p = false ∧
    ({ receiving { zconn with cached := false } with transform := default } : State).missFull 9 p = true ∧
    (zconn.matches 1 { p with version := 1 }) = false ∧ ({ p with keyGen := 7 } : ZtIn).keyGen ≠ (zconn.genRx + 1) % 256 ∧
    ({ p with auth := false } : ZtIn).auth = false := by
  subst h; refine ⟨by decide, rfl, by decide, by decide, by decide, by decide, rfl⟩

theorem witness_zt_positions : psnDiff (-1) zconn.expected < 0 ∧ (zconn.window : Int) ≤ psnDiff 256 zconn.expected ∧
    0 < psnDiff 255 zconn.expected ∧ psnDiff 255 zconn.expected < (zconn.window : Int) ∧
    (receiving zconn).reorderCells + cellsOf (36 + 0) ≤ (receiving zconn).halfCells ∧
    ({ receiving zconn with transform := default } : State).halfCells <
      ({ receiving zconn with transform := default } : State).reorderCells + cellsOf (36 + 0) := by decide

theorem witness_zt_write_packet :
    holds (do
      let s := receiving zconn
      let b := zeros 8 ++ toLe 4 0x40003 ++ zeros 4 ++ ([1, 2, 3, 4] : Bytes)
      match s.keyCheck zconn (field b 8 4) 1 (field b 0 8) (b.drop 16).length with
      | .error _ => pure false
      | .ok r =>
        let t ← s.writeAll 0 [(r.base, b.drop 16)]
        pure (t.aheadOfCopy.isNone && Memory.get t.mem 0x10020003000 == 1)) = true ∧
    (match (receiving zconn).keyCheck zconn 0x80003 1 0 4 with
      | .error e => e == 2
      | .ok _ => false) = true := by decide +kernel

theorem witness_zt_read_req :
    holds (do
      let s := receiving { zconn with nxt := 256 }
      match s.keyCheck zconn 0x40003 0 0 4 with
      | .error _ => pure false
      | .ok r =>
        let d ← s.readCab 0 r.base 4
        pure (d.length == 4 && decide (min zconn.window zconn.cwnd ≤ ((256 : BitVec 32) - zconn.una).toNat))) = true := by
  decide +kernel

theorem witness_zt_atomic_req :
    holds (do
      let s := receiving zconn
      match s.keyCheck zconn 0x40003 2 0 8 with
      | .error _ => pure false
      | .ok r =>
        let ps ← s.reach 0 r.base 8 .atomic
        pure (decide (r.base % 8 = 0) && (ps.all fun d => (s.linkOf d.1).isNone) && (s.badPiece ps).isNone &&
          leNat (s.readPieces ps) == 0 && (s.putCab 0 r.base (toLe 8 5)).aheadOfCopy.isNone)) = true := by decide +kernel

/-- A region over the sync objects 0 to 2,000, and object 1,000. -/
def syncRegion : State :=
  let s := withRegion { region3 with base := 0, len := 2000, rights := 8 } (working readReq zconn)
  { s with contract := { s.contract with syncs := [{ (default : SyncObj) with index := 1000, value := 320 }] } }

theorem witness_zt_atomic_sync : (match syncRegion.syncCheck zconn 0x40003 0x400003E8 with
      | .ok i => i == 1000
      | .error _ => false) = true ∧
    syncRegion.sync? 0 1000 = some { (default : SyncObj) with index := 1000, value := 320 } := ⟨by decide +kernel, rfl⟩

/-- A state in which a request whose packet is PSN 5 is under way. -/
def awaiting (r : Bytes) : State :=
  let s := working r zconn
  { s with contract := { s.contract with ctxs := [{ started r with issued := true, firstPsn := some 5, lastPsn := some 5 }] } }

theorem witness_zt_responses : (∀ r ∈ [readReq, atomicReq 3, writeReq], (awaiting r).requestOf 9 5 =
      some { started r with issued := true, firstPsn := some 5, lastPsn := some 5 }) ∧
    (awaiting readReq).requestOf 9 6 = none ∧
    (∀ p ty, InOrder (receiving zconn) ty p zconn → InOrder (awaiting readReq) ty p zconn) ∧
    holds (do
      let t ← (awaiting readReq).writeAll 0 [(0x3000, [1, 2, 3, 4])]
      pure t.aheadOfCopy.isNone) = true := by
  refine ⟨by decide +kernel, by decide +kernel, ?_, by decide +kernel⟩
  rintro p ty ⟨⟨h1, h2, h3, h4, h5, h6, h7, h8, h9⟩, h⟩
  exact ⟨⟨h1, h2, h3, h4, h5, h6, h7, h8, h9⟩, h⟩

theorem witness_zt_control : zconn.choose (toLe 1 1 ++ toLe 1 2 ++ toLe 2 1024 ++ zeros 4) = some (2, 1024) ∧
    zconn.choose (toLe 1 3 ++ toLe 1 3 ++ toLe 2 1024 ++ zeros 4) = none ∧ zconn.csnNew 0 = true ∧
    ({ zconn with csnRx := some 0 } : Conn).csnNew 0 = false ∧ ({ zconn with role := 1 } : Conn).role = 1 ∧
    zconn.pktsUnderGen + 1 < (receiving zconn).e 0x2603 0 := by
  refine ⟨by decide, by decide, by decide, by decide, rfl, by decide +kernel⟩

theorem witness_zt_ack : 0 < psnDiff (6 : BitVec 32) zconn.una ∧ (awaiting writeReq).ztOpen 9
      { started writeReq with issued := true, firstPsn := some 5, lastPsn := some 5 } = true ∧
    field writeReq 0 1 = 1 ∧ 0 < psnDiff (6 : BitVec 32) (BitVec.ofNat 32 5) ∧
    0 ≤ psnDiff zconn.expected (BitVec.ofNat 32 0) := by
  refine ⟨by decide, by decide +kernel, by decide, by decide, by decide⟩
/-- A packet that waits for its acknowledgement, sent at time 0. -/
def waitingPacket (attempt : Nat) : TxPacket := { txPacket 2 0 [1, 2] 0 0 (some 7) with attempt := attempt, rto := 50000 }

theorem witness_zt_retransmission :
    (∀ n ∈ [0, 255], ({ zconn with tx := [waitingPacket n] } : Conn).waitingFor 0 = some (waitingPacket n)) ∧
    (waitingPacket 0).sentAt + (waitingPacket 0).rto ≤ ({ receiving zconn with now := 200000000 } : State).now ∧
    (waitingPacket 0).firstSent + (receiving zconn).e 0x2602 3 ≤ 200000000 ∧
    (match (receiving zconn).payloadOf zconn (waitingPacket 0) with
      | .ok b => b == [1, 2]
      | .error _ => false) = true ∧ zconn.pktsUnderGen + 1 < (receiving zconn).e 0x2603 0 ∧
    (receiving zconn).ctx? 7 = some (started readReq) ∧ (receiving zconn).ctxEngine (started readReq) = 6 ∧
    field readReq 8 4 = 9 ∧ field readReq 0 1 = 2 := by
  refine ⟨by decide, by decide, by decide +kernel, by decide +kernel, by decide +kernel, rfl, by decide +kernel, by decide, by decide⟩

/-- A backing store in host memory whose lease is fenced. -/
def fencedStore : State :=
  let s := receiving { zconn with fetching := true }
  { s with tiers := { s.tiers with backingInGddr := false }, dict := (0x400402, 2) :: s.dict }

theorem witness_zt_timers : ({ zconn with state := 2, connectLimit := 1000000000 } : Conn).createdAt + 1000000000 ≤ 1000000000 ∧
    ({ zconn with state := 4, firstClose := some 5, closeEvery := 10 } : Conn).lastConnect + 10 ≤ 10 ∧
    ({ zconn with firstUnackedAt := some 5, ackLimit := 5 } : Conn).firstUnackedAt = some 5 ∧
    (receiving { zconn with fetching := true }).tiers.backingInGddr = true ∧
    (receiving { zconn with fetching := true }).zt.conns.length ≤ 65536 ∧ fencedStore.leaseFenced 0 = true ∧
    fencedStore.ztRuns = true ∧ fencedStore.conn? 9 = some { zconn with fetching := true } ∧ fencedStore.zt.jobs = [] := by
  refine ⟨by decide, by decide, rfl, rfl, by decide, by decide +kernel, rfl, rfl, rfl⟩

/-- A packet that waits in the miss bench since time 0. -/
def benched : State :=
  let s := receiving zconn
  { s with now := 100000, zt := { s.zt with missBench := [{ conn := 9, arrived := 0, ty := 1, p := zpacket 0 0 [] }] } }

theorem witness_miss_limit : (benched.zt.missBench.filter fun m => m.conn == 9 &&
    decide (m.arrived + benched.e 0x2601 7 ≤ benched.now)).length = 1 ∧ benched.ztRuns = true :=
  ⟨by decide +kernel, rfl⟩
/-- A group in slot 5 of four ranks on one axis and no spare, this device member 0 and a steward, with room for every shape of
its state. -/
def group4 : Group :=
  { (default : Group) with
    slot := 5, cabinet := 0, queue := 5, state := 2, groupId := 77, axes := 1, fanin := 2, mode := 1, quorum := 2
    sizes := [4, 1, 1, 1, 1, 1], stewards := [0, 1, 2], mtu := 1024, members := List.replicate 4 default, self := 0
    rankMap := [0, 1, 2, 3], epoch := 1, failRank := 0xFFFF }

/-- A state with one group, and its connection toward member 1. -/
def grouped (g : Group) (s : State) : State :=
  { s with
    coll := { s.coll with groups := [g] }
    zt := { s.zt with conns := [{ zconn with index := g.conn 1 }] } }

/-- A group message of member 1. -/
def groupMsg (opSeq opcode : Nat) (body : Bytes) : GroupIn :=
  { slot := 5, sender := 1, groupId := 77, epoch := 1, opSeq := opSeq, opcode := opcode, level := 0, shard := 0, chunk := 0
    shapeCheck := 0, body := body }

/-- A group descriptor of two ranks and one spare in slot 5, its member table at 0x4000, and the table. -/
def groupDesc (spares : Nat) : Bytes :=
  toLe 8 77 ++ [5, 1, 2, 0, 0, 1] ++ toLe 2 spares ++ toLe 2 3 ++ (List.replicate 5 (toLe 2 1)).flatten ++ toLe 2 0 ++ toLe 2 1 ++
    toLe 2 2 ++ toLe 2 0 ++ [0, 0] ++ toLe 2 1024 ++ toLe 8 0x4000 ++ [0x55] ++ zeros 79

/-- A member table of three devices, the first one with the identifier of a device that has none. -/
def memberTable : Bytes :=
  (List.range 3).flatMap fun i => toLe 16 i ++ [1, 0] ++ zeros 110

/-- The arguments of a GROUP_JOIN with sync object 1,000. -/
def joinArgs : Bytes := toLe 8 0x2000 ++ toLe 4 0x400003E8

/-- A state in which a GROUP_JOIN runs. -/
def joiningAs (spares : Nat) : State :=
  let s := moving 0x2001 joinArgs [(0x2000, groupDesc spares), (0x4000, memberTable)]
  { s with
    dict := s.dict ++ [(0x100004, 0)]
    contract := { s.contract with syncs := [{ (default : SyncObj) with index := 1000 }] }
    packet := { s.packet with subscribers := [{ (default : Subscriber) with id := 0, cabinet := 0 }] } }

theorem running_join (n : Nat) : Running (joiningAs n) 7 0x2001 (started (record 0x2001 joinArgs)) { adminQueue with engine := 0 } :=
  ⟨rfl, by simp only [isCommand]; rfl, rfl, rfl, rfl, rfl⟩

theorem witness_group_join : Running (joiningAs 0) 7 0x2001 (started (record 0x2001 joinArgs)) { adminQueue with engine := 0 } ∧
    holds (do
      let t ← (joiningAs 0).joinGroup (started (record 0x2001 joinArgs))
      pure (t.aheadOfCopy.isNone && t.coll.groups.length == 1)) = true ∧
    (match (joiningAs 2000).joinGroup (started (record 0x2001 joinArgs)) with
      | .ok _ => false
      | .error e => e.status == stBadRange && e.bad.isNone && e.outside.isNone && ((((joiningAs 2000).finishErr 7 e).bump 0x2720 5 0).putCab 0 0x2030
          (zeros 32)).aheadOfCopy.isNone) = true :=
  ⟨running_join 0, by decide +kernel, by decide +kernel⟩

/-- A state in which a GROUP_LEAVE of slot 5 runs. -/
def leaving (g : Group) : State := grouped g (moving 0x2002 [5] [])

theorem witness_group_leave :
    Running (leaving group4) 7 0x2002 (started (record 0x2002 [5])) { adminQueue with engine := 0 } ∧
    reservedErr (record 0x2002 [5]) [(0, 1)] = none ∧ (leaving group4).group? 5 = some group4 ∧
    (leaving { group4 with slot := 6 }).group? 5 = none ∧ Group.idleOn group4 (leaving group4) := by
  refine ⟨⟨rfl, by decide, rfl, rfl, rfl, rfl⟩, by decide, rfl, rfl, ?_⟩
  intro m k h
  have := List.mem_of_find?_eq_some h
  simp [leaving, grouped] at this
  rw [this]; exact ⟨rfl, by decide⟩

/-- The record and operation block of a data operation of slot 5 over axis 0, with SRC and DST. -/
def collRecord (op : Nat) : Bytes := record op (toLe 8 0x1000 ++ toLe 2 64 ++ zeros 6 ++ toLe 8 1)

/-- A data operation on 64 BF16 elements at 0x4000, to 0x5000. -/
def collecting (op src dst : Nat) (dstElements : Nat) (g : Group) : State :=
  let s := moving op (toLe 8 0x1000 ++ toLe 2 64 ++ zeros 6 ++ toLe 8 1)
    [(0x1000, zeros 16 ++ [5, 1, 0, 0] ++ zeros 4 ++ toLe 8 src ++ toLe 8 dst ++ zeros 24),
     (0x2000, tensor 0x4000 64 4), (0x3000, tensor 0x5000 dstElements 4)]
  grouped g s

theorem running_coll (op src dst n : Nat) (g : Group) (h : op ∈ [0x2010, 0x2011, 0x2012, 0x2013, 0x2014]) :
    Running (collecting op src dst n g) 7 op (started (collRecord op)) { adminQueue with engine := 0 } := by
  simp only [List.mem_cons, List.not_mem_nil, or_false] at h
  rcases h with rfl | rfl | rfl | rfl | rfl <;> exact ⟨rfl, by simp only [isCommand]; rfl, rfl, rfl, rfl, rfl⟩

/-- Whether a data operation passes its checks, enters its group and makes its progress without a stall. -/
def enters (op src dst n : Nat) (g : Group) : Bool :=
  holds (do
    let s := collecting op src dst n g
    let c := started (collRecord op)
    let x ← s.collBegin c
    let k ← collTensors c g x
    let t ← (s.beginOp 5 7 1).enterOp k 1
    let t2 ← t.progressColl 5
    pure (field x.ob 16 1 == 5 && field x.ob 17 1 == 1 && (t2.settleColl 5).aheadOfCopy.isNone))

theorem witness_coll_begins : enters 0x2012 0x2000 0x3000 256 group4 = true ∧ enters 0x2013 0x2000 0 0 group4 = true ∧
    enters 0x2010 0x2000 0x3000 64 group4 = true := by decide +kernel

theorem witness_coll_begins_more :
    (collecting 0x2012 0x2000 0x3000 256 group4).group? 5 = some group4 ∧ (group4.rankOf group4.self).isSome = true ∧
    ({ group4 with abandoned := [(1, 3)] } : Group).abandoned.find? (fun a => a.1 == group4.opSeq + 1) = some (1, 3) := by
  refine ⟨by decide +kernel, by decide, by decide⟩

theorem witness_broadcast_waits : holds (do
    let g := { group4 with self := 1 }
    let s := collecting 0x2013 0 0x3000 64 g
    let c := started (collRecord 0x2013)
    let x ← s.collBegin c
    let k ← collTensors c g x
    pure (k.src.isNone && k.idx != k.root && s.aheadOfCopy.isNone)) = true := by decide +kernel

/-- The state of a group in FORMING whose GROUP_JOIN waits. -/
def forming (g : Group) : State := { grouped { g with state := 1, joinCtx := some 7 } (moving 0x2001 joinArgs []) with now := 10 }

theorem witness_heard : Heard (forming group4) (groupMsg 0 0 []) { group4 with state := 1, joinCtx := some 7 } ∧
    ({ group4 with state := 1 } : Group).actingSteward = some group4.self ∧
    (forming group4).conn? (group4.conn 1) = some { zconn with index := group4.conn 1 } ∧
    (forming group4).ctx? 7 = some (started (record 0x2001 joinArgs)) ∧
    ((forming group4).applyView 5 1 [0, 1, 2, 3]).aheadOfCopy = none ∧
    (((forming group4).endJoin 5 stStateConflict 0x531).leaveGroup 5).aheadOfCopy = none ∧
    (group4.members.findIdx? fun m => !m.joined) = some 0 ∧ group4.joinStart + group4.formLimit ≤ (forming group4).now := by
  refine ⟨by decide, by decide, by decide +kernel, rfl, by decide +kernel, by decide +kernel, by decide, by decide⟩
/-- The first operation of a group, just begun. -/
def runOp : CollOp := { (default : CollOp) with ctx := 7, opSeq := 1, counts := [0, 0, 0, 0, 0, 0], limitFrom := some 0 }

/-- A state with the group of four, member 1's connection, and a running ALL_GATHER of P elements. -/
def gathering (m : GroupIn → GroupIn) : State × GroupIn :=
  let g := { group4 with opSeq := 1, op := some runOp }
  (collecting 0x2012 0x2000 0x3000 256 g, m (groupMsg 1 0x2012 (wireBody 4 [{ code := 4, base := zeros 128, heap := [] }])))

/-- The running operation and what it runs with. -/
def runningColl (s : State) : Option (CollOp × CollCmd) := (s.group? 5).bind s.collOf

/-- Whether a message is one of the running operation, from the subgroup index of its sender. -/
def partHeard (s : State) (m : GroupIn) (q : Nat) : Bool :=
  match s.group? 5, runningColl s, s.ctx? 7 with
  | some g, some (op, k), some c =>
    decide (Heard s m g) && op.ctx == 7 && op.opSeq == m.opSeq && !op.held && m.opcode == k.op &&
      m.shapeCheck == k.shapeCheck c && g.rankOf m.sender == some q && g.subIndex k.mask q == q &&
      g.subRank k.mask k.rank q == q
  | _, _, _ => false

/-- The message with the shape of the running operation. -/
def shaped (s : State) (m : GroupIn) : GroupIn :=
  match runningColl s, s.ctx? 7 with
  | some (_, k), some c => { m with shapeCheck := k.shapeCheck c }
  | _, _ => m

/-- What follows a message of the running ALL_GATHER. -/
def gatherFollows : Bool :=
  let s := (gathering id).1
  let m := shaped s (gathering id).2
  match runningColl s with
  | some (op, k) =>
    partHeard s m 1 && (k.missingParts op).contains (1, 0) && (k.missingParts op).contains (2, 0) &&
      (match (s.addGathered 5 1 0 m.body).progressColl 5 with
        | .ok t => (t.settleColl 5).aheadOfCopy.isNone
        | .error _ => false) && s.aheadOfCopy.isNone
  | none => false

theorem witness_result : gatherFollows = true := by decide +kernel

/-- A running REDUCE_SCATTER of member 0 over four ranks, whose accumulation of shard 0 has the given contributions. -/
def scattering (a : OrderedAcc) : State :=
  let g := { group4 with opSeq := 1, op := some runOp }
  let s := collecting 0x2011 0x2000 0 64 g
  { s with
    mem := tables ++ ([(0x1000, zeros 16 ++ [5, 1, 4, 0] ++ zeros 4 ++ toLe 8 0x2000 ++ toLe 8 0x3000 ++ zeros 24),
      (0x2000, tensor 0x4000 256 4), (0x3000, tensor 0x5000 64 4)] : List (Nat × Bytes)).flatMap
        fun p => cells (0x10020000000 + p.1) p.2
    transform := { s.transform with accs := [a] } }

/-- An accumulation of level 0 of shard 0, width 1. -/
def acc0 : OrderedAcc :=
  { group := 5, opSeq := 1, shard := 0, chunk := 0, level := 0, total := 3, nextIdx := 1, acc := List.replicate 64 0, held := []
    inOrder := true, isOpen := true }

/-- Whether the contribution of member 1 reaches an accumulation in its turn. -/
def contributes (a : OrderedAcc) : Bool :=
  let s := scattering a
  let m := shaped s (groupMsg 1 0x2011 (wireBody 4 [{ code := 4, base := zeros 128, heap := [] }]))
  match runningColl s with
  | some (op, k) =>
    partHeard s m 1 && isReduction k.op && k.src.isSome && k.n == 4 && k.fanin == 2 && k.idx == 0 && op.rootVals.isEmpty &&
      !op.dstDone && (s.transform.accs.find? fun a => a.named 5 1 0 0 0) == some a && s.aheadOfCopy.isNone &&
      decide ((s.putAcc a).orderUsed + a.unit ≤ s.transform.benchOrder)
  | none => false

theorem witness_contrib : contributes acc0 = true ∧ contributes { acc0 with nextIdx := 2 } = true ∧
    ({ scattering { acc0 with isOpen := false } with
      transform := { (scattering acc0).transform with accs := [{ acc0 with isOpen := false }], benchOrder := 0 } } :
        State).transform.benchOrder < 2 * acc0.unit := by decide +kernel

/-- The group of four with what a message finds. -/
def hearing (g : Group) : State := { grouped g (moving 0x2012 [] []) with now := 200000000 }

theorem witness_group_messages :
    (∀ g ∈ [group4, { group4 with state := 3, reportAt := some 0 }, { group4 with probes := [{ subject := 1, since := 0 }] },
        { group4 with rankMap := [0, 2, 3, 1] }, { group4 with op := some { (default : CollOp) with ctx := 7 } },
        { group4 with epoch := 2 }], (hearing g).group? 5 = some g) ∧
    Heard (hearing group4) (groupMsg 0 0 (toLe 4 2 ++ toLe 2 1 ++ toLe 2 3)) group4 ∧ group4.memberAt 1 = 1 ∧
    group4.mayConfirm 1 = true ∧ (group4.member 1).map (·.confirmed) = some false ∧ (group4.member 1).map (·.isLost) = some false ∧
    (hearing group4).conn? (group4.conn 1) = some { zconn with index := group4.conn 1 } ∧
    (hearing group4).ctx? 7 = some (started (record 0x2012 [])) ∧
    ({ group4 with rankMap := [0, 2, 3, 4] } : Group).rankOf 1 = none := by
  refine ⟨by decide +kernel, by decide, by decide, by decide, by decide, by decide, by decide +kernel, by decide +kernel, by decide⟩

theorem witness_group_idle : Group.idleOn group4 (hearing group4) := by
  intro m k h
  have := List.mem_of_find?_eq_some h
  simp [hearing, grouped] at this
  rw [this]; exact ⟨rfl, by decide⟩

theorem witness_group_timers :
    (let g := { group4 with self := 2 }
     g.stewards.map g.memberAt = [0, 1, g.self] ∧ (g.member 0).map (·.confirmed) = some false ∧
      (g.member 1).map (·.confirmed) = some false ∧ (g.rankOf 0).isSome = true) ∧
    (let g := { group4 with self := 3 }
     g.self ∉ g.stewards.map g.memberAt) ∧
    ({ group4 with probes := [{ subject := 0, since := 0 }] } : Group).probes.find? (fun p => p.subject == 0) =
      some { subject := 0, since := 0 } ∧ 0 + (hearing group4).e 0x2700 2 ≤ (hearing group4).now ∧
    0 + (hearing group4).e 0x2700 4 ≤ (hearing group4).now ∧
    ({ zconn with index := group4.conn 1 } : Conn).isGroup = true ∧
    ({ zconn with index := group4.conn 1 } : Conn).lastTx + (hearing group4).e 0x2700 3 ≤ (hearing group4).now ∧
    (hearing group4).group? (connGroup (group4.conn 1)).1 = some group4 ∧
    ({ zconn with state := 6 } : Conn).state = 6 := by
  refine ⟨by decide, by decide, by decide, by decide +kernel, by decide +kernel, by decide, by decide +kernel, by decide +kernel, rfl⟩
/-- The set of group slot 5: two image granules at 0x10000, its buffers, mirrors and reserve above them. -/
def snapSet5 : SnapSet :=
  { (default : SnapSet) with
    slot := 5, cabinet := 0, state := 2, buddyStride := 1, imageMax := 131072, imageBytes := 131072
    parts := [(0x10000, 131072)], ranges := [{ (default : SnapRange) with base := 0x10000, len := 131072, regionId := 9 }]
    queueList := [0x52000005], firnBase := 0x100000, firnLen := 262144, mirrorBase := 0x200000, mirrorLen := 262144
    reserveBase := 0x300000, reserveLen := 131072, gens := [default, default], mirrors := [default, default], newest := 0
    keySlot := 4200, drainEvery := 1 }

/-- A state with one snapshot set and its group. -/
def withSet (x : SnapSet) (g : Group) (s : State) : State :=
  let s := grouped g s
  { s with snap := { s.snap with sets := [x] } }

/-- A set command with its arguments. -/
def setting (op : Nat) (args : Bytes) (mem : List (Nat × Bytes)) (x : SnapSet) (g : Group) : State :=
  withSet x g (moving op args mem)

theorem onset_setting (op : Nat) (args : Bytes) (mem : List (Nat × Bytes)) (x : SnapSet) (g : Group)
    (h : op ∈ [0x3002, 0x3010, 0x3011, 0x3020]) (hx : x.slot = 5) (hc : x.cabinet = 0) (hg : g.slot = 5) (hq : g.queue = 5) :
    OnSet (setting op args mem x g) 7 op 5 (started (record op args)) { adminQueue with engine := 0 } g x := by
  simp only [List.mem_cons, List.not_mem_nil, or_false] at h
  refine ⟨?_, by decide, ?_, ?_, hc, hq⟩
  · rcases h with rfl | rfl | rfl | rfl <;> exact ⟨rfl, by simp only [isCommand]; rfl, rfl, rfl, rfl, rfl⟩
  · simp [setting, withSet, grouped, State.set?, hx]
  · simp [setting, withSet, grouped, State.group?, hg]

/-- A set descriptor at 0x2000 for group slot 5: one range of one granule at 0x10000, one listed object, one listed queue. -/
def setDesc (k : Nat) : Bytes :=
  toLe 8 99 ++ [5, BitVec.ofNat 8 k, 1, 1, 1, 0] ++ toLe 2 1 ++ toLe 2 0 ++ toLe 2 0 ++ toLe 4 0 ++ toLe 8 65536 ++ toLe 8 65536 ++
    toLe 8 0 ++ List.replicate 32 0x77 ++ toLe 8 0x3000 ++ toLe 8 0x4000 ++ toLe 8 0x5000 ++ toLe 4 0 ++ toLe 4 0 ++
    toLe 8 0x100000 ++ toLe 8 131072 ++ toLe 8 0x140000 ++ toLe 8 131072 ++ toLe 8 0x180000 ++ toLe 8 0 ++
    toLe 8 0x400000 ++ toLe 8 0x4000000 ++ toLe 4 0x400003E8 ++ toLe 4 0x400003E8 ++ toLe 4 0x400003E8 ++ toLe 4 0x400003E8 ++
    zeros 64

/-- Entries of the page table that map cabinet addresses from 4 MiB to 68 MiB to the first page of GDDR7. -/
def moreTables : List Host.Cell :=
  [(0x10000012010, 0x0F), (0x10000012015, 1), (0x10000012018, 0x0F), (0x1000001201D, 1), (0x10000012020, 0x0F),
   (0x10000012025, 1), (0x10000012028, 0x0F), (0x1000001202D, 1), (0x10000012030, 0x0F), (0x10000012035, 1),
   (0x10000012038, 0x0F), (0x1000001203D, 1), (0x10000012040, 0x0F), (0x10000012045, 1), (0x10000012048, 0x0F),
   (0x1000001204D, 1)] ++
  [(0x10000012050, 0x0F), (0x10000012055, 1), (0x10000012058, 0x0F), (0x1000001205D, 1), (0x10000012060, 0x0F),
   (0x10000012065, 1), (0x10000012068, 0x0F), (0x1000001206D, 1), (0x10000012070, 0x0F), (0x10000012075, 1),
   (0x10000012078, 0x0F), (0x1000001207D, 1), (0x10000012080, 0x0F), (0x10000012085, 1), (0x10000012088, 0x0F),
   (0x1000001208D, 1)] ++
  [(0x10000012090, 0x0F), (0x10000012095, 1), (0x10000012098, 0x0F), (0x1000001209D, 1), (0x100000120A0, 0x0F),
   (0x100000120A5, 1), (0x100000120A8, 0x0F), (0x100000120AD, 1), (0x100000120B0, 0x0F), (0x100000120B5, 1),
   (0x100000120B8, 0x0F), (0x100000120BD, 1), (0x100000120C0, 0x0F), (0x100000120C5, 1), (0x100000120C8, 0x0F),
   (0x100000120CD, 1)] ++
  [(0x100000120D0, 0x0F), (0x100000120D5, 1), (0x100000120D8, 0x0F), (0x100000120DD, 1), (0x100000120E0, 0x0F),
   (0x100000120E5, 1), (0x100000120E8, 0x0F), (0x100000120ED, 1), (0x100000120F0, 0x0F), (0x100000120F5, 1),
   (0x100000120F8, 0x0F), (0x100000120FD, 1), (0x10000012100, 0x0F), (0x10000012105, 1), (0x10000012108, 0x0F),
   (0x1000001210D, 1)]

/-- A state in which a SNAP_ATTACH runs. -/
def attaching (k : Nat) : State :=
  let s := grouped group4 (moving 0x3001 (toLe 8 0x2000)
    [(0x2000, setDesc k), (0x3000, toLe 8 0x10000 ++ toLe 8 65536 ++ zeros 16), (0x4000, toLe 4 0x400003E8),
     (0x5000, toLe 4 (queueHandle 0 5))])
  { s with
    mem := tables ++ moreTables ++ s.mem.drop tables.length
    contract := { s.contract with syncs := [{ (default : SyncObj) with index := 1000 }] } }

/-- A run every address of which translates into GDDR7 lies in a tier. -/
theorem inTiers_of {s : State} {cab a n : Nat}
    (h : ∀ x, a ≤ x → x < a + n → ∃ d, s.translate cab x .write = some d ∧ s.inGddr d = true) : s.inTiers cab (a, n) = true := by
  unfold State.inTiers
  rw [List.all_eq_true]
  intro q hq
  simp only [piecesOf, granules64k, List.mem_map] at hq
  obtain ⟨g, hg, rfl⟩ := hq
  split at hg
  · cases hg
  · simp only [List.mem_map, List.mem_range] at hg
    obtain ⟨i, hi, rfl⟩ := hg
    obtain ⟨d, hd, hin⟩ := h (max a ((a / 65536 + i) * 65536)) (by omega) (by omega)
    simp only [hd, hin, Bool.true_or]

theorem entries_open : ((List.range 32).all fun i =>
    (attaching 0).tableEntry 0x10000012000 4096 (i + 2) == some 0x1000000000F) = true := by decide +kernel

theorem tables_open : (attaching 0).tableEntry ((attaching 0).ent 0 0x4003 3) 4096 0 = some 0x10000011001 ∧
    (attaching 0).tableEntry 0x10000011000 4096 0 = some 0x10000012001 ∧
    (attaching 0).pageAllowed 0x10000000000 2097152 = true ∧ (attaching 0).gddrBytes = 0x2000000000 := by decide +kernel

theorem reserve_leaf {x : Nat} (h : 0x400000 ≤ x) (h2 : x < 0x4400000) :
    (attaching 0).leaf 0 x = some (0x1000000000F, 0x10000000000, 2097152) := by
  obtain ⟨h0, h1, -, -⟩ := tables_open
  have he := List.all_eq_true.mp entries_open (x / 2097152 - 2) (by rw [List.mem_range]; omega)
  have b0 : bits x 47 39 = 0 := by simp only [bits]; omega
  have b1 : bits x 38 30 = 0 := by simp only [bits]; omega
  have b2 : bits x 29 21 = x / 2097152 - 2 + 2 := by simp only [bits]; omega
  unfold State.leaf
  rw [if_pos (by omega), b0, b1, b2, h0]
  simp only [show bit 0x10000011001 1 = false by decide, show entryAddr 0x10000011001 = 0x10000011000 by decide, h1,
    show bit 0x10000012001 1 = false by decide, show entryAddr 0x10000012001 = 0x10000012000 by decide, eq_of_beq he]
  rfl

theorem reserve_inTiers : (attaching 0).inTiers 0 (0x400000, 0x4000000) = true := by
  apply inTiers_of
  intro x hx hx2
  refine ⟨0x10000000000 + x % 2097152, ?_, ?_⟩
  · unfold State.translate
    rw [reserve_leaf hx hx2]
    simp only [tables_open.2.2.1]
    rfl
  · unfold State.inGddr
    rw [tables_open.2.2.2]
    have : x % 2097152 < 2097152 := Nat.mod_lt _ (by decide)
    simp [within, gddrBase]
    exact decide_eq_true (by omega)

/-- The tiers of the state that attaches, its reserve's place known. -/
def knownTiers (p : Nat × Nat) : Bool := p == (0x400000, 0x4000000) || (attaching 0).inTiers 0 p

theorem tiers_known : (attaching 0).inTiers 0 = knownTiers := by
  funext p
  unfold knownTiers
  by_cases h : p = (0x400000, 0x4000000)
  · subst h; simp [reserve_inTiers]
  · simp [h]

/-- The set that the descriptor describes. -/
def attachedSet : SnapSet :=
  newSet (setDesc 0) (started (record 0x3001 (toLe 8 0x2000)))
    [{ (default : SnapRange) with base := 0x10000, len := 65536 }] [0x400003E8] [queueHandle 0 5] 0

theorem attaching_describes :
    (match (attaching 0).describedSet (started (record 0x3001 (toLe 8 0x2000))) ((attaching 0).inTiers 0) with
      | .ok x => x == attachedSet
      | .error _ => false) = true := by
  rw [tiers_known]
  decide +kernel

theorem attaching_described : (attaching 0).describedSet (started (record 0x3001 (toLe 8 0x2000))) ((attaching 0).inTiers 0) =
    .ok attachedSet := by
  have h := attaching_describes
  split at h
  · next x hx => rw [hx, eq_of_beq h]
  · cases h

theorem attaching_picks : pickFree (attaching 0).freeValue ((attaching 0).trust.slots.map (·.slot)) 4160 65536 =
    some (4160 + (attaching 0).freeValue % 61376) := by
  rw [show (attaching 0).trust.slots.map (·.slot) = [] from rfl]
  have h : 4160 + (attaching 0).freeValue % 61376 < 65536 := by omega
  simp [pickFree, lowestFree, h]

theorem attaching_attaches : ∃ t : State,
    (attaching 0).attachSet (started (record 0x3001 (toLe 8 0x2000))) = .ok (t, 65536) ∧
    t.snap.sets.all (fun x => x.gens == [default, default]) = true := by
  unfold State.attachSet
  rw [show (started (record 0x3001 (toLe 8 0x2000))).cabinet = 0 from rfl, attaching_described]
  simp only [bind, Except.bind]
  rw [attaching_picks]
  exact ⟨_, rfl, rfl⟩

theorem witness_snap_attach : ∃ t,
    Running (attaching 0) 7 0x3001 (started (record 0x3001 (toLe 8 0x2000))) { adminQueue with engine := 0 } ∧
    (attaching 0).attachSet (started (record 0x3001 (toLe 8 0x2000))) = .ok (t, 65536) ∧
    ((t.finish 7 stOk 65536 (snapArea {} 0)).putCab 0 0x2030 (zeros 32)).aheadOfCopy = none := by
  obtain ⟨t, ht, hs⟩ := attaching_attaches
  refine ⟨t, ⟨rfl, by simp only [isCommand]; rfl, rfl, rfl, rfl, rfl⟩, ht, ?_⟩
  apply State.aheadOfCopy_copied
  apply State.putCab_copied
  intro x hx g hg
  have h := eq_of_beq (List.all_eq_true.mp hs x hx)
  rw [h] at hg
  simp only [List.mem_cons, List.not_mem_nil, or_false, or_self] at hg
  rw [hg]; decide

theorem witness_snap_attach_fails :
    (match (setting 0x3001 (toLe 8 0x2001) [] snapSet5 group4).attachSet (started (record 0x3001 (toLe 8 0x2001))) with
      | .ok _ => false
      | .error e => e.status == stBadAlignment && e.bad.isNone && e.outside.isNone &&
          ((setting 0x3001 (toLe 8 0x2001) [] snapSet5 group4).finishErr 7 e).aheadOfCopy.isNone) = true := by decide +kernel

theorem witness_snap_detach :
    OnSet (setting 0x3002 [5] [] snapSet5 group4) 7 0x3002 5 (started (record 0x3002 [5])) { adminQueue with engine := 0 }
      group4 snapSet5 ∧ reservedErr (record 0x3002 [5]) [(0, 1)] = none ∧ arg (record 0x3002 [5]) 0 1 = 5 ∧
    (leaving group4).set? 5 = none :=
  ⟨onset_setting _ _ _ _ _ (by decide) rfl rfl rfl rfl, by decide, by decide, rfl⟩

/-- The arguments of a SNAP_CUT of slot 5 at step 8. -/
def cutArgs : Bytes := [5] ++ zeros 15 ++ toLe 8 8

/-- A set whose newest generation, of step 4, lies in buffer 0, and whose other buffer is held too. -/
def twoHeld (acked : Bool) : SnapSet :=
  { snapSet5 with gens := [{ (default : Generation) with state := 2, step := 4, copied := [0, 1] },
      { (default : Generation) with state := 2, step := 3, copied := [0, 1], mirrorAcked := acked }] }

theorem witness_snap_cut :
    OnSet (setting 0x3010 cutArgs [] (twoHeld true) group4) 7 0x3010 5 (started (record 0x3010 cutArgs))
      { adminQueue with engine := 0 } group4 (twoHeld true) ∧ reservedErr (record 0x3010 cutArgs) [(0, 1), (16, 8)] = none ∧
    arg (record 0x3010 cutArgs) 0 1 = 5 ∧ arg (record 0x3010 cutArgs) 16 8 = 8 ∧ (twoHeld true).nextBuffer = 1 ∧
    ((twoHeld true).gen 0).step < 8 ∧ ((twoHeld false).gen 1).mirrorAcked = false ∧ ((twoHeld false).gen 1).isHeld = true ∧
    (∀ d ∈ (setting 0x3010 cutArgs [] (twoHeld true) group4).contract.ctxs, 7 ≤ d.id) ∧
    (twoHeld true).gens.length = 2 ∧ 65536 ≤ (twoHeld true).imageBytes :=
  ⟨onset_setting _ _ _ _ _ (by decide) rfl rfl rfl rfl, by decide, by decide, by decide, by decide, by decide, by decide, by decide,
    by decide, by decide, by decide⟩

/-- The arguments of a SNAP_ROLLBACK of slot 5. -/
def rollArgs (scope region : Nat) : Bytes := [5, BitVec.ofNat 8 scope, 0, 0] ++ toLe 4 region

theorem witness_snap_rollback :
    OnSet (setting 0x3011 (rollArgs 0 9) [] (twoHeld true) group4) 7 0x3011 5 (started (record 0x3011 (rollArgs 0 9)))
      { adminQueue with engine := 0 } group4 (twoHeld true) ∧
    reservedErr (record 0x3011 (rollArgs 0 9)) [(0, 2), (4, 4)] = none ∧ (twoHeld true).heldBuffers = [0, 1] ∧
    arg (record 0x3011 (rollArgs 0 9)) 4 4 = 9 ∧ arg (record 0x3011 (rollArgs 1 9)) 1 1 = 1 ∧ snapSet5.heldBuffers = [] ∧
    holds (do
      let s := setting 0x3011 (rollArgs 0 9) [] (twoHeld true) group4
      let t ← s.copyBack s (twoHeld true) 0 ((rangeGranules (fun e => decide (9 = 0xFFFFFFFF) || decide (e.regionId = 9)) 0
        (twoHeld true).ranges).filter ((twoHeld true).gen 0).dirty.contains)
      pure t.aheadOfCopy.isNone) = true ∧
    ({ group4 with self := 1 } : Group).actingSteward = some 0 :=
  ⟨onset_setting _ _ _ _ _ (by decide) rfl rfl rfl rfl, by decide, by decide, by decide, by decide, by decide, by decide +kernel,
    by decide⟩

/-- A group whose member 1 this device is, with a connection toward the acting steward. -/
def ward4 : Group := { group4 with self := 1 }

/-- The state of a set at member 1, connected with member 0. -/
def atWard (x : SnapSet) (s : State) : State :=
  let t := withSet x ward4 s
  { t with zt := { t.zt with conns := [{ zconn with index := ward4.conn 0 }, { zconn with index := ward4.conn 2 }] } }

theorem atWard_idle (x : SnapSet) (s : State) : ward4.idleOn (atWard x s) := by
  intro m k h
  have := List.mem_of_find?_eq_some h
  simp [atWard, withSet, grouped] at this
  rcases this with rfl | rfl <;> exact ⟨rfl, by decide⟩

theorem witness_ward :
    (atWard snapSet5 (moving 0x3011 (rollArgs 1 9) [])).conn? (ward4.conn 0) = some { zconn with index := ward4.conn 0 } ∧
    (atWard snapSet5 (moving 0x3011 (rollArgs 1 9) [])).conn? (ward4.conn 2) = some { zconn with index := ward4.conn 2 } ∧
    ward4.idleOn (atWard snapSet5 (moving 0x3011 (rollArgs 1 9) [])) ∧ ward4.actingSteward = some 0 ∧ ward4.self = 1 ∧
    ward4.buddy 1 = some 2 :=
  ⟨by decide +kernel, by decide +kernel, atWard_idle _ _, by decide, rfl, by decide⟩

/-- The arguments of a SNAP_RESTORE of slot 5. -/
def restoreArgs : Bytes := toLe 8 0x2000 ++ [5]

/-- A restore block: an old pool of four ranks and two slots through connection 700. -/
def restoreBlk (conn : Nat) : Bytes :=
  toLe 4 4 ++ toLe 2 2 ++ [4, 0] ++ toLe 8 0x100000 ++ toLe 8 0 ++ toLe 4 conn ++ zeros 36

/-- A state in which a SNAP_RESTORE runs, its pool connection in a state. -/
def restoring (st : Nat) : State :=
  let s := atWard snapSet5 (moving 0x3020 restoreArgs [(0x2000, restoreBlk 700)])
  { s with zt := { s.zt with conns := s.zt.conns ++ [{ zconn with index := 700, state := st }] } }

theorem witness_snap_restore :
    reservedErr (record 0x3020 restoreArgs) [(0, 9), (16, 8)] = none ∧ arg (record 0x3020 restoreArgs) 8 1 = 5 ∧
    arg (record 0x3020 restoreArgs) 0 8 = 0x2000 ∧
    ((restoring 3).readCab 0 0x2000 64).toOption = some (restoreBlk 700) ∧ restoreBlockBad (restoreBlk 700) = false ∧
    restoreBlockBad (toLe 8 (2 ^ 56) ++ zeros 56) = true ∧ (restoring 3).connOf? 0 700 = some 3 ∧
    (restoring 2).connOf? 0 700 = some 2 ∧ ward4.rankOf ward4.self = some 1 ∧ (restoring 3).aheadOfCopy = none ∧
    (restoring 3).set? 5 = some snapSet5 := by
  refine ⟨by decide, by decide, by decide, by decide +kernel, by decide, by decide, by decide +kernel, by decide +kernel,
    by decide, by decide +kernel, by decide +kernel⟩

/-- A set whose generation in buffer 0 lacks granules. -/
def copying5 (copied : List Nat) : SnapSet :=
  { snapSet5 with gens := [{ (default : Generation) with state := 1, step := 4, copied := copied }, default]
                  stalls := [{ ctx := some 7, granule := 1, starved := false }] }

theorem witness_granule_copy :
    (atWard (copying5 []) (moving 0x3010 [] [])).set? 5 = some (copying5 []) ∧
    ((atWard (copying5 []) (moving 0x3010 [] [])).readCab 0 ((copying5 []).sourceAddr 0 1) 65536).isOk = true ∧
    (atWard (copying5 []) (moving 0x3010 [] [])).snapTraffic = true ∧ (copying5 []).granules = [0, 1] ∧
    (atWard (copying5 []) (moving 0x3010 [] [])).group? 5 = some ward4 ∧
    (atWard (copying5 []) (moving 0x3010 [] [])).zt.conns.all (fun k => k.accepted.isEmpty) = true ∧
    ((copying5 [0]).gen 0).copied.contains 0 = true ∧ ((copying5 []).gen 0).lacks 1 = true ∧
    lowestFree (copying5 []).reserveUsed 0 2 = some 0 := by
  refine ⟨by decide +kernel, by decide +kernel, by decide +kernel, by decide, by decide +kernel, by decide +kernel, by decide,
    by decide, by decide⟩
/-- A snapshot message of member 0 to the member of slot 5. -/
def snapMsg (step arg : Nat) (body : Bytes) : SnapIn := { slot := 5, sender := 0, epoch := 1, step := step, arg := arg, body := body }

theorem witness_snap_heard (x : SnapSet) (hx : x.slot = 5) (step arg : Nat) (body : Bytes) :
    SnapHeard (atWard x (moving 0x3010 [] [])) (snapMsg step arg body) ward4 x := by
  refine ⟨rfl, ?_, rfl, ?_, ?_, ?_, rfl, ?_⟩
  · show (0 : Nat) ≠ 1; decide
  · show (0 : Nat) < 4; decide
  · show (0 : Nat) ≠ 1; decide
  · show (2 : Nat) ≤ 2; decide
  · show List.find? (fun y : SnapSet => y.slot == 5) [x] = some x
    simp [hx]

theorem witness_mirror : ward4.sendsImage snapSet5 0 = false ∧ ward4.rankOf 1 = some 1 ∧ ward4.rankOf 0 = some 0 ∧
    ward4.wardRank snapSet5.buddyStride 1 = 0 ∧ snapSet5.mirrorSlotFor 8 = 0 ∧ (List.replicate 65536 (7 : Byte)).length = 65536 ∧
    ({ group4 with self := 3 } : Group).sendsImage { snapSet5 with isSpare := true, state := 3 } 0 = true ∧
    snapSet5.granules.contains 1 = true ∧ snapSet5.rollbackSync = 0 ∧ (∃ k, (atWard snapSet5 (moving 0x3010 [] [])).conn? (ward4.conn 0) = some k) :=
  ⟨by decide, by decide, by decide, by decide, by decide, List.length_replicate, by decide, by decide, by decide,
    ⟨_, witness_ward.1⟩⟩

/-- A set that drains every step over four data fragments, its pool connection open. -/
def draining5 : SnapSet :=
  { snapSet5 with k := 4, drainEvery := 1, poolConn := 700, gens := [{ (default : Generation) with state := 2, step := 8 }, default] }

/-- The state of a draining set. -/
def drained5 (x : SnapSet) : State :=
  let s := atWard x (moving 0x3010 [] [])
  { s with zt := { s.zt with conns := s.zt.conns ++ [{ zconn with index := 700, state := 3 }] } }

theorem witness_drain : (drained5 draining5).poolOpen draining5 = true ∧ draining5.drainsStep 8 = true ∧
    classAllowed (drained5 draining5).effLevel 8 = true ∧ (draining5.gen 0).isHeld = true ∧ (draining5.gen 1).isHeld = false ∧
    (drained5 draining5).zt.conns.all (fun k => k.sendQueue.isEmpty && k.version != 1) = true ∧ snapSet5.k = 0 ∧
    fragSize draining5.imageMax draining5.k = 65536 ∧ (0 : Nat) % 256 < draining5.k + 2 := by
  refine ⟨by decide +kernel, by decide, by decide +kernel, by decide, by decide, by decide, by decide, by decide, by decide⟩

/-- A group whose steward is this device, in a round. -/
def voting4 : Group := { group4 with self := 0, round := some { (default : VoteRound) with start := 5, limit := 3 } }

theorem witness_round : voting4.actingSteward = some voting4.self ∧ (2 ∈ voting4.voters ∧ (2 : Nat) ≠ 0) ∧
    ward4.actingSteward = some 0 ∧ voting4.voters.contains 2 = true ∧
    (withSet snapSet5 voting4 { moving 0x3010 [] [] with now := 10 }).group? 5 = some voting4 ∧
    ({ group4 with self := 1, unrolled := [1] } : Group).unrolled.contains 1 = true ∧ ward4.op = none ∧ ward4.unrolled = [] ∧
    snapSet5.rollbackCtx = none ∧ snapSet5.restoreCtx = none := by
  refine ⟨by decide, by decide, by decide, by decide, by decide +kernel, by decide, by decide, by decide, by decide, by decide⟩

/-- A set whose newest generation can be rolled back to. -/
def rollable5 : SnapSet :=
  { snapSet5 with queueList := [0x80000009]
                  gens := [{ (default : Generation) with state := 2, step := 8, copied := [0, 1], marks := [(5, 3)] }, default] }

theorem witness_rollback : holds (do
      let t ← (atWard rollable5 (moving 0x3010 [] [])).copyBack (atWard rollable5 (moving 0x3010 [] [])) rollable5 0
        (rollable5.gen 0).dirty
      pure t.aheadOfCopy.isNone) = true ∧
    ((atWard rollable5 (moving 0x3010 [] [])).contract.ctxs.all fun c => rollable5.queueList.all fun h => handleIndex h != c.queue) =
      true ∧ ((atWard rollable5 (moving 0x3010 [] [])).queue? 5).isSome = true := by
  refine ⟨by decide +kernel, by decide, by decide⟩

/-- A set that holds a complete mirror of step 8, of one granule. -/
def mirrored5 : SnapSet :=
  { snapSet5 with imageBytes := 65536
                  mirrors := [{ (default : MirrorSlot) with step := 8, complete := true, total := 65536, granules := [0] }, default] }

theorem witness_pull : (mirrored5.mirrors.findIdx? fun y => y.complete && y.step == 8) = some 0 ∧
    ward4.buddy mirrored5.buddyStride ≠ some 0 ∧ (snapSet5.mirrors.findIdx? fun y => y.complete && y.step == 8) = none ∧
    ((atWard { mirrored5 with mirrorBase := 0x140000 } (moving 0x3010 [] [])).readCab 0 0x140000 65536).isOk = true := by
  refine ⟨by decide, by decide, by decide, by decide +kernel⟩

/-- A set in RESTORING whose SNAP_RESTORE waits. -/
def restoring5 : SnapSet := { snapSet5 with state := 4, restoreCtx := some 7 }

theorem witness_restore_step :
    (atWard restoring5 (moving 0x3020 restoreArgs [])).ctx? 7 = some (started (record 0x3020 restoreArgs)) ∧
    ({ group4 with self := 1, rankMap := [0, 2, 3] } : Group).rankOf 1 = none ∧
    (atWard restoring5 (moving 0x3020 restoreArgs [])).aheadOfCopy = none ∧ (2 : Nat) ∈ ({ group4 with self := 0 } : Group).rankMap ∧
    holds (do
      let t ← (atWard restoring5 (moving 0x3020 restoreArgs [])).fillSet { ward4 with rankMap := [0, 2, 3] } restoring5 7 8
      pure t.aheadOfCopy.isNone) = true := by
  refine ⟨rfl, by decide, by decide +kernel, by decide, by decide +kernel⟩
/-- A frame of 64 bytes of no known EtherType. -/
def plainFrame : Bytes := withFcs (zeros 60)

/-- A state that passes frames, with an action for all of them. -/
def passing (a : Action) : State :=
  let s := withQueues []
  { s with
    dict := [(0x100300, 3)]
    packet := { s.packet with
      committed := { s.packet.committed with ternary := [], ternaryDefault := a }
      subscribers := [{ (default : Subscriber) with id := 0, portMask := 0x3FFF, enabled := true, weight := 1, burst := 9216 }] }
    tiers := { s.tiers with pktBuffer := 268435456 } }

/-- An action that forwards to EP1, and one that delivers to the receive queue 9. -/
def forwardAct : Action := { (default : Action) with act := 2, tmPort := 1 }
def queueAct : Action := { (default : Action) with act := 1, consumer := 3, tmPort := 0xFF, queue := 0x80000009 }

theorem witness_frame : (passing default).framesPass = true ∧ plainFrame = withFcs (noFcs plainFrame) ∧
    zeros 64 ≠ withFcs (noFcs (zeros 64)) ∧ plainFrame.length ≤ (passing default).e 0x2900 3 ∧
    ((passing default).parse 0 plainFrame).bad = false ∧ ((passing default).parse 0 plainFrame).fragment = false ∧
    ((passing default).parse 0 plainFrame).first = false ∧
    (passing default).packet.committed.classify ((passing default).parse 0 plainFrame).bytes = default ∧
    (passing forwardAct).packet.committed.classify ((passing forwardAct).parse 0 plainFrame).bytes = forwardAct ∧
    (passing queueAct).packet.committed.classify ((passing queueAct).parse 0 plainFrame).bytes = queueAct ∧
    (passing forwardAct).portAllowed 0 1 = true ∧ (passing forwardAct).queueFull 1 0 0 64 = false := by
  refine ⟨by decide +kernel, by decide +kernel, by decide +kernel, by decide +kernel, by decide +kernel, by decide +kernel,
    by decide +kernel, by decide +kernel, by decide +kernel, by decide +kernel, by decide +kernel, by decide +kernel⟩

theorem witness_long_frame : { passing default with dict := [(0x100300, 3), (0x290003, 63)] }.e 0x2900 3 < plainFrame.length := by
  decide +kernel

/-- A state with one waiting fragment and one fragment entry, at a time. -/
def fragmented (now : Nat) : State :=
  let s := passing default
  { s with now := now, packet := { s.packet with fragWait := [default], frags := [default] } }

theorem witness_fragments : (fragmented 5).packet.fragWait[0]? = some default ∧ (fragmented 5).packet.frags[0]? = some default ∧
    5 < (fragmented 5).e 0x2902 0 ∧ (fragmented 1000000000).e 0x2902 0 ≤ 1000000000 ∧
    5 < (fragmented 5).e 0x2902 1 ∧ (fragmented 1000000000).e 0x2902 1 ≤ 1000000000 ∧ (fragmented 5).e 0x2902 2 = 0 := by
  decide

/-- A packet receive queue of 16 records at 0x10000 of its cabinet, in a state of its own. -/
def rxQueue (state tail : Nat) : Queue :=
  { (default : Queue) with index := 5, kind := 1, engine := 7, n := 4, cq := 6, state := state, ringBase := 0x10000, tail := tail }

/-- A packet waits for a receive queue, whose record posts 2,048 bytes at 0x20000. -/
def delivering (state tail : Nat) (frame : Bytes) : State :=
  let s := passing default
  { s with
    contract := { s.contract with queues := [rxQueue state tail, { (default : Queue) with index := 6, n := 4, state := 1, ringBase := 0x18000 }] }
    dict := [(0x100300, 3), (0x250000, 0x2000000000), (0x400101, 16), (0x400303, 0x10000010000)]
    mem := tables ++ cells 0x10020010000 (toLe 8 0x20000 ++ toLe 4 2048 ++ toLe 4 7)
    packet := { s.packet with rxWaiting := [(5, { (default : Frame) with bytes := frame })] } }

theorem witness_delivery : (delivering 1 1 plainFrame).queue? 5 = some (rxQueue 1 1) ∧
    (delivering 1 1 plainFrame).framesPass = true ∧
    (delivering 1 0 plainFrame).fetchHead (rxQueue 1 0) = .ok none ∧
    holds (do
      let s := delivering 1 1 plainFrame
      match ← s.fetchHead (rxQueue 1 1) with
      | none => pure false
      | some (r, _) => pure ((rxRecordErr r).isNone && field r 8 4 == 2048 && (s.canWrite 0 0x20000 60).isNone &&
          (s.landedPacket (rxQueue 1 1) r { (default : Frame) with bytes := plainFrame }).aheadOfCopy.isNone)) = true ∧
    (noFcs plainFrame).length = 60 ∧ 2048 < (noFcs (zeros 2100)).length := by
  refine ⟨rfl, by decide +kernel, by rfl, by decide +kernel, by decide +kernel, by decide +kernel⟩

/-- A transmit record: 60 bytes at 0x20000 of subscriber 0 to EP1. -/
def txRecord (len : Nat) : Bytes := toLe 8 0x20000 ++ toLe 4 len ++ toLe 4 7 ++ toLe 2 0 ++ [0, 0, 1] ++ zeros 43

/-- A state in which a transmit record has started. -/
def transmitting (len buffer : Nat) : State :=
  let s := mapped (running { adminQueue with engine := 8 } [cq] (txRecord len))
  { s with
    packet := { s.packet with
      subscribers := [{ (default : Subscriber) with id := 0, portMask := 0x3FFF, enabled := true, weight := 1, burst := 9216 }] }
    tiers := { s.tiers with pktBuffer := buffer } }

theorem witness_transmit : (transmitting 60 268435456).ctx? 7 = some (started (txRecord 60)) ∧
    (transmitting 60 0).ctxEngine (started (txRecord 60)) = 8 ∧ (transmitting 60 0).held (started (txRecord 60)) = false ∧
    (transmitting 60 0).queuedFrame 7 = false ∧ (transmitting 60 268435456).txRecordErr 0 (txRecord 60) = none ∧
    ((transmitting 59 0).txRecordErr 0 (txRecord 59)).isSome = true ∧
    holds (do
      let b ← (transmitting 60 268435456).readCab 0 0x20000 60
      let n := ((transmitting 60 268435456).txFrame (txRecord 60) b).length
      pure (!(transmitting 60 268435456).queueFull 1 0 0 n && (transmitting 60 0).queueFull 1 0 0 n)) = true := by
  refine ⟨rfl, by decide, by decide +kernel, by decide, by decide +kernel, by decide +kernel, by decide +kernel⟩

/-- A state with one frame queued for a port. -/
def queuedFor (port : Nat) : State :=
  let s := passing default
  { s with packet := { s.packet with
      queues := [{ port := port, subscriber := 0, service := 0, deficit := 0, credited := false,
                   frames := [{ (default : Frame) with bytes := plainFrame, fromCtx := some 7 }] }] } }

theorem witness_dequeue : ((queuedFor 1).nextToSend 1).any (fun p => p.1.frames.length == 1) = true ∧
    ((queuedFor 13).nextToSend 13).any (fun p => p.1.frames.length == 1) = true ∧
    (queuedFor 1).framesPass = true ∧ (transmitting 60 0).ctx? 7 = some (started (txRecord 60)) := by
  refine ⟨by decide +kernel, by decide +kernel, by decide +kernel, rfl⟩

/-- A shaper on the calendar: 552 bytes short at 2 Gb/s. -/
def shaper0 : Shaper :=
  { port := 0, subscriber := 0, service := none, tokens := -4416800000000, lastRefill := 63, rate := 2000000000, burst := 16384
    slotAt := some 2272, coarse := false, eligibleAt := 2272 }

/-- A state with one shaper at a time. -/
def shaping (now : Nat) : State :=
  let s := passing default
  { s with now := now, packet := { s.packet with
      shapers := [shaper0], subscribers := [{ (default : Subscriber) with id := 0, rate := 2000000000, burst := 16384 }] } }

theorem witness_calendar : (shaping 2272).shaperRate 0 none = (2000000000, 16384) ∧
    0 < shaper0.tokens + ((shaper0.rate * (2272 - shaper0.lastRefill) : Nat) : Int) ∧ (2271 < 2272) := by decide
/-- A state with a rule batch or a record batch of one record at 0x20000, ready for an act of the manager. -/
def batched (idx n : Nat) (rec : Bytes) (st : Nat) : State :=
  let s := passing default
  { s with
    dict := [(0x100300, 3), (0x250000, 0x2000000000), (0x290101, 0x20000), (0x290102, n), (0x290700, 0x20000), (0x290701, n),
      (0x400101, 16), (0x400303, 0x10000010000)] ++ (if st = 0 then [] else [(0x290107, st)]) ++
      (if idx = 0 then [] else [(0x400105, 64)])
    mem := tables ++ cells 0x10020020000 rec
    packet := { s.packet with shadow := { s.packet.shadow with masks := List.replicate 16 (zeros 64) } } }

theorem granted_batched (sub n : Nat) (rec : Bytes) (st : Nat) (h : sub ∈ [3, 4, 5]) (idx : Nat) (hi : idx = 0 ∨ idx = 1)
    (hs : st = 0 ∨ st = 1 ∨ st = 2) (hn : n = 1) :
    Granted (batched idx n rec st) (mailbox sub [1]) 0x2901 sub ∧ Granted (batched idx n rec st) (mailbox 2 [1]) 0x2907 2 := by
  subst hn
  simp only [List.mem_cons, List.not_mem_nil, or_false] at h
  rcases h with rfl | rfl | rfl <;> rcases hi with rfl | rfl <;> rcases hs with rfl | rfl | rfl <;>
    exact ⟨⟨by rfl, (by show (0 : Nat) ≠ 1; decide), by rfl, by rfl⟩, ⟨by rfl, (by show (0 : Nat) ≠ 1; decide), by rfl, by rfl⟩⟩

/-- A rule record that clears ternary entry 3, and one of a reserved OP. -/
def clearRule : Bytes := [4, 0, 3, 0] ++ zeros 156
def badRule : Bytes := [9] ++ zeros 159

theorem witness_stage : holds (do
      let s := batched 0 1 clearRule 0
      let b ← s.readCab 0 (s.e 0x2901 1) (160 * s.e 0x2901 2)
      match s.applyRules s.packet.shadow 0 (chunksOf 160 (s.e 0x2901 2) b) with
      | .ok _ => pure true
      | .error _ => pure false) = true ∧
    holds (do
      let s := batched 0 1 badRule 0
      let b ← s.readCab 0 (s.e 0x2901 1) (160 * s.e 0x2901 2)
      match s.applyRules s.packet.shadow 0 (chunksOf 160 (s.e 0x2901 2) b) with
      | .ok _ => pure false
      | .error e => pure (e == (0, 1))) = true ∧
    (batched 0 1 clearRule 2).e 0x2901 7 = 2 ∧ (batched 0 1 clearRule 0).e 0x2901 7 = 0 := by
  refine ⟨by decide +kernel, by decide +kernel, by decide +kernel, by decide +kernel⟩

/-- A subscriber record: subscriber 7 of cabinet 0, on EP0, and one with WEIGHT 0. -/
def subRecord (weight : Nat) : Bytes :=
  [1, 0] ++ toLe 2 7 ++ toLe 2 0 ++ toLe 2 1 ++ [1, BitVec.ofNat 8 weight, 20, 0] ++ zeros 4 ++ toLe 8 2000000000 ++ toLe 4 16384 ++
    zeros 100

theorem witness_tm_apply : holds (do
      let s := batched 1 1 (subRecord 1) 0
      let b ← s.readCab 0 (s.e 0x2907 0) (128 * s.e 0x2907 1)
      match s.applyTms 0 (chunksOf 128 (s.e 0x2907 1) b) with
      | .ok t => pure (t.subscriber? 7).isSome
      | .error _ => pure false) = true ∧
    holds (do
      let s := batched 1 1 (subRecord 0) 0
      let b ← s.readCab 0 (s.e 0x2907 0) (128 * s.e 0x2907 1)
      match s.applyTms 0 (chunksOf 128 (s.e 0x2907 1) b) with
      | .ok _ => pure false
      | .error e => pure (e == (0, 2))) = true ∧
    (batched 1 1 (subRecord 1) 0).subscribersOf 0 < (batched 1 1 (subRecord 1) 0).share 0 5 ∧
    (match parseSubscriber (subRecord 1) with
      | .ok x => x.enabled && x.cabinet == 0
      | .error _ => false) = true := by
  refine ⟨by decide +kernel, by decide +kernel, by decide +kernel, by decide +kernel⟩
/-- A state with VF 2 enabled, its function in a form of its own. -/
def hosted (f : Function) : State :=
  let s := withQueues []
  { s with
    dict := [(0x100300, 3)]
    ports := { s.ports with vfEnable := true, numVfs := 4, functions := [f, { (default : Function) with cabinet := 0 }] } }

/-- VF 2. -/
def vf2 : Function := { (default : Function) with cabinet := 2 }

theorem witness_config : (hosted vf2).configTaken 2 = true ∧ (hosted vf2).configTaken 9 = false ∧ (hosted vf2).configTaken 0 = true ∧
    ((hosted vf2).fn 2).bme = bit 2 2 ∧ ((hosted vf2).fn 0).mse = false ∧ bits 0x800 13 8 = 8 ∧
    ((hosted { vf2 with bme := true }).fn 2).bme = true ∧ (hosted vf2).ports.requests = [] ∧
    ({ hosted vf2 with dict := [(0x100300, 3), (0x2400402, 3)] } : State).leaseFenced 2 = true := by decide +kernel

theorem witness_flr : ({ hosted vf2 with dict := [(0x100300, 3), (0x2E0500, 2)] } : State).e 0x2E05 0 ≠ 0 ∧
    ({ hosted vf2 with dict := [(0x100300, 3), (0x2E0500, 2)] } : State).configTaken 2 = true ∧ (hosted vf2).e 0x2E05 0 = 0 ∧
    ((hosted { vf2 with flr := some 5 }).fn 2).flr.isSome = true ∧ ((hosted { vf2 with flr := some 5 }).fn 2).flrDue = false ∧
    ((hosted vf2).fn 2).flr = none := by decide +kernel

theorem witness_block : (hosted vf2).bar0Drops 2 = false ∧ (hosted vf2).fnEnabled 2 = true ∧ accessForm 2 0x11002 4 = false ∧
    (blockLayout 2).2.1 = 0x11000 ∧ ((hosted vf2).fn 2).evStatus = 0 ∧ ((hosted { vf2 with reqLen := 16 }).fn 2).reqLen = 16 ∧
    ((hosted vf2).fn 2).reqLen = 0 ∧ ((hosted vf2).fn 2).go = false ∧
    (running adminQueue [cq] []).contract.queues.find? (fun q => q.cabinet == 0 && q.page == adminQueue.page) = some adminQueue := by
  decide +kernel

/-- A state with GDDR7 behind the aperture. -/
def apertured : State := { hosted vf2 with dict := [(0x100300, 3), (0x250000, 0x2000000000)] }

theorem witness_aperture : apertured.inAperture 0x100 16 = true ∧ apertured.inGddr (apertured.apertureAddr 0x100) = true ∧
    apertured.inGddr (apertured.apertureAddr 0x100 + 16 - 1) = true ∧ apertured.badUnit (apertured.apertureAddr 0x100) 16 = none ∧
    16 ≤ apertured.ports.maxPayload ∧ ({ hosted vf2 with dict := [(0x250000, 0)] } : State).inGddr (0x10000000100 + 16 - 1) = false ∧ apertured.sound ∧
    (apertured.store (apertured.apertureAddr 0x100) [1, 2]).aheadOfCopy = none ∧ apertured.inAperture (2 ^ 40) 2 = false := by
  decide +kernel

theorem witness_links : (∃ l ∈ ({ hosted vf2 with ports := { (hosted vf2).ports with linkState := [(0, 7, 16)] } } : State).ports.linkState,
      l.1 = 0) ∧ (hosted vf2).linkExists 0 = true ∧ (hosted vf2).linkExists 3 = true ∧
    ({ hosted vf2 with pins := { (hosted vf2).pins with perstN := [true, true], apPerstN := List.replicate 8 true } } : State).mayTrain 0
      = true ∧
    ({ hosted vf2 with pins := { (hosted vf2).pins with perstN := [true, true], apPerstN := List.replicate 8 true } } : State).mayTrain 3
      = true ∧
    (hosted vf2).linkTarget 0 = (7, 16) ∧ (hosted vf2).linkTarget 3 = (7, 16) := by
  refine ⟨⟨(0, 7, 16), by decide, rfl⟩, ?_⟩
  decide +kernel
/-- A COPY that waits for a read of the host: 4 bytes for 0x1000, requested at 0. -/
def readingHost (left now : Nat) : State :=
  let s := moving 1 copyArgs []
  { s with
    now := now
    ports := { s.ports with
      requests := [{ tag := 5, link := 0, ctx := some 7, cabinet := 0, addr := 0x100, source := 0x8000, len := 4, left := left
                     dest := 0x1000, issuedAt := 0, timeout := 20000000 }] } }

theorem witness_dma_completion :
    (readingHost 4 9).request? 0 5 = (readingHost 4 9).ports.requests.head? ∧ (readingHost 4 9).request? 0 6 = none ∧
    (readingHost 4 9).linkExists 0 = true ∧ (readingHost 4 9).ctx? 7 = some (started (record 1 copyArgs)) ∧
    (started (record 1 copyArgs)).unread = [] ∧
    (((readingHost 4 9).ports.requests.headD default).fits 4 0 4) = true ∧
    (((readingHost 4 9).ports.requests.headD default).fits 4 0 2) = true ∧
    ((readingHost 4 9).reach 0 0x1000 4 .write).isOk = true ∧ ((readingHost 4 9).reach 0 0x1000 2 .write).isOk = true ∧
    ((readingHost 4 9).placePiece ((readingHost 4 9).ports.requests.headD default) 7 4 [1, 2, 3, 4]).aheadOfCopy = none ∧
    ((readingHost 4 9).placePiece ((readingHost 4 9).ports.requests.headD default) 7 4 [1, 2]).aheadOfCopy = none ∧
    (0 + 20000000 ≤ (readingHost 4 20000000).now) := by
  refine ⟨by decide +kernel, by decide +kernel, by decide, rfl, by decide, by decide, by decide, by decide +kernel, by decide +kernel,
    ?_, ?_, by decide⟩
  · apply State.aheadOfCopy_noSets; rfl
  · apply State.aheadOfCopy_noSets; rfl

/-- A state with one active window on AP0, of a kind, over cabinet 0's page at 0x1000, or its signal page. -/
def windowed (kind target : Nat) : State :=
  let s := moving 1 copyArgs []
  { s with dict := s.dict ++ [(0x2A4800, 0x4000000000 + 16 * 2 ^ 64 + kind * 2 ^ 72 + 7 * 2 ^ 80 + target * 2 ^ 128)] }

/-- The window's record. -/
def window0 (kind target : Nat) : PeerWin :=
  { base := 0x4000000000, log2Size := 16, kind := kind, rights := 7, peerPort := 0, cabinet := 0, target := target }

/-- A TLP at AP0. -/
def tlp (kind off : Nat) (data : Bytes) (len : Nat) : Tlp :=
  { port := 0, kind := kind, addr := 0x4000000000 + off, len := len, data := data, addrType := 0, ideStream := 0, ideOk := true, tag := 3
    poisoned := false }

theorem witness_tlp : (windowed 1 0x1000).windowOf 0 0x4000000008 = some (window0 1 0x1000) ∧
    (windowed 3 0).windowOf 0 0x4000000008 = some (window0 3 0) ∧ (windowed 3 0).windowOf 0 0 = none ∧
    (window0 1 0x1000).allows 0 = true ∧ (window0 1 0x1000).allows 1 = true ∧ (window0 1 0x1000).allows 2 = true ∧
    holds (do
      let ps ← (windowed 1 0x1000).reach 0 0x1008 8 .atomic
      let _ ← (windowed 1 0x1000).reach 0 0x1008 8 .write
      let _ ← (windowed 1 0x1000).reach 0 0x1008 8 .read
      pure (((windowed 1 0x1000).badPiece ps).isNone && ps.all fun p => ((windowed 1 0x1000).linkOf p.1).isNone)) = true ∧
    (windowed 1 0x1000).ideState 2 0 = 0 ∧ (windowed 1 0x1000).e 0x2A05 1 = 0 ∧
    ((windowed 1 0x1000).putCab 0 0x1008 (toLe 8 5)).aheadOfCopy = none := by
  refine ⟨by decide +kernel, by decide +kernel, by decide +kernel, by decide, by decide, by decide, by decide +kernel, by decide,
    by decide +kernel, ?_⟩
  apply State.aheadOfCopy_noSets; apply State.putCab_noSets; rfl

/-- A state with an IDE stream of a link in a state. -/
def streamed (st : Nat) : State :=
  let s := windowed 1 0x1000
  { s with dict := (0x100300, 3) :: s.dict, ports := { s.ports with ide := [{ link := 2, stream := 0, state := st }] } }

theorem witness_ide : (streamed 2).ideState (2 + 0) 0 = 2 ∧ (streamed 1).ideState 2 0 = 1 ∧ (streamed 0).ideState 2 0 = 0 ∧
    (streamed 0).linkExists 2 = true ∧ field ([2, 0, 0, 0] : Bytes) 3 1 ≤ 0 := by decide

theorem witness_window_gen :
    Granted (streamed 0) { mailbox 3 (toLe 2 1) with sub := 3 } 0x2A50 3 := by
  refine ⟨by rfl, ?_, by rfl, by rfl⟩
  show (0 : Nat) ≠ 1
  decide
/-- The admin queues of the controller of cabinet 0 in memory: one entry waits. -/
def adminSq : IoPair := { (default : IoPair) with qid := 0, base := 0x20000, size := 16, tail := 1, readyAt := some 0 }
def adminCq : IoPair :=
  { (default : IoPair) with qid := 0, isCq := true, base := 0x22000, size := 16, phase := true, irq := true }

/-- An enabled controller of cabinet 0 with I/O queues. -/
def nvme0 (ps : List IoPair) : NvmeCtrl :=
  { (default : NvmeCtrl) with enabled := true, granted := 4, admin := [adminSq, adminCq], pairs := ps, features := [0, 0, 3 * 65537, 0, 0] }

/-- An NVMe entry: its opcode, identifier 9, namespace 1, data at 0x30000, and its Dwords from 10 on. -/
def nvEntry (op : Nat) (dws : List Nat) : Bytes :=
  fit 64 (toLe 4 (op + 9 * 65536) ++ toLe 4 1 ++ zeros 16 ++ toLe 8 0x30000 ++ zeros 8 ++ dws.flatMap (toLe 4))

/-- A state with a controller and an entry at the head of its queue at 0x20000. -/
def nvmed (e : Bytes) (c : NvmeCtrl) : State :=
  let s := withQueues []
  { s with
    dict := [(0x100300, 3), (0x250000, 0x2000000000), (0x400101, 16), (0x400303, 0x10000010000)]
    mem := tables ++ cells 0x10020020000 e
    ports := { s.ports with functions := [{ (default : Function) with bme := true }] }
    storage := { s.storage with ctrls := [c] } }

/-- An I/O completion queue and the submission queue that completes into it. -/
def ioCq : IoPair := { (default : IoPair) with qid := 1, isCq := true, base := 0x26000, size := 16, phase := true }
def ioSq : IoPair := { (default : IoPair) with qid := 1, base := 0x20000, size := 16, tail := 1, cqid := 1, readyAt := some 0 }

theorem witness_admin_head : (∀ op ∈ [0x00, 0x01, 0x02, 0x04, 0x05, 0x06, 0x08, 0x09, 0x0A, 0x0C, 0x14],
      AtHead (nvmed (nvEntry op []) (nvme0 [])) 0 0 op (nvme0 []) adminSq (nvEntry op [])) ∧
    nvmeSupported true 0x7F = false ∧ (nvmed (nvEntry 0x7F []) (nvme0 [])).sqEntry 0 0 = some (nvme0 [], adminSq, nvEntry 0x7F []) ∧
    nvmeSupported false 0x7F = false ∧
    (nvmed (nvEntry 0x7F []) (nvme0 [ioCq, ioSq])).sqEntry 0 1 = some (nvme0 [ioCq, ioSq], ioSq, nvEntry 0x7F []) ∧
    (withQueues []).nvmeFetches 5 = false := by
  refine ⟨?_, ?_⟩
  · intro op h
    simp only [List.mem_cons, List.not_mem_nil, or_false] at h
    rcases h with rfl | rfl | rfl | rfl | rfl | rfl | rfl | rfl | rfl | rfl | rfl <;>
      exact ⟨by decide +kernel, by decide +kernel, by decide +kernel, by decide +kernel⟩
  · decide +kernel

theorem witness_posted : let w := (nvmed (nvEntry 0x08 []) (nvme0 [])).sqFetched 0 0
    ∃ c q p, w.ctrl? 0 = some c ∧ c.queue 0 false = some q ∧ c.queue q.cqid true = some p ∧ c.heldCqes = [] ∧ p.full = false ∧
      w.hostClosed 0 = false ∧ w.canWrite 0 (p.base + 16 * p.tail) 16 = none :=
  ⟨_, _, _, by rfl, by rfl, by rfl, by rfl, by rfl, by rfl, by decide +kernel⟩

/-- Creation commands: queue 1 of 16 entries, contiguous, completing into queue 1. -/
def createDws : List Nat := [0x000F0001, 0x00010001]

theorem witness_create : (nvme0 []).createError 0 (nvEntry 0x05 createDws) true = none ∧
    (nvme0 [ioCq]).createError 0 (nvEntry 0x01 createDws) false = none ∧
    (nvme0 []).createError 0 (nvEntry 0x01 createDws) false = some nvCqInvalid ∧ field (nvEntry 0x01 []) 40 2 = 0 ∧
    (nvme0 []).queueLimit true < field (nvEntry 0x01 [9]) 40 2 ∧ ((nvme0 [ioCq]).queue 1 true).isSome = true := by decide +kernel

theorem witness_delete : field (nvEntry 0x00 [1]) 40 2 = 1 ∧ ((nvme0 [ioCq, ioSq]).queue 1 false).isSome = true ∧
    ((nvme0 []).queue 1 false).isNone = true ∧ (∀ p ∈ (nvme0 [ioCq, ioSq]).admin, p.qid = 0) ∧
    (∃ p ∈ (nvme0 [ioCq, ioSq]).pairs, p.isCq = false ∧ p.cqid = 1) ∧
    (∀ p ∈ (nvme0 [ioCq]).pairs, p.isCq = true ∨ p.cqid ≠ 1) ∧ ((nvme0 [ioCq]).queue 1 true).isSome = true ∧
    AtHead (nvmed (nvEntry 0x00 [1]) (nvme0 [ioCq, ioSq])) 0 0 0x00 (nvme0 [ioCq, ioSq]) adminSq (nvEntry 0x00 [1]) := by
  refine ⟨by decide +kernel, by decide +kernel, by decide +kernel, by decide +kernel, by decide +kernel, by decide +kernel,
    by decide +kernel, by decide +kernel, by decide +kernel, by decide +kernel, by decide +kernel⟩

/-- A transfer of at most one page by an entry of cabinet 0 can be made, and meets no uncopied granule. -/
theorem transfers (e b : Bytes) (h : field e 24 8 = 0x30000) (hb : b.length ≤ 4096)
    (hc : ((nvmed e (nvme0 [])).sqFetched 0 0).canWrite 0 0x30000 b.length = none) :
    ∃ w, ((nvmed e (nvme0 [])).sqFetched 0 0).dataOut 0 e b = .ok w ∧
      ({ w with fresh := w.fresh + 1 }.nvmeEnd 0 0 e 0 0).aheadOfCopy = none := by
  refine ⟨((nvmed e (nvme0 [])).sqFetched 0 0).putCab 0 0x30000 b, ?_, ?_⟩
  · unfold State.dataOut
    rw [State.prpRuns_one _ _ _ _ (by rw [h]) (by rw [h]; simpa using hb), h]
    simp [State.prpWrite, hc]
  · apply State.nvmeEnd_copied
    have h0 : ((nvmed e (nvme0 [])).sqFetched 0 0).noneCopied := by intro x hx; exact absurd hx (by rintro ⟨⟩)
    exact State.putCab_copied 0 _ _ h0

theorem witness_log_page : field (nvEntry 0x02 [0x7F]) 40 1 ∉ [1, 2, 6] ∧ 
    (∃ b, (nvmed (nvEntry 0x02 []) (nvme0 [])).logPage (nvme0 []) 1 = some b ∧ b.length < field (nvEntry 0x02 [1, 0, 5000]) 48 8 ∧
      field (nvEntry 0x02 [1, 0, 4]) 48 8 ≤ b.length ∧ field (nvEntry 0x02 [1, 0, 4]) 48 8 % 4 = 0) ∧
    ∃ w, ((nvmed (nvEntry 0x02 [0x00030001, 0, 4]) (nvme0 [])).sqFetched 0 0).dataOut 0 (nvEntry 0x02 [0x00030001, 0, 4])
      (fit 16 ((fit 4096 []).drop 4)) = .ok w ∧
      ({ w with fresh := w.fresh + 1 }.nvmeEnd 0 0 (nvEntry 0x02 [0x00030001, 0, 4]) 0 0).aheadOfCopy = none := by
  have h1 : field (nvEntry 0x02 [1, 0, 5000]) 48 8 = 5000 := by decide +kernel
  have h2 : field (nvEntry 0x02 [1, 0, 4]) 48 8 = 4 := by decide +kernel
  have h3 : (fit 4096 (nvme0 []).errorLog.flatten).length = 4096 := fit_length _ _
  refine ⟨by decide +kernel, ⟨_, rfl, ?_, ?_, ?_⟩, ?_⟩
  · rw [h1, h3]; decide
  · rw [h2, h3]; decide
  · rw [h2]
  · exact transfers _ _ (by decide +kernel) (by rw [fit_length]; decide) (by rw [fit_length]; decide +kernel)

theorem witness_identify : 3 < field (nvEntry 0x06 [9]) 40 1 ∧ (nvmed (nvEntry 0x06 []) (nvme0 [])).ns? 0 1 = none ∧
    (∃ w, ((nvmed (nvEntry 0x06 [2]) (nvme0 [])).sqFetched 0 0).dataOut 0 (nvEntry 0x06 [2])
      ((nvmed (nvEntry 0x06 [2]) (nvme0 [])).identifyList 0 1) = .ok w ∧
      ({ w with fresh := w.fresh + 1 }.nvmeEnd 0 0 (nvEntry 0x06 [2]) 0 0).aheadOfCopy = none) ∧
    field (nvEntry 0x06 []) 24 8 % 4 = 0 ∧ 4096 ≤ 4096 - field (nvEntry 0x06 []) 24 8 % 4096 ∧
    (nvmed [] (nvme0 [])).canWrite 0 (field (nvEntry 0x06 []) 24 8) 4096 = none ∧
    ((nvmed [] (nvme0 [])).canWrite 0 0x40000000 4).isSome = true := by
  have hl : ((nvmed (nvEntry 0x06 [2]) (nvme0 [])).identifyList 0 1).length = 4096 := by
    exact fit_length _ _
  refine ⟨by decide +kernel, by decide +kernel, ?_, by decide +kernel, by decide +kernel, by decide +kernel, by decide +kernel⟩
  exact transfers _ _ (by decide +kernel) (Nat.le_of_eq hl) (by rw [hl]; decide +kernel)

theorem witness_features : featureIndex 0x7F = none ∧ featureIndex 6 = some 1 ∧ featureIndex 7 = some 2 ∧
    bit (field (nvEntry 0x09 [0x80000006]) 40 4) 31 = true ∧ bit (field (nvEntry 0x09 [6, 1]) 40 4) 31 = false ∧
    bit (field (nvEntry 0x09 [6, 1]) 44 4) 0 = true ∧ (nvmed [] (nvme0 [])).tiers.tierCacheGranted = 0 ∧
    (nvme0 [ioCq]).pairs ≠ [] ∧ (nvme0 []).features.length = 5 ∧ field (nvEntry 0x09 [7, 0x00020002]) 44 2 ≠ 0xFFFF ∧
    bits (field (nvEntry 0x0A [6]) 41 1) 2 0 = 0 := by decide +kernel

theorem witness_events : ({ nvme0 [] with events := [5] } : NvmeCtrl).events = 5 :: [] ∧
    4 ≤ ({ nvme0 [] with aers := [1, 2, 3, 4] } : NvmeCtrl).aers.length ∧ (nvme0 []).aers.length < 4 ∧ (nvme0 []).events = [] := by
  decide

theorem witness_self_test : ({ nvme0 [] with selfTest := 1 } : NvmeCtrl).selfTest ≠ 0 ∧ (nvme0 []).selfTest = 0 ∧
    bits (field (nvEntry 0x14 [1]) 40 1) 3 0 = 1 ∧ bits (field (nvEntry 0x14 [0xF]) 40 1) 3 0 = 0xF ∧
    bits (field (nvEntry 0x14 [3]) 40 1) 3 0 ∉ [1, 2, 0xF] ∧ (nvmed [] (nvme0 [])).faults.safe = false ∧
    (nvmed [] (nvme0 [])).ctrl? 0 = some (nvme0 []) := by decide +kernel

/-- A request of the mailbox of VF 2 that writes an entry of cabinet 2. -/
def tenant (sub : Nat) (value : Bytes) : ActReq := { mailbox sub value with transport := 4, source := 2, cabinet := 2 }

/-- A state with cabinet 2 assigned, and the controllers given. -/
def served2 (cs : List NvmeCtrl) : State :=
  let s := withQueues []
  { s with
    dict := [(0x100300, 3)]
    cabs := { s.cabs with cabs := [{ (default : Cabinet) with id := 2, state := 1 }] }
    storage := { s.storage with ctrls := cs } }

theorem witness_nvme_enable : Granted (served2 []) (tenant 2 [1]) 0x4005 2 ∧ 2 ≤ (served2 []).e 0x1003 0 ∧
    reqVal (tenant 2 [1]) = 1 ∧ ((served2 []).ctrl? 2).any (·.enabled) = false ∧
    Granted (served2 [{ nvme0 [] with cabinet := 2 }]) (tenant 2 [0]) 0x4005 2 ∧ reqVal (tenant 2 [0]) = 0 ∧
    ((served2 [{ nvme0 [] with cabinet := 2 }]).ctrl? 2).any (·.enabled) = true ∧
    Granted (served2 [{ nvme0 [] with cabinet := 2 }]) (tenant 3 [1]) 0x4005 3 ∧ reqVal (tenant 3 [1]) ≠ 0 ∧
    (nvme0 []).started = [] := by
  refine ⟨⟨by decide, by decide, by decide, by decide⟩, by decide, by decide, by decide,
    ⟨by decide, by decide, by decide, by decide⟩, by decide, by decide, ⟨by decide, by decide, by decide, by decide⟩, by decide,
    by decide⟩
/-- A namespace record for LBAs of 512 B: backing and flags; home at 256 MiB, a journal of 16 MiB at 0. -/
def nsRecord (op backing flags : Nat) : Bytes :=
  fit 384 (toLe 1 op ++ toLe 1 backing ++ toLe 1 9 ++ toLe 1 flags ++ zeros 4 ++ toLe 4 1 ++ toLe 4 3 ++ toLe 8 1048576 ++
    toLe 8 0x10000000 ++ zeros 8 ++ toLe 4 16777216)

/-- A namespace of a backing, in a state. -/
def ns1 (backing : Nat) : Namespace :=
  { (default : Namespace) with
    nsid := 1, record := nsRecord 1 backing 3, state := 2, up := true, atomicBytes := 65536, seq := 5, nextOp := 7, keySlot := 4160 }

/-- A state with a namespace and a controller, at a time. -/
def backed (n : Namespace) (c : NvmeCtrl) (now : Nat) : State :=
  let s := nvmed (nvEntry 2 [4]) c
  { s with now := now, storage := { s.storage with namespaces := [n] } }

/-- A batch of one record at 0x20000. -/
def nsBatch (r : Bytes) : State :=
  let s := backed (ns1 0) (nvme0 []) 0
  { s with
    dict := [(0x100300, 3), (0x250000, 0x2000000000), (0x2B0100, 0x20000), (0x2B0101, 1), (0x400101, 16), (0x400303, 0x10000010000)]
    mem := tables ++ cells 0x10020020000 r }

theorem witness_ns_apply : Granted (nsBatch (nsRecord 3 0 1)) (mailbox 2 [1]) 0x2B01 2 ∧
    holds (do
      let s := nsBatch (nsRecord 3 0 1)
      let bs ← s.readCab 0 (s.e 0x2B01 0) (384 * s.e 0x2B01 1)
      match s.applyNsAll 0 (chunksOf 384 (s.e 0x2B01 1) bs) with
      | .ok t => pure (t.storage.namespaces.all fun n => n.state != 4)
      | .error _ => pure false) = true ∧
    holds (do
      let s := nsBatch (nsRecord 9 0 1)
      let bs ← s.readCab 0 (s.e 0x2B01 0) (384 * s.e 0x2B01 1)
      match s.applyNsAll 0 (chunksOf 384 (s.e 0x2B01 1) bs) with
      | .ok _ => pure false
      | .error e => pure (e == (0, 2))) = true := by
  refine ⟨⟨by decide +kernel, by decide, by decide +kernel, by decide +kernel⟩, by decide +kernel, by decide +kernel⟩

/-- A state whose packet path has the subscriber 0 of cabinet 0. -/
def nsReady : State := passing default

theorem witness_ns_create : nsReady.nsRecordReason (nsRecord 1 0 3) = 0 ∧ field (nsRecord 1 0 3) 0 1 = 1 ∧
    nsReady.ns? 0 1 = none ∧ (backed (ns1 0) (nvme0 []) 0).ns? 0 1 = some (ns1 0) ∧ nsReady.storage.namespaces.length < 65536 ∧
    ∃ slot, pickFree nsReady.freeValue (nsReady.trust.slots.map (·.slot)) 4160 65536 = some slot := by
  refine ⟨by decide +kernel, by decide +kernel, by decide +kernel, by decide +kernel, by decide +kernel, ?_⟩
  cases h : pickFree nsReady.freeValue (nsReady.trust.slots.map (·.slot)) 4160 65536 with
  | some i => exact ⟨i, rfl⟩
  | none =>
    unfold pickFree at h
    split at h
    · cases h
    · exact absurd h (by decide +kernel)

/-- A journal record read back, and a namespace that attaches or is cut off. -/
def goodRec : JournalRec := { seqNo := 6, slba := 8, tagOk := true, data := [1, 2] }

theorem witness_connected : (replayed 5 [goodRec]) = [goodRec] ∧
    (backed { ns1 0 with up := false, state := 1 } (nvme0 []) 0).ns? 0 1 = some { ns1 0 with up := false, state := 1 } ∧
    (backed { ns1 0 with up := false, state := 3, ops := [{ (default : BackOp) with kind := 2 }] } (nvme0 []) 0).ns? 0 1 =
      some { ns1 0 with up := false, state := 3, ops := [{ (default : BackOp) with kind := 2 }] } ∧
    (∀ c, (backed (ns1 0) (nvme0 []) 0).ctrl? 0 = some c → c.started = []) := by
  refine ⟨by decide +kernel, by decide +kernel, by decide +kernel, ?_⟩
  intro c h
  have : c = nvme0 [] := by
    have h' : (backed (ns1 0) (nvme0 []) 0).ctrl? 0 = some (nvme0 []) := by decide +kernel
    rw [h'] at h; exact (Option.some.inj h).symm
  rw [this]; rfl

theorem witness_timers : (backed { ns1 0 with state := 3, up := false } (nvme0 []) 2000000000).ns? 0 1 =
      some { ns1 0 with state := 3, up := false } ∧
    max (ns1 0).lostAt (ns1 0).lastReconnect + 1000000000 ≤ 2000000000 ∧ field (ns1 0).record 1 1 = 0 ∧
    (ns1 0).lastKeepAlive + 5000000000 ≤ 6000000000 ∧ (ns1 0).superSeq < ({ ns1 0 with homeSeq := 4 } : Namespace).homeSeq ∧
    (ns1 0).lastSuper + 1000000 ≤ 2000000000 ∧ (∀ o ∈ (ns1 0).ops, o.kind ≠ 3) ∧ (ns1 0).homeSeq ≤ (ns1 0).superSeq := by
  decide +kernel

/-- A started command of queue 1, and its controller. -/
def ioCmd (held : Option Nat) : NvmeCmd :=
  { (default : NvmeCmd) with sqid := 1, cid := 9, bytes := nvEntry 2 [4], nsid := 1, heldSince := held, unitsLeft := 1 }
def nvmeBusy (held : Option Nat) : NvmeCtrl := { nvme0 [ioCq, ioSq] with started := [ioCmd held] }

theorem witness_hold : (backed { ns1 0 with state := 3, up := false } (nvmeBusy (some 0)) 40000000000).nvmeCmd? 0 1 9 =
      some (ioCmd (some 0)) ∧ 0 + (backed (ns1 0) (nvme0 []) 0).e 0x2B02 2 ≤ 40000000000 ∧
    0 < 0 + (backed (ns1 0) (nvme0 []) 0).e 0x2B02 2 := by decide +kernel

/-- An outstanding backing command of the started command. -/
def outOp (kind : Nat) : BackOp := { (default : BackOp) with id := 6, kind := kind, lba := 4, count := 1, cmd := some (1, 9) }

/-- A namespace with that command outstanding. -/
def waiting1 (backing : Nat) (o : BackOp) : State := backed { ns1 backing with ops := [o] } (nvmeBusy none) 0

theorem witness_answered (kind : Nat) (h : kind = 0 ∨ kind = 1 ∨ kind = 2 ∨ kind = 3) :
    Answered (waiting1 0 (outOp kind)) 0 1 6 { ns1 0 with ops := [outOp kind] } (outOp kind) ∧
    Answered (waiting1 1 (outOp kind)) 0 1 6 { ns1 1 with ops := [outOp kind] } (outOp kind) ∧
    (waiting1 0 (outOp kind)).ctrl? 0 = some (nvmeBusy none) ∧ (outOp kind).reading = false ∧
    (waiting1 0 (outOp kind)).storage.cache = [] ∧ (waiting1 0 (outOp kind)).tiers.tierCacheGranted = 0 ∧
    (ioCmd none).unitsLeft = 1 ∧ (ns1 0).journal = [] ∧ field (ns1 1).record 1 1 = 1 := by
  rcases h with rfl | rfl | rfl | rfl <;>
    exact ⟨⟨by decide, by decide +kernel, by decide, by decide, by decide, by decide⟩,
      ⟨by decide, by decide +kernel, by decide, by decide, by decide, by decide⟩,
      by decide +kernel, by decide, by decide, by decide, by decide, by decide, by decide +kernel⟩

theorem witness_read_back (data : Bytes) : ∃ w,
    ((waiting1 0 (outOp 0)).updNs 0 1 fun n => { n with ops := n.ops.filter fun x => x.id != 6 }).dataOut 0 (ioCmd none).bytes
      ((blocksOf (ns1 0).blockBytes 4 1 data).flatMap fun b => (ns1 0).unseal b.1 b.2) = .ok w := by
  have hl : ((blocksOf (ns1 0).blockBytes 4 1 data).flatMap fun b => (ns1 0).unseal b.1 b.2).length = 512 := by
    have hb : (ns1 0).blockBytes = 512 := by decide +kernel
    simp [blocksOf, Namespace.unseal, hb, fit_length]
  have hf : field (ioCmd none).bytes 24 8 = 0x30000 := by decide +kernel
  unfold State.dataOut
  rw [State.prpRuns_one _ _ _ _ (by rw [hf]) (by rw [hf, hl]; decide), hf, hl]
  have hc : ((waiting1 0 (outOp 0)).updNs 0 1 fun n => { n with ops := n.ops.filter fun x => x.id != 6 }).canWrite 0 0x30000 512 =
      none := by decide +kernel
  simp [State.prpWrite, hc]

theorem witness_journaled : ({ (default : JournalUse) with seqNo := 5, blocks := [(4, [1])] } : JournalUse).issued = false ∧
    ({ (default : JournalUse) with seqNo := 5, blocks := [(4, [1])] } : JournalUse).home = false := by decide

/-- A state whose cache holds a dirty block of LBA 4. -/
def dirtied (backing : Nat) : State :=
  let s := backed (ns1 backing) (nvme0 []) 0
  { s with
    tiers := { s.tiers with tierCacheGranted := 65536, tierCacheBase := 0x10001000000 }
    storage := { s.storage with
      cache := [{ (default : CacheLine) with nsid := 1, line := 0, slot := 0, valid := [4], dirty := [(4, 1)] }]
      cacheSeq := 1 } }

theorem witness_destage (b : Nat) (h : b = 0 ∨ b = 1) : (dirtied b).oldestDirty 0 1 = some 4 ∧
    (((dirtied b).dropUnreadable (ns1 b) 4 1).destageRun (ns1 b) 4).length = 1 ∧ (ns1 b).ops = [] ∧ (ns1 b).journal = [] ∧
    1 * (ns1 b).blockBytes ≤ (ns1 b).atomicBytes ∧ 4096 + 1 * (ns1 b).blockBytes ≤ (ns1 b).ring ∧
    (dirtied b).ns? 0 1 = some (ns1 b) := by
  rcases h with rfl | rfl <;> decide +kernel
/-- A state with an I/O entry at the head of queue 1, that is aged, before a namespace; the budget admits none. -/
def ioAt (e : Bytes) (n : Namespace) : State :=
  let s := nvmed e (nvme0 [ioCq, ioSq])
  { s with
    energy := { s.energy with negativeOnly := true, windowStart := 100000000000 }
    storage := { s.storage with namespaces := [n] } }

/-- The state in which the entry is not aged. -/
def ioEarly (e : Bytes) (held : Bool) : State :=
  let s := nvmed e (nvme0 [ioCq, { ioSq with holdCounted := held }])
  { s with energy := { s.energy with negativeOnly := true } }

theorem witness_io_head (op : Nat) (h : op ∈ [0, 1, 2, 8, 9]) :
    AtHeadIo (ioAt (nvEntry op [4]) (ns1 0)) 0 1 op (nvme0 [ioCq, ioSq]) ioSq (nvEntry op [4]) := by
  simp only [List.mem_cons, List.not_mem_nil, or_false] at h
  rcases h with rfl | rfl | rfl | rfl | rfl <;>
    exact ⟨⟨by decide +kernel, by decide +kernel, by decide +kernel, by decide +kernel⟩, by decide, .inr (by decide +kernel)⟩

theorem witness_io_held (b : Bool) : AtHead (ioEarly (nvEntry 2 [4]) b) 0 1 2 (nvme0 [ioCq, { ioSq with holdCounted := b }])
      { ioSq with holdCounted := b } (nvEntry 2 [4]) ∧
    (ioEarly (nvEntry 2 [4]) b).nvmeFits (nvEntry 2 [4]) = false ∧
    (ioEarly (nvEntry 2 [4]) b).nvmeAged { ioSq with holdCounted := b } = false := by
  cases b <;> exact ⟨⟨by decide +kernel, by decide +kernel, by decide +kernel, by decide +kernel⟩, by decide +kernel, by decide +kernel⟩

theorem witness_io_target : (ioAt (nvEntry 2 [4]) { ns1 0 with nsid := 3 }).ns? 0 (field (nvEntry 2 [4]) 4 4) = none ∧
    (ioAt (nvEntry 2 [4]) { ns1 0 with state := 1 }).ns? 0 (field (nvEntry 2 [4]) 4 4) = some { ns1 0 with state := 1 } ∧
    2097152 < (field (nvEntry 2 [4, 0, 0xFFFF]) 48 2 + 1) * (ns1 0).blockBytes ∧
    (ns1 0).size < field (nvEntry 2 [0xFFFFFF]) 40 8 + 1 ∧ 1 * (ns1 0).blockBytes ≤ 2097152 := by decide +kernel

theorem witness_read : (match (ioAt (nvEntry 2 [4]) (ns1 0)).ioTarget 0 (nvEntry 2 [4]) 1 2097152 with
      | .ok n => n == ns1 0
      | .error _ => false) = true ∧
    (ioAt (nvEntry 2 [4]) (ns1 0)).heldBlock (ns1 0) 4 = .nothing ∧
    ({ dirtied 0 with storage := { (dirtied 0).storage with
        cache := [{ (default : CacheLine) with nsid := 1, lost := [4] }] } } : State).heldBlock (ns1 0) 4 = .lost ∧
    ((dirtied 0).heldBlock (ns1 0) 4 != .nothing) = true ∧ ((dirtied 0).heldBlock (ns1 0) 4 != .lost) = true := by decide +kernel

theorem witness_read_hit : ∃ w, ((ioAt (nvEntry 2 [4]) (ns1 0)).nvmeCharged 0 1 (nvEntry 2 [4])).dataOut 0 (nvEntry 2 [4])
    (fit 512 ((ns1 0).unseal 4 [])) = .ok w := by
  have hf : field (nvEntry 2 [4]) 24 8 = 0x30000 := by decide +kernel
  unfold State.dataOut
  rw [State.prpRuns_one _ _ _ _ (by rw [hf]) (by rw [hf, fit_length]; decide), hf, fit_length]
  have hc : ((ioAt (nvEntry 2 [4]) (ns1 0)).nvmeCharged 0 1 (nvEntry 2 [4])).canWrite 0 0x30000 512 = none := by rfl
  simp [State.prpWrite, hc]

theorem witness_write : (∃ d, (ioAt (nvEntry 1 [4]) (ns1 0)).dataIn 0 (nvEntry 1 [4]) 512 = .ok d) ∧
    (∀ d, (ns1 0).unitsOf ((blocksOf 512 4 1 d).map fun b => (b.1, (ns1 0).seal b.1 b.2)) =
      [(blocksOf 512 4 1 d).map fun b => (b.1, (ns1 0).seal b.1 b.2)]) ∧
    ((ioAt (nvEntry 1 [4]) (ns1 0)).nvmeCharged 0 1 (nvEntry 1 [4])).writeCached 0 (ns1 0) (nvEntry 1 [4]) = false ∧
    (ns1 0).ops = [] ∧ (ns1 0).journal = [] ∧ (nvme0 [ioCq, ioSq]).started = [] ∧ (ns1 0).blockBytes = 512 ∧
    4096 + 1 * 512 ≤ (ns1 0).ring ∧ ({ ns1 0 with record := zeros 384 } : Namespace).ring < 4096 + 1 * 512 := by
  refine ⟨⟨_, by rfl⟩, ?_, by rfl, rfl, rfl, rfl, by decide +kernel, by decide +kernel, by decide +kernel⟩
  intro d
  have h : (ns1 0).blockBytes = 512 := by decide +kernel
  simp only [Namespace.unitsOf, blocksOf, List.map_cons, List.map_nil, h]
  rw [show ([4 * 512 / 262144] : List Nat).eraseDups = [0] from by decide]
  simp

/-- A state whose tier cache takes writes. -/
def cachedIo : State :=
  let s := ioAt (nvEntry 1 [4]) (ns1 0)
  { s with
    tiers := { s.tiers with tierCacheGranted := 65536, tierCacheBase := 0x10001000000 }
    storage := { s.storage with ctrls := [{ nvme0 [ioCq, ioSq] with features := [0, 1, 0, 0, 0] }] } }

theorem witness_write_cached (b : Bytes) : (cachedIo.nvmeCharged 0 1 (nvEntry 1 [4])).writeCached 0 (ns1 0) (nvEntry 1 [4]) = true ∧
    ((cachedIo.nvmeCharged 0 1 (nvEntry 1 [4])).cachePutAll (ns1 0) (some 1) [(4, b)]).isSome = true := by
  refine ⟨by rfl, by rfl⟩

theorem witness_nvme_flush : (match (ioAt (nvEntry 0 [4]) (ns1 0)).ioTarget 0 (putBytes (nvEntry 0 [4]) 40 (zeros 8)) 0 0 with
      | .ok n => n == ns1 0
      | .error _ => false) = true ∧
    (ioAt (nvEntry 0 [4]) (ns1 0)).dirtyUpTo 0 1 0 = false ∧ (dirtied 0).dirtyUpTo 0 1 1 = true ∧
    bits (field (nvEntry 9 [0, 2]) 44 4) 2 0 ≠ 4 ∧ bits (field (nvEntry 9 [0, 2]) 44 4) 2 0 ≠ 0 ∧
    bits (field (nvEntry 9 [0, 4]) 44 4) 2 0 = 4 ∧ (match (ioAt (nvEntry 9 [0, 4]) (ns1 0)).dataIn 0 (nvEntry 9 [0, 4]) 16 with
      | .ok _ => true
      | .error _ => false) = true := by
  refine ⟨by decide +kernel, by decide +kernel, by decide +kernel, by decide +kernel, by decide +kernel, by decide +kernel, by decide +kernel⟩
/-- A request of the manager that acts on a cabinet. -/
def managed (sub cab : Nat) (value : Bytes) : ActReq := { mailbox sub value with cabinet := cab }

/-- A state in stage B3 with cabinet 2 in a state, frozen or released at time 0, with a queue. -/
def inState (k now : Nat) (qs : List Queue) (kvs : List (Nat × Nat)) : State :=
  let s := withQueues qs
  { s with
    now := now
    dict := [(0x100300, 3)] ++ kvs
    cabs := { s.cabs with cabs := if k = 0 then [] else [{ (default : Cabinet) with id := 2, state := k }] } }

theorem witness_assign : Granted (inState 0 0 [] []) (managed 1 2 [1]) 0x4000 1 ∧ (inState 0 0 [] []).cabinet? 2 = none ∧
    Granted (inState 1 0 [] []) (managed 1 2 [1]) 0x4000 1 ∧ (inState 1 0 [] []).cabState 2 ≠ 0 := by
  refine ⟨⟨by decide, by decide, by decide, by decide⟩, by decide, ⟨by decide, by decide, by decide, by decide⟩, by decide⟩

theorem witness_release : Granted (inState 1 0 [] []) (managed 2 2 [1]) 0x4000 2 ∧ (inState 1 0 [] []).cabState 2 = 1 ∧
    Granted (inState 2 0 [] []) (managed 2 2 [1]) 0x4000 2 ∧ (inState 2 0 [] []).cabState 2 ≠ 1 ∧ (inState 2 0 [] []).cabState 2 ≠ 3 ∧
    (inState 4 0 [] []).cabState 2 = 4 ∧ (inState 1 0 [] []).cabState 2 ≠ 4 := by
  refine ⟨⟨by decide, by decide, by decide, by decide⟩, by decide, ⟨by decide, by decide, by decide, by decide⟩, by decide, by decide,
    by decide, by decide⟩

/-- A submission queue of cabinet 2, SUSPENDED by a freeze or not. -/
def queue2 (state : Nat) : Queue :=
  { (default : Queue) with index := 3, cabinet := 2, kind := 1, engine := 1, n := 4, cq := 2, page := 5, state := state, recorded := 2, causeFreeze := state == 3 }

theorem witness_freeze : Granted (inState 1 0 [] []) (managed 0 2 [1]) 0x4007 0 ∧ (inState 1 0 [] []).cabState 2 = 1 ∧
    Granted (inState 3 0 [] []) (managed 0 2 [1]) 0x4007 0 ∧ (inState 3 0 [] []).cabState 2 ≠ 1 ∧
    (inState 2 0 [queue2 2] []).cabDrained 2 = true ∧ (inState 2 0 [queue2 2] []).contract.activation ≠ 1 ∧
    (inState 2 0 [queue2 2] []).faults.safe = false ∧ (inState 2 0 [queue2 2] []).zt.jobs = [] ∧
    (inState 2 0 [queue2 2] []).cabState 2 = 2 ∧ (∀ k ∈ (inState 2 0 [queue2 2] []).zt.conns, k.cabinet ≠ 2) ∧
    (∀ g ∈ (inState 2 0 [queue2 2] []).coll.groups, g.cabinet ≠ 2) := by
  refine ⟨⟨by decide, by decide, by decide, by decide⟩, by decide, ⟨by decide, by decide, by decide, by decide⟩, by decide, by decide,
    by decide, by decide, by decide, by decide, by decide, by decide⟩

theorem witness_freeze_limit : (inState 2 2000000000 [queue2 1] []).cabinet? 2 =
      some { (default : Cabinet) with id := 2, state := 2 } ∧
    0 + (inState 2 2000000000 [queue2 1] []).e 0x2C01 1 ≤ 2000000000 ∧ 0 < 0 + (inState 2 0 [] []).e 0x2C01 1 ∧
    (∀ q ∈ (inState 2 0 [queue2 1] []).queuesOf 2, q.resetRecorded = false) := by decide

theorem witness_unfreeze : Granted (inState 3 9 [queue2 3] [(0x2400402, 1), (0x2400403, 5)]) (managed 1 2 [1]) 0x4007 1 ∧
    (inState 3 9 [queue2 3] [(0x2400402, 1), (0x2400403, 5)]).cabState 2 = 3 ∧
    (∀ q ∈ (inState 3 9 [queue2 3] [(0x2400402, 1), (0x2400403, 5)]).queuesOf 2, q.resetRecorded = false) ∧
    (inState 3 9 [queue2 3] [(0x2400402, 1), (0x2400403, 5)]).queue? 3 = some (queue2 3) ∧ (queue2 3).causeActivation = false ∧
    (queue2 3).causePower = false ∧ (inState 3 9 [queue2 3] [(0x2400402, 1), (0x2400403, 5)]).ent 2 0x4004 2 = 1 ∧
    (inState 3 9 [queue2 3] [(0x2400402, 1), (0x2400403, 5)]).ent 2 0x4004 3 ≤ 9 ∧
    Granted (inState 1 9 [] []) (managed 1 2 [1]) 0x4007 1 ∧ (inState 1 9 [] []).cabState 2 ≠ 3 := by
  refine ⟨⟨by decide, by decide, by decide, by decide⟩, by decide, by decide, by decide, by decide, by decide, by decide, by decide,
    ⟨by decide, by decide, by decide, by decide⟩, by decide⟩

theorem witness_log_swap : Granted (inState 1 0 [] [(0x2400800, 1)]) (managed 5 2 [1]) 0x4008 5 ∧
    (inState 1 0 [] [(0x2400800, 1)]).ent 2 0x4008 0 ≠ 0 ∧ (inState 1 0 [] [(0x2400800, 1)]).ent 2 0x4008 6 ≤ 1 ∧
    Granted (inState 1 0 [] []) (managed 5 2 [1]) 0x4008 5 ∧ (inState 1 0 [] []).ent 2 0x4008 0 = 0 := by
  refine ⟨⟨by decide, by decide, by decide, by decide⟩, by decide, by decide, ⟨by decide, by decide, by decide, by decide⟩, by decide⟩

/-- A state in which the admin rings of cabinet 0, at 0x20000 and 0x22000, translate. -/
def ringed : State :=
  let s := nvmed [] (nvme0 [])
  { s with
    dict := [(0x100300, 3), (0x250000, 0x2000000000), (0x400101, 16), (0x400303, 0x10000010000), (0x400304, 0x20000),
      (0x400306, 0x22000)] }

theorem witness_admin_enable : Granted ringed (mailbox 9 [1]) 0x4003 9 ∧ 2 ≤ ringed.e 0x1003 0 ∧
    (∀ q ∈ ringed.queuesOf 0, 1 < q.page) ∧ (ringed.queuesOf 0).length + 2 ≤ ringed.share 0 1 ∧ ringed.adminRings 0 = true ∧
    ringed.cabState 0 ≠ 3 ∧ lowestFree (ringed.contract.queues.map (·.index)) 0 16384 = some 0 ∧
    lowestFree (0 :: ringed.contract.queues.map (·.index)) 0 16384 = some 1 ∧
    (nvmed [] (nvme0 [])).share 0 1 = 16 ∧ ({ ringed with dict := [(0x100300, 3), (0x400101, 1)] } : State).share 0 1 < 0 + 2 ∧
    Granted { ringed with dict := [(0x100300, 3), (0x400101, 1)] } (mailbox 9 [1]) 0x4003 9 := by
  refine ⟨⟨by decide, by decide, by decide, by decide⟩, by decide, by decide, by decide, by decide +kernel, by decide, by decide,
    by decide, by decide, by decide, ⟨by decide, by decide, by decide, by decide⟩⟩

/-- A state that holds a migration secret's slot, and one that does not. -/
def withKeys (ks : List KeySlot) : State :=
  let s := inState 1 0 [] []
  { s with trust := { s.trust with slots := ks } }

theorem witness_migration_secret :
    Granted (withKeys [{ (default : KeySlot) with slot := 4160, label := labelState }]) (mailbox 0 (zeros 32)) 0x2C01 0 ∧
    (∃ k ∈ (withKeys [{ (default : KeySlot) with slot := 4160, label := labelState }]).trust.slots, k.label = labelState) ∧
    Granted (withKeys []) (mailbox 0 (zeros 32)) 0x2C01 0 ∧ (∀ k ∈ (withKeys []).trust.slots, k.label ≠ labelState) ∧
    ∃ i, pickFree (withKeys []).freeValue ((withKeys []).trust.slots.map (·.slot)) 4160 65536 = some i := by
  refine ⟨⟨by decide, by decide, by decide, by decide⟩, by decide, ⟨by decide, by decide, by decide, by decide⟩, by decide, ?_⟩
  cases h : pickFree (withKeys []).freeValue ((withKeys []).trust.slots.map (·.slot)) 4160 65536 with
  | some i => exact ⟨i, rfl⟩
  | none =>
    unfold pickFree at h
    split at h
    · cases h
    · exact absurd h (by decide)
/-- A state in which cabinet 2 is FROZEN or FREE and cabinet 0's memory is mapped, with entries of cabinet 2 and bytes at
0x20000. -/
def moved (k : Nat) (kvs : List (Nat × Nat)) (mem : List Host.Cell) : State :=
  { inState k 0 [] [] with
    dict := [(0x100300, 3), (0x250000, 0x2000000000), (0x400101, 16), (0x400303, 0x10000010000)] ++ kvs
    mem := tables ++ mem }

/-- SAVE_ADDR 0x20000 and SAVE_LEN. -/
def saving (n : Nat) : State := moved 3 [(0x2400703, 0x20000), (0x2400704, n)] []

theorem saving_length (n : Nat) (h : n = 100 ∨ n = 4096) : ((saving n).savedState 2).length = 496 := by
  have : ∃ m t, (saving n).savedState 2 = m ++ fit 48 t ∧ m.length = 448 := by
    rcases h with rfl | rfl <;> exact ⟨_, _, rfl, by decide +kernel⟩
  obtain ⟨m, t, e, hm⟩ := this
  rw [e, List.length_append, fit_length, hm]

theorem witness_save (n : Nat) (h : n = 100 ∨ n = 4096) : Granted (saving n) (managed 5 2 [1]) 0x4007 5 ∧
    (saving n).cabState 2 = 3 ∧ ((saving n).savedState 2).length < 2 ^ 32 ∧ (saving n).ent 2 0x4007 4 = n ∧
    100 < ((saving 100).savedState 2).length ∧ ((saving 4096).savedState 2).length ≤ 4096 ∧
    (saving n).canWrite 0 ((saving n).ent 2 0x4007 3) ((saving n).savedState 2).length = none ∧
    Granted (inState 1 0 [] []) (managed 5 2 [1]) 0x4007 5 ∧ (inState 1 0 [] []).cabState 2 ≠ 3 := by
  rw [saving_length n h, saving_length 100 (.inl rfl), saving_length 4096 (.inr rfl)]
  rcases h with rfl | rfl <;>
    exact ⟨⟨by decide +kernel, by decide, by decide +kernel, by decide +kernel⟩, by decide, by decide, by decide +kernel, by decide,
      by decide, by decide +kernel, ⟨by decide, by decide, by decide, by decide⟩, by decide⟩

/-- A saved state of cabinet 2, without its tag: a completion queue, index 9, and a sync object, index 5. -/
def restoreM : Bytes :=
  let q : Queue := { (default : Queue) with index := 9, cabinet := 2, kind := 0, n := 6, state := 1, epoch := 3, phase := true }
  let o : SyncObj := { (default : SyncObj) with index := 5, cabinet := 2, value := 77 }
  let p := placeSections 208 [(1, 1, zeros 128), (2, 1, q.saved), (3, 1, o.saved), (4, 0, zeros 64), (5, 0, [])]
  fit 128 (toLe 4 0x4241435A ++ toLe 2 1 ++ toLe 2 2 ++ [3, 5] ++ zeros 14 ++ toLe 8 624) ++ p.1.flatMap (·.2) ++ p.2

/-- Its tag, under the secret of reset. -/
def restoreTag : Bytes :=
  (List.range 48).map fun i => (fit 48 (Config.hmac384 (kdf256 (fit 32 []) labelState (toLe 2 2)) restoreM)).getD i 0

theorem restoreTag_eq : restoreTag = fit 48 (Config.hmac384 (kdf256 (fit 32 []) labelState (toLe 2 2)) restoreM) := by
  apply List.ext_getElem
  · rw [fit_length]; rfl
  · intro i h h'
    simp only [restoreTag, List.getElem_map, List.getElem_range]
    simp [List.getD, h']

/-- A run of cells, zeros among them. -/
def listed (a : Nat) : Bytes → List Host.Cell
  | [] => []
  | b :: r => (a, b) :: listed (a + 1) r

theorem read_listed : ∀ (bs : Bytes) (pre : List Host.Cell) (a : Nat), (∀ c ∈ pre, c.1 < a) →
    Memory.read (pre ++ listed a bs) a bs.length = bs
  | [], _, _, _ => rfl
  | b :: r, pre, a, h => by
    have hg : ∀ (p : List Host.Cell), (∀ c ∈ p, c.1 < a) → Memory.get (p ++ listed a (b :: r)) a = b := by
      intro p
      induction p with
      | nil => intro _; simp [listed, Memory.get]
      | cons c t ih =>
        intro hp
        have hc := hp c (by simp)
        simp only [List.cons_append, Memory.get]
        rw [if_neg (by omega)]
        exact ih fun x hx => hp x (by simp [hx])
    have hr := read_listed r (pre ++ [(a, b)]) (a + 1) (by
      intro c hc
      rcases List.mem_append.mp hc with h1 | h1
      · have := h c h1; omega
      · simp only [List.mem_singleton] at h1; rw [h1]; exact Nat.lt_succ_self a)
    rw [List.append_assoc] at hr
    simp only [List.length_cons, Memory.read, hg pre h]
    exact congrArg (b :: ·) hr

/-- A destination whose cabinet 2 is FREE, with that state at 0x20000. -/
def destination : State :=
  { moved 0 [(0x2400303, 0x10000010000), (0x2400708, 0x20000), (0x2400709, 624)] (listed 0x10020020000 (restoreM ++ restoreTag)) with
    cabs := { (inState 0 0 [] []).cabs with migrationSecret := [] } }

theorem destination_reads : destination.readCab 0 0x20000 624 = .ok (restoreM ++ restoreTag) := by
  have hq : (match destination.reach 0 0x20000 624 .read with
      | .ok ps => ps == [(0x10020020000, 624)]
      | .error _ => false) = true := by decide +kernel
  have hp : destination.reach 0 0x20000 624 .read = .ok [(0x10020020000, 624)] := by
    revert hq
    cases destination.reach 0 0x20000 624 .read with
    | error e => intro h; cases h
    | ok ps => intro h; rw [eq_of_beq h]
  have hb : destination.badPiece [(0x10020020000, 624)] = none := by decide +kernel
  have hl : (restoreM ++ restoreTag).length = 624 := by decide +kernel
  unfold State.readCab
  simp only [hp, hb]
  have h := read_listed (restoreM ++ restoreTag) tables 0x10020020000 (by decide)
  rw [hl] at h
  show Except.ok ([(0x10020020000, 624)].flatMap fun p => destination.readDev p.1 p.2) = _
  rw [List.flatMap_cons, List.flatMap_nil, List.append_nil]
  exact congrArg _ h

theorem destination_accepts : let b := restoreM ++ restoreTag
    destination.restoreRefused 2 b (sectionOf b 0 128 0).2 (chunksOf 64 (sectionOf b 1 64 0).1 (sectionOf b 1 64 0).2)
      (chunksOf 24 (sectionOf b 2 24 0).1 (sectionOf b 2 24 0).2) ((sectionOf b 3 32 64).2.take 64)
      (chunksOf 32 (sectionOf b 3 32 64).1 ((sectionOf b 3 32 64).2.drop 64)) = false := by
  have ht : field (restoreM ++ restoreTag) 24 8 = 624 := by decide +kernel
  have hn : restoreM.length = 576 := by decide +kernel
  have hm : (restoreM ++ restoreTag).take (624 - 48) = restoreM := by
    rw [show 624 - 48 = restoreM.length from hn.symm, List.take_left]
  have hs : slice (restoreM ++ restoreTag) (624 - 48) 48 = restoreTag := by
    unfold slice
    have : 624 - 48 = restoreM.length := hn.symm
    rw [this, List.drop_left]
    rfl
  have hk : fit 48 (Config.hmac384 (destination.stateKey 2) restoreM) = restoreTag := restoreTag_eq.symm
  simp only [State.restoreRefused, ht, hm, hs, hk, Bool.or_eq_false_iff]
  refine ⟨⟨⟨⟨⟨⟨⟨⟨⟨⟨⟨?_, ?_⟩, ?_⟩, ?_⟩, ?_⟩, ?_⟩, ?_⟩, ?_⟩, ?_⟩, ?_⟩, ?_⟩, ?_⟩
  · decide +kernel
  · exact bne_self_eq_false _
  all_goals first
    | decide +kernel
    | (simp; decide +kernel)

theorem witness_restore : Granted destination (managed 0xA 2 [1]) 0x4007 0xA ∧ destination.cabinet? 2 = none ∧
    destination.ent 2 0x4007 8 = 0x20000 ∧ destination.ent 2 0x4007 9 = 624 ∧
    (sectionOf (restoreM ++ restoreTag) 1 64 0).1 = 1 ∧ (sectionOf (restoreM ++ restoreTag) 2 24 0).1 = 1 ∧
    destination.restoreRefused 2 (zeros 8) [] [] [] [] [] = true ∧ Granted (inState 1 0 [] []) (managed 0xA 2 [1]) 0x4007 0xA ∧
    (inState 1 0 [] []).cabState 2 ≠ 0 := by
  refine ⟨⟨by decide +kernel, by decide, by decide +kernel, by decide +kernel⟩, by decide, by decide +kernel, by decide +kernel,
    by decide +kernel, by decide +kernel, by decide +kernel, ⟨by decide, by decide, by decide, by decide⟩, by decide⟩

theorem witness_record_back : (queue2 3).index < 2 ^ 18 ∧ (queue2 3).cabinet < 4096 ∧ (queue2 3).kind < 2 ∧ (queue2 3).state < 256 ∧
    (queue2 3).cq < 2 ^ 18 := by decide
/-- The saved state of the worked example of Cabinets: 5 queues, 64 sync objects, 16 I/O queue pairs and 16 sequences. -/
theorem test_saved_offsets :
    (placeSections 208 [(1, 1, zeros 128), (2, 5, zeros 320), (3, 64, zeros 1536), (4, 16, zeros 576), (5, 16, zeros 1152)]).1.map
      (·.1) = [256, 384, 704, 2240, 2816] := by decide +kernel
/-- A state whose lock register has a value, with populated GDDR7; slot 5 is firmware's. -/
def locked (v now : Nat) : State :=
  let s := withQueues []
  { s with
    now := now
    dict := [(0x100300, 3), (0x250000, 0x2000000000), (0x2D0301, v)]
    trust := { s.trust with startedReqs := [], waitingReqs := [], lockWaiters := [], keyCache := [5], katPassing := none } }

/-- A request of firmware that seals 16 bytes under slot 5. -/
def sealIn : CipherIn :=
  { stream := 2, cabinet := 4096, slot := 5, op := 0, src := 0x10000001000, dst := 0x10000002000, len := 16, iv := 1, ctx := none }

/-- The same request, as the engine holds it. -/
def sealReq (waits : Bool) : CipherReq :=
  { stream := 2, order := 0, cabinet := 4096, slot := 5, op := 0, src := 0x10000001000, dst := 0x10000002000, len := 16, iv := 1
    ctx := none, ended := false, failed := false, waitingKey := waits }

/-- The state in which the request runs. -/
def sealing (v : Nat) (waits : Bool) : State :=
  { locked v 5000000 with trust := { (locked v 5000000).trust with startedReqs := [sealReq waits], keyCache := [] } }

theorem witness_cipher_refused : (locked 0 0).slotHolder 70 ≠ some 6 ∧ (locked 0 0).faults.safe = false ∧ sealIn.ctx = none ∧
    (admin 0xF020 [9]).slotHolder 70 ≠ some 6 ∧ (admin 0xF020 [9]).ctx? 7 = some (started (record 0xF020 [9])) ∧
    (started (record 0xF020 [9])).finished = false := by decide

theorem witness_cipher_runs : (locked 0 0).slotHolder sealIn.slot = some sealIn.cabinet ∧ (locked 0 0).trust.waitingReqs = [] ∧
    (locked 0 0).mayStart (sealReq false) = true ∧ (locked 0x30100 0).mayStart { sealReq false with stream := 0 } = false ∧
    (locked 0 0).trust.keyCache.contains 5 = true ∧ (sealing 0 false).trust.keyCache.contains 5 = false ∧
    (locked 0 0).populatedRun 0x10000001000 16 = true ∧ (locked 0 0).populatedRun 0x10000002000 16 = true ∧
    (locked 0 0).badUnit 0x10000001000 16 = none ∧ (locked 0 0).populatedRun (2 ^ 60) 16 = false ∧ (sealReq false).op = 0 := by
  decide +kernel

theorem witness_derivation : (sealing 0 true).trust.startedReqs = [sealReq true] ∧ (sealReq true).waitingKey = true ∧
    (sealing 0 true).lockState = 0 ∧ (sealing 0 true).faults.fencedUnits = [] ∧ (sealing 0 true).trust.waitingReqs = [] ∧
    (∀ r ∈ (locked 0 0).trust.startedReqs, r.waitingKey = false ∨ r.slot ≠ 5) := by decide +kernel

theorem witness_lock : (locked 0 0).lockState = 0 ∧ (locked 0 0).cipherBusy = false ∧ (sealing 0 false).cipherBusy = true ∧
    (locked 0x20100 0).lockState = 1 ∧ (locked 0x20100 0).lockHolder = 2 ∧ (locked 0x20100 0).trust.lockWaiters = [] ∧
    nextHolder [3, 4] = some 4 ∧ (locked 0 0).trust.katPassing = none := by decide +kernel

theorem witness_lock_limit : (sealing 0x30100 false).lockState = 1 ∧ 3 ≤ (sealing 0x30100 false).lockHolder ∧
    (sealing 0x30100 false).trust.lockedSince + (sealing 0x30100 false).e 0x2D03 5 ≤ (sealing 0x30100 false).now ∧
    (sealReq false).ended = false := by decide +kernel

theorem witness_kat : (locked 0 0).trust.katPipe < 16 ∧
    clearBit ((locked 0 0).e 0x2D03 0) (locked 0 0).trust.katPipe % 65536 ≠ 0 ∧ Granted (locked 0 0) (mailbox 3 [1]) 0x2D03 3 ∧
    Granted (locked 0x20100 0) (mailbox 3 [1]) 0x2D03 3 ∧ Granted (sealing 0 false) (mailbox 3 [1]) 0x2D03 3 ∧
    Granted (locked 0 0) (mailbox 8 [1]) 0x2D01 8 ∧
    ({ locked 0 0 with dict := [(0x2D0106, 7)] } : State).e 0x2D01 7 < ({ locked 0 0 with dict := [(0x2D0106, 7)] } : State).e 0x2D01 6
    := by
  refine ⟨by decide, by decide +kernel, ⟨by decide, by decide, by decide, by decide⟩, ⟨by decide, by decide, by decide, by decide⟩,
    ⟨by decide, by decide, by decide, by decide⟩, ⟨by decide, by decide, by decide, by decide⟩, by decide⟩
/-- The reset value of the lock register (R543): LOCKED, held by the boot ROM. -/
theorem test_lock_reset : State.reset.e 0x2D03 1 = 0x00010100 := by decide +kernel
/-- A state whose responder has negotiated on the I3C transport, with sessions and a transcript in preparation. -/
def spdmed (n : Nat) (xs : List (Nat × Nat × Bytes)) : State :=
  let s := locked 0 0
  { s with trust := { s.trust with
      negotiatedAlgs := [0], bundleOk := true, transcripts := xs
      sessions := (List.range n).map fun i => { id := i, transport := 0 } } }

/-- A request for a signed transcript. -/
def transcriptReq : Bytes := toLe 2 3 ++ [2] ++ toLe 2 0x1E7A ++ [0, 0] ++ toLe 2 1

theorem witness_spdm : (spdmed 0 []).spdmServes 0 = true ∧ (spdmed 0 []).spdmServes 1 = false ∧ 0 ∈ (spdmed 0 []).trust.negotiatedAlgs ∧
    0 ∉ (locked 0 0).trust.negotiatedAlgs ∧ (spdmed 0 []).trust.bundleOk = true ∧
    ({ spdmed 0 [] with trust := { (spdmed 0 []).trust with bundleOk := false } } : State).trust.bundleOk = false ∧
    16 ≤ (spdmed 16 []).trust.sessions.length ∧ (spdmed 3 []).trust.sessions.length < 16 ∧
    lowestFree ((spdmed 3 []).trust.sessions.map (·.id)) 0 16 = some 3 ∧
    (spdmed 3 []).trust.sessions.find? (fun y => y.id == 2) = some { id := 2, transport := 0 } ∧
    (spdmed 3 []).trust.sessions.find? (fun y => y.id == 9) = none ∧ field transcriptReq 0 2 = 3 ∧ field transcriptReq 2 1 = 2 ∧
    field transcriptReq 3 2 = 0x1E7A ∧ field transcriptReq 7 2 = 1 ∧ field [1] 0 2 ≠ 3 ∧
    (∀ x ∈ (spdmed 0 []).trust.transcripts, x.1 ≠ 0) ∧ (spdmed 0 [(0, 0, [])]).trust.transcripts = [(0, 0, [])] := by decide +kernel
/-- A state in stage B3, queues given, with an energy state that starts from the reset one and some entries. -/
def powered (now : Nat) (kvs : List (Nat × Nat)) (f : Energy → Energy) : State :=
  { State.reset with now := now, dict := [(0x100300, 3)] ++ kvs, energy := f State.reset.energy }

/-- Loops that started at time 0. -/
def looping (now : Nat) : State := powered now [] fun e => { e with powerStart := some 0, thermalStart := some 0, temps := List.replicate 24 0 }

theorem witness_loops : (looping 0).loopsRun = true ∧ (looping 0).contract.draining = false ∧
    0 + (looping 0).energy.powerDone * 100000 ≤ 0 ∧ 550 ≤ (looping 0).e 0x2E01 5 ∧ (looping 0).e 0x2E01 5 ≤ 850 ∧
    (looping 0).energy.powerStart = some 0 ∧ (looping 0).energy.thermalStart = some 0 ∧ (looping 0).energy.thermalDone = 0 ∧
    State.reset.loopsRun = false ∧ (List.replicate 24 (0 : Int)).length = 24 := by decide +kernel

theorem witness_late_loop : 0 + ((looping 300000).energy.powerDone + 1) * 100000 < 300000 ∧ (looping 300000).loopsRun = true := by decide +kernel

/-- A state whose snowline level is measured at 1, and has been clear since time 0. -/
def warm (now : Nat) : State := powered now [] fun e =>
  { e with temps := List.replicate 24 0, measuredLevel := 1, clearSince := [some 0, some 0, some 0] }

theorem witness_snowline_fall : (warm 10000000).energy.clearSince.getD ((warm 10000000).energy.measuredLevel - 1) none = some 0 ∧
    (warm 10000000).loopsRun = true ∧ (warm 10000000).contract.draining = false ∧ (warm 10000000).rowClear 1 = true ∧
    (warm 10000000).enteredRow < 1 ∧ (warm 10000000).coll.groups = [] ∧ (warm 10000000).snap.sets = [] ∧
    (warm 10000000).zt.jobs = [] ∧ (warm 9).now < 0 + 10000000 ∧ (warm 9).energy.measuredLevel ≤ 3 ∧ (warm 9).e 0x2E00 1 ≤ 3 := by
  decide +kernel

theorem witness_limiter : (powered 10000000 [] fun e => { e with over600Since := some 0, pacing := true }).faults.safe = false ∧
    (powered 10000000 [] fun e => { e with over600Since := some 0, pacing := true }).energy.over600Since = some 0 ∧
    (powered 10000000 [] fun e => { e with over600Since := some 0, pacing := true }).energy.pacing = true ∧
    (powered 10000000 [] id).contract.draining = false ∧ (powered 10000000 [] id).energy.over600Since = none ∧
    (powered 10000000 [] id).energy.pacing = false := by decide

theorem witness_comparators : 3 ∉ (powered 0 [] id).energy.latchedComp ∧ (powered 0 [] id).faults.openInc = none ∧
    3 ∈ (powered 0 [] fun e => { e with latchedComp := [3] }).energy.latchedComp := by decide

/-- The worked example: 540 mJ drawn and 225 mJ debited in the last window of 1 ms. -/
def lastWindow : State := powered 1000000 [] fun e =>
  { e with temps := List.replicate 24 0, windowStart := 0, polledAt := 1000000, windowEnergy := 540000000000, debited := 225000000000000 }

theorem witness_budget_window : lastWindow.loopsRun = true ∧ lastWindow.restarting 1 = false ∧ lastWindow.contract.draining = false ∧
    lastWindow.energy.windowStart + 1000000 = lastWindow.now ∧
    (540000000000 * 1000 - 225000000000000) / 1000000 = (315000000 : Nat) := by decide +kernel
/-- The worked example of spec 15: P_fixed is 315 W and the budget 285 mJ. -/
theorem test_budget_window : (match exec .budgetWindow lastWindow with
    | .next u => u.energy.remaining == 285000000000000 && u.e 0x2E01 4 == 315000
    | _ => false) = true := by decide +kernel

/-- A sensor at 106 °C brings level 3, and with it the rail ceiling of 0.60 V. -/
theorem test_emergency : (match exec (.thermalLoop (106 * 65536 :: List.replicate 23 0)) (looping 0) with
    | .next u => u.e 0x2E00 0 == 3 && u.e 0x2E01 5 == 600 && u.e 0x2E00 2 == 1
    | _ => false) = true := by decide +kernel

theorem test_thermal_trip : (match exec (.thermalTrip 3) (looping 0) with
    | .next u => u.faults.safe && !u.pins.thermtripN && u.energy.latchedComp == [3]
    | _ => false) = true := by decide +kernel
/-- A state in stage B3 in a power state, with cabinet 0 and some queues of it. -/
def asleep (power now : Nat) (qs : List Queue) (f : Energy → Energy) : State :=
  let s := withQueues qs
  { s with now := now, dict := [(0x100300, 3), (0x2E0500, power)], energy := f s.energy, pins := { s.pins with resetN := true } }

/-- A state in which a request for power finds nothing that objects: HP has acknowledged PME_Turn_Off. -/
def calm (power : Nat) (qs : List Queue) : State :=
  let s := asleep power 0 qs id
  { s with ports := { s.ports with pmeAcked := true, vfEnable := false, functions := [{ (default : Function) with cabinet := 0, dstate := 3 }] } }

theorem witness_power_request : Granted (calm 0 [sq 1]) (mailbox 1 [3]) 0x2E05 1 ∧ (calm 0 [sq 1]).e 0x2E05 0 = 0 ∧
    (calm 0 [sq 1]).refuser (reqVal (mailbox 1 [3]) == 3) = none ∧ reqVal (mailbox 1 [3]) = 3 ∧
    Granted (asleep 2 0 [] id) (mailbox 1 [3]) 0x2E05 1 ∧ (asleep 2 0 [] id).e 0x2E05 0 ≠ 0 ∧
    Granted (asleep 0 0 [] id) (mailbox 1 [3]) 0x2E05 1 ∧ (asleep 0 0 [] id).refuser true = some 8 := by
  refine ⟨⟨by decide, by decide, by decide, by decide⟩, by decide, by decide +kernel, by decide,
    ⟨by decide, by decide, by decide, by decide⟩, by decide, ⟨by decide, by decide, by decide, by decide⟩, by decide +kernel⟩

theorem witness_entry : (asleep 1 0 [] fun e => { e with enteringTarget := 2 }).e 0x2E05 0 = 1 ∧
    (asleep 1 0 [] fun e => { e with enteringTarget := 2 }).faults.safe = false ∧
    (asleep 1 0 [] fun e => { e with enteringTarget := 2 }).energy.enteringTarget = 2 ∧
    (asleep 1 0 [] fun e => { e with enteringTarget := 3 }).energy.enteringTarget = 3 ∧ (asleep 0 0 [] id).e 0x2E05 0 ≠ 1 ∧
    (∀ l ∈ (asleep 1 0 [] fun e => { e with enteringTarget := 3 }).ports.linkState, l.1 < 10) := by decide

theorem witness_wake : (asleep 2 0 [] id).wakes 4 = false ∧ bit ((asleep 2 0 [] id).e 0x2E05 2) 0 = true ∧
    (asleep 2 0 [] id).faults.safe = false ∧ (asleep 2 0 [] id).pins.resetN = true ∧ (asleep 2 0 [] id).e 0x2E05 0 = 2 ∧
    (asleep 3 0 [] id).e 0x2E05 0 = 3 ∧ (asleep 1 0 [] id).e 0x2E05 0 = 1 := by decide

/-- A submission queue SUSPENDED for power alone. -/
def suspendedSq : Queue := { sq 3 with recorded := 1, causePower := true }

/-- The ladder at a step, from a state, with SRAM saved. -/
def waking (k from_ now : Nat) (ok : Bool) : State :=
  asleep 4 now [cq, suspendedSq] fun e => { e with wakeStep := k, wakeFrom := from_, railBefore := 780, savedSram := [(5, 7)], saveAreaOk := ok }

theorem witness_ladder (k : Nat) (h : k < 4) : (waking k 2 1000000 true).faults.safe = false ∧ (waking k 2 1000000 true).e 0x2E05 0 = 4 ∧
    (waking k 2 1000000 true).energy.wakeStep = k ∧
    (waking k 2 1000000 true).now ≤ (waking k 2 1000000 true).energy.wakeAt + readyLimit (2 == 3) k ∧
    (waking k 2 1000000 true).energy.railBefore < 2 ^ 16 ∧ State.reset.readyNow k = false ∧
    (waking k 2 50000000 true).energy.wakeAt + readyLimit (2 == 3) k < 50000000 := by
  match k, h with
  | 0, _ => decide
  | 1, _ => decide
  | 2, _ => decide
  | 3, _ => decide

theorem witness_logic_ready : (waking 3 2 0 true).contract.draining = false ∧ (waking 3 2 0 true).energy.pendingSignals = [] ∧
    (∀ f ∈ (waking 3 2 0 true).ports.functions, f.flrDue = false) ∧ (∀ q ∈ (waking 3 2 0 true).contract.queues, q.resetRecorded = false) ∧
    (waking 3 2 0 true).energy.wakeFrom = 2 ∧ (waking 3 3 0 true).energy.wakeFrom = 3 ∧ (waking 3 3 0 true).saveAreaGood = true ∧
    (waking 3 3 0 false).saveAreaGood = false ∧ (waking 3 3 0 false).faults.openInc = none ∧
    (waking 3 2 0 true).queue? 3 = some suspendedSq ∧ suspendedSq.kind = 1 ∧ suspendedSq.state = 3 ∧
    suspendedSq.causeActivation = false ∧ suspendedSq.causeFreeze = false ∧ Memory.wf (waking 3 3 0 true).energy.savedSram = true := by
  decide +kernel
/-- From DEEP, LOGIC_READY restores SRAM and the queue. -/
theorem test_logic_ready : (match exec .logicReady (waking 3 3 0 true) with
    | .next u => u.e 0x2E05 0 == 0 && Memory.get u.mem 5 == 7 && (u.queue? 3).any (fun q => q.state == 1)
    | _ => false) = true := by decide +kernel

/-- A save area that fails its digest leads to the safe state. -/
theorem test_unverified_save_area : (match exec .logicReady (waking 3 3 0 false) with
    | .next u => u.faults.safe && u.faults.openInc.any (fun i => i.firstRung == 4)
    | _ => false) = true := by decide +kernel

/-- A ready signal that misses its limit leads to the safe state. -/
theorem test_wake_limit : (match exec (.wakeReady 2) (waking 2 2 50000000 true) with
    | .next u => u.faults.safe && u.faults.safeCause == 0x19 && u.faults.openInc.any (fun i => i.firstRung == 4 && i.firstSource == 21)
    | _ => false) = true := by decide +kernel
/-- A submission queue SUSPENDED by an activation alone. -/
def drainingSq : Queue := { sq 3 with recorded := 2, causeActivation := true }

/-- A state in stage B3 with a staged image, an activation state, an emergency or none, and queues. -/
def staged (image activation emergency now : Nat) (qs : List Queue) : State :=
  let s := withQueues qs
  { s with
    now := now
    dict := [(0x100101, image), (0x100300, 3), (0x2E0002, emergency)]
    contract := { s.contract with activation := activation, draining := activation == 1 } }

theorem witness_activate :
    Granted (staged 0 0 0 0 []) (mailbox 0 [1]) 0x1005 0 ∧ (staged 0 0 0 0 []).e 0x1001 1 = 0 ∧
    Granted (staged 7 2 0 0 []) (mailbox 0 [1]) 0x1005 0 ∧ (staged 7 2 0 0 []).contract.activation ≠ 0 ∧
    Granted (staged 7 0 0 0 [sq 1]) (mailbox 0 [1]) 0x1005 0 ∧ (staged 7 0 0 0 [sq 1]).e 0x1001 1 ≠ 0 ∧
    (staged 7 0 0 0 [sq 1]).contract.activation = 0 ∧ (staged 7 0 0 0 [sq 1]).e 0x2E05 0 = 0 ∧ (staged 7 0 0 0 [sq 1]).e 0x2E00 2 = 0 ∧
    (staged 7 0 0 0 [sq 1]).faults.openInc = none ∧
    Granted (staged 7 0 1 0 []) (mailbox 0 [1]) 0x1005 0 ∧ (staged 7 0 1 0 []).e 0x2E00 2 ≠ 0 := by
  refine ⟨⟨by decide, by decide, by decide, by decide⟩, by decide, ⟨by decide, by decide, by decide, by decide⟩, by decide,
    ⟨by decide, by decide, by decide, by decide⟩, by decide, by decide, by decide, by decide, by decide,
    ⟨by decide, by decide, by decide, by decide⟩, by decide⟩

theorem witness_drain_end : (staged 7 1 0 5000000000 [cq, drainingSq]).contract.activation = 1 ∧
    (staged 7 1 0 5000000000 [cq, drainingSq]).contract.draining = true ∧ (staged 7 1 0 5000000000 [cq, drainingSq]).faults.safe = false ∧
    (∀ c ∈ (staged 7 1 0 5000000000 [cq, drainingSq]).contract.ctxs, c.finished = true) ∧
    (staged 7 1 0 5000000000 [cq, drainingSq]).steral.heldReqs = [] ∧
    (∀ q ∈ (staged 7 1 0 5000000000 [cq, drainingSq]).contract.queues, q.resetRecorded = false) ∧
    (staged 7 1 0 5000000000 [cq, drainingSq]).coll.groups = [] ∧ (staged 7 1 0 5000000000 [cq, drainingSq]).snap.sets = [] ∧
    (staged 7 1 0 5000000000 [cq, drainingSq]).zt.jobs = [] ∧
    (staged 7 1 0 5000000000 [cq, drainingSq]).contract.activationStart + 5000000000 ≤ 5000000000 ∧
    (staged 7 1 0 5000000000 [cq, drainingSq]).queue? 3 = some drainingSq ∧ drainingSq.causeFreeze = false ∧
    drainingSq.causePower = false ∧ (staged 7 0 0 0 []).contract.activation ≠ 1 := by decide

theorem witness_activation_deferred : (staged 7 2 0 100000000 []).contract.activation = 2 ∧ (staged 7 2 0 100000000 []).faults.safe = false ∧
    (staged 7 2 0 100000000 []).e 0x2E05 0 = 0 ∧ (staged 7 2 0 100000000 []).e 0x2E00 2 = 0 ∧
    (staged 7 2 0 100000000 []).faults.openInc = none ∧ (staged 7 2 0 100000000 []).energy.emergencyEndedAt + 100000000 ≤ 100000000 ∧
    (staged 7 2 1 0 []).mayActivate = false := by decide
/-- The drain has ended: the staged image runs, and the queue returns to what it was. -/
theorem test_activation_drain_done : (match exec .activationDrainDone (staged 7 1 0 9 [cq, drainingSq]) with
    | .next u => u.e 0x1001 0 == 7 && u.trust.runningSlot == 1 && (u.queue? 3).any (fun q => q.state == 2)
    | _ => false) = true := by decide +kernel
/-- A state in stage B3 with some faults. -/
def faulty (now : Nat) (kvs : List (Nat × Nat)) (f : Faults → Faults) : State :=
  let s := withQueues []
  { s with now := now, dict := [(0x100300, 3)] ++ kvs, faults := f s.faults }

/-- An error report. -/
def report (src cause master : Nat) : ErrorIn :=
  { source := src, severity := causeSeverity cause, address := 0, master := master, access := 4, privilegedAccess := false, causeCode := cause }

/-- An incident of the engine rung on quadrant 2's Transform instance. -/
def incident17 : Incident := { newIncident 2 1 0 0x000B 1 none with number := 17, rungReached := 2 }

theorem witness_error_pin : (report 5 0x02 0xF000).source < 26 ∧ (report 5 0x02 0xF000).severity = causeSeverity 0x02 ∧
    causeScope 0x02 = 0 ∧ causeRung 0x02 = 0 ∧ (faulty 0 [] id).faults.openInc = none ∧ (faulty 0 [] id).contract.draining = false ∧
    (faulty 0 [] id).e 0x2F00 0 = 0 ∧ sourcePrivileged 5 = false ∧ (∀ r ∈ (faulty 0 [] id).faults.firstErrors, r.source ≠ 5) ∧
    ({ (default : FirstErr) with source := 5 } ∈ (faulty 0 [] fun f => { f with firstErrors := [{ (default : FirstErr) with source := 5 }] }).faults.firstErrors) ∧
    causeScope 0x12 = 3 ∧ causeRung 0x12 = 4 ∧ (faulty 0 [] id).faults.safe = false ∧ (report 16 0x12 0xF000).severity = causeSeverity 0x12 ∧
    masterQuadrant 0x6002 = some 2 ∧ (report 2 0x11 0x6002).severity = causeSeverity 0x11 ∧
    insideDomain ((faulty 0 [(0x2F0300, 2)] fun f => { f with openInc := some incident17 }).e 0x2F03 0) incident17.target (report 2 0x10 0x1025) = true ∧
    incident17.merged < 0xFFFFFFFF ∧
    (faulty 0 [(0x2F0300, 2)] fun f => { f with openInc := some incident17 }).merges (report 0 0x11 0x6000) = false ∧ 26 ≤ (report 26 0x02 0).source := by
  decide

/-- A command of the Move instance 1 with no progress since 0. -/
def hung (engine op now : Nat) : State :=
  let s := running { sq 1 with index := 5, engine := engine } [cq] (record op [])
  { s with now := now, dict := [(0x100300, 3)] }

theorem witness_hang : (hung 0 0x0001 100000000).ctx? 7 = some (started (record 0x0001 [])) ∧ (started (record 0x0001 [])).finished = false ∧
    (started (record 0x0001 [])).waiting = false ∧ 0 + (hung 0 0x0001 100000000).e 0x2F04 0 ≤ 100000000 ∧
    (hung 0 0x0001 100000000).hangExempt (started (record 0x0001 [])) = false ∧ (hung 0 0x0001 100000000).inLadder 7 = false ∧
    (hung 0 0x0001 100000000).isControl (started (record 0x0001 [])) = false ∧
    (hung 0 0x0001 100000000).ctxSource (started (record 0x0001 [])) < 26 ∧ (hung 0 0x0001 100000000).faults.openInc = none ∧
    (hung 0 0x0001 100000000).faults.safe = false ∧ (hung 0 0x0001 100000000).contract.draining = false ∧
    (hung 15 0xF001 100000000).isControl (started (record 0xF001 [])) = true ∧ (hung 15 0xF001 100000000).restarting 1 = false ∧
    (hung 15 0xF001 100000000).hangExempt (started (record 0xF001 [])) = false ∧ (hung 15 0xF001 100000000).inLadder 7 = false ∧
    (hung 0 0x0001 9).now < 0 + (hung 0 0x0001 9).e 0x2F04 0 ∧
    ((hung 0 0x0001 100000000).contract.ctxs.filter fun k => k.id == 7) = [started (record 0x0001 [])] := by decide

theorem witness_watchdog : (faulty 100000000 [] id).faults.watchdogs[3]? = some 0 ∧ (faulty 100000000 [] id).componentsRun = true ∧
    0 + (faulty 100000000 [] id).e 0x2F04 2 ≤ 100000000 ∧ (faulty 0 [] id).faults.watchdogs.length ≤ 8 ∧
    (faulty 9 [] id).now < 0 + (faulty 9 [] id).e 0x2F04 2 := by decide

/-- Component 3 with earlier misses. -/
def missed (times : List Nat) (restarting : Bool) (now : Nat) : State :=
  faulty now [] fun f => { f with components := [{ (default : Component) with core := 3, trapTimes := times, restarting := restarting }] }

theorem witness_checkin : (missed [] false 10000000).component? 3 = some { (default : Component) with core := 3 } ∧
    (missed [] false 10000000).componentsRun = true ∧ 0 + (missed [] false 10000000).e 0x2F04 1 ≤ 10000000 ∧
    (missed [] false 10000000).contract.draining = false ∧ (missed [] false 10000000).faults.openInc = none ∧
    (missed [] false 10000000).faults.dumps = [] ∧ (missed [] false 10000000).component? 4 = none ∧
    (missed [2, 1] false 10000000).component? 3 = some { (default : Component) with core := 3, trapTimes := [2, 1] } ∧
    2 ≤ (([2, 1] : List Nat).filter fun t => 10000000 < t + 10000000000).length ∧
    (missed [] true 9).component? 3 = some { (default : Component) with core := 3, restarting := true } ∧
    (missed [] true 9).componentsRun = true := by decide

/-- A write of the tray controller. -/
def tray (sub : Nat) (value : Bytes) : ActReq :=
  { transport := 0, source := 0, version := 0x14, tag := 7, cabinet := 0, sub := sub, value := value }

theorem witness_fault_acts : Granted (faulty 0 [] id) (tray 1 [4, 0, 0, 0, 0, 0, 0, 0]) 0x2F00 1 ∧ (faulty 0 [] id).faults.queuedInc = [] ∧
    Granted (faulty 0 [] fun f => { f with openInc := some incident17 }) (tray 1 [4, 0, 0, 0, 0, 0, 0, 0]) 0x2F00 1 ∧
    bit (reqVal (tray 1 [4, 0, 0, 0, 0, 0, 0, 0])) incident17.firstSource = true ∧
    Granted (faulty 0 [] id) (tray 1 [1]) 0x2F06 1 ∧ Granted (faulty 0 [] id) (tray 5 [0]) 0x2F07 5 ∧ (faulty 0 [] id).faults.dumps.length ≤ 4 := by
  refine ⟨⟨by decide, by decide, by decide, by decide⟩, by decide, ⟨by decide, by decide, by decide, by decide⟩, by decide,
    ⟨by decide, by decide, by decide, by decide⟩, ⟨by decide, by decide, by decide, by decide⟩, by decide⟩
/-- A merged error adds to MERGED and leaves COUNT. -/
theorem test_merged_error : (match exec (.errorPin (report 2 0x10 0x1025)) (faulty 0 [(0x2F0300, 2)] fun f => { f with openInc := some incident17 }) with
    | .next u => u.faults.openInc.map (·.merged) == some 1 && u.faults.firstErrors.isEmpty && u.e 0x2F00 0 == 2 ^ 34
    | _ => false) = true := by decide +kernel

/-- The worked example of spec 16: the watchdog of quadrant 0's Move instance; MASTER 0, ACCESS 4, CAUSE 0x04. -/
theorem test_hang : (match exec (.engineHangLimit 7) (hung 0 0x0001 100000000) with
    | .next u => u.e 0x2F00 0 == 1 && u.e 0x2F03 0 == 1 &&
        u.faults.firstErrors.map (fun r => (r.master, r.access, r.causeCode)) == [(0, 4, 0x04)]
    | _ => false) = true := by decide +kernel

/-- The third missed check-in within 10 s is CONTROL_FAILURE. -/
theorem test_third_miss : (match exec (.componentCheckin 3) (missed [2, 1] false 10000000) with
    | .next u => u.faults.safe && u.faults.safeCause == 0x13
    | _ => false) = true := by
  rfl
/-- A ladder at a rung since time 0 for incident 17 on a target, of a command or none. -/
def climbing (rung target now : Nat) (ctx : Option Nat) (safe : Bool) : State :=
  let s := hung 1 0x1020 now
  { s with
    dict := [(0x100300, 3), (0x2F0300, rung)]
    faults := { s.faults with
      openInc := some { incident17 with target := target, ctx := ctx }
      safe := safe
      granulesDone := [(7, 0)] } }

theorem witness_rung_complete (k : Nat) (h : k = 1 ∨ k = 2 ∨ k = 3) :
    (climbing k 0x000B 0 (some 7) false).faults.openInc = some { incident17 with target := 0x000B, ctx := some 7 } ∧
    (climbing k 0x000B 0 (some 7) false).rung = k ∧ (climbing k 0x000B 0 (some 7) false).faults.safe = false ∧
    (climbing k 0x000B 0 (some 7) false).contract.draining = false ∧ (climbing k 0x000B 0 (some 7) false).caught 7 = true ∧
    (climbing k 0x000B 0 (some 7) false).faults.queuedInc = [] ∧ incident17.firstSource ≠ 256 ∧ State.reset.faults.openInc = none ∧
    (climbing 4 0xF000 0 none true).rung = 4 ∧ (climbing 4 0xF000 0 none true).faults.safe = true ∧
    (climbing 4 0xF000 0 none true).trust.pufOk.any id = true ∧ (climbing 2 0x5002 0 none false).rung = 2 := by
  rcases h with rfl | rfl | rfl <;> decide

theorem witness_rung_deadline (k : Nat) (h : k = 1 ∨ k = 2 ∨ k = 3 ∨ k = 4) :
    (climbing k 0x000B 2000000000 (some 7) false).faults.rungStartedAt + (climbing k 0x000B 2000000000 (some 7) false).e 0x2F03 k ≤ 2000000000 ∧
    (climbing k 0x000B 2000000000 (some 7) false).ctx? 7 = some (started (record 0x1020 [])) ∧
    (climbing k 0x000B 2000000000 (some 7) false).ctxMaster (started (record 0x1020 [])) < 4096 ∧
    (climbing k 0x000B 2000000000 (some 7) false).faults.noticeUnacked = false ∧ incident17.severity ≠ 2 ∧
    (climbing k 0x000B 9 (some 7) false).now < (climbing k 0x000B 9 (some 7) false).faults.rungStartedAt + (climbing k 0x000B 9 (some 7) false).e 0x2F03 k := by
  rcases h with rfl | rfl | rfl | rfl <;> decide

theorem witness_reset_request :
    Granted (faulty 0 [] fun f => { f with safe := true }) (tray 0x0B [2, 0x60, 0, 3]) 0x2F03 0x0B ∧
    Granted (faulty 0 [] fun f => { f with safe := true }) (tray 0x0B [0, 0, 0, 4]) 0x2F03 0x0B ∧
    Granted (faulty 0 [] id) (tray 0x0B [2, 0x60, 0, 3]) 0x2F03 0x0B ∧ bits (reqVal (tray 0x0B [2, 0x60, 0, 3])) 31 24 = 3 ∧
    bits (reqVal (tray 0x0B [0, 0, 0, 4])) 31 24 = 4 ∧ requestTarget 3 0x6002 = some 0x6002 ∧
    bits (reqVal (tray 0x0B [2, 0x60, 0, 3])) 15 0 = 0x6002 ∧
    Granted (faulty 0 [] fun f => { f with openInc := some incident17 }) (tray 0x0B [2, 0x60, 0, 3]) 0x2F03 0x0B ∧
    (faulty 0 [] id).faults.safe = false ∧ (faulty 0 [] id).faults.openInc = none := by
  refine ⟨⟨by decide, by decide, by decide, by decide⟩, ⟨by decide, by decide, by decide, by decide⟩, ⟨by decide, by decide, by decide, by decide⟩,
    by decide, by decide, by decide, by decide, ⟨by decide, by decide, by decide, by decide⟩, by decide, by decide⟩

/-- A safe state with its cause and every sensor at a temperature. -/
def halted (cause : Nat) (t : Int) : State :=
  let s := faulty 0 [] fun f => { f with safe := true, safeCause := cause }
  { s with energy := { s.energy with temps := List.replicate 24 t } }

theorem witness_safe_exit : (halted 0x12 0).faults.safe = true ∧ (halted 0x12 0).e 0x2F05 1 = 1 ∧ (halted 0x12 0).faults.safeCause ≠ 0x17 ∧
    (halted 0x12 0).rung < 4 ∧ (halted 0x12 0).cooled = true ∧ (halted 0x12 0).contract.draining = false ∧ (halted 0x12 0).faults.dumps = [] ∧
    (halted 0x12 0).faults.safeDumped = false ∧ (halted 0x14 7000000).faults.safeCause = 0x14 ∧ (halted 0x14 7000000).cooled = false := by
  decide +kernel
/-- The worked example of spec 16: DETAIL of incident 17 of source 2 at the partition rung. -/
theorem test_reset_detail : (climbing 3 0x6002 0 none false).rungDetail = 0x8103000200000011 := by decide

/-- The partition rung ends: the caught command completes with DISCARDED_RESET, and the incident closes. -/
theorem test_partition_rung : (match exec .rungComplete (climbing 3 0x6002 0 none false) with
    | .next u => u.contract.ctxs.isEmpty && u.faults.openInc.isNone && u.transform.quadrantRetest == [2] &&
        u.faults.lastInc.map (·.number) == some 17
    | _ => false) = true := by decide +kernel

/-- The engine rung of quadrant 2's Transform instance gives way to the partition rung on quadrant 2. -/
theorem test_escalation : (match exec .rungDeadline (climbing 2 0x000B 5000000 none false) with
    | .next u => u.e 0x2F03 0 == 3 && u.faults.fencedQuads == [2] && u.faults.openInc.map (·.target) == some 0x6002
    | _ => false) = true := by decide +kernel
/-- An error of the power and thermal component. -/
def privilegedErr : ErrorIn := { report 1 0x15 0xF000 with source := 21, severity := 2 }

theorem witness_privileged : State.reset.merges privilegedErr = false ∧ (∀ r ∈ State.reset.faults.firstErrors, r.source ≠ 21) ∧
    (State.reset.latchError privilegedErr).merges privilegedErr = false ∧
    (∃ r ∈ (State.reset.latchError privilegedErr).faults.firstErrors, r.source = 21) := by decide +kernel

/-- A state whose open incident's chip rung runs. -/
def inChipRung : State :=
  { State.reset with dict := [(0x2F0300, 4)], faults := { State.reset.faults with openInc := some default } }

theorem witness_privileged_merge : inChipRung.merges privilegedErr = true := by decide +kernel
/-- A state in stage B3 with some entries. -/
def served (kvs : List (Nat × Nat)) : State := let s := withQueues []; { s with dict := [(0x100300, 3)] ++ kvs }

/-- The request of the worked example of spec 17: POWER_CAP := 650, with TAG 7, or 550. -/
def cap (lo hi : BitVec 8) : ActReq := { mailbox 0 [lo, hi, 0, 0] with tag := 7 }

/-- A READ of the PF mailbox. -/
def asking : ActReq := mailbox 0 []

theorem witness_steral_answers : (served []).unreachable asking = false ∧ (served []).judge { asking with sub := 0 } 1 0x2E01 0 = (0, []) ∧
    (entryRow 0x2E01 0).map (fun e => (e.access, e.ty)) = some (.rw, .u32) ∧ (served []).judge { asking with sub := 9 } 1 0x2FFF 9 = (1, []) ∧
    (served []).judge { asking with sub := 9 } 3 0x2FFF 9 = (1, []) ∧ (served []).judge { cap 0 0 with sub := 9 } 2 0x2FFF 9 = (1, []) ∧
    (served []).judge { asking with sub := 0 } 3 0x2E01 0 = (0, []) ∧ (rightsRow 0 0x2E01 0).isSome = true ∧
    (served []).contract.activation ≠ 1 ∧ (served []).contract.draining = false ∧
    (served []).judge { cap 0x26 2 with sub := 0 } 2 0x2E01 0 = (0, []) ∧ (served []).inRange 0 0x2E01 0 (reqVal (cap 0x26 2)) = true ∧
    (served []).judge { cap 0x8A 2 with sub := 0 } 2 0x2E01 0 = (0, []) ∧ (served []).inRange 0 0x2E01 0 (reqVal (cap 0x8A 2)) = false ∧
    0x2E01 ∉ [0x2E00, 0x2200, 0x2F00, 0x2601, 0x3100, 0x4008, 0x1006] ∧
    (served []).unreachable { asking with transport := 1 } = true := by decide

theorem witness_plain_entry : writeEffect 0x2E01 0 = plainWrite 0x2E01 0 := rfl

theorem witness_held_write : (staged 7 1 0 0 []).unreachable (cap 0x26 2) = false ∧ (staged 7 1 0 0 []).contract.activation = 1 ∧
    (cap 0x26 2).transport ≠ 5 ∧ refusedInDrain 0x2E01 0 = false ∧
    (staged 7 1 0 0 []).outstandingOf (cap 0x26 2) < outstandingLimit (cap 0x26 2).transport := by decide

theorem witness_latch : Granted (served []) (mailbox 0 [1]) 0x3000 0 := ⟨by decide, by decide, by decide, by decide⟩

/-- A state with an act outstanding since time 0. -/
def pendingAct (now : Nat) : State :=
  let s := served []
  { s with now := now, steral := { s.steral with outstanding := [{ (default : StReq) with isAct := true, transport := 3, tag := 7, index := 0x4000, sub := 2, version := 0x14 }] } }

theorem witness_in_progress : (pendingAct 1000000000).steral.outstanding.find? (fun o => o.isAct && o.transport == 3 && o.source == 0 && o.tag == 7) =
    some { (default : StReq) with isAct := true, transport := 3, tag := 7, index := 0x4000, sub := 2, version := 0x14 } ∧
    0 + 1000000000 ≤ (pendingAct 1000000000).now ∧ (pendingAct 9).now < 0 + 1000000000 := by decide

/-- A state whose management port is at 10.0.0.1, and one at 2001:db8::1 (its bytes in the order they lie). -/
def addressed (v6 : Bool) : State :=
  served [(0x100600, if v6 then leNat [0x20, 1, 0x0D, 0xB8, 0, 0, 0, 0, 0, 0, 0, 0, 0, 0, 0, 1] else leNat [10, 0, 0, 1]), (0x100604, 0x060504030201)]

/-- An ARP request for 10.0.0.1. -/
def arp : Bytes := List.replicate 6 255 ++ [1, 1, 1, 1, 1, 1] ++ [8, 6, 0, 1, 8, 0, 6, 4, 0, 1] ++ [1, 1, 1, 1, 1, 1] ++ [10, 0, 0, 2] ++ zeros 6 ++ [10, 0, 0, 1]

theorem witness_arp : (addressed false).e 0x1006 0 ≠ 0 ∧ (addressed false).mgmtV4 = true ∧ (addressed false).mgmtIp.take 4 = [10, 0, 0, 1] ∧
    (served []).e 0x1006 0 = 0 := by decide

/-- A neighbour solicitation for 2001:db8::1 from 2001:db8::2, without options. -/
def solicitation : Bytes :=
  let a (n : BitVec 8) : Bytes := [0x20, 1, 0x0D, 0xB8, 0, 0, 0, 0, 0, 0, 0, 0, 0, 0, 0, n]
  let icmp := [135, 0, 0, 0, 0, 0, 0, 0] ++ a 1
  List.replicate 6 0x33 ++ [1, 1, 1, 1, 1, 1, 0x86, 0xDD, 0x60, 0, 0, 0, 0, 24, 58, 255] ++ a 2 ++ a 1 ++
    putBytes icmp 2 (toBe 2 (inetChecksum (icmp6Pseudo (a 2) (a 1) 24 ++ icmp)))

theorem witness_solicitation : (addressed true).e 0x1006 0 ≠ 0 ∧ (addressed true).mgmtV4 = false ∧ slice solicitation 12 2 = [0x86, 0xDD] ∧
    slice solicitation 20 2 = [58, 255] ∧ fieldBe solicitation 18 2 = 24 ∧ 54 + 24 ≤ solicitation.length ∧
    slice solicitation 54 2 = [135, 0] ∧ slice solicitation 62 16 = (addressed true).mgmtIp ∧
    foldSum (inetSum (icmp6Pseudo (slice solicitation 22 16) (slice solicitation 38 16) 24 ++ slice solicitation 54 24)) = 0xFFFF := by
  decide +kernel
/-- The worked example of spec 17: POWER_CAP keeps 600, and the response's bytes. -/
theorem test_refused_cap : (match exec (.steralWrite (cap 0x8A 2) 0x2E01 0) (served []) with
    | .next u => u.e 0x2E01 0 == 600 && u.steral.responses.map (·.bytes) ==
        [[0x14, 0x82, 7, 0, 1, 0x2E, 0, 2, 0, 0, 4, 0, 0, 0, 0, 0, 0x58, 2, 0, 0]]
    | _ => false) = true := by decide +kernel

/-- Its correction: CODE 0 with 550. -/
theorem test_accepted_cap : (match exec (.steralWrite { cap 0x26 2 with tag := 8 } 0x2E01 0) (served []) with
    | .next u => u.e 0x2E01 0 == 550 && u.steral.responses.map (·.bytes) ==
        [[0x14, 0x82, 8, 0, 1, 0x2E, 0, 0, 0, 0, 4, 0, 0, 0, 0, 0, 0x26, 2, 0, 0]]
    | _ => false) = true := by decide +kernel

theorem test_arp : (match exec (.arpRequest arp) (addressed false) with
    | .next u => u.steral.mgmtOut.map (·.take 42) == [[1, 1, 1, 1, 1, 1, 1, 2, 3, 4, 5, 6, 8, 6, 0, 1, 8, 0, 6, 4, 0, 2, 1, 2, 3, 4, 5, 6, 10, 0, 0, 1,
        1, 1, 1, 1, 1, 1, 10, 0, 0, 2]]
    | _ => false) = true := by decide +kernel
/-- A state that exports flow 9, whose record has counted since time 0, or not. -/
def exporting (now packets : Nat) : State :=
  let s := served [(0x310000, 1)]
  { s with now := now, packet := { s.packet with flows := [{ (default : FlowRec) with id := 9, packets := packets }] } }

theorem witness_export : (exporting 600000000000 3).packet.flows.find? (fun r => r.id == 9) = some { (default : FlowRec) with id := 9, packets := 3 } ∧
    (exporting 600000000000 3).exports = true ∧ 0 + (exporting 600000000000 3).e 0x3100 4 ≤ 600000000000 ∧
    0 + (exporting 600000000000 3).e 0x3100 5 ≤ 600000000000 ∧
    (exporting 600000000000 3).packet.templateAt + (exporting 600000000000 3).e 0x3100 6 ≤ 600000000000 ∧
    (served []).exports = false ∧ (exporting 9 0).packet.flows.find? (fun r => r.id == 9) = some { (default : FlowRec) with id := 9 } := by
  decide

/-- A state in which an update of a component is under way. -/
def updating (comp : Nat) (received : Bytes) (verified : Bool) : State :=
  let s := served []
  let x : Update := { agent := 1, component := comp, size := 4, received := received, maxTransfer := 64, verified := verified }
  { s with steral := { s.steral with update := some x } }

/-- The result of an image's verification. -/
def image (ok : Bool) : FlashIn :=
  { headerOk := true, digestOk := true, rsaOk := ok, slhOk := true, release := 7, svn := 0, digest := [] }

theorem witness_update : (served []).steral.update = none ∧ (served []).faults.safe = false ∧ (updating 1 [] false).steral.update ≠ none ∧
    (([1, 2, 3, 4] : Bytes)).length = min (min 64 4096) (4 - ([] : Bytes).length) ∧ 1 ≤ (updating 1 [] false).e 0x1003 0 ∧
    (updating 1 [] false).trust.runningSlot ≤ 1 ∧ 4 ≤ (([1, 2, 3, 4] : Bytes)).length ∧
    (updating 1 [1, 2, 3, 4] false).floorInForce ≤ (image true).svn ∧ (image false).rsaOk = false ∧
    (updating 1 [1, 2, 3, 4] true).contract.activation = 0 ∧ (updating 1 [1, 2, 3, 4] true).mayActivate = true ∧
    (updating 1 [] false).faults.safe = false := by decide
/-- An image that verifies is staged. -/
theorem test_verify : (match exec (.verifyComplete (image true)) (updating 1 [1, 2, 3, 4] false) with
    | .next u => u.e 0x1001 1 == 7 && u.steral.update.any (·.verified)
    | _ => false) = true := by decide +kernel

/-- Without addresses a flow's message is counted as dropped. -/
theorem test_export_drop : (match exec (.ipfixIdleTimeout 9) (exporting 600000000000 3) with
    | .next u => u.e 0x3100 7 == 1 && u.packet.ipfixOut.isEmpty
    | _ => false) = true := by decide +kernel
/-- A state out of reset in a stage since time 0, with some entries. -/
def staging (stage now : Nat) (kvs : List (Nat × Nat)) (enumerated : Bool) : State :=
  let s := State.reset
  { s with
    now := now
    dict := [(0x100300, stage)] ++ kvs
    pins := { s.pins with resetN := true }
    tiers := { s.tiers with cxlEnumerated := enumerated } }

theorem witness_stage_b1 : (staging 0 0 [(0x2D0000, 1), (0x2D0100, 0), (0x2D0102, 1)] false).heldInReset = false ∧
    (staging 0 0 [(0x2D0000, 1), (0x2D0100, 0), (0x2D0102, 1)] false).faults.safe = false ∧
    (staging 0 0 [(0x2D0000, 1), (0x2D0100, 0), (0x2D0102, 1)] false).e 0x2D00 0 = 1 ∧
    (staging 0 0 [(0x2D0000, 1), (0x2D0100, 0), (0x2D0102, 1)] false).e 0x2D01 0 = 0 ∧
    (staging 0 0 [(0x2D0000, 1), (0x2D0100, 0), (0x2D0102, 1)] false).e 0x2D01 2 = 1 ∧
    (staging 0 0 [] false).contract.draining = false ∧ (staging 0 0 [] false).trust.appliedProfile = [] ∧ (0xFFFF : BitVec 16) ≠ 0 ∧
    (staging 0 0 [(0x2D0000, 1), (0x2D0100, 0), (0x2D0102, 1)] false).e 0x1003 0 = 0 ∧ State.reset.heldInReset = true := by decide

theorem witness_stages : (staging 1 1000000000 [] false).heldInReset = false ∧ (staging 1 1000000000 [] false).e 0x1003 0 = 1 ∧
    (staging 1 1000000000 [] false).e 0x1003 2 ≠ 1 ∧ (staging 1 1000000000 [] false).stageTime 1 + 1000000000 ≤ 1000000000 ∧
    (staging 1 1000000000 [] false).e 0x2F00 0 < 2 ^ 64 ∧ (staging 1 1000000000 [] false).trust.appliedProfile = [] ∧
    (staging 2 10000000000 [(0x230002, 2)] true).e 0x1003 0 = 2 ∧ (staging 2 10000000000 [(0x230002, 2)] true).e 0x2300 2 = 2 ∧
    (staging 2 10000000000 [(0x230002, 2)] true).tiers.cxlEnumerated = true ∧ (staging 2 10000000000 [(0x230002, 2)] true).e 0x1003 2 = 0 ∧
    (staging 2 10000000000 [(0x230002, 2)] true).stageTime 2 + 10000000000 ≤ 10000000000 ∧
    (staging 2 10000000000 [(0x230002, 2)] true).storage.flashTable = [] ∧ (staging 2 10000000000 [(0x230002, 2)] true).faults.safe = false ∧
    (staging 2 10000000000 [(0x230002, 2)] true).contract.draining = false := by decide
/-- A state with its pins changed. -/
def pinned (f : Pins → Pins) : State := { State.reset with pins := f { State.reset.pins with resetN := true } }

theorem witness_power_goods : (pinned id).pins.aonPwrgood = true ∧ (pinned fun p => { p with aonPwrgood := false }).pins.aonPwrgood = false ∧
    (pinned id).pins.pwrgood = true ∧ (pinned fun p => { p with pwrgood := false }).pins.pwrgood = false ∧ (2 : Nat) ∉ (pinned id).pins.railsOut ∧
    (2 : Nat) ∈ (pinned fun p => { p with railsOut := [2, 3] }).pins.railsOut ∧ (pinned fun p => { p with railsOut := [2] }).pins.railsOut = [2] ∧
    (∃ x ∈ (pinned fun p => { p with railsOut := [2, 3] }).pins.railsOut, x ≠ 2) ∧ (pinned id).contract.draining = false ∧
    (pinned id).faults.openInc = none ∧ (pinned id).pins.resetN = true ∧ (pinned id).pins.powered = true ∧ (pinned id).faults.safe = false ∧
    (pinned id).trust.pufOk.any id = true := by decide

/-- A state with no good helper data. -/
def noPuf : State := { State.reset with trust := { State.reset.trust with pufOk := [false, false] } }

theorem witness_reset_n : (pinned id).pins.resetN = true ∧ State.reset.pins.resetN = false ∧ State.reset.pins.powered = true ∧
    State.reset.pins.selfReset = false ∧ State.reset.trust.pufOk.any id = true ∧ State.reset.pins.profileSel ≤ 3 ∧
    noPuf.pins.resetN = false ∧ noPuf.trust.pufOk.any id = false ∧ noPuf.faults.openInc = none ∧ noPuf.faults.safe = false ∧
    (pinned fun p => { p with resetN := false, selfReset := true }).pins.selfReset = true := by decide

theorem witness_perst_n : (pinned id).pins.perstN.length = 2 ∧ (pinned id).pins.perstN.getD 0 true = true ∧ (pinned id).ports.hostSplit = false ∧
    (pinned fun p => { p with perstN := [false, true] }).pins.perstN.getD 0 true = false := by decide
/-- From reset, RESET_N's rise brings the root and the straps. -/
theorem test_reset_release : (match exec .resetNRelease State.reset with
    | .next u => u.pins.resetN && u.trust.rootReady && u.pins.i3cAddr == 80 && u.e 0x2D01 2 == 1
    | _ => false) = true := by decide +kernel

/-- A fall of PWRGOOD is POWER_LOSS. -/
theorem test_power_loss : (match exec (.pwrgoodFall none) (pinned id) with
    | .next u => u.faults.safe && u.faults.safeCause == 0x15 && !u.pins.pwrgood
    | _ => false) = true := by decide +kernel
/-! ### Ill-formed terms, one for each check of WellFormed -/

/-- A dictionary request that passes every check. -/
def fineReq : ActReq := { transport := 0, source := 1, version := 2, tag := 7, cabinet := 0, sub := 1, value := [1] }
/-- A packet that passes every check. -/
def finePacket : ZtIn :=
  { conn := 1, srcConn := 2, srcIp := [], version := 2, flags := 0, keyGen := 0, seqNo := 0, attempt := 0, auth := true, body := [] }
/-- A message that passes every check. -/
def fineMessage : GroupIn :=
  { slot := 63, sender := 65535, groupId := 1, epoch := 1, opSeq := 1, opcode := 0x10, level := 0, shard := 0, chunk := 0, shapeCheck := 0, body := [] }
/-- A snapshot message that passes every check. -/
def fineSnap : SnapIn := { slot := 63, sender := 65535, epoch := 1, step := 1, arg := 0, body := [] }

theorem wf_refuses_requests : (Instr.steralWrite fineReq 0x2E01 0).wf = true ∧
    [{ fineReq with transport := 6 }, { fineReq with source := 65536 }, { fineReq with version := 256 },
     { fineReq with tag := 65536 }, { fineReq with cabinet := 65536 }, { fineReq with sub := 256 },
     { fineReq with value := List.replicate 4081 0 }].all (fun r => !(Instr.steralWrite r 0x2E01 0).wf) = true := by decide +kernel

theorem wf_refuses_messages : (Instr.writePacket finePacket).wf = true ∧ (Instr.join fineMessage).wf = true ∧
    [{ finePacket with conn := 4294967296 }, { finePacket with srcConn := 4294967296 }, { finePacket with version := 256 },
     { finePacket with flags := 256 }, { finePacket with keyGen := 256 }, { finePacket with attempt := 256 }].all
      (fun p => !(Instr.writePacket p).wf) = true ∧
    [{ fineMessage with slot := 64 }, { fineMessage with sender := 65536 }, { fineMessage with opSeq := 18446744073709551616 },
     { fineMessage with opcode := 65536 }, { fineMessage with level := 256 }, { fineMessage with shard := 4294967296 },
     { fineMessage with chunk := 4294967296 }].all (fun m => !(Instr.join m).wf) = true ∧
    [{ fineSnap with slot := 64 }, { fineSnap with sender := 65536 },
     { fineSnap with step := 18446744073709551616 }].all (fun m => !(Instr.vote m).wf) = true := by decide

theorem wf_refuses_units : [Instr.measuredRateUpdate [0, 0, 0], .measuredRateUpdate [0, 0, 0, 23001], .rateFloor 4, .crossingTransfer 10 none,
    .arbiterGrant 0 [{ position := 0, cls := 3, granules := 1, arrives := false }], .sqTail 4096 0 0, .sqTail 0 16384 0, .sqTail 0 0 65536,
    .set 0 65536, .addTrigger 72 0 0, .addTrigger 0 2 0, .ld 0 2 0, .kernelInstanceStart 0 64].all
      (fun i => !i.wf) = true := by decide

theorem wf_refuses_records :
    (Instr.errorPin { source := 32, severity := 1, address := 0, master := 0, access := 0, privilegedAccess := false, causeCode := 1 }).wf = false ∧
    (Instr.errorPin { source := 3, severity := 0, address := 0, master := 0, access := 0, privilegedAccess := false, causeCode := 1 }).wf = false ∧
    (Instr.peerTlp { port := 8, kind := 0, addrType := 0, addr := 0, tag := 0, len := 4, data := [], poisoned := false, ideStream := 0, ideOk := true }).wf = false ∧
    (Instr.peerTlp { port := 0, kind := 1, addrType := 0, addr := 0, tag := 0, len := 4097, data := [], poisoned := false, ideStream := 0, ideOk := true }).wf = false ∧
    (Instr.cipherRequest { stream := 3, cabinet := 0, slot := 0, op := 0, src := 0, dst := 0, len := 0, iv := 0, ctx := none }).wf = false ∧
    (Instr.cipherRequest { stream := 0, cabinet := 0, slot := 0, op := 4, src := 0, dst := 0, len := 0, iv := 0, ctx := none }).wf = false ∧
    (Instr.thermalLoop [25]).wf = false := by decide

/-! ### Worked examples of the spec -/

/-- Composing handles (02, Worked example): sync objects 1,000 of cabinet 0 and 200,000 of cabinet 1,207; queue 5 of cabinet 1,207. -/
theorem test_handles : syncHandle 0 1000 = 0x400003E8 ∧ syncHandle 1207 200000 = 0x52DF0D40 ∧ queueHandle 1207 5 = 0x92DC0005 ∧
    handleKind 0x52DF0D40 = 1 ∧ handleCabinet 0x52DF0D40 = 1207 ∧ handleIndex 0x52DF0D40 = 200000 := by decide

/-- The policy at its defaults. -/
def defaultPolicy : Policy := policyOf ((List.range 7).map fun i => State.reset.e 0x2200 i)

/-- A block of FP32 words, zeros to 64. -/
def block (l : List Nat) : List Fl := (l ++ List.replicate (64 - l.length) 0).map Fp.of32

/-- One ZN4 block with an outlier (03, Worked example). -/
theorem test_zn4_outlier :
    (match encodeBlock 2 true defaultPolicy (block [0x3E99999A, 0xBDF5C28F, 0x3D4CCCCD, 0x4019999A, 0xBE570A3D, 0x3E8A3D71])
        (List.replicate 64 .rne) with
      | .ok (f, bs, c) => f == 2 && bs == [0xA6, 0x17, 0x66, 0x03, 0, 0, 0, 0, 0xD7, 0x81, 0x6B] ++ zeros 29 && c == { escaped := 1 }
      | .error _ => false) = true := by decide +kernel

/-- Stochastic rounding of its element 1 (03, Worked example): u = 0.375 takes −3, u = 0.875 takes −2. -/
theorem test_stochastic :
    (match encodeBlock 2 true defaultPolicy (block [0x3E99999A, 0xBDF5C28F, 0x3D4CCCCD, 0x4019999A, 0xBE570A3D, 0x3E8A3D71])
        (.rne :: .sr 0x600000 :: List.replicate 62 .rne) with
      | .ok (_, bs, _) => field bs 8 1 == 0xD7
      | .error _ => false) = true ∧
    (match encodeBlock 2 true defaultPolicy (block [0x3E99999A, 0xBDF5C28F, 0x3D4CCCCD, 0x4019999A, 0xBE570A3D, 0x3E8A3D71])
        (.rne :: .sr 0xE00000 :: List.replicate 62 .rne) with
      | .ok (_, bs, _) => field bs 8 1 == 0xE7
      | .error _ => false) = true := by decide +kernel

/-- Escalation to MXFP8 (03, Worked example): format code 3, scale code 0x81, 900 written as 224 × 4. -/
theorem test_escalates :
    (match encodeBlock 2 true defaultPolicy
        (block [0x3F800000, 0x3F666666, 0x3F000000, 0, 0, 0, 0, 0, 0, 0, 0x44610000]) (List.replicate 64 .rne) with
      | .ok (3, bs, c) => field bs 0 1 == 0x81 && field bs 18 1 == 0x76 && c.escalated == 1 &&
          Fp.to32 ((decodeContainer 3 bs).1.getD 2 .nan) == 0x3F000000
      | _ => false) = true := by decide +kernel

/-- F of a drained step (09, Worked example). -/
theorem test_fragment_size : fragSize 47143518208 8 = 5892997120 := by decide +kernel
/-- With cabinet 0's queues on pages up to 1,383 (13, Worked example), its controller is granted 14,999 pairs. -/
theorem test_pairs_granted : State.pairsGranted
    { withQueues [{ (default : Queue) with index := 5, page := 1383 }] with dict := [(0x400106, 17536)] } 0
      = 14999 := by decide +kernel

/-- Shaping one tenant's egress (10, Worked example), from packet 5 on: the slots and the tokens at the next. -/
theorem test_shaper_slots :
    let x : Shaper := { port := 0, subscriber := 1207, service := none, tokens := -4238 * 8000000000, lastRefill := 2272
                        rate := 2000000000, burst := 16384, slotAt := none, coarse := false, eligibleAt := 0 }
    (x.place 2272).slotAt = some 19232 ∧
    x.tokens + 2000000000 * (19232 - 2272) = 2 * 8000000000 ∧
    ({ x with tokens := (2 - 4238) * 8000000000 } : Shaper).place 19232 =
      { x with tokens := -4236 * 8000000000, slotAt := some 36192, eligibleAt := 36192 } := by decide +kernel

/-- The fixed order of a reduction (01, Worked example): ((a + b) + c) + d is 1.0. -/
theorem test_fixed_order : Fp.to32 (Fp.add32 (Fp.add32 (Fp.add32 (Fp.of32 0x4CBEBC20) (Fp.of32 0x3F800000)) (Fp.of32 0xCCBEBC20))
    (Fp.of32 0x3F800000)) = 0x3F800000 := by decide +kernel

end Sys2Proof.Tests
end

/-! PROOFS of the scope: canonical memory is its bytes, a step runs the command at the front, and every command answers
the same waiting commands and a canonical memory, or stops for a unit that the block does not have. -/

namespace Sys2Proof.Machine

/-! ### Canonical memory is its bytes -/

theorem Memory.get_head (a : Nat) (b : Byte) (r : List Host.Cell) : Memory.get ((a, b) :: r) a = b := by
  simp [Memory.get]

/-- Below its first listed address a canonical memory reads 0. -/
theorem Memory.get_below_head {a k : Nat} {b : Byte} {r : List Host.Cell} (h : Memory.wf ((a, b) :: r) = true)
    (hk : k < a) : Memory.get ((a, b) :: r) k = 0 := by
  obtain ⟨-, hr, hw⟩ := (Memory.wf_cons a b r).1 h
  simp only [Memory.get, if_neg (show ¬ a = k by omega)]
  exact Memory.get_above r k a hw hr (by omega)

/-- The first listed address of a canonical memory is the first that does not read 0, so memories that read the same
begin with the same cell. -/
theorem Memory.head_eq_of_get_eq {a a' : Nat} {b b' : Byte} {m n : List Host.Cell}
    (hm : Memory.wf ((a, b) :: m) = true) (hn : Memory.wf ((a', b') :: n) = true)
    (h : ∀ k, Memory.get ((a, b) :: m) k = Memory.get ((a', b') :: n) k) : a = a' ∧ b = b' := by
  have hb := ((Memory.wf_cons a b m).1 hm).1
  have hb' := ((Memory.wf_cons a' b' n).1 hn).1
  have ha : a = a' := by
    rcases Nat.lt_trichotomy a a' with hlt | heq | hgt
    · exact absurd (by rw [← Memory.get_head a b m, h a, Memory.get_below_head hn hlt]) hb
    · exact heq
    · exact absurd (by rw [← Memory.get_head a' b' n, ← h a', Memory.get_below_head hm hgt]) hb'
  subst ha
  exact ⟨rfl, by rw [← Memory.get_head a b m, h a, Memory.get_head]⟩

/-- Memories that read the same read the same past a first cell that they share. -/
theorem Memory.get_tail_eq {a : Nat} {b b' : Byte} {m n : List Host.Cell} (hm : Memory.wf ((a, b) :: m) = true)
    (hn : Memory.wf ((a, b') :: n) = true) (h : ∀ k, Memory.get ((a, b) :: m) k = Memory.get ((a, b') :: n) k) (k : Nat) :
    Memory.get m k = Memory.get n k := by
  obtain ⟨-, am, wm⟩ := (Memory.wf_cons a b m).1 hm
  obtain ⟨-, an, wn⟩ := (Memory.wf_cons a b' n).1 hn
  by_cases hk : a = k
  · rw [Memory.get_above m k a wm am (by omega), Memory.get_above n k a wn an (by omega)]
  · simpa only [Memory.get, if_neg hk] using h k

/-- Canonical memories that read the same are the same list. -/
theorem Memory.ext_of_wf {m n : List Host.Cell} (hm : Memory.wf m = true) (hn : Memory.wf n = true)
    (h : ∀ a, Memory.get m a = Memory.get n a) : m = n := by
  induction m generalizing n with
  | nil =>
    cases n with
    | nil => rfl
    | cons d n =>
      obtain ⟨a', b'⟩ := d
      exact absurd ((Memory.get_head a' b' n).symm.trans (h a').symm) ((Memory.wf_cons a' b' n).1 hn).1
  | cons c m ih =>
    obtain ⟨a, b⟩ := c
    cases n with
    | nil => exact absurd ((Memory.get_head a b m).symm.trans (h a)) ((Memory.wf_cons a b m).1 hm).1
    | cons d n =>
      obtain ⟨a', b'⟩ := d
      obtain ⟨rfl, rfl⟩ := Memory.head_eq_of_get_eq hm hn h
      rw [ih ((Memory.wf_cons a b m).1 hm).2.2 ((Memory.wf_cons a b n).1 hn).2.2 (Memory.get_tail_eq hm hn h)]

/-- A read of n bytes is the list of the bytes at its addresses. -/
theorem Memory.read_eq_map (m : List Host.Cell) (a n : Nat) :
    Memory.read m a n = (List.range n).map fun i => Memory.get m (a + i) := by
  induction n generalizing a with
  | zero => rfl
  | succ n ih =>
    rw [Memory.read, ih, List.range_succ_eq_map, List.map_cons, List.map_map]
    simp [Function.comp_def, Nat.add_assoc, Nat.add_comm 1]

/-- A run of bytes written reads back. -/
theorem Memory.read_write_same (m : List Host.Cell) (a : Nat) (bs : Bytes) (h : Memory.wf m = true) :
    Memory.read (Memory.write m a bs) a bs.length = bs := by
  rw [Memory.read_eq_map]
  refine List.ext_getElem (by simp) fun i _ hi => ?_
  simp [Memory.get_write bs m a _ h, hi]

/-- A run of bytes written leaves every byte outside it. -/
theorem Memory.get_write_outside (m : List Host.Cell) (a k : Nat) (bs : Bytes) (h : Memory.wf m = true)
    (hk : k < a ∨ a + bs.length ≤ k) : Memory.get (Memory.write m a bs) k = Memory.get m k := by
  rw [Memory.get_write bs m a k h, if_neg (by omega)]

/-! ### Each step runs the command at the front -/

theorem step_of_cons {s : State} {c : Instr} {rest : List Instr} (h : s.pending = c :: rest) :
    step s = exec c { s with pending := rest } := by
  simp only [step, h]

theorem step_of_nil {s : State} (h : s.pending = []) : step s = .next s.tick := by
  simp only [step, h]

/-! ### The forms that meanings share -/

/-- The forms in which a path of a meaning ends. -/
theorem answers_leaf (s : State) :
    (∀ t, Answers s (s.commit t)) ∧ (∀ t, Answers s (s.quiet t)) ∧ (∀ t, Answers s (s.settled t)) ∧
    (∀ who t, Answers s (s.land who t)) ∧ Answers s s.idle ∧ Answers s (.fault .noSuchUnit) :=
  ⟨answers_commit s, answers_quiet s, answers_settled s, answers_land s, answers_idle s, answers_fault s⟩

/-- A meaning given on a state whose head has been judged, which touches neither the waiting commands nor memory. -/
theorem Answers.of_judgeHead {s : State} {qi : Nat} {o : Result} (h : Answers (s.judgeHead qi) o) : Answers s o :=
  h.of_same (State.judgeHead_pending s qi) (State.judgeHead_mem s qi)

/-- A trigger that names one of several units of a kind: a number above the last stops. -/
theorem answers_onUnit (s : State) (p : Prop) [Decidable p] (core u k : Nat) (t : W32) :
    Answers s (if p then .fault .noSuchUnit else s.onTrigger core u k t) := by
  split
  · exact answers_fault s
  · exact answers_onTrigger s core u k t

theorem answers_issueWord (s : State) (c : Core) : Answers s (s.issueWord c) := by
  unfold State.issueWord
  dsimp only
  repeat' split
  all_goals simp only [answers_leaf]

theorem answers_frameAsleep (s : State) (port : Nat) (bytes : Bytes) : Answers s (s.frameAsleep port bytes) := by
  unfold State.frameAsleep
  split <;> simp only [answers_leaf]

theorem answers_landPacket (s : State) (q : Queue) (r : Bytes) (f : Frame) : Answers s (s.landPacket q r f) := by
  unfold State.landPacket
  dsimp only
  repeat' split
  all_goals simp only [answers_leaf]

theorem answers_optimizer (s : State) (id op : Nat) : Answers s (s.optimizer id op) :=
  answers_transformCmd s id op _

theorem answers_collective (s : State) (id op : Nat) : Answers s (s.collective id op) := by
  unfold State.collective
  refine answers_onCtx fun c => ?_
  dsimp only
  repeat' split
  all_goals simp only [answers_leaf]

theorem answers_onPart {s : State} {m : GroupIn} {f : Group → CollOp → CollCmd → Nat → Result}
    (h : ∀ g op k q, Answers s (f g op k q)) : Answers s (s.onPart m f) := by
  unfold State.onPart
  refine answers_onMessage fun g => ?_
  dsimp only
  repeat' split
  all_goals simp only [answers_leaf, h]

theorem answers_contribute (s : State) (k : CollCmd) (a : OrderedAcc) (i blocks : Nat) (m : GroupIn) :
    Answers s (s.contribute k a i blocks m) := by
  unfold State.contribute State.backPressure
  dsimp only
  repeat' split
  all_goals simp only [answers_leaf]

theorem answers_onSet {s : State} {id op : Nat} {named : List (Nat × Nat)} {slotAt : Nat}
    {checks : Bytes → List (Bool × Err)} {f : Ctx → Group → SnapSet → Result} (h : ∀ c g x, Answers s (f c g x)) :
    Answers s (s.onSet id op named slotAt checks f) := by
  unfold State.onSet
  refine answers_onCtx fun c => ?_
  dsimp only
  repeat' split
  all_goals simp only [answers_leaf, h]

theorem answers_onStage {s : State} {m : SnapIn} {f : Group → SnapSet → Nat → Result}
    (h : ∀ g x k, Answers s (f g x k)) : Answers s (s.onStage m f) := by
  unfold State.onStage
  split
  · exact answers_idle s
  · exact answers_onSnap h

theorem answers_onRound {s : State} {m : SnapIn} {f : Group → Result} (h : ∀ g, Answers s (f g)) :
    Answers s (s.onRound m f) := by
  unfold State.onRound
  repeat' split
  all_goals simp only [answers_leaf, h]

theorem answers_takeRestore (s : State) (slot step : Nat) : Answers s (s.takeRestore slot step) := by
  unfold State.takeRestore
  repeat' split
  all_goals simp only [answers_leaf]

/-- An answer that is no next state is the stop, whatever state it is taken of. -/
theorem Answers.of_not_next {s t : State} {o : Result} (h : Answers t o) (hn : ∀ u, o = .next u → False) :
    Answers s o := by
  obtain ⟨u, hu, -⟩ | rfl := h
  · exact (hn u hu).elim
  · exact answers_fault s

theorem answers_takeVerdict (s : State) (slot member maxStep : Nat) (v : List (Nat × Nat)) :
    Answers s (s.takeVerdict slot member maxStep v) := by
  unfold State.takeVerdict
  dsimp only
  split
  · exact answers_idle s
  · split
    · exact answers_commit s _
    · split
      · exact answers_land s none _
      · next hn => exact (answers_takeRestore _ _ _).of_not_next hn

theorem answers_writeSignal (s : State) (cab requester o v : Nat) : Answers s (s.writeSignal cab requester o v) := by
  unfold State.writeSignal
  dsimp only
  repeat' split
  all_goals simp only [answers_leaf, answers_signalPage]

theorem answers_writeDoorbell (s : State) (cab o v : Nat) : Answers s (s.writeDoorbell cab o v) := by
  unfold State.writeDoorbell
  split
  · split <;> simp only [answers_leaf]
  · next q _ =>
    split
    · exact answers_doorbell s cab q.index _
    split
    · exact answers_doorbell s cab q.index _
    split
    · refine Answers.andThen ?_ fun t => ?_
      · split
        · exact answers_doorbell s cab q.index _
        · exact answers_idle s
      · split
        · exact answers_doorbell t cab q.index _
        · exact answers_idle t
    · exact answers_idle s

theorem answers_writeBlock (s : State) (cab o v : Nat) : Answers s (s.writeBlock cab o v) := by
  unfold State.writeBlock
  repeat' split
  all_goals simp only [answers_leaf, answers_writeDoorbell, answers_writeSignal]

theorem answers_writeWords (n : Nat) (s : State) (cab o v : Nat) : Answers s (s.writeWords cab o v n) := by
  induction n generalizing s o v with
  | zero => exact answers_idle s
  | succ n ih => exact (answers_writeBlock s cab o _).andThen fun t => ih t _ _

theorem answers_signalWords (n : Nat) (s : State) (cab requester o : Nat) (bs : Bytes) :
    Answers s (s.signalWords cab requester o bs n) := by
  induction n generalizing s o bs with
  | zero => exact answers_idle s
  | succ n ih => exact (answers_writeSignal s cab requester o _).andThen fun t => ih t _ _

theorem answers_peerMemory (s : State) (t : Tlp) (cab a : Nat) : Answers s (s.peerMemory t cab a) := by
  unfold State.peerMemory
  dsimp only
  repeat' split
  all_goals simp only [answers_leaf]

theorem answers_peerForward (s : State) (t : Tlp) (port a : Nat) : Answers s (s.peerForward t port a) := by
  unfold State.peerForward
  dsimp only
  repeat' split
  all_goals simp only [answers_leaf]

theorem answers_peerSignal (s : State) (t : Tlp) (cab o : Nat) : Answers s (s.peerSignal t cab o) := by
  unfold State.peerSignal
  dsimp only
  repeat' split
  all_goals simp only [answers_leaf, answers_signalWords]

theorem answers_serveTlp (s : State) (t : Tlp) : Answers s (s.serveTlp t) := by
  unfold State.serveTlp
  dsimp only
  repeat' split
  all_goals simp only [answers_leaf, answers_peerMemory, answers_peerForward, answers_peerSignal]

theorem answers_declineTlp (s : State) (t : Tlp) : Answers s (s.declineTlp t) := by
  unfold State.declineTlp
  split <;> simp only [answers_leaf]

theorem answers_adminNow (s : State) (cab op : Nat) (f : NvmeCtrl → Bytes → State → State × Nat × Nat) :
    Answers s (s.adminNow cab op f) :=
  answers_fetchNvme fun _ _ _ _ => answers_commit s _

theorem answers_adminData (s : State) (cab op : Nat) (f : NvmeCtrl → Bytes → Except Nat Bytes) :
    Answers s (s.adminData cab op f) := by
  refine answers_fetchNvme fun c q r t => ?_
  repeat' split
  all_goals simp only [answers_leaf]

theorem answers_ioFetch {s : State} {cab sqid op : Nat} {f : Bytes → Nat → State → Result}
    (h : ∀ r charge t, Answers s (f r charge t)) : Answers s (s.ioFetch cab sqid op f) := by
  refine answers_fetchNvme fun c q r t => ?_
  repeat' split
  all_goals simp only [answers_leaf, h]

theorem answers_seqCmd (s : State) (id op : Nat) (named : List (Nat × Nat))
    (f : Ctx → Nat → Seq → State → Except Err (State × Nat)) : Answers s (s.seqCmd id op named f) := by
  refine answers_onCtx fun c => ?_
  dsimp only
  repeat' split
  all_goals simp only [answers_leaf]

theorem answers_ownerCmd (s : State) (id op : Nat) (named : List (Nat × Nat))
    (f : Ctx → Nat → Seq → State → Except Err (State × Nat)) : Answers s (s.ownerCmd id op named f) := by
  refine answers_onCtx fun c => ?_
  dsimp only
  repeat' split
  all_goals simp only [answers_leaf]

theorem answers_shelfCmd (s : State) (id op : Nat) (f : Ctx → Except Err (State × Nat)) :
    Answers s (s.shelfCmd id op f) := by
  refine answers_onCtx fun c => ?_
  split <;> simp only [answers_leaf]

theorem answers_onConn {s : State} {c : Ctx} {refuse : Option Conn → Option Err} {f : Conn → Result}
    (h : ∀ k, Answers s (f k)) : Answers s (s.onConn c refuse f) := by
  unfold State.onConn
  dsimp only
  repeat' split
  all_goals simp only [answers_leaf, h]

theorem answers_dataRequest (s : State) (id op flags : Nat) (named : Bytes → List (Nat × Nat))
    (checks : Bytes → List (Bool × Err)) (zt2 : Bytes → Bool) (packets : Conn → Bytes → List TxPacket) :
    Answers s (s.dataRequest id op flags named checks zt2 packets) := by
  refine answers_onCtx fun c => ?_
  dsimp only
  split
  · exact answers_idle s
  split
  · exact answers_commit s _
  split
  · exact answers_commit s _
  refine answers_onConn fun k => ?_
  repeat' split
  all_goals simp only [answers_leaf]

theorem answers_exportWhen (s : State) (flow reason : Nat) (due : FlowRec → Bool) :
    Answers s (s.exportWhen flow reason due) := by
  unfold State.exportWhen
  repeat' split
  all_goals simp only [answers_leaf]

/-! ### Commands whose meaning is of no shared form -/

/-- COMMAND_ADMISSION judges the head of its queue before anything else. -/
theorem answers_commandAdmission (qi : Nat) (s : State) : Answers s (execCommandAdmission qi s) := by
  refine Answers.of_judgeHead (qi := qi) ?_
  unfold execCommandAdmission
  dsimp only
  repeat' split
  all_goals simp only [answers_leaf]

/-- WAIT_DEADLINE judges the head of its queue before anything else. -/
theorem answers_waitDeadline (qi : Nat) (s : State) : Answers s (execWaitDeadline qi s) := by
  refine Answers.of_judgeHead (qi := qi) ?_
  unfold execWaitDeadline
  dsimp only
  repeat' split
  all_goals simp only [answers_leaf]

theorem answers_measuredRateUpdate (steps : List Nat) (s : State) : Answers s (execMeasuredRateUpdate steps s) := by
  unfold execMeasuredRateUpdate
  split
  · exact answers_idle s
  · exact answers_next rfl id

theorem answers_crossingTransfer (i : Nat) (v : Option CrossingValue) (s : State) :
    Answers s (execCrossingTransfer i v s) := by
  unfold execCrossingTransfer
  split
  · exact answers_fault s
  · exact answers_next rfl id

theorem answers_arbiterGrant (arbiter : Nat) (raised : List ArbRequest) (s : State) :
    Answers s (execArbiterGrant arbiter raised s) := by
  unfold execArbiterGrant
  dsimp only
  split
  · split
    · split
      · exact answers_idle s
      · exact answers_next rfl id
    · exact answers_next rfl id
  · split
    · exact answers_idle s
    · exact answers_next rfl id

theorem answers_seqAppend (id : Nat) (s : State) : Answers s (execSeqAppend id s) := by
  unfold execSeqAppend
  split
  · exact answers_idle s
  · split
    · exact answers_idle s
    · exact answers_ownerCmd s id _ _ _

/-- SNAP_RESTORE at the steward goes on with its own verdict, which may answer for it. -/
theorem answers_snapRestore (id : Nat) (s : State) : Answers s (execSnapRestore id s) := by
  refine answers_onSet fun c g x => ?_
  dsimp only
  iterate 6 (split; · simp only [answers_leaf])
  split
  · exact answers_commit s _
  split
  · split
    · split
      · exact answers_land s _ _
      · next hn => exact (answers_takeVerdict _ _ _ _ _).of_not_next hn
    · exact answers_land s _ _
  · exact answers_land s _ _

/-! The states that the next meanings answer branch in their turn: their cases are split down to the answer only. -/

theorem answers_backingResponse (cab nsid seqNo status : Nat) (data : Bytes) (s : State) :
    Answers s (execBackingResponse cab nsid seqNo status data s) := by
  unfold execBackingResponse
  dsimp only
  split
  · exact answers_idle s
  split
  · exact answers_idle s
  split
  · exact answers_idle s
  split
  · exact answers_quiet s _
  split
  · exact answers_commit s _
  split
  · exact answers_land s _ _
  split
  · exact answers_quiet s _
  · exact answers_commit s _

theorem answers_verifyComplete (image : FlashIn) (s : State) : Answers s (execVerifyComplete image s) := by
  unfold execVerifyComplete
  dsimp only
  split
  · exact answers_idle s
  split
  · exact answers_idle s
  · exact answers_quiet s _

theorem answers_activateFirmware (agent : Nat) (s : State) : Answers s (execActivateFirmware agent s) := by
  unfold execActivateFirmware
  dsimp only
  split
  · exact answers_idle s
  split
  · exact answers_quiet s _
  split
  · exact answers_quiet s _
  split
  · exact answers_quiet s _
  split
  · exact answers_commit s _
  split
  · exact answers_quiet s _
  · exact answers_commit s _

theorem answers_perstNAssert (which : Nat) (s : State) : Answers s (execPerstNAssert which s) := by
  unfold execPerstNAssert
  dsimp only
  split
  · exact answers_fault s
  split
  · exact answers_idle s
  split
  · exact answers_quiet s _
  split
  · exact answers_quiet s _
  split
  · exact answers_quiet s _
  · exact answers_commit s _

/-! ### Every command -/

/-- Every command answers the same waiting commands and a memory that is canonical if it was, or stops for a unit that
the block does not have.  A command of a shared form answers as that form does; of every other command, each path ends in
one of the forms of `answers_leaf` or in an operation named beside them. -/
theorem exec_answers (c : Instr) (s : State) : Answers s (exec c s) := by
  cases c
  all_goals
    dsimp only [exec, execMinRateUpdate, execRateFloor, execCommitWindowBoundary, execCrossingHang, execSqTail,
      execCqHead, execReset, execResume, execSet, execAdd, execMax, execOr, execSetError, execClearError,
      execHeadRecordReadFailure, execCommandCompletion, execNop, execSyncOnly, execFlush, execNegotiate,
      execQueueCreate, execQueueDelete, execQueueReset, execQueueResume, execQueueQuery, execSyncAlloc,
      execSyncFree, execSyncSet, execQueueResetComplete, execQueueResetTimeout, execCircleScan,
      execHostLeaseRenew, execHostLeaseRelease, execAdopt, execHostLeaseExpiry, execQuantize, execDequantize,
      execEscalate, execReduce, execSumSquares, execAdamw, execLion, execSgdMomentum, execFactored,
      execBlockScore, execAdapterApply, execKernelLaunch, execSelfcheckRun, execSelfcheckComplete,
      execAccumulationOpen, execWordIssue, execAddTrigger, execSub, execAnd, execOrTrigger, execXor, execShl,
      execShr, execSar, execEq, execNe, execLts, execLtu, execMins, execMaxs, execCarry, execPass, execMullo,
      execMulhs, execMulhu, execFadd, execFsub, execFmul, execFfma, execFmin, execFmax, execFlt, execFeq,
      execI2f, execF2i, execF2bf, execBf2f, execFdiv, execFsqrt, execLd, execSt, execLdpi, execStpi, execLdpd,
      execStpd, execLdx, execStx, execMac, execVadd, execVmul, execVmax, execVfma, execVwait,
      execVecOperationDone, execDmaGet, execDmaPut, execDmaWait, execKernelDmaDone, execJmp, execCall, execRet,
      execHalt, execRft, execSvc, execSyncSignal, execReadLo, execReadHi, execReadErr, execKernelInstanceStart,
      execBudget, execImageCacheFlush, execCopy, execCopyList, execFill, execInvalidate, execPatrolScrub,
      execCxlScrub, execGddr7Refresh, execCxlTimeout, execCxlLinkDown, execSeqInit, execSeqAcquire,
      execSeqRelease, execSeqLoad, execShelfPageIn, execShelfWrite, execSeqPrefetch, execShelfPrefetch,
      execLeaseBreak, execWrite, execRead, execFetchAdd, execCmpSwap, execSignal, execWait, execConnCreate,
      execConnClose, execConnDestroy, execConnRekey, execReg, execRevoke, execRegionDrained, execWritePacket,
      execReadReq, execAtomicReq, execReadResp, execAtomicResp, execErrorResp, execConnect, execAccept,
      execClose, execCloseAck, execAck, execUnmatchedDatagram, execRetransmissionTimeout, execRetryExhaustion,
      execConnectResend, execCloseResend, execAckDelay, execContextFetch, execMissFetchLimit, execGroupJoin,
      execGroupLeave, execAllReduce, execReduceScatter, execAllGather, execBroadcast, execAllToAll, execJoin,
      execView, execRefuse, execNewView, execFailView, execContrib, execResult, execReport, execProbe,
      execProbeAck, execExpel, execAbandon, execLeave, execFormTimeout, execCollHeartbeat, execCollTimeout,
      execProbeTimeout, execCollOpLimit, execCollEscalate, execSnapAttach, execSnapDetach, execSnapCut,
      execSnapRollback, execGranuleCopy, execCowCopy, execMirrorData, execMirrorDone, execMirrorAck,
      execFragment, execFragmentDone, execFragmentDurable, execVote, execRollback, execPull, execRollbackReq,
      execVerdict, execRestoreStep, execVoteWait, execFrameReceive, execFragWaitLimit, execFragEntryLifetime,
      execPacketDelivery, execFrameRecord, execPortDequeue, execCalendarSlotExpiry, execRuleStage,
      execRuleCommit, execRuleDiscard, execVersionDrained, execTmApply, execConfigurationWrite,
      execInitiateFunctionLevelReset, execFlrComplete, execBusMasterEnable, execRegisterWrite, execApertureRead,
      execApertureWrite, execCompletionReceived, execCompletionTimeout, execPeerTlp, execWindowGen, execIdeKm,
      execLinkTrained, execLinkDown, execCreateIoSq, execCreateIoCq, execDeleteIoSq, execDeleteIoCq,
      execGetLogPage, execIdentify, execAbort, execSetFeatures, execGetFeatures, execAsynchronousEventRequest,
      execDeviceSelfTest, execSelfTestDone, execNvmeFlush, execNvmeWrite, execNvmeRead, execWriteZeroes,
      execDatasetManagement, execNsApply, execBackingConnected, execBackingConnectionLost, execBackingReconnect,
      execBackingHold, execKeepAlive, execSuperblockWrite, execDestage, execNvmeEnable, execNvmeShutdown,
      execAssign, execRelease, execReleaseDone, execShare, execFreeze, execFreezeDrainDone, execFreezeLimit,
      execUnfreeze, execSave, execRestore, execLogSwap, execAdminEnable, execMigrationSecret, execCipherRequest,
      execKeyDerivation, execCipherLockAcquire, execCipherLockRelease, execLockLimit, execCipherKatPeriod,
      execCipherKatRun, execSvnCommit, execGetCertificate, execChallenge, execGetMeasurements, execKeyExchange,
      execVendorDefinedRequest, execPowerLoop, execThermalLoop, execSnowlineFall, execPowerLimiter,
      execThermalTrip, execBudgetWindow, execPowerStateReq, execEntryComplete, execWakeEvent, execRailReady,
      execClockReady, execMemReady, execLogicReady, execWakeReady, execFwActivate, execActivationDrainDone,
      execActivationDefer, execActivationAbandoned, execErrorPin, execEngineHangLimit, execMonitorWatchdog,
      execComponentCheckin, execComponentRestart, execRungComplete, execRungDeadline, execQuadrantRetest,
      execSafeStateExit, execFaultClear, execResetRequest, execTrayNoticeAck, execDumpDiscard, execSteralRead,
      execSteralWrite, execDescribe, execArpRequest, execNeighborSolicitation, execTelemetryLatch,
      execIpfixActiveTimeout, execIpfixIdleTimeout, execIpfixTemplateRefresh, execRequestUpdate,
      execRequestFirmwareData, execGetSensorReading, execStageB1, execStageB2, execStageB3, execB2Limit,
      execB3Limit, execAonPwrgoodRise, execAonPwrgoodFall, execPwrgoodRise, execPwrgoodFall, execResetNAssert,
      execResetNRelease, execPerstNRelease, execPmbAlertN, execDeviceWindowLoadReturn, execPrefetchTransferDone,
      execCxlLinkRetrained, execComparatorRearm, execLimiterPacingEnd, execTagReuseTimeout,
      execInProgressResponse, execRailBackInWindow, execNegotiateAlgorithms, execEndSession, execRespondIfReady,
      execPmeTurnOff]
  case sqTail | cqHead | reset | resume => exact answers_doorbell ..
  case set | add | max | or | setError | clearError => exact answers_signalPage ..
  case nop | syncOnly | negotiate | queueCreate | queueResume | queueQuery | syncAlloc | syncFree | syncSet =>
    exact answers_control ..
  case quantize | dequantize | escalate | reduce | sumSquares | blockScore | adapterApply =>
    exact answers_transformCmd ..
  case adamw | lion | sgdMomentum | factored => exact answers_optimizer ..
  case addTrigger | sub | and | orTrigger | xor | shl | shr | sar | eq | ne | lts | ltu | mins | maxs | carry |
      pass | ld | st | ldpi | stpi | ldpd | stpd | ldx | stx => exact answers_onUnit ..
  case mullo | mulhs | mulhu | fadd | fsub | fmul | ffma | fmin | fmax | flt | feq | i2f | f2i | f2bf | bf2f |
      fdiv | fsqrt | mac | vadd | vmul | vmax | vfma | vwait | dmaGet | dmaPut | dmaWait | jmp | call | ret |
      halt | rft | svc | syncSignal | readLo | readHi | readErr => exact answers_onTrigger ..
  case copy | copyList | fill => exact answers_onCtx fun _ => answers_moveEnd ..
  case seqInit => exact answers_seqCmd ..
  case seqRelease | seqLoad => exact answers_ownerCmd ..
  case shelfPageIn | shelfWrite => exact answers_shelfCmd ..
  case write | read | fetchAdd | cmpSwap | signal => exact answers_dataRequest ..
  case writePacket | readReq | atomicReq | readResp | atomicResp | errorResp | connect | accept | close |
      closeAck | ack => exact answers_ztRow ..
  case allReduce | reduceScatter | allGather | broadcast | allToAll => exact answers_collective ..
  case createIoSq | createIoCq | deleteIoSq | deleteIoCq | abort | setFeatures | getFeatures | deviceSelfTest =>
    exact answers_adminNow ..
  case identify | getLogPage => exact answers_adminData ..
  case hostLeaseRenew | hostLeaseRelease | adopt | selfcheckRun | imageCacheFlush | ruleDiscard | windowGen |
      nvmeEnable | nsApply | nvmeShutdown | assign | release | share | adminEnable | freeze | unfreeze | logSwap
      | migrationSecret | save | restore | cipherKatRun | svnCommit | telemetryLatch | fwActivate |
      powerStateReq | faultClear | trayNoticeAck | dumpDiscard => exact answers_act ..
  case ruleStage | ruleCommit | tmApply => exact answers_actOpen ..
  case resetRequest => exact answers_actSettled ..
  case getCertificate | challenge | getMeasurements | keyExchange | vendorDefinedRequest | respondIfReady =>
    exact answers_spdm ..
  case ipfixActiveTimeout | ipfixIdleTimeout => exact answers_exportWhen ..
  case minRateUpdate => exact answers_next rfl id
  case flush | queueDelete | queueReset | kernelLaunch | frameRecord | groupJoin | groupLeave | snapAttach |
      invalidate | cxlTimeout | seqAcquire | seqPrefetch | shelfPrefetch | wait | connCreate | reg | revoke =>
    refine answers_onCtx fun c => ?_
    repeat' split
    all_goals simp only [answers_leaf]
  case connClose | connDestroy | connRekey =>
    refine answers_onCtx fun c => ?_
    split
    · exact answers_commit s _
    · refine answers_onConn fun k => ?_
      repeat' split
      all_goals simp only [answers_leaf]
  case abandon | join | view | refuse | leave | report | probe | probeAck | newView | failView | expel =>
    refine answers_onMessage fun g => ?_
    repeat' split
    all_goals simp only [answers_leaf]
  case contrib | result =>
    refine answers_onPart fun g op k q => ?_
    repeat' split
    all_goals simp only [answers_leaf, answers_contribute]
  case snapDetach | snapCut | snapRollback =>
    refine answers_onSet fun c g x => ?_
    repeat' split
    all_goals simp only [answers_leaf]
  case mirrorData | mirrorDone | mirrorAck =>
    refine answers_onSnap fun g x rank => ?_
    repeat' split
    all_goals simp only [answers_leaf]
  case fragment | fragmentDone | fragmentDurable | pull | verdict | restoreStep =>
    refine answers_onStage fun g x rank => ?_
    repeat' split
    all_goals simp only [answers_leaf, answers_takeVerdict, answers_takeRestore]
  case vote | rollback | rollbackReq =>
    refine answers_onRound fun g => ?_
    repeat' split
    all_goals simp only [answers_leaf]
  case nvmeWrite | writeZeroes | nvmeRead | nvmeFlush | datasetManagement =>
    refine answers_ioFetch fun r charge t => ?_
    repeat' split
    all_goals simp only [answers_leaf]
  case asynchronousEventRequest =>
    refine answers_fetchNvme fun c q r t => ?_
    repeat' split
    all_goals simp only [answers_leaf]
  all_goals
    repeat' split
    all_goals simp only [answers_leaf, answers_issueWord, answers_frameAsleep, answers_landPacket,
      answers_writeWords, answers_serveTlp, answers_declineTlp, answers_commandAdmission, answers_waitDeadline,
      answers_measuredRateUpdate, answers_crossingTransfer, answers_arbiterGrant, answers_seqAppend,
      answers_snapRestore, answers_backingResponse, answers_verifyComplete, answers_activateFirmware,
      answers_perstNAssert]

/-! ### Every step -/

/-- A step takes the front off the queue and keeps memory canonical. -/
theorem step_keeps {s t : State} (h : step s = .next t) : t.pending = s.pending.tail ∧ (s.sound → t.sound) := by
  cases hq : s.pending with
  | nil =>
    rw [step_of_nil hq] at h
    cases h
    exact ⟨hq, id⟩
  | cons c rest =>
    rw [step_of_cons hq] at h
    obtain ⟨u, hu, hp, hm⟩ | hf := exec_answers c { s with pending := rest }
    · cases hu.symm.trans h
      exact ⟨hp, hm⟩
    · cases hf.symm.trans h

/-! ### The obligations -/

/-- Settles O4: by the two cases of the queue, and of a command by what every command answers. -/
theorem stepKeepsMemory : Obligations.StepKeepsMemory := fun _ _ hs h => ⟨(step_keeps h).2 hs, (step_keeps h).1⟩

/-- Settles O7: canonical memories are equal when their bytes are, and a write reads back and nowhere else. -/
theorem canonicalMemoryIsItsBytes : Obligations.CanonicalMemoryIsItsBytes :=
  ⟨fun _ _ hm hn h => Memory.ext_of_wf hm hn h, fun m a bs hm =>
    ⟨Memory.read_write_same m a bs hm, fun k hk => Memory.get_write_outside m a k bs hm hk⟩⟩

/-- Settles O1, by the two cases of the queue. -/
theorem stepRunsFront : Obligations.StepRunsFront :=
  ⟨fun _ _ _ h => step_of_cons h, fun _ h => step_of_nil h⟩

/-- Settles O3: reset lists no byte (notes/assumptions/2.md). -/
theorem resetMemoryIsCanonical : Obligations.ResetMemoryIsCanonical := by
  have h : State.reset.mem = [] := rfl
  show Memory.wf State.reset.mem = true
  rw [h]; rfl

end Sys2Proof.Machine

/-! PROOFS of the narrow formats, the moves and the shelves: codes in bit order, conversions and reductions, Move commands
and the upkeep of the tiers, shelves and prefetches. -/

namespace Sys2Proof.Machine

/-! ### Codes in bit order (R110) -/

/-- Bits [b·i + b − 1 : b·i] of a value are its digit i in base 2 ^ b. -/
theorem bits_code (b v i : Nat) (hb : 0 < b) : bits v (b * i + b - 1) (b * i) = v / 2 ^ (b * i) % 2 ^ b := by
  rw [bits, show b * i + b - 1 + 1 - b * i = b by omega]

/-- A value without its lowest digit: each digit moves one place down. -/
theorem div_code_succ (b v i : Nat) : v / 2 ^ (b * (i + 1)) = v / 2 ^ b / 2 ^ (b * i) := by
  rw [Nat.div_div_eq_div_mul, ← Nat.pow_add, Nat.mul_succ, Nat.add_comm]

/-- Code i of the codes read from a number is its digit i. -/
theorem unpackCodes_getD (b v n i : Nat) (hi : i < n) : (unpackCodes b v n).getD i 0 = v / 2 ^ (b * i) % 2 ^ b := by
  induction n generalizing v i with
  | zero => omega
  | succ n ih =>
    cases i with
    | zero => simp [unpackCodes]
    | succ i => rw [unpackCodes, List.getD_cons_succ, ih _ i (by omega), div_code_succ]

/-- Codes packed and read back are the codes. -/
theorem unpackCodes_packCodes (b : Nat) (codes : List Nat) (h : ∀ c ∈ codes, c < 2 ^ b) :
    unpackCodes b (packCodes b codes) codes.length = codes := by
  induction codes with
  | nil => rfl
  | cons c r ih =>
    have hc : c % 2 ^ b = c := Nat.mod_eq_of_lt (h c (by simp))
    have hp : 0 < 2 ^ b := Nat.two_pow_pos b
    rw [packCodes, hc, List.length_cons, unpackCodes, Nat.add_mul_mod_self_left, hc, Nat.add_mul_div_left _ _ hp,
      Nat.div_eq_of_lt (h c (by simp)), Nat.zero_add, ih fun x hx => h x (by simp [hx])]

/-- Packed codes fill their bits and no more. -/
theorem packCodes_lt (b : Nat) (codes : List Nat) : packCodes b codes < 2 ^ (b * codes.length) := by
  induction codes with
  | nil => simp [packCodes]
  | cons c r ih =>
    have hc : c % 2 ^ b < 2 ^ b := Nat.mod_lt _ (Nat.two_pow_pos b)
    calc c % 2 ^ b + 2 ^ b * packCodes b r < 2 ^ b * (packCodes b r + 1) := by rw [Nat.mul_succ]; omega
      _ ≤ 2 ^ b * 2 ^ (b * r.length) := Nat.mul_le_mul_left _ ih
      _ = 2 ^ (b * (c :: r).length) := by rw [← Nat.pow_add, List.length_cons, Nat.mul_succ, Nat.add_comm]

/-- Byte j of a value's little-endian form is its digit j in base 256. -/
theorem toLe_getD (n v j : Nat) (hj : j < n) : ((toLe n v).getD j 0).toNat = v / 2 ^ (8 * j) % 2 ^ 8 := by
  induction n generalizing v j with
  | zero => omega
  | succ n ih =>
    cases j with
    | zero => simp [toLe]
    | succ j => rw [toLe, List.getD_cons_succ, ih _ j (by omega), div_code_succ, show 2 ^ 8 = 256 by rfl]

/-- A value's n little-endian bytes hold it modulo 256 ^ n. -/
theorem leNat_toLe (n v : Nat) : leNat (toLe n v) = v % 256 ^ n := by
  induction n generalizing v with
  | zero => simp [toLe, leNat, Nat.mod_one]
  | succ n ih => rw [toLe, leNat, ih, BitVec.toNat_ofNat, show 2 ^ 8 = 256 by rfl, ← Nat.mod_mul, ← Nat.pow_succ']

/-- Codes packed into a payload's bytes and unpacked from them are the codes. -/
theorem unpackCodes_payload (b : Nat) (codes : List Nat) (hl : codes.length = 64) (h : ∀ c ∈ codes, c < 2 ^ b) :
    unpackCodes b (leNat (toLe (8 * b) (packCodes b codes))) 64 = codes := by
  have hlt : packCodes b codes < 256 ^ (8 * b) := by
    calc packCodes b codes < 2 ^ (b * codes.length) := packCodes_lt b codes
      _ = (2 ^ 8) ^ (8 * b) := by rw [hl, ← Nat.pow_mul]; congr 1; omega
  rw [leNat_toLe, Nat.mod_eq_of_lt hlt, ← hl, unpackCodes_packCodes b codes h]

/-- Settles O19: reading code i or byte j takes that digit, and reading undoes packing. -/
theorem elementsLieInBitOrder : Obligations.ElementsLieInBitOrder := by
  refine ⟨fun b i codes hb h hi => ?_, fun b v n i hb hi => ?_, fun v n j hj => ?_, fun b codes _ hl h => ?_⟩
  · rw [bits_code _ _ _ hb, ← unpackCodes_getD _ _ _ _ hi, unpackCodes_packCodes b codes h]
  · rw [bits_code _ _ _ hb, unpackCodes_getD _ _ _ _ hi]
  · rw [toLe_getD _ _ _ hj, ← bits_code 8 v j (by decide)]
    rfl
  · exact unpackCodes_payload b codes hl h

end Sys2Proof.Machine

namespace Sys2Proof.Machine

/-! ### The end of a Transform command (R141, R179, R188) -/

/-- A writer that stalls takes note of the granule alone: the started commands are as before. -/
theorem State.noteStall_contract (s : State) (who : Option Nat) (slot g : Nat) :
    (s.noteStall who slot g).contract = s.contract := by
  unfold State.noteStall
  split
  · rfl
  · rw [State.bump_def, State.bumpEnt_contract]

/-- A state that runs ahead of the copy of a granule is not answered: nothing is stored and no command ends (R384). -/
theorem completes_land_stalled {s t : State} {id : Nat} {c : Ctx} {g : Nat × Nat} (hc : s.ctx? id = some c)
    (ha : t.aheadOfCopy = some g) (who : Option Nat) :
    Completes (s.land who t) fun u => SameBytes s u ∧ u.ctx? id = some c := by
  obtain ⟨slot, g⟩ := g
  simp only [State.land, ha, completes_quiet, State.ctx?_unstored]
  exact ⟨sameBytes_of_mem _ _ (State.unstored_mem _ _),
    (State.ctx?_congr (by rw [State.noteStall_contract]) id).trans hc⟩

/-- A Transform command whose writes run ahead of the copy of a granule stores nothing and has not ended (R179, R384). -/
theorem transform_stalled {s t : State} {id op : Nat} {c : Ctx} {q : Queue} {x : XCmd} {d : XDone} {g : Nat × Nat}
    {f : Ctx → XCmd → Except Err (State × XDone)} (h : Running s id op c q) (hx : s.xBegin c op = .ok x)
    (hf : f c x = .ok (t, d)) (ha : t.aheadOfCopy = some g) :
    Completes (s.transformCmd id op f) fun u => SameBytes s u ∧ u.ctx? id = some c := by
  have hres : (do let x ← s.xBegin c op; f c x) = Except.ok (t, d) := by rw [hx]; exact hf
  unfold State.transformCmd
  rw [onCtx_of_running h, hres]
  exact completes_land_stalled h.1 (by rw [← ha]; exact State.aheadOfCopy_congr (by simp)) _

/-- A Transform command whose operation writes as R165 checks it ends with its counts, DETAIL and ENGINE_AREA over the
bytes written. -/
theorem transform_xEnded {s t : State} {id op : Nat} {c : Ctx} {q : Queue} {x : XCmd} {d : XDone}
    {f : Ctx → XCmd → Except Err (State × XDone)} (h : Running s id op c q) (hx : s.xBegin c op = .ok x)
    (hf : f c x = .ok (t, d)) (ht : SameRest s t) (ha : t.aheadOfCopy = none) :
    Completes (s.transformCmd id op f) fun u => XEnded u id d ∧ SameBytes t u :=
  (transform_ended h hx hf ht.contract ha).imp fun _ ⟨hend, hbytes, _⟩ => ⟨hend, hbytes⟩

/-- A conversion answers the destination written from the decoded source (R167, R168). -/
theorem State.convert_eq {s t : State} {c : Ctx} {x : XCmd} {src dst : Desc} {l : Loaded} {used : Nat} {n : Counts}
    (hl : loadTensor x.rd src = .ok l)
    (hs : s.storeTensor c.cabinet dst x.pol x.rnd l.values = .ok (t, used, n)) :
    s.convert c x src dst = .ok (t, { counts := { n with malformed := l.malformed }, heapUsed := used }) := by
  simp only [State.convert, hl, hs, Except.bind, bind, pure, Except.pure]

/-- Settles O20: each operation succeeds as its hypotheses say, and a Transform command that succeeds ends, or stalls. -/
theorem conversionsAndReductionsComplete : Obligations.ConversionsAndReductionsComplete := by
  refine ⟨fun s t id used c q x src dst l n ha hl hs => ⟨fun hr hx hc => ?_, fun hr hx hc => ?_⟩,
    fun s t id c q x src dst bs hr hx hc hb hw ha => ?_,
    fun s t id used c q x dst srcs ls n hr hx hc hl hs ha => ?_,
    fun s t id out c q x src l hr hx hc hl hw ha => ?_,
    fun s t id c q x src dst g d hr hx hc hv ha => ?_⟩
  case refine_1 | refine_2 =>
    refine transform_xEnded hr hx ?_ (State.storeTensor_sameRest hs) ha
    rw [hc]
    exact State.convert_eq hl hs
  case refine_3 =>
    refine transform_xEnded hr hx ?_ (State.writeAll_sameRest _ _ _ _ hw) ha
    simp only [hc, hb, hw, bind, Except.bind, pure, Except.pure]
  case refine_4 =>
    refine transform_xEnded hr hx ?_ (State.storeTensor_sameRest hs) ha
    simp only [hc, hl, hs, bind, Except.bind, pure, Except.pure]
  case refine_5 =>
    refine transform_xEnded hr hx ?_ (State.writeAll_sameRest _ _ _ _ hw) ha
    simp only [hc, hl, hw, bind, Except.bind, pure, Except.pure, nonFiniteCount, laneCount]
  case refine_6 =>
    refine transform_stalled (d := d) hr hx ?_ ha
    rw [hc]
    exact hv

end Sys2Proof.Machine

namespace Sys2Proof.Machine

/-! ### Gates and checks -/

/-- The meaning of a command runs on a started command that passes its gate. -/
theorem onCtx_of_passes {s : State} {id : Nat} {c : Ctx} {p : State → Ctx → Bool} (hc : s.ctx? id = some c)
    (hp : p s c = true) (hf : c.finished = false) (hw : c.waiting = false) (hh : s.held c = false) (f : Ctx → Result) :
    s.onCtx id p f = f c := by
  simp [State.onCtx, hc, hp, hf, hw, hh]

theorem Running.ctx {s : State} {id op : Nat} {c : Ctx} {q : Queue} (h : Running s id op c q) : s.ctx? id = some c := h.1

theorem Running.unfinished {s : State} {id op : Nat} {c : Ctx} {q : Queue} (h : Running s id op c q) :
    c.finished = false := by
  obtain ⟨-, -, hf, -⟩ := h
  exact hf

/-- A length of R256 that is neither zero nor above its limit passes its check. -/
theorem outside_eq_false {n m : Nat} (h0 : 0 < n) (h1 : n ≤ m) : (decide (n = 0) || decide (m < n)) = false := by
  simp only [Bool.or_eq_false_iff, decide_eq_false_iff_not]
  omega

/-- A command whose writes run ahead of no copy is answered with them. -/
theorem completes_land {s t : State} {who : Option Nat} (ha : t.aheadOfCopy = none) (p : State → Prop) :
    Completes (s.land who t) p ↔ p (s.stored t) := by
  simp only [State.land, ha, completes_commit]

/-- The bytes that a command leaves are those of the state it commits. -/
theorem sameBytes_stored_self (s t : State) : SameBytes t (s.stored t) := fun _ => Memory.get_canon _ _

/-! ### A command that ends with an error keeps its context -/

theorem State.scramblePiece_contract (s : State) (b : Bool) (d n : Nat) :
    (s.scramblePiece b d n).contract = s.contract := by
  unfold State.scramblePiece
  split
  · rfl
  · exact State.store_contract _ _ _

theorem State.scrambleRun_contract (s : State) (cab : Nat) (b : Bool) (a n : Nat) :
    (s.scrambleRun cab b a n).contract = s.contract := by
  refine foldl_keeps State.contract _ _ _ fun s p => ?_
  split
  · rfl
  · rw [State.logWrite_contract, State.scramblePiece_contract]

/-- The undefined contents that a status leaves (R102) touch no queue, object or command. -/
theorem State.scramble_contract (s : State) (engine : Nat) (c : Ctx) (st : Nat) :
    (s.scramble engine c st).contract = s.contract := by
  unfold State.scramble
  extract_lets inPlace k t
  split
  · rfl
  · exact foldl_keeps State.contract _ _ _ fun s p => State.scrambleRun_contract _ _ _ _ _

theorem State.spoil_contract (s : State) (id st : Nat) : (s.spoil id st).contract = s.contract := by
  unfold State.spoil
  split
  · rfl
  · exact State.scramble_contract _ _ _ _

theorem State.reportErr_contract (s : State) (id : Nat) (e : Err) : (s.reportErr id e).contract = s.contract := by
  unfold State.reportErr
  split
  · exact State.reportUe_contract _ _ _
  · split
    · exact State.note_contract _ _ _ _ _ _
    · split
      · exact State.note_contract _ _ _ _ _ _
      · rfl

/-- A started command that reads no more by DMA has nothing left to read. -/
theorem State.ctx?_dropReads {s : State} {id : Nat} {c : Ctx} (h : s.ctx? id = some c) :
    (s.dropReads id).ctx? id = some { c with unread := [] } := by
  have hu := State.ctx?_updCtx s id (fun c => { c with unread := [] }) fun _ => rfl
  rw [h] at hu
  exact hu

/-- A started command that ends with an error has ended with its status and DETAIL. -/
theorem ended_finishErr {s t : State} {id : Nat} {c : Ctx} (h : t.ctx? id = some c) (hf : c.finished = false) (e : Err) :
    Ended (s.stored (t.finishErr id e)) id e.status e.detail := by
  have hrep : (t.reportErr id e).ctx? id = some c := (State.ctx?_congr (by rw [State.reportErr_contract]) id).trans h
  have hspoil : (((t.reportErr id e).dropReads id).spoil id e.status).ctx? id = some { c with unread := [] } :=
    (State.ctx?_congr (by rw [State.spoil_contract]) id).trans (State.ctx?_dropReads hrep)
  exact ⟨_, State.ctx?_finish _ _ _ _ _ _ hspoil hf, rfl, rfl, rfl⟩

/-! ### Held completion records tried again keep the started commands -/

theorem State.updQueue_ctxs (s : State) (k : Nat) (f : Queue → Queue) :
    (s.updQueue k f).contract.ctxs = s.contract.ctxs := rfl

theorem State.writeHeld_ctxs (s : State) (qi : Nat) : (s.writeHeld qi).1.contract.ctxs = s.contract.ctxs := by
  unfold State.writeHeld
  dsimp only
  split
  · rfl
  split
  · rfl
  split
  · rfl
  split
  · split
    · rfl
    split
    · rfl
    · rw [State.note_contract, State.updQueue_ctxs]
  · split
    · rw [State.sendMsix_contract, State.updQueue_ctxs, State.putCab_contract]
    · rw [State.updQueue_ctxs, State.putCab_contract]

theorem State.drainCq_ctxs (n : Nat) (s : State) (qi : Nat) : (s.drainCq qi n).contract.ctxs = s.contract.ctxs := by
  induction n generalizing s with
  | zero => rfl
  | succ n ih =>
    have hw := s.writeHeld_ctxs qi
    unfold State.drainCq
    split
    · next hs => rw [hs] at hw; rw [ih, hw]
    · next hs => rw [hs] at hw; exact hw

theorem State.retryCqs_ctxs (s : State) (cab : Nat) : (s.retryCqs cab).contract.ctxs = s.contract.ctxs := by
  refine foldl_keeps (fun s : State => s.contract.ctxs) _ _ _ fun s qi => ?_
  unfold State.retryCq
  split
  · rfl
  · exact State.drainCq_ctxs _ _ _

/-! ### Moves (R256, R257) -/

theorem State.countCorrected_keeps (s : State) (dev n : Nat) :
    (s.countCorrected dev n).contract = s.contract ∧ (s.countCorrected dev n).ports = s.ports :=
  ⟨State.bumpEnt_contract _ _ _ _ _, State.bumpEnt_ports _ _ _ _ _⟩

/-- Pieces copied in the tiers touch neither commands nor links. -/
theorem State.copyPieces_keeps {s : State} {cab : Nat} {ps : List (Nat × Nat × Nat × Nat)} :
    ∀ {t u : State}, s.copyPieces cab t ps = .ok u → u.contract = t.contract ∧ u.ports = t.ports := by
  induction ps with
  | nil => intro t u h; cases h; exact ⟨rfl, rfl⟩
  | cons p rest ih =>
    obtain ⟨src, dst, n, dev⟩ := p
    intro t u h
    unfold State.copyPieces at h
    split at h
    · cases h
    · obtain ⟨hc, hp⟩ := ih h
      obtain ⟨hc', hp'⟩ := (t.putCab cab dst (s.readDev dev n)).countCorrected_keeps dev n
      exact ⟨by rw [hc, hc', State.putCab_contract], by rw [hp, hp', State.putCab_ports]⟩

/-- A command with nothing left to read issues no request. -/
theorem State.issueReads_done {s : State} {id : Nat} {c : Ctx} (hc : s.ctx? id = some c) (hu : c.unread = []) (n : Nat) :
    s.issueReads id n = s := by
  cases n with
  | zero => rfl
  | succ n => simp only [State.issueReads, hc, State.issueOne, hu]

/-- A command with nothing left to read and no request outstanding ends with the bytes copied (R256). -/
theorem State.readOn_done {s : State} {id : Nat} {c : Ctx} (hc : s.ctx? id = some c) (hu : c.unread = [])
    (hq : s.ports.requests.any (fun r => r.ctx == some id) = false) : s.readOn id = s.finishOk id c.progress := by
  have hr : s.reading id = false := by simp only [State.reading, hq, hc, hu]; rfl
  simp only [State.readOn, State.issueReads_done hc hu, hr, hc]
  rfl

/-- A started Move command that has copied n bytes and has nothing left to read. -/
def Ctx.moved (n : Nat) (c : Ctx) : Ctx := { c with progress := n, unread := [] }

/-- A command's context after its runs are copied, in a state that began with the same commands. -/
theorem State.ctx?_moved {s t : State} {id : Nat} {c : Ctx} (ht : t.contract = s.contract) (hc : s.ctx? id = some c)
    (n : Nat) : (t.updCtx id (Ctx.moved n)).ctx? id = some (c.moved n) := by
  rw [State.ctx?_updCtx _ _ (Ctx.moved n) fun _ => rfl, State.ctx?_congr (congrArg Contract.ctxs ht), hc]
  rfl

/-- A Move command that reads no more and whose pieces all lie in the tiers ends when they are copied. -/
theorem State.moveRuns_near {s t : State} {id : Nat} {c : Ctx} {rs : List CopyRun} (hc : s.ctx? id = some c)
    (hr : s.reading id = false) (hn : ∀ p ∈ rs.flatMap (s.runPieces c.cabinet), s.linkOf p.2.2.2 = none)
    (ht : s.copyPieces c.cabinet s (rs.flatMap (s.runPieces c.cabinet)) = .ok t) :
    s.moveRuns c rs = .ok ((t.updCtx id (Ctx.moved (sumNat (rs.map (·.len))))).finishOk id
      (sumNat (rs.map (·.len)))) := by
  obtain ⟨htc, htp⟩ := State.copyPieces_keeps ht
  have hnear : (rs.flatMap (s.runPieces c.cabinet)).filter (fun p => (s.linkOf p.2.2.2).isNone) =
      rs.flatMap (s.runPieces c.cabinet) := List.filter_eq_self.2 fun p hp => by rw [hn p hp]; rfl
  have hfar : (rs.flatMap (s.runPieces c.cabinet)).filter (fun p => (s.linkOf p.2.2.2).isSome) = [] :=
    List.filter_eq_nil_iff.2 fun p hp => by rw [hn p hp]; simp
  have hreq : s.ports.requests.any (fun r => r.ctx == some id) = false := (Bool.or_eq_false_iff.1 hr).1
  simp only [State.moveRuns, hnear, hfar, ht, State.ctx?_id hc, bind, Except.bind, pure, Except.pure, List.map_nil]
  refine congrArg Except.ok (State.readOn_done (State.ctx?_moved htc hc _) rfl ?_)
  rw [State.updCtx_ports, htp]
  exact hreq

/-- A COPY that has not run yet and passes its checks copies its run (R256, R257). -/
theorem execCopy_eq {s : State} {id : Nat} {c : Ctx} {q : Queue} (h : Running s id 0x0001 c q)
    (hr : s.reading id = false) (h0 : 0 < (copyRun c.record).len) (h1 : (copyRun c.record).len ≤ 2 ^ 40)
    (hk : runsClash [copyRun c.record] = false) (hp : s.checkRuns c.cabinet [copyRun c.record] = .ok ()) :
    exec (.copy id) s = s.moveEnd id (s.moveRuns c [copyRun c.record]) := by
  obtain ⟨hc, hi, hf, hw, hh, -⟩ := h
  have hg : check [((copyRun c.record).len = 0 || 2 ^ 40 < (copyRun c.record).len, errRange 16),
      (runsClash [copyRun c.record], errRange 8)] = .ok () := by
    simp only [check, firstErr, outside_eq_false h0 h1, hk, Bool.false_eq_true, if_false]
  show execCopy id s = _
  rw [execCopy, onCtx_of_passes hc (by simp [hi, notReading, State.ctx?_id hc, hr]) hf hw hh]
  simp only [hg, hp, bind, Except.bind]

/-- A COPY_LIST that has not run yet and passes its checks copies its entries' runs in list order (R256, R257). -/
theorem execCopyList_eq {s : State} {id : Nat} {c : Ctx} {q : Queue} {b : Bytes} {es : List (CopyRun × Nat)}
    (h : Running s id 0x0002 c q)
    (hr : s.reading id = false) (hv : reservedErr c.record [(0, 12)] = none) (ha : arg c.record 0 8 % 64 = 0)
    (h0 : 0 < arg c.record 8 4) (h1 : arg c.record 8 4 ≤ 65536)
    (hb : s.readCab c.cabinet (arg c.record 0 8) (32 * arg c.record 8 4) = .ok b)
    (hes : listRuns (arg c.record 8 4) b = es) (he : ∀ e ∈ es, e.2 = 0 ∧ 0 < e.1.len ∧ e.1.len ≤ 2 ^ 32)
    (hk : runsClash (es.map (·.1)) = false)
    (hp : s.checkRuns c.cabinet (es.map (·.1)) = .ok ()) :
    exec (.copyList id) s = s.moveEnd id (s.moveRuns c (es.map (·.1))) := by
  obtain ⟨hc, hi, hf, hw, hh, -⟩ := h
  have hg : check [(arg c.record 0 8 % 64 != 0, errAlign 0),
      (arg c.record 8 4 = 0 || 65536 < arg c.record 8 4, errRange 8)] = .ok () := by
    simp only [check, firstErr, ha, outside_eq_false h0 h1, bne_self_eq_false, Bool.false_eq_true, if_false]
  have hz : (es.any fun e => e.2 != 0) = false :=
    List.any_eq_false.2 fun e hm => by
      obtain ⟨hres, -⟩ := he e hm
      simp [hres]
  have hn : (es.any fun e => e.1.len = 0 || 2 ^ 32 < e.1.len) = false :=
    List.any_eq_false.2 fun e hm => by
      obtain ⟨-, hpos, hle⟩ := he e hm
      rw [outside_eq_false hpos hle]
      decide
  have hl : check [(es.any fun e => e.2 != 0, errField 0),
      (es.any fun e => e.1.len = 0 || 2 ^ 32 < e.1.len, errRange 0),
      (runsClash (es.map (·.1)), errRange 0)] = .ok () := by
    simp only [check, firstErr, hz, hn, hk, Bool.false_eq_true, if_false]
  show execCopyList id s = _
  rw [execCopyList, onCtx_of_passes hc (by simp [hi, notReading, State.ctx?_id hc, hr]) hf hw hh]
  simp only [hv, hg, hb, hes, hl, hp, bind, Except.bind]

/-- A Move command whose runs pass their checks: with its pieces in the tiers it ends when they are copied, and in any case
it is answered with what its runs make (R256, R464). -/
theorem completes_moveRuns {s t : State} {id : Nat} {c : Ctx} {rs : List CopyRun} (hc : s.ctx? id = some c)
    (hf : c.finished = false) (hr : s.reading id = false) :
    ((∀ p ∈ rs.flatMap (s.runPieces c.cabinet), s.linkOf p.2.2.2 = none) →
      s.copyPieces c.cabinet s (rs.flatMap (s.runPieces c.cabinet)) = .ok t → t.aheadOfCopy = none →
      Completes (s.moveEnd id (s.moveRuns c rs)) fun u => Ended u id 0 (sumNat (rs.map (·.len))) ∧ SameBytes t u) ∧
    (s.moveRuns c rs = .ok t → t.aheadOfCopy = none →
      Completes (s.moveEnd id (s.moveRuns c rs)) fun u =>
        u.contract = t.contract ∧ u.ports = t.ports ∧ SameBytes t u) := by
  refine ⟨fun hn ht ha => ?_, fun ht ha => ?_⟩
  · have hctx : (t.updCtx id (Ctx.moved (sumNat (rs.map (·.len))))).ctx? id =
        some (c.moved (sumNat (rs.map (·.len)))) := State.ctx?_moved (State.copyPieces_keeps ht).1 hc _
    rw [State.moveRuns_near hc hr hn ht, State.moveEnd,
      completes_land (by rw [← ha]; exact State.aheadOfCopy_congr rfl)]
    exact ⟨ended_finish hctx hf _ _ _, sameBytes_stored_self _ _⟩
  · rw [ht, State.moveEnd, completes_land ha]
    exact ⟨rfl, rfl, sameBytes_stored_self _ _⟩

/-- FILL writes its pattern (R256). -/
theorem completes_fill {s : State} {id n : Nat} {c : Ctx} {q : Queue} {bs : Bytes} {ps : List (Nat × Nat)}
    (h : Running s id 0x0003 c q) (hn : n = arg c.record 8 8) (ha : arg c.record 0 8 % 8 = 0) (hn8 : n % 8 = 0)
    (h0 : 0 < n) (h1 : n ≤ 2 ^ 40) (hr : s.reach c.cabinet (arg c.record 0 8) n .write = .ok ps)
    (hb : bs = (List.replicate (n / 8) (toLe 8 (arg c.record 16 8))).flatten)
    (hw : (s.putCab c.cabinet (arg c.record 0 8) bs).aheadOfCopy = none) :
    Completes (exec (.fill id) s) fun u =>
      Ended u id 0 n ∧ SameBytes (s.putCab c.cabinet (arg c.record 0 8) bs) u := by
  subst hn hb
  have hg : check [(arg c.record 0 8 % 8 != 0, errAlign 0), (arg c.record 8 8 % 8 != 0, errAlign 8),
      (arg c.record 8 8 = 0 || 2 ^ 40 < arg c.record 8 8, errRange 8)] = .ok () := by
    simp only [check, firstErr, ha, hn8, outside_eq_false h0 h1, bne_self_eq_false, Bool.false_eq_true, if_false]
  show Completes (execFill id s) _
  rw [execFill, onCtx_of_running h]
  simp only [hg, hr, bind, Except.bind, pure, Except.pure, State.moveEnd]
  rw [completes_land (by rw [← hw]; exact State.aheadOfCopy_congr rfl)]
  exact ⟨ended_finish ((State.ctx?_congr (by rw [State.putCab_contract]) id).trans h.ctx) h.unfinished _ _ _,
    sameBytes_stored_self _ _⟩

/-- INVALIDATE of a cabinet, from cabinet 0 (R255, R258). -/
theorem completes_invalidate {s : State} {id : Nat} {c : Ctx} {q : Queue} (h : Running s id 0x0010 c q)
    (hv : reservedErr c.record [(0, 2), (8, 16)] = none) (h0 : c.cabinet = 0) (h8 : arg c.record 8 8 % 65536 = 0)
    (h16 : arg c.record 16 8 % 65536 = 0) (hc : (s.cabinet? (arg c.record 0 2)).isSome = true) :
    Completes (exec (.invalidate id) s) fun u => Ended u id 0 0 := by
  have hk : (s.cabinet? (arg c.record 0 2)).isNone = false := by rw [Option.isNone_eq_false_iff]; exact hc
  show Completes (execInvalidate id s) _
  rw [execInvalidate, onCtx_of_running h]
  simp only [argsErr, hv, firstErr, h0, h8, h16, hk, bne_self_eq_false, Bool.false_eq_true, if_false, completes_commit]
  exact ended_finish ((State.ctx?_congr (State.retryCqs_ctxs _ _) id).trans h.ctx) h.unfinished _ _ _

/-- INVALIDATE from another cabinet is refused (R258). -/
theorem completes_invalidate_refused {s : State} {id : Nat} {c : Ctx} {q : Queue} (h : Running s id 0x0010 c q)
    (hv : reservedErr c.record [(0, 2), (8, 16)] = none) (h0 : c.cabinet ≠ 0) :
    Completes (exec (.invalidate id) s) fun u => Ended u id stSecurityRefused 0 := by
  show Completes (execInvalidate id s) _
  rw [execInvalidate, onCtx_of_running h]
  simp only [argsErr, hv, firstErr, bne_iff_ne.2 h0, if_true, completes_commit]
  exact ended_finishErr h.ctx h.unfinished (errPlain stSecurityRefused)

/-! ### Upkeep of the tiers (R244, R247, R248, R250) -/

/-- A reported uncorrectable read adds one to the length of UE_LIST, up to 256 (R250). -/
theorem State.ent_reportUe_count (s : State) (a m : Nat) :
    (s.reportUe a m).ent 0 0x2502 1 = min 256 (s.ent 0 0x2502 1 + 1) := by
  have hcount : ∀ t : State, (t.countUe a).ent 0 0x2502 1 = t.ent 0 0x2502 1 := fun t => by
    unfold State.countUe
    split
    · exact State.ent_bumpEnt_ne _ _ _ _ _ _ _ _ (by decide)
    · split
      · exact State.ent_bumpEnt_ne _ _ _ _ _ _ _ _ (by decide)
      · rfl
  have hsize : 8 * entrySize 0x2502 1 = 16 := by decide
  rw [State.reportUe, hcount, State.ent_note _ _ _ _ _ _ _ _ _ (by decide) (by decide) (by decide), State.appendUe,
    State.put_def, State.ent_putEnt, hsize, State.e_def]
  exact Nat.mod_eq_of_lt (by omega)

/-- Bytes written back where they were read change nothing (R244). -/
theorem State.storeRaw_readBack {s t : State} (hs : s.sound) (hm : t.mem = s.mem) (a n : Nat) :
    SameBytes s (t.storeRaw a (s.readDev a n)) := by
  intro k
  rw [State.storeRaw, hm, Memory.get_write _ _ _ _ hs]
  split
  · next hk =>
    rw [State.readDev, Memory.read_eq_map] at hk ⊢
    have hlt : k - a < n := by
      rw [List.length_map, List.length_range] at hk
      omega
    simp [hlt, Nat.add_sub_cancel' hk.1]
  · rfl

/-- PATROL_SCRUB goes one unit on: a bad unit is recorded, a corrected one written back (R244, R250). -/
theorem completes_patrolScrub {s : State} {a : Nat} (hs : s.sound) (hf : s.faults.safe = false)
    (hr : s.tiers.selfRefresh = false) (ha : a = 0x10000000000 + 64 * s.tiers.scrubNext) :
    Completes (exec .patrolScrub s) fun t =>
      t.tiers.scrubNext = (if 64 * (s.tiers.scrubNext + 1) < s.e 0x2500 0 then s.tiers.scrubNext + 1 else 0) ∧
      (a ∈ s.tiers.badUnits → t.e 0x2502 1 = min 256 (s.e 0x2502 1 + 1) ∧ t.tiers.badUnits = s.tiers.badUnits) ∧
      SameBytes s t := by
  have hrun : s.gddrRuns = true := by simp [State.gddrRuns, hf, hr]
  have hu : gddrBase + s.tiers.scrubNext * 64 = a := by rw [ha, gddrBase, Nat.mul_comm]
  have hn : (if (s.tiers.scrubNext + 1) * 64 < s.gddrBytes then s.tiers.scrubNext + 1 else 0) =
      if 64 * (s.tiers.scrubNext + 1) < s.e 0x2500 0 then s.tiers.scrubNext + 1 else 0 := by
    rw [Nat.mul_comm, State.gddrBytes]
  show Completes (execPatrolScrub s) _
  unfold execPatrolScrub
  dsimp only
  rw [hrun, hu, hn, if_neg (by decide)]
  split
  · rw [completes_quiet]
    refine ⟨by rw [State.unstored_tiers, State.reportUe_tiers],
      fun _ => ⟨?_, by rw [State.unstored_tiers, State.reportUe_tiers]⟩, sameBytes_of_mem _ _ rfl⟩
    rw [State.e_def, State.ent_unstored, State.ent_reportUe_count]
    rfl
  · next hbad =>
    have hnot : a ∉ s.tiers.badUnits := fun h => hbad (List.contains_iff_mem.2 h)
    split
    · rw [completes_commit]
      refine ⟨by rw [State.stored_tiers, State.storeRaw, State.bump_def, State.bumpEnt_tiers],
        fun h => absurd h hnot, fun k => ?_⟩
      rw [State.stored_mem, Memory.get_canon]
      generalize hs1 : State.bump _ 0x2500 2 1 = s1
      have hm : s1.mem = s.mem := by rw [← hs1, State.bump_def, State.bumpEnt_mem]
      exact State.storeRaw_readBack hs hm a 64 k
    · rw [completes_quiet]
      exact ⟨rfl, fun h => absurd h hnot, sameBytes_of_mem _ _ rfl⟩

/-- CXL_SCRUB goes one line on in its port, and records a line that reads badly (R248, R250). -/
theorem completes_cxlScrub {s : State} {p a : Nat} (hp : p < 4) (hf : s.faults.safe = false) (hm : s.e 0x2E05 0 ≤ 1)
    (ha : s.cxlAddr p (64 * s.tiers.cxlScrubNext.getD p 0) = some a) :
    Completes (exec (.cxlScrub p) s) fun t =>
      t.tiers.cxlScrubNext = s.tiers.cxlScrubNext.set p (s.tiers.cxlScrubNext.getD p 0 + 1) ∧
      (∀ u, s.badUnit a 64 = some u → t.e 0x2502 1 = min 256 (s.e 0x2502 1 + 1)) ∧ SameBytes s t := by
  have hm' : (s.faults.safe || decide (2 ≤ s.e 0x2E05 0)) = false := by
    simp only [hf, Bool.false_or, decide_eq_false_iff_not]
    omega
  rw [Nat.mul_comm] at ha
  show Completes (execCxlScrub p s) _
  simp only [execCxlScrub, if_neg (Nat.not_le.2 hp), hm', ha, Bool.false_eq_true, if_false, completes_quiet]
  refine ⟨?_, fun u hu => ?_, sameBytes_of_mem _ _ rfl⟩
  · split <;> simp
  · simp only [hu]
    rw [State.e_def, State.ent_unstored, State.ent_reportUe_count]
    rfl

/-- CXL_TIMEOUT ends its command as uncorrectable at a line of the CXL window (R247). -/
theorem completes_cxlTimeout {s : State} {id : Nat} {c : Ctx} (hc : s.ctx? id = some c) (hf : c.finished = false)
    (hw : c.waiting = false) (hh : s.held c = false) (ht : c.startTime + s.e 0x2501 6 ≤ s.now)
    (hx : (s.tiers.cxlBytes.any fun n => decide (0 < n)) = true) :
    ∃ a, 0x100000000000 ≤ a ∧ a < 0x10000000000000 ∧ a % 64 = 0 ∧
      Completes (exec (.cxlTimeout id) s) fun u => Ended u id stEccUncorrectable a := by
  refine ⟨cxlBase + s.freeValue % (hostBase - cxlBase) / 64 * 64, ?_, ?_, ?_, ?_⟩
  · exact Nat.le_add_right _ _
  · simp only [cxlBase, hostBase]
    omega
  · simp only [cxlBase, hostBase]
    omega
  · show Completes (execCxlTimeout id s) _
    rw [execCxlTimeout, onCtx_of_passes hc (by rw [hx, Bool.and_true, decide_eq_true ht]) hf hw hh, completes_commit]
    exact ended_finishErr (t := s.drawn) hc hf _

/-- Settles O29, a lemma for each command and event; refreshes and link events change one field of the tiers. -/
theorem moveCommandsAndTierUpkeepComplete : Obligations.MoveCommandsAndTierUpkeepComplete := by
  refine ⟨?copies, ?fill, ?invalidate, ?patrol, ?cxl, ?refresh, ?timeout, ?down, ?up⟩
  case copies =>
    rintro s t id c q i rs (⟨rfl, h, rfl, h0, h1⟩ | ⟨rfl, h, hv, ha, h0, h1, b, hb, rfl, he⟩) hr hk hp
    · rw [execCopy_eq h hr h0 h1 hk hp]
      exact completes_moveRuns h.ctx h.unfinished hr
    · rw [execCopyList_eq h hr hv ha h0 h1 hb rfl he hk hp]
      exact completes_moveRuns h.ctx h.unfinished hr
  case fill => exact fun s id n c q bs ps h hn ha hn8 h0 h1 hr hb hw => completes_fill h hn ha hn8 h0 h1 hr hb hw
  case invalidate =>
    exact fun s id c q h hv =>
      ⟨fun h0 h8 h16 hc => completes_invalidate h hv h0 h8 h16 hc, fun h0 => completes_invalidate_refused h hv h0⟩
  case patrol => exact fun s a hs hf hr ha => completes_patrolScrub hs hf hr ha
  case cxl => exact fun s p a hp hf hm ha => completes_cxlScrub hp hf hm ha
  case refresh =>
    intro s hf hr
    show Completes (execGddr7Refresh s) _
    simp only [execGddr7Refresh, State.gddrRuns, hf, hr, Bool.not_false, Bool.and_self, Bool.not_true,
      Bool.false_eq_true, if_false, completes_quiet]
    exact ⟨rfl, rfl, sameBytes_of_mem _ _ rfl⟩
  case timeout => exact fun s id c q hc hf hw hh _ ht hx => completes_cxlTimeout hc hf hw hh ht hx
  case down =>
    intro s p hp
    show Completes (execCxlLinkDown p s) _
    rw [execCxlLinkDown, if_neg (Nat.not_le.2 hp), completes_quiet]
    exact ⟨rfl, rfl, sameBytes_of_mem _ _ rfl⟩
  case up =>
    intro s p hp
    show Completes (execCxlLinkRetrained p s) _
    rw [execCxlLinkRetrained, if_neg (Nat.not_le.2 hp), completes_quiet]
    exact ⟨rfl, rfl, sameBytes_of_mem _ _ rfl⟩

end Sys2Proof.Machine

namespace Sys2Proof.Machine

/-! ### A page-in that takes staged data (R276, R278, R280) -/

/-- The record of a SHELF_PAGE_IN of the first entry of the shelf at 0x2000, to 0x80000. -/
def pageInRecord : Bytes :=
  toLe 2 0x4010 ++ zeros 38 ++ toLe 8 0x2000 ++ toLe 8 0x80000 ++ toLe 4 0 ++ toLe 2 1 ++ zeros 2

/-- The started command. -/
def pageInCtx : Ctx := { (default : Ctx) with id := 7, queue := 5, record := pageInRecord }

/-- The queue that it came from. -/
def pageInQueue : Queue := { (default : Queue) with index := 5, kind := 1, engine := 4, n := 4, state := 1 }

/-- Page tables that map the first 2 MiB of cabinet 0 to GDDR7 from 0x10020000000 on, and in that page a shelf: its header
at 0x2000, its entry at 0x2040, and at 0x2100 the descriptor of an MXFP8 tensor of one element at 0x5000, itself zero. -/
def pageInMemory : List Host.Cell :=
  [(0x10000010000, 0x01), (0x10000010001, 0x10), (0x10000010002, 0x01), (0x10000010005, 0x01),
   (0x10000011000, 0x01), (0x10000011001, 0x20), (0x10000011002, 0x01), (0x10000011005, 0x01),
   (0x10000012000, 0x0F), (0x10000012003, 0x20), (0x10000012005, 0x01),
   (0x10020002000, 0x01), (0x10020002008, 0x40), (0x10020002009, 0x20), (0x10020002012, 0x01),
   (0x10020002041, 0x21),
   (0x10020002101, 0x50), (0x10020002120, 0x01), (0x1002000213C, 0x05)]

/-- A state in which the command has started and the granule that holds the tensor is staged; GDDR7 is populated and cabinet
0 has its page table. -/
def pageInStaged : State :=
  { State.reset with
    dict := [(0x250000, 0x2000000000), (0x400303, 0x10000010000)]
    mem := pageInMemory
    contract := { State.reset.contract with queues := [pageInQueue], ctxs := [pageInCtx] }
    tiers := { State.reset.tiers with staged := [{ cabinet := 0, source := 0x10020000000, valid := true }] } }

/-- The 64 bytes of the tensor's descriptor. -/
def pageInDesc : Bytes := toLe 8 0x5000 ++ zeros 24 ++ toLe 8 1 ++ zeros 20 ++ toLe 1 5 ++ zeros 3

/-- The shelf's entry. -/
def pageInEntry : ShelfEntry := { desc := parseDesc 0x2100 pageInDesc, landing := 0, bytes := pageInDesc }

/-- The landing image of the entry: its descriptor and its one container, with neither map nor heap. -/
def pageInImage : List (Nat × Bytes) :=
  [(0x80000, imageDesc pageInEntry.desc pageInDesc), (0x80040, zeros 72), (0x80000 + pageInEntry.desc.imageMap, []),
   (0x80000 + pageInEntry.desc.imageHeap, [])]

/-- STAGING_HITS in the state that a command answers. -/
def stagingHits (o : Result) : Nat :=
  match o with
  | .next u => u.e 0x2504 2
  | _ => 0

/-- Whether a read of the model succeeds with a value. -/
def readsAs {α : Type} [DecidableEq α] (x : Except Err α) (a : α) : Bool :=
  match x with
  | .ok b => decide (b = a)
  | .error _ => false

theorem eq_ok_of_readsAs {α : Type} [DecidableEq α] {x : Except Err α} {a : α} (h : readsAs x a = true) : x = .ok a := by
  cases x with
  | ok b => exact congrArg Except.ok (of_decide_eq_true h)
  | error e => cases h

theorem pageInStaged_running : Running pageInStaged 7 0x4010 pageInCtx pageInQueue :=
  ⟨rfl, by decide, rfl, rfl, rfl, rfl⟩

theorem pageInStaged_shelfHeader :
    pageInStaged.shelfHeader pageInCtx.cabinet (arg pageInCtx.record 0 8) = .ok (1, 0x2040, 0x10000) :=
  eq_ok_of_readsAs (by decide +kernel)

theorem pageInStaged_shelfEntries : pageInStaged.shelfEntries pageInCtx.cabinet 0x2040 0 1 = .ok [pageInEntry] :=
  eq_ok_of_readsAs (by decide +kernel)

theorem pageInStaged_imagesOf :
    pageInStaged.imagesOf pageInCtx.cabinet (arg pageInCtx.record 8 8) [pageInEntry] = .ok pageInImage :=
  eq_ok_of_readsAs (by decide +kernel)

/-- The landing image may be written, and no granule is being copied. -/
theorem pageInStaged_writeAll :
    ∃ t, pageInStaged.writeAll pageInCtx.cabinet pageInImage = .ok t ∧ t.aheadOfCopy = none := by
  have hrun : (match pageInStaged.writeAll pageInCtx.cabinet pageInImage with
      | .ok t => t.aheadOfCopy.isNone
      | .error _ => false) = true := by decide +kernel
  split at hrun
  · next t ht => exact ⟨t, ht, Option.isNone_iff_eq_none.1 hrun⟩
  · cases hrun

/-- The command takes the tensor from staging: STAGING_HITS goes from 0 to 1. -/
theorem pageInStaged_hits :
    pageInStaged.e 0x2504 2 = 0 ∧ stagingHits (exec (.shelfPageIn 7) pageInStaged) = 1 := by
  constructor <;> decide +kernel

/-- Refutes O31: the writes of a SHELF_PAGE_IN leave the dictionary, but the command then counts in STAGING_HITS (0x2504:02,
R278, R280) each granule that it took from staging, so its answer does not have the dictionary that the writes left. -/
theorem not_shelfAndPrefetchCommandsComplete : ¬ Obligations.ShelfAndPrefetchCommandsComplete := by
  rintro ⟨hpage, -⟩
  obtain ⟨t, hw, ha⟩ := pageInStaged_writeAll
  obtain ⟨u, hu, -, -, hd⟩ := hpage pageInStaged t 7 0 1 1 0x2040 0x10000 pageInCtx pageInQueue [pageInEntry] pageInImage
    pageInStaged_running (by decide) (by decide) (by decide) (by decide) (by decide) (by decide) pageInStaged_shelfHeader
    (by decide) pageInStaged_shelfEntries (by decide) (by decide) pageInStaged_imagesOf hw ha
  obtain ⟨hbefore, hafter⟩ := pageInStaged_hits
  have hkept : u.e 0x2504 2 = pageInStaged.e 0x2504 2 :=
    State.ent_congr (hd.trans (State.writeAll_sameRest _ _ _ _ hw).dict) 0 0x2504 2
  rw [hu, stagingHits, hkept, hbefore] at hafter
  cases hafter

end Sys2Proof.Machine

/-! PROOFS of the Drevy cores: what the triggers of the integer, multiply and FP32 units compute, vector operations and
transfers from their start to their end, branches, privilege and the sync triggers. -/

namespace Sys2Proof.Machine

/-! ### Integer triggers (R204) -/

theorem aluOp_add (o t : W32) : aluOp 16 o t = BitVec.ofNat 32 (o.toNat + t.toNat) := by
  simp [aluOp, BitVec.ofNat_add]

theorem aluOp_sub (o t : W32) : aluOp 17 o t = BitVec.ofInt 32 (o.toInt - t.toInt) := by
  refine BitVec.eq_of_toInt_eq ?_
  show (o - t).toInt = _
  rw [BitVec.toInt_sub, BitVec.toInt_ofInt]

theorem aluOp_shl (o t : W32) : aluOp 21 o t = BitVec.ofNat 32 (o.toNat * 2 ^ (t.toNat % 32)) := by
  refine BitVec.eq_of_toNat_eq ?_
  show (o <<< (t.toNat % 32)).toNat = _
  rw [BitVec.toNat_shiftLeft, Nat.shiftLeft_eq, BitVec.toNat_ofNat]

theorem aluOp_shr (o t : W32) : aluOp 22 o t = BitVec.ofNat 32 (o.toNat / 2 ^ (t.toNat % 32)) := by
  show o >>> (t.toNat % 32) = _
  rw [← Nat.shiftRight_eq_div_pow, ← BitVec.toNat_ushiftRight, BitVec.ofNat_toNat, BitVec.setWidth_eq]

theorem aluOp_sar (o t : W32) : aluOp 23 o t = BitVec.ofInt 32 (o.toInt / 2 ^ (t.toNat % 32)) := by
  show o.sshiftRight (t.toNat % 32) = _
  have h : o.toInt / 2 ^ (t.toNat % 32) = (o.sshiftRight (t.toNat % 32)).toInt := by
    rw [BitVec.toInt_sshiftRight, Int.shiftRight_eq_div_pow]; norm_cast
  rw [h, BitVec.ofInt_toInt]

theorem aluOp_ne (o t : W32) : aluOp 25 o t = if o ≠ t then 1 else 0 := (ite_not ..).symm

theorem aluOp_lts (o t : W32) : aluOp 26 o t = if o.toInt < t.toInt then 1 else 0 := by
  show (if o.slt t then (1 : W32) else 0) = _
  simp only [BitVec.slt_iff_toInt_lt]

theorem aluOp_ltu (o t : W32) : aluOp 27 o t = if o.toNat < t.toNat then 1 else 0 := by
  show (if o.ult t then (1 : W32) else 0) = _
  simp only [BitVec.ult_iff_lt, BitVec.lt_def]

theorem aluOp_mins (o t : W32) : aluOp 28 o t = BitVec.ofInt 32 (min o.toInt t.toInt) := by
  show (if o.slt t then o else t) = _
  simp only [BitVec.slt_iff_toInt_lt]
  split
  · next h => rw [Int.min_eq_left (Int.le_of_lt h), BitVec.ofInt_toInt]
  · next h => rw [Int.min_eq_right (Int.not_lt.1 h), BitVec.ofInt_toInt]

theorem aluOp_maxs (o t : W32) : aluOp 29 o t = BitVec.ofInt 32 (max o.toInt t.toInt) := by
  show (if o.slt t then t else o) = _
  simp only [BitVec.slt_iff_toInt_lt]
  split
  · next h => rw [Int.max_eq_right (Int.le_of_lt h), BitVec.ofInt_toInt]
  · next h => rw [Int.max_eq_left (Int.not_lt.1 h), BitVec.ofInt_toInt]

/-- The carry of two words is the quotient of their sum: it is 0 or 1. -/
theorem aluOp_carry (o t : W32) : aluOp 30 o t = BitVec.ofNat 32 ((o.toNat + t.toNat) / 2 ^ 32) := by
  show (if 2 ^ 32 ≤ o.toNat + t.toNat then (1 : W32) else 0) = _
  have ho := o.isLt
  have ht := t.isLt
  split
  · next h => rw [Nat.div_eq_of_lt_le (k := 1) (by omega) (by omega)]; rfl
  · next h => rw [Nat.div_eq_of_lt (by omega)]; rfl

/-- A trigger of an integer ALU puts its RES on its way for one word (R201, R204). -/
theorem completes_aluTrigger {s : State} {core alu p : Nat} {c : Core} {t v : W32} {i : Instr} (ha : alu < 2)
    (hc : s.core? core = some c) (he : s.executes c = true)
    (hi : exec i s = if 2 ≤ alu then .fault .noSuchUnit else s.onTrigger core (4 + alu) p t)
    (hv : aluOp p (c.port (4 + alu) 0) t = v) :
    Completes (exec i s) fun u => Launched u c (4 + alu) 1 v 1 c.ports ∧ u.dict = s.dict ∧ SameBytes s u := by
  subst hv
  rw [hi, if_neg (Nat.not_le.2 ha)]
  obtain rfl | rfl : alu = 0 ∨ alu = 1 := by omega
  · exact launched_of_trigger hc rfl he rfl rfl
  · exact launched_of_trigger hc rfl he rfl rfl

/-- Settles O23: each trigger is a port of the ALU, and the ALU's result at that port is the table's (R204). -/
theorem integerTriggersCompute : Obligations.IntegerTriggersCompute := by
  rintro s core alu c t o v i ha hc he rfl hiv
  simp only [List.mem_cons, Prod.mk.injEq, List.not_mem_nil, or_false] at hiv
  obtain ⟨rfl, rfl⟩ | ⟨rfl, rfl⟩ | ⟨rfl, rfl⟩ | ⟨rfl, rfl⟩ | ⟨rfl, rfl⟩ | ⟨rfl, rfl⟩ | ⟨rfl, rfl⟩ | ⟨rfl, rfl⟩ |
    ⟨rfl, rfl⟩ | ⟨rfl, rfl⟩ | ⟨rfl, rfl⟩ | ⟨rfl, rfl⟩ | ⟨rfl, rfl⟩ | ⟨rfl, rfl⟩ | ⟨rfl, rfl⟩ | ⟨rfl, rfl⟩ := hiv
  · exact completes_aluTrigger (p := 16) ha hc he rfl (aluOp_add _ _)
  · exact completes_aluTrigger (p := 17) ha hc he rfl (aluOp_sub _ _)
  · exact completes_aluTrigger (p := 18) ha hc he rfl rfl
  · exact completes_aluTrigger (p := 19) ha hc he rfl rfl
  · exact completes_aluTrigger (p := 20) ha hc he rfl rfl
  · exact completes_aluTrigger (p := 21) ha hc he rfl (aluOp_shl _ _)
  · exact completes_aluTrigger (p := 22) ha hc he rfl (aluOp_shr _ _)
  · exact completes_aluTrigger (p := 23) ha hc he rfl (aluOp_sar _ _)
  · exact completes_aluTrigger (p := 24) ha hc he rfl rfl
  · exact completes_aluTrigger (p := 25) ha hc he rfl (aluOp_ne _ _)
  · exact completes_aluTrigger (p := 26) ha hc he rfl (aluOp_lts _ _)
  · exact completes_aluTrigger (p := 27) ha hc he rfl (aluOp_ltu _ _)
  · exact completes_aluTrigger (p := 28) ha hc he rfl (aluOp_mins _ _)
  · exact completes_aluTrigger (p := 29) ha hc he rfl (aluOp_maxs _ _)
  · exact completes_aluTrigger (p := 30) ha hc he rfl (aluOp_carry _ _)
  · exact completes_aluTrigger (p := 31) ha hc he rfl rfl

end Sys2Proof.Machine

namespace Sys2Proof.Machine

/-! ### Multiply and FP32 triggers (R205, R206) -/

theorem mulOp_low (o t : W32) : mulOp 16 o t = BitVec.ofNat 32 (o.toNat * t.toNat) := by
  simp [mulOp, BitVec.ofNat_mul]

/-- The choice of a minimum or maximum, with its second and third case drawn apart or together. -/
theorem ite_chain_or {α : Type} (xNan zNan less zero : Bool) (x z : α) :
    (if xNan then z else if zNan then x else if less || zero then x else z) =
      if xNan then z else if zNan || less then x else if zero then x else z := by
  cases xNan <;> cases zNan <;> cases less <;> rfl

/-- A saturated integer is in the range of a signed word (R206). -/
theorem toInt_ofInt_saturated {n : Int} (h0 : -2 ^ 31 ≤ n) (h1 : n ≤ 2 ^ 31 - 1) : (BitVec.ofInt 32 n).toInt = n := by
  rw [BitVec.toInt_ofInt]
  exact Int.bmod_eq_of_le (by omega) (by omega)

theorem f2i_nan {x : Fl} (h : Fp.isNan x = true) : f2i x = 0 := by
  cases x with
  | nan => rfl
  | inf a => cases h
  | fin a m e => cases h

/-- A whole value becomes the nearest integer of a signed word (R206). -/
theorem toInt_f2i_whole (a : Bool) (m e : Nat) : (f2i (.fin a m e)).toInt =
    max (-2 ^ 31) (min (2 ^ 31 - 1) (if a then -((m * 2 ^ e : Nat) : Int) else ((m * 2 ^ e : Nat) : Int))) := by
  have hn : (if (0 : Int) ≤ (e : Int) then Fp.shl m e else Fp.nearest m (-(e : Int)).toNat false) = m * 2 ^ e := by
    rw [if_pos (Int.natCast_nonneg e), Fp.shl, Int.toNat_natCast]
  simp only [f2i, hn]
  generalize m * 2 ^ e = n
  cases a with
  | true =>
    rw [if_pos rfl, if_pos rfl, toInt_ofInt_saturated] <;> omega
  | false =>
    rw [if_neg Bool.false_ne_true, if_neg Bool.false_ne_true, ← BitVec.ofInt_natCast, toInt_ofInt_saturated] <;> omega

/-- A trigger of MUL puts its RES on its way for two words (R201, R205). -/
theorem completes_mulTrigger {s : State} {core p : Nat} {c : Core} {t v : W32} {i : Instr} (hc : s.core? core = some c)
    (he : s.executes c = true) (hi : exec i s = s.onTrigger core 6 p t) (hv : mulOp p (c.port 6 0) t = v) :
    Completes (exec i s) fun u => Launched u c 6 1 v 2 c.ports ∧ u.dict = s.dict ∧ SameBytes s u := by
  subst hv
  rw [hi]
  exact launched_of_trigger hc rfl he rfl rfl

/-- A trigger of FPU puts its RES on its way for the words of its latency (R201, R206). -/
theorem completes_fpuTrigger {s : State} {core p l : Nat} {c : Core} {t v : W32} {i : Instr} (hc : s.core? core = some c)
    (he : s.executes c = true) (hi : exec i s = s.onTrigger core 7 p t) (hl : latencyOf 7 p = l)
    (hv : fpuOp p (c.port 7 0) (c.port 7 1) t = v) :
    Completes (exec i s) fun u => Launched u c 7 2 v l c.ports ∧ u.dict = s.dict ∧ SameBytes s u := by
  subst hv
  rw [hi]
  exact launched_of_trigger hc rfl he rfl hl

/-- Settles O24: each trigger is a port of MUL or FPU, and the unit's result at that port is the rule's (R205, R206). -/
theorem scalarTriggersCompute : Obligations.ScalarTriggersCompute := by
  refine fun s core c t hc he => ⟨?mul, ?fpu, ?f2i⟩
  case mul =>
    rintro i o v rfl hiv
    simp only [List.mem_cons, Prod.mk.injEq, List.not_mem_nil, or_false] at hiv
    obtain ⟨rfl, rfl⟩ | ⟨rfl, rfl⟩ | ⟨rfl, rfl⟩ := hiv
    · exact completes_mulTrigger (p := 16) hc he rfl (mulOp_low _ _)
    · exact completes_mulTrigger (p := 17) hc he rfl rfl
    · exact completes_mulTrigger (p := 18) hc he rfl rfl
  case fpu =>
    rintro i x y z v l rfl rfl rfl hiv
    simp only [List.mem_cons, Prod.mk.injEq, List.not_mem_nil, or_false] at hiv
    obtain ⟨rfl, rfl, rfl⟩ | ⟨rfl, rfl, rfl⟩ | ⟨rfl, rfl, rfl⟩ | ⟨rfl, rfl, rfl⟩ | ⟨rfl, rfl, rfl⟩ | ⟨rfl, rfl, rfl⟩ |
      ⟨rfl, rfl, rfl⟩ | ⟨rfl, rfl, rfl⟩ | ⟨rfl, rfl, rfl⟩ | ⟨rfl, rfl, rfl⟩ | ⟨rfl, rfl, rfl⟩ | ⟨rfl, rfl, rfl⟩ |
      ⟨rfl, rfl, rfl⟩ := hiv
    · exact completes_fpuTrigger (p := 16) hc he rfl rfl rfl
    · exact completes_fpuTrigger (p := 17) hc he rfl rfl rfl
    · exact completes_fpuTrigger (p := 18) hc he rfl rfl rfl
    · exact completes_fpuTrigger (p := 19) hc he rfl rfl rfl
    · exact completes_fpuTrigger (p := 20) hc he rfl rfl (congrArg wf (ite_chain_or ..))
    · exact completes_fpuTrigger (p := 21) hc he rfl rfl (congrArg wf (ite_chain_or ..))
    · exact completes_fpuTrigger (p := 22) hc he rfl rfl rfl
    · exact completes_fpuTrigger (p := 23) hc he rfl rfl rfl
    · exact completes_fpuTrigger (p := 24) hc he rfl rfl rfl
    · exact completes_fpuTrigger (p := 26) hc he rfl rfl rfl
    · exact completes_fpuTrigger (p := 27) hc he rfl rfl rfl
    · exact completes_fpuTrigger (p := 28) hc he rfl rfl rfl
    · exact completes_fpuTrigger (p := 29) hc he rfl rfl rfl
  case f2i =>
    refine ⟨f2i (fl t), f2i_nan, fun a m e hx => ?_, completes_fpuTrigger (p := 25) hc he rfl rfl rfl⟩
    rw [hx]
    exact toInt_f2i_whole a m e

end Sys2Proof.Machine

namespace Sys2Proof.Machine

/-! ### The core that a trigger or a completion leaves -/

theorem State.core?_congr {s t : State} (h : t.cores = s.cores) (i : Nat) : t.core? i = s.core? i := by
  unfold State.core?
  rw [h]

/-- Writes that pass their checks touch no core. -/
theorem State.writeAll_cores {s t : State} {cab : Nat} {l : List (Nat × Bytes)} (h : s.writeAll cab l = .ok t) :
    t.cores = s.cores := by
  induction l generalizing s with
  | nil => cases h; rfl
  | cons w r ih =>
    obtain ⟨a, bs⟩ := w
    unfold State.writeAll at h
    split at h
    · exact ih h
    · split at h
      · cases h
      · rw [ih h, State.putCab_cores]

/-- A trigger that takes effect on its core alone leaves that core, and neither the dictionary nor memory changes. -/
theorem completes_trigger {s : State} {core u p : Nat} {t : W32} {c c' : Core} {P : Core → Prop}
    (hc : s.core? core = some c) (hu : c.hasUnit u = true) (he : s.executes c = true)
    (ht : s.trigger c u p t = .ok s c') (hid : c'.id = c.id) (hs : c'.stall ≠ 5) (hP : P (c'.busyUntil u p)) :
    Completes (s.onTrigger core u p t) fun w =>
      (∃ d, w.core? core = some d ∧ P d) ∧ w.dict = s.dict ∧ SameBytes s w := by
  rw [onTrigger_ok hc hu he ht hs, completes_commit]
  exact ⟨core_setCore (c' := c'.busyUntil u p) hc hid _ rfl hP, rfl, sameBytes_stored _ _ rfl⟩

/-- A trigger that stalls its core while some of the operations it waits for are outstanding (R212, R213). -/
theorem completes_waitTrigger {α : Type} (ops : Core → List α) {s : State} {core u p k : Nat} {t : W32} {c : Core}
    (hc : s.core? core = some c) (hu : c.hasUnit u = true) (he : s.executes c = true)
    (ht : s.trigger c u p t = .ok s (if (ops c).isEmpty then c else { c with stall := k })) (h0 : k ≠ 0) (h5 : k ≠ 5)
    (hst : ∀ (d : Core) (m : Nat), ops { d with stall := m } = ops d) (hbu : ∀ d : Core, ops (d.busyUntil u p) = ops d) :
    Completes (s.onTrigger core u p t) fun w =>
      (∃ c', w.core? core = some c' ∧ ops c' = ops c ∧ (c'.stall ≠ 0 ↔ ops c ≠ [])) ∧ SameBytes s w := by
  have hs := State.executes_stall he
  have hkeep : ∃ c', s.trigger c u p t = .ok s c' ∧ c'.id = c.id ∧ c'.stall ≠ 5 ∧ ops c' = ops c ∧
      (c'.stall ≠ 0 ↔ ops c ≠ []) := by
    cases ho : (ops c).isEmpty with
    | true => exact ⟨c, by rw [ht, ho]; rfl, rfl, by simp [hs], rfl, by simp [hs, List.isEmpty_iff.1 ho]⟩
    | false =>
      exact ⟨{ c with stall := k }, by rw [ht, ho]; rfl, rfl, h5, hst c k,
        by simpa [h0] using List.isEmpty_eq_false_iff.1 ho⟩
  obtain ⟨c', ht', hid, hs5, hops, hiff⟩ := hkeep
  obtain ⟨w, hw, hcw, -, hb⟩ := completes_trigger (P := fun d => ops d = ops c ∧ (d.stall ≠ 0 ↔ ops c ≠ []))
    hc hu he ht' hid hs5 ⟨(hbu c').trans hops, hiff⟩
  exact ⟨w, hw, hcw, hb⟩

/-- A state whose memory is s's with a run of bytes written has written that run. -/
theorem wrote_stored {s t : State} {a : Nat} {bs : Bytes} (hs : s.sound) (ht : t.mem = Memory.write s.mem a bs) :
    Wrote s (s.stored t) a bs := by
  intro k
  rw [State.stored_mem, Memory.get_canon, ht, Memory.get_write _ _ _ _ hs]

/-- The tile cores, 0 to 63, are no control cores. -/
theorem Core.isControl_of_lt {s : State} {core : Nat} {c : Core} (hc : s.core? core = some c) (h : core < 64) :
    c.isControl = false := by
  rw [Core.isControl, State.core?_id hc]
  exact decide_eq_false (Nat.not_le.2 h)

/-- The control cores are those from 64 on. -/
theorem Core.isControl_of_le {s : State} {core : Nat} {c : Core} (hc : s.core? core = some c) (h : 64 ≤ core) :
    c.isControl = true := by
  rw [Core.isControl, State.core?_id hc]
  exact decide_eq_true h

/-- What a core that is not halted and has just completed an operation waits for: as before, or no more. -/
theorem State.afterDone_eq (s : State) {c : Core} (h : c.stall ≠ 5) :
    ∃ k, s.afterDone c = s.setCore { c with stall := k } ∧ (c.stall = 1 → (k = 0 ↔ c.vecOps = [])) ∧
      (c.stall = 2 → (k = 0 ↔ c.dmaOps = [])) := by
  unfold State.afterDone
  extract_lets go
  cases hgo : go with
  | true =>
    refine ⟨0, by simp [State.tryHalt], fun h1 => ?_, fun h2 => ?_⟩
    · simpa [go, h1] using hgo
    · simpa [go, h2] using hgo
  | false =>
    refine ⟨c.stall, by simp [State.tryHalt, h], fun h1 => ?_, fun h2 => ?_⟩
    · simpa [go, h1] using hgo
    · simpa [go, h2] using hgo

/-! ### Vector operations (R212) -/

/-- VADD, VMUL, VMAX and VFMA with aligned arrays inside the windows and room for the operation. -/
theorem State.vecTrigger_start (s : State) {c : Core} {p n : Nat} (hp : p ≠ 20) (hn : n = (c.port 11 3).toNat)
    (h0 : 256 ≤ n) (h1 : n ≤ 65536) (h256 : n % 256 = 0)
    (hw : ∀ q < 3, (c.port 11 q).toNat % 1024 = 0 ∧ c.windowOk (c.port 11 q).toNat (4 * n) = true)
    (hl : c.vecOps.length < 4) :
    s.vecTrigger c p = .ok s { c with vecOps := c.vecOps ++ [{ op := p, srcA := (c.port 11 0).toNat
                                                               srcB := (c.port 11 1).toNat
                                                               dst := (c.port 11 2).toNat, count := n }] } := by
  subst hn
  obtain ⟨ha, hwa⟩ := hw 0 (by decide)
  obtain ⟨hb, hwb⟩ := hw 1 (by decide)
  obtain ⟨hd, hwd⟩ := hw 2 (by decide)
  have hz : (c.port 11 3).toNat ≠ 0 := by omega
  simp [State.vecTrigger, hp, hz, Nat.not_lt.2 h1, h256, ha, hb, hd, hwa, hwb, hwd, Nat.not_le.2 hl]

/-- A VEC operation that starts joins the operations outstanding. -/
theorem completes_vecStart {s : State} {core op n : Nat} {c : Core} {t : W32} {i : Instr} (hc : s.core? core = some c)
    (hcore : core < 64) (he : s.executes c = true) (hi : exec i s = s.onTrigger core 11 op t) (hop : op ≠ 20)
    (hn : n = (c.port 11 3).toNat) (h0 : 256 ≤ n) (h1 : n ≤ 65536) (h256 : n % 256 = 0)
    (hw : ∀ q < 3, (c.port 11 q).toNat % 1024 = 0 ∧ c.windowOk (c.port 11 q).toNat (4 * n) = true)
    (hl : c.vecOps.length < 4) :
    Completes (exec i s) fun u => (∃ c', u.core? core = some c' ∧ c'.stall = 0 ∧ c'.ports = c.ports ∧
      c'.vecOps = c.vecOps ++ [{ op := op, srcA := (c.port 11 0).toNat, srcB := (c.port 11 1).toNat
                                 dst := (c.port 11 2).toNat, count := n }]) ∧ u.dict = s.dict ∧ SameBytes s u := by
  have hs := State.executes_stall he
  rw [hi]
  exact completes_trigger hc (by simp [Core.hasUnit, Core.isControl_of_lt hc hcore]) he
    (s.vecTrigger_start hop hn h0 h1 h256 hw hl) rfl (by simp [hs]) ⟨hs, rfl, rfl⟩

/-- VWAIT stalls the core exactly while a VEC operation is outstanding. -/
theorem completes_vwait {s : State} {core : Nat} {c : Core} (t : W32) (hc : s.core? core = some c) (hcore : core < 64)
    (he : s.executes c = true) : Completes (exec (.vwait core t) s) fun u =>
      (∃ c', u.core? core = some c' ∧ c'.vecOps = c.vecOps ∧ (c'.stall ≠ 0 ↔ c.vecOps ≠ [])) ∧ SameBytes s u :=
  completes_waitTrigger Core.vecOps (u := 11) (p := 20) (k := 1) (t := t) hc
    (by simp [Core.hasUnit, Core.isControl_of_lt hc hcore]) he rfl (by decide) (by decide) (fun _ _ => rfl) fun _ => rfl

/-- The oldest VEC operation of a core ends: its destination is written, and a core that waited for it goes on (R212). -/
theorem completes_vecOperationDone {s : State} {core : Nat} {c : Core} {v : VecOp} {rest : List VecOp} (hs : s.sound)
    (hc : s.core? core = some c) (hf : s.faults.safe = false) (hv : c.vecOps = v :: rest)
    (hb : s.vecBad c.memBase v = none) (h5 : c.stall ≠ 5) :
    Completes (exec (.vecOperationDone core) s) fun u =>
      (∃ c', u.core? core = some c' ∧ c'.vecOps = rest ∧ (c.stall = 1 → (c'.stall = 0 ↔ rest = []))) ∧
      Wrote s u (c.memBase + v.dst) (s.vecResult c.memBase v) := by
  obtain ⟨k, hk, hgo, -⟩ := (s.storeRaw (c.memBase + v.dst) (s.vecResult c.memBase v)).afterDone_eq
    (c := { c with vecOps := rest }) h5
  show Completes (execVecOperationDone core s) _
  simp only [execVecOperationDone, hc, hv, hf, hb, hk, Bool.false_eq_true, if_false, completes_commit]
  refine ⟨core_setCore (c' := { c with vecOps := rest, stall := k }) hc rfl _ rfl ⟨rfl, hgo⟩, ?_⟩
  exact wrote_stored hs rfl

/-! ### Kernel DMA (R213 to R216) -/

theorem State.trigger_dma (s : State) (c : Core) (p : Nat) (t : W32) : s.trigger c 12 p t = s.dmaTrigger c p t := by
  simp [State.trigger]

/-- GET and PUT with an aligned local range that the core may access, and room for the transfer. -/
theorem State.dmaTrigger_start (s : State) {c : Core} {p len rem : Nat} {t : W32} (hp : p ≠ 18)
    (hlen : len = (c.port 12 0).toNat) (hrem : rem = (c.port 12 2).toNat * 2 ^ 32 + (c.port 12 1).toNat)
    (h0 : 4 ≤ len) (h1 : len ≤ 65536) (hl4 : len % 4 = 0) (ht4 : t.toNat % 4 = 0) (hr4 : rem % 4 = 0)
    (hok : c.dmaLocalOk t.toNat len = true) (hl : c.dmaOps.length < 16) :
    s.dmaTrigger c p t = .ok s { c with
      dmaOps := c.dmaOps ++ [{ put := p == 17, len := len, remote := rem, offset := t.toNat }] } := by
  unfold State.dmaTrigger
  rw [← hlen, ← hrem]
  dsimp only
  rw [if_neg hp, if_neg (by simp only [Bool.or_eq_true, decide_eq_true_eq, bne_iff_ne]; omega), if_neg (by simp [ht4]),
    if_neg (by simp [hr4]), if_neg (by simp [hok]), if_neg (Nat.not_le.2 hl)]

/-- A transfer that starts joins the transfers outstanding. -/
theorem completes_dmaStart {s : State} {core p len rem : Nat} {c : Core} {t : W32} {i : Instr}
    (hc : s.core? core = some c) (he : s.executes c = true) (hi : exec i s = s.onTrigger core 12 p t) (hp : p ≠ 18)
    (hlen : len = (c.port 12 0).toNat) (hrem : rem = (c.port 12 2).toNat * 2 ^ 32 + (c.port 12 1).toNat)
    (h0 : 4 ≤ len) (h1 : len ≤ 65536) (hl4 : len % 4 = 0) (ht4 : t.toNat % 4 = 0) (hr4 : rem % 4 = 0)
    (hok : c.dmaLocalOk t.toNat len = true) (hl : c.dmaOps.length < 16) :
    Completes (exec i s) fun u => (∃ c', u.core? core = some c' ∧ c'.stall = 0 ∧ c'.ports = c.ports ∧
      c'.dmaOps = c.dmaOps ++ [{ put := p == 17, len := len, remote := rem, offset := t.toNat }]) ∧
      u.dict = s.dict ∧ SameBytes s u := by
  have hs := State.executes_stall he
  rw [hi]
  exact completes_trigger hc rfl he
    ((s.trigger_dma c p t).trans (s.dmaTrigger_start hp hlen hrem h0 h1 hl4 ht4 hr4 hok hl)) rfl (by simp [hs])
    ⟨hs, rfl, rfl⟩

/-- A transfer that has moved its bytes leaves the outstanding ones, and a core that waited for the last goes on. -/
theorem completes_kernelDmaDone {s t : State} {core which : Nat} {c : Core} {d : DmaOp} (hc : s.core? core = some c)
    (hf : s.faults.safe = false) (hd : c.dmaOps[which]? = some d) (hm : s.dmaMove c d = .ok t)
    (hcores : t.cores = s.cores) (ha : t.aheadOfCopy = none) (h5 : c.stall ≠ 5) :
    Completes (exec (.kernelDmaDone core which) s) fun u =>
      (∃ c', u.core? core = some c' ∧ c'.dmaOps = c.dmaOps.eraseIdx which ∧
        (c.stall = 2 → (c'.stall = 0 ↔ c.dmaOps.eraseIdx which = []))) ∧ u.mem = (s.stored t).mem := by
  obtain ⟨k, hk, -, hgo⟩ := t.afterDone_eq (c := { c with dmaOps := c.dmaOps.eraseIdx which }) h5
  show Completes (execKernelDmaDone core which s) _
  simp only [execKernelDmaDone, hc, hd, hf, hm, hk, Bool.false_eq_true, if_false]
  rw [completes_land (by rw [← ha]; exact State.aheadOfCopy_congr rfl)]
  exact ⟨core_setCore (s := t) (c' := { c with dmaOps := c.dmaOps.eraseIdx which, stall := k })
    ((State.core?_congr hcores core).trans hc) rfl _ rfl ⟨rfl, hgo⟩, rfl⟩

/-- Settles O26: the start of an operation or a transfer, the wait for it, and its end. -/
theorem vectorAndTransferTriggersComplete : Obligations.VectorAndTransferTriggersComplete := by
  refine ⟨?vecStart, ?vwait, ?dmaStart, ?dmaWait, ?vecDone, ?getDone, ?putDone⟩
  case vecStart =>
    intro s core op n c t i hc hcore he hi hn h0 h1 h256 hw hl
    simp only [List.mem_cons, Prod.mk.injEq, List.not_mem_nil, or_false] at hi
    obtain ⟨rfl, rfl⟩ | ⟨rfl, rfl⟩ | ⟨rfl, rfl⟩ | ⟨rfl, rfl⟩ := hi <;>
      exact completes_vecStart hc hcore he rfl (by decide) hn h0 h1 h256 hw hl
  case vwait => exact fun s core c t hc hcore he => completes_vwait t hc hcore he
  case dmaStart =>
    intro s core len rem c t i put hc he hi hlen hrem h0 h1 hl4 ht4 hr4 hok hl
    simp only [List.mem_cons, Prod.mk.injEq, List.not_mem_nil, or_false] at hi
    obtain ⟨rfl, rfl⟩ | ⟨rfl, rfl⟩ := hi
    · exact completes_dmaStart (p := 16) hc he rfl (by decide) hlen hrem h0 h1 hl4 ht4 hr4 hok hl
    · exact completes_dmaStart (p := 17) hc he rfl (by decide) hlen hrem h0 h1 hl4 ht4 hr4 hok hl
  case dmaWait =>
    exact fun s core c t hc he => completes_waitTrigger Core.dmaOps (u := 12) (p := 18) (k := 2) (t := t) hc rfl he rfl
      (by decide) (by decide) (fun _ _ => rfl) fun _ => rfl
  case vecDone => exact fun s core c v rest hs hc hf hv hb h5 => completes_vecOperationDone hs hc hf hv hb h5
  case getDone =>
    intro s core which c d b hs hc hf hd hput hb ha h5
    have hm : s.dmaMove c d = .ok (s.storeRaw (c.memBase + d.offset) b) := by simp [State.dmaMove, hput, hb]
    obtain ⟨u, hu, hcore, hmem⟩ := completes_kernelDmaDone hc hf hd hm rfl ha h5
    exact ⟨u, hu, hcore, fun k => by rw [hmem]; exact wrote_stored hs rfl k⟩
  case putDone =>
    intro s t core which c d hc hf hd hput hb hw ha h5
    have hm : s.dmaMove c d = .ok t := by simp only [State.dmaMove, hput, hb, hw, if_true]
    obtain ⟨u, hu, hcore, hmem⟩ := completes_kernelDmaDone hc hf hd hm (State.writeAll_cores hw) ha h5
    exact ⟨u, hu, hcore, fun k => by rw [hmem]; exact sameBytes_stored_self s t k⟩

end Sys2Proof.Machine

namespace Sys2Proof.Machine

/-! ### Branches, traps and SYNC (R217, R222, R224, R225) -/

/-- What holds of the one state that a command answers holds together. -/
theorem Completes.and {o : Result} {p q : State → Prop} (hp : Completes o p) (hq : Completes o q) :
    Completes o fun u => p u ∧ q u := by
  obtain ⟨u, hu, hpu⟩ := hp
  obtain ⟨w, hw, hqw⟩ := hq
  cases hu.symm.trans hw
  exact ⟨u, hu, hpu, hqw⟩

/-- A core that executes runs, and no load holds it. -/
theorem State.executes_runs {s : State} {c : Core} (h : s.executes c = true) :
    c.running = true ∧ c.loadWait = false := by
  simp only [State.executes, Bool.and_eq_true, Bool.not_eq_true'] at h
  obtain ⟨⟨⟨⟨-, hrun⟩, -⟩, hload⟩, -⟩ := h
  exact ⟨hrun, hload⟩

/-- JMP, CALL and RET leave the word index and set the jump of two delay words (R217). -/
theorem completes_jump {s : State} {core p dest : Nat} {c : Core} {t : W32} (hc : s.core? core = some c)
    (he : s.executes c = true) (hj : (c.branch p t).jump = some (dest, 2)) (hid : (c.branch p t).id = c.id)
    (hpc : (c.branch p t).pc = c.pc) (hst : (c.branch p t).stall = c.stall) (hr : (c.branch p t).running = c.running) :
    Completes (s.onTrigger core 13 p t) fun u =>
      (∃ c', u.core? core = some c' ∧ c'.jump = some (dest, 2) ∧ c'.pc = c.pc ∧ c'.stall = 0 ∧ c'.running = true) ∧
      u.dict = s.dict ∧ SameBytes s u := by
  have hs := State.executes_stall he
  obtain ⟨hrun, -⟩ := State.executes_runs he
  exact completes_trigger hc rfl he (by simp [State.trigger]) hid (by simp [hst, hs])
    ⟨hj, hpc, hst.trans hs, hr.trans hrun⟩

/-- CALL puts LINK on its way (R217). -/
theorem completes_callLink {s : State} {core : Nat} {c : Core} {t : W32} (hc : s.core? core = some c)
    (he : s.executes c = true) : Completes (s.onTrigger core 13 17 t) fun u =>
      Launched u c 13 0 (BitVec.ofNat 32 (c.pc + 3)) 3 c.ports := by
  have hs := State.executes_stall he
  have ht : s.trigger c 13 17 t = .ok s (c.branch 17 t) := by simp [State.trigger]
  rw [onTrigger_ok hc rfl he ht (by show c.stall ≠ 5; simp [hs]), completes_commit]
  exact launched_setCore (tr := 17) (c' := (c.branch 17 t).busyUntil 13 17) hc rfl rfl rfl rfl
    ⟨rfl, rfl, rfl, rfl, rfl⟩ _ rfl

/-! ### HALT (R217, R238) -/

theorem State.endLaunch_keeps (s : State) (id : Nat) :
    (s.endLaunch id).cores = s.cores ∧ (s.endLaunch id).mem = s.mem := by
  unfold State.endLaunch
  dsimp only
  repeat' split
  all_goals exact ⟨rfl, rfl⟩

/-- A kernel that ends frees its core, and touches no other core and no byte. -/
theorem State.endInstance_keeps (s : State) (c : Core) (outcome : Option (Nat × Nat)) :
    (s.endInstance c outcome).cores = (s.setCore c.freed).cores ∧ (s.endInstance c outcome).mem = s.mem := by
  unfold State.endInstance
  split
  · exact ⟨rfl, rfl⟩
  · exact State.endLaunch_keeps _ _

/-- A tile core that is halted ends its kernel once nothing is outstanding, and waits for it otherwise (R217). -/
theorem State.tryHalt_tile (s : State) {c : Core} (h5 : c.stall = 5) (hl : c.loadWait = false)
    (hk : c.isControl = false) :
    s.tryHalt c = if c.vecOps = [] ∧ c.dmaOps = [] then s.endInstance c none else s.setCore c := by
  simp [State.tryHalt, h5, hl, hk, and_comm]

/-- HALT of a tile core. -/
theorem completes_halt {s : State} {core : Nat} {c : Core} {t : W32} (hc : s.core? core = some c) (hcore : core < 64)
    (he : s.executes c = true) : Completes (exec (.halt core t) s) fun u => (∃ c', u.core? core = some c' ∧
      (if c.vecOps = [] ∧ c.dmaOps = [] then c'.running = false ∧ c'.kernel = none
       else c'.running = true ∧ c'.stall = 5 ∧ c'.kernel = c.kernel)) ∧ SameBytes s u := by
  obtain ⟨hrun, hload⟩ := State.executes_runs he
  have hk := Core.isControl_of_lt hc hcore
  have hex : exec (.halt core t) s = s.commit (s.tryHalt ((c.branch 19 t).busyUntil 13 19)) := by
    show s.onTrigger core 13 19 t = _
    simp [State.onTrigger, hc, he, Core.hasUnit, State.trigger]
  have htry : s.tryHalt ((c.branch 19 t).busyUntil 13 19) =
      if c.vecOps = [] ∧ c.dmaOps = [] then s.endInstance ((c.branch 19 t).busyUntil 13 19) none
      else s.setCore ((c.branch 19 t).busyUntil 13 19) := s.tryHalt_tile rfl hload hk
  rw [hex, htry, completes_commit]
  split
  · obtain ⟨hcores, hmem⟩ := s.endInstance_keeps ((c.branch 19 t).busyUntil 13 19) none
    exact ⟨core_setCore (c' := ((c.branch 19 t).busyUntil 13 19).freed) hc rfl _ (State.core?_congr hcores core)
      ⟨rfl, rfl⟩, sameBytes_stored _ _ hmem⟩
  · exact ⟨core_setCore (c' := (c.branch 19 t).busyUntil 13 19) hc rfl _ rfl ⟨hrun, rfl, rfl⟩, sameBytes_stored _ _ rfl⟩

/-! ### Privilege (R222, R224) -/

/-- A control core that a trap has taken to monitor level at VECTOR (R224). -/
def Core.trapped (c : Core) (cause value : Nat) : Core :=
  { c with
    monitor := true, cause := cause, trapWord := BitVec.ofNat 32 c.pc, trapValue := BitVec.ofNat 32 value
    pc := c.vector.toNat / 16 * 16, jump := none, returning := false, words := c.words + 1 }

/-- A trigger that traps on a control core enters monitor level; each cause but SVC is counted (R224). -/
theorem completes_trapped {s : State} {core u p cause value : Nat} {t : W32} {c : Core} {P : Core → Prop}
    (hc : s.core? core = some c) (hk : c.isControl = true) (hu : c.hasUnit u = true) (he : s.executes c = true)
    (ht : s.trigger c u p t = .trap cause value) (hP : P (c.trapped cause value)) :
    Completes (s.onTrigger core u p t) fun w => (∃ d, w.core? core = some d ∧ P d) ∧
      w.dict = (if cause = 8 then s else s.bump 0x2403 0 1).dict ∧ SameBytes s w := by
  have hcores : (if cause = 8 then s else s.bump 0x2403 0 1).cores = s.cores := by split <;> simp
  have hmem : (if cause = 8 then s else s.bump 0x2403 0 1).mem = s.mem := by split <;> simp
  have hfound := (State.core?_congr hcores core).trans hc
  have hex : s.onTrigger core u p t =
      s.commit ((if cause = 8 then s else s.bump 0x2403 0 1).setCore (c.trapped cause value)) := by
    simp only [State.onTrigger, hc, hu, he, ht, State.trapCore, hk, Bool.not_true, Bool.false_eq_true, if_false, if_true]
    rfl
  rw [hex, completes_commit]
  exact ⟨core_setCore (c' := c.trapped cause value) hfound rfl _ rfl hP, rfl, sameBytes_stored _ _ hmem⟩

/-- The control cores have PRIV and SYNC. -/
theorem Core.hasUnit_of_control {c : Core} {u : Nat} (hk : c.isControl = true) (h0 : 16 ≤ u) (h1 : u ≤ 18) :
    c.hasUnit u = true := by
  simp [Core.hasUnit, hk, h0, h1]

/-! ### SYNC (R225) -/

/-- A read of a sync object that exists puts its half or its error flag on its way. -/
theorem State.trigger_syncRead {s : State} {c : Core} {p : Nat} {o : SyncObj} (t : W32) (hp : p ≠ 16)
    (hk : handleKind (c.port 18 0).toNat = 1)
    (ho : s.sync? (handleCabinet (c.port 18 0).toNat) (handleIndex (c.port 18 0).toNat) = some o) :
    s.trigger c 18 p t = .ok s (c.launchRes 18 p 3 (BitVec.ofNat 32
      (if p = 17 then o.value.toNat else if p = 18 then o.value.toNat / 2 ^ 32 else b2n o.err))) := by
  show s.syncTrigger c p t = _
  simp only [State.syncTrigger, if_neg hp, if_pos hk, ho]

/-- A read of a sync object launches its value (R225). -/
theorem completes_syncRead {s : State} {core p : Nat} {c : Core} {t v : W32} {o : SyncObj} {i : Instr}
    (hc : s.core? core = some c) (hcore : 64 ≤ core) (he : s.executes c = true)
    (hk : handleKind (c.port 18 0).toNat = 1)
    (ho : s.sync? (handleCabinet (c.port 18 0).toNat) (handleIndex (c.port 18 0).toNat) = some o)
    (hi : exec i s = s.onTrigger core 18 p t) (hp : p ≠ 16)
    (hv : BitVec.ofNat 32 (if p = 17 then o.value.toNat else if p = 18 then o.value.toNat / 2 ^ 32 else b2n o.err) = v) :
    Completes (exec i s) fun u => Launched u c 18 3 v 2 c.ports ∧ u.dict = s.dict ∧ SameBytes s u := by
  subst hv
  rw [hi]
  exact launched_of_trigger hc (Core.hasUnit_of_control (Core.isControl_of_le hc hcore) (by decide) (by decide)) he
    (State.trigger_syncRead t hp hk ho) rfl

/-- Settles O27, a lemma for each unit: BR, HALT, PRIV, SYNC, and a load's return. -/
theorem controlFlowTriggersComplete : Obligations.ControlFlowTriggersComplete := by
  refine ⟨?branch, ?halt, ?rftMonitor, ?svc, ?rftComponent, ?signal, ?read, ?loadReturn⟩
  case branch =>
    intro s core c t i dest hc he hi
    simp only [List.mem_cons, Prod.mk.injEq, List.not_mem_nil, or_false] at hi
    obtain ⟨rfl, rfl⟩ | ⟨rfl, rfl⟩ | ⟨rfl, rfl⟩ := hi
    · obtain ⟨u, hu, hcore, hrest⟩ := completes_jump (p := 16) (t := t) hc he rfl rfl rfl rfl rfl
      exact ⟨u, hu, hcore, nofun, hrest⟩
    · obtain ⟨u, hu, ⟨hcore, hrest⟩, hlink⟩ :=
        (completes_jump (p := 17) (t := t) hc he rfl rfl rfl rfl rfl).and (completes_callLink hc he)
      exact ⟨u, hu, hcore, fun _ => hlink, hrest⟩
    · obtain ⟨u, hu, hcore, hrest⟩ := completes_jump (p := 18) (t := t) hc he rfl rfl rfl rfl rfl
      exact ⟨u, hu, hcore, nofun, hrest⟩
  case halt => exact fun s core c t hc hcore he => completes_halt hc hcore he
  case rftMonitor =>
    intro s core c t hc hcore he hm
    have hs := State.executes_stall he
    have hu := Core.hasUnit_of_control (u := 17) (Core.isControl_of_le hc hcore) (by decide) (by decide)
    have ht : s.trigger c 17 16 t = .ok s { c with jump := some (c.trapWord.toNat + 1, 2), returning := true } := by
      simp [State.trigger, Core.priv, hm]
    exact completes_trigger hc hu he ht rfl (by simp [hs]) ⟨rfl, rfl, rfl⟩
  case svc =>
    intro s core c t hc hcore he hm
    have hk := Core.isControl_of_le hc hcore
    have ht : s.trigger c 17 17 t = .trap 8 t.toNat := by simp [State.trigger, Core.priv, hm]
    have hval : BitVec.ofNat 32 t.toNat = t := by simp
    have hvec : c.vector.toNat / 16 * 16 = c.vector.toNat - c.vector.toNat % 16 := by omega
    exact completes_trapped hc hk (Core.hasUnit_of_control hk (by decide) (by decide)) he ht
      ⟨rfl, rfl, rfl, hval, hvec, rfl, rfl, rfl⟩
  case rftComponent =>
    intro s core c t hc hcore he hm
    have hk := Core.isControl_of_le hc hcore
    have ht : s.trigger c 17 16 t = .trap 7 t.toNat := by simp [State.trigger, Core.priv, hm]
    obtain ⟨u, hu, hcu, hd, hb⟩ := completes_trapped
      (P := fun d => d.monitor = true ∧ d.cause = 0x07 ∧ d.trapWord = BitVec.ofNat 32 c.pc) hc hk
      (Core.hasUnit_of_control hk (by decide) (by decide)) he ht ⟨rfl, rfl, rfl⟩
    exact ⟨u, hu, hcu, (State.ent_congr hd 0 0x2403 0).trans (State.ent_bumpEnt s 0 0x2403 0 1 (by decide)), hb⟩
  case signal =>
    intro s core c t hc hcore he
    have hs := State.executes_stall he
    have hu := Core.hasUnit_of_control (u := 18) (Core.isControl_of_le hc hcore) (by decide) (by decide)
    show Completes (s.onTrigger core 18 16 t) _
    rw [onTrigger_ok hc hu he rfl (by simp [hs]), completes_commit]
    rfl
  case read =>
    rintro s core h c t v o i hc hcore he rfl hk ho hi
    simp only [List.mem_cons, Prod.mk.injEq, List.not_mem_nil, or_false] at hi
    obtain ⟨rfl, rfl⟩ | ⟨rfl, rfl⟩ | ⟨rfl, rfl⟩ := hi
    · exact completes_syncRead (p := 17) hc hcore he hk ho rfl (by decide) rfl
    · refine completes_syncRead (p := 18) hc hcore he hk ho rfl (by decide) ?_
      rw [BitVec.extractLsb', Nat.shiftRight_eq_div_pow]
      rfl
    · refine completes_syncRead (p := 19) hc hcore he hk ho rfl (by decide) ?_
      cases o.err <;> rfl
  case loadReturn =>
    intro s core c hc hcore hf hl hs
    have hk := Core.isControl_of_le hc hcore
    have hex : exec (.deviceWindowLoadReturn core) s = s.quiet (s.setCore { c with loadWait := false }) := by
      show execDeviceWindowLoadReturn core s = _
      simp [execDeviceWindowLoadReturn, hc, hk, hf, hl, State.tryHalt, hs]
    rw [hex, completes_quiet]
    exact ⟨core_setCore (c' := { c with loadWait := false }) hc rfl _ rfl rfl, rfl, sameBytes_of_mem _ _ rfl⟩

end Sys2Proof.Machine

/-! PROOFS of the sequences: writes leave the resident descriptors and do not depend on them, the form of a Sequence command,
and the lease commands, loads, appends and lease breaks. -/

namespace Sys2Proof.Machine

/-! ### Writes leave the resident descriptors -/

theorem State.storePieces_resident (ps : List (Nat × Nat)) (s : State) (bs : Bytes) :
    (s.storePieces ps bs).tiers.resident = s.tiers.resident := by
  induction ps generalizing s bs with
  | nil => rfl
  | cons p ps ih => exact ih _ _

theorem State.logWrite_resident (s : State) (cab a n : Nat) : (s.logWrite cab a n).tiers.resident = s.tiers.resident := by
  unfold State.logWrite
  split
  · rfl
  · refine foldl_keeps (fun s : State => s.tiers.resident) _ _ _ fun s g => ?_
    dsimp only
    split
    · split <;> rfl
    · rfl

theorem State.putCab_resident (s : State) (cab a : Nat) (bs : Bytes) :
    (s.putCab cab a bs).tiers.resident = s.tiers.resident := by
  unfold State.putCab
  split
  · rfl
  · rw [State.logWrite_resident, State.storePieces_resident]

theorem State.writeAll_resident {cab : Nat} {l : List (Nat × Bytes)} {s t : State} (h : s.writeAll cab l = .ok t) :
    t.tiers.resident = s.tiers.resident := by
  induction l generalizing s with
  | nil => cases h; rfl
  | cons p l ih =>
    obtain ⟨a, bs⟩ := p
    unfold State.writeAll at h
    split at h
    · exact ih h
    · split at h
      · cases h
      · rw [ih h, State.putCab_resident]

/-! ### A write does not depend on the resident descriptors, nor on the counters of the Sequence engine -/

/-- A state with another dictionary and other resident descriptors. -/
def State.withSeqs (s : State) (d : List (Nat × Nat)) (rs : List SeqDesc) : State :=
  { s with dict := d, tiers := { s.tiers with resident := rs } }

@[simp] theorem State.withSeqs_mem (s : State) (d : List (Nat × Nat)) (rs : List SeqDesc) :
    (s.withSeqs d rs).mem = s.mem := rfl
@[simp] theorem State.withSeqs_dict (s : State) (d : List (Nat × Nat)) (rs : List SeqDesc) :
    (s.withSeqs d rs).dict = d := rfl
@[simp] theorem State.withSeqs_contract (s : State) (d : List (Nat × Nat)) (rs : List SeqDesc) :
    (s.withSeqs d rs).contract = s.contract := rfl
@[simp] theorem State.withSeqs_snap (s : State) (d : List (Nat × Nat)) (rs : List SeqDesc) :
    (s.withSeqs d rs).snap = s.snap := rfl
@[simp] theorem State.withSeqs_resident (s : State) (d : List (Nat × Nat)) (rs : List SeqDesc) :
    (s.withSeqs d rs).tiers.resident = rs := rfl

/-- Two dictionaries whose entries are the same but for the counters of the Sequence engine (0x2503). -/
def SameButSeqCounts (d d' : List (Nat × Nat)) : Prop :=
  ∀ c i j, i < 65536 → j < 256 → i ≠ 0x2503 → entIn d' c i j = entIn d c i j

section
variable {d : List (Nat × Nat)} {rs : List SeqDesc}

theorem State.ent_withSeqs {s : State} (h : SameButSeqCounts s.dict d) (c i j : Nat) (hi : i < 65536) (hj : j < 256)
    (hne : i ≠ 0x2503) : (s.withSeqs d rs).ent c i j = s.ent c i j :=
  h c i j hi hj hne

theorem State.gddrBytes_withSeqs {s : State} (h : SameButSeqCounts s.dict d) :
    (s.withSeqs d rs).gddrBytes = s.gddrBytes :=
  State.ent_withSeqs h 0 0x2500 0 (by decide) (by decide) (by decide)

theorem State.inGddr_withSeqs {s : State} (h : SameButSeqCounts s.dict d) (a : Nat) :
    (s.withSeqs d rs).inGddr a = s.inGddr a := by
  rw [State.inGddr, State.gddrBytes_withSeqs h, State.inGddr]

theorem State.tableEntry_withSeqs {s : State} (h : SameButSeqCounts s.dict d) (table algn i : Nat) :
    (s.withSeqs d rs).tableEntry table algn i = s.tableEntry table algn i := by
  simp only [State.tableEntry, State.inGddr_withSeqs h]
  rfl

theorem State.leaf_withSeqs {s : State} (h : SameButSeqCounts s.dict d) (cab a : Nat) :
    (s.withSeqs d rs).leaf cab a = s.leaf cab a := by
  simp only [State.leaf, State.tableEntry_withSeqs h,
    State.ent_withSeqs h cab 0x4003 3 (by decide) (by decide) (by decide)]

theorem State.pageAllowed_withSeqs {s : State} (h : SameButSeqCounts s.dict d) (a size : Nat) :
    (s.withSeqs d rs).pageAllowed a size = s.pageAllowed a size := by
  have he := State.ent_withSeqs (rs := rs) h 0 0x2504 4 (by decide) (by decide) (by decide)
  simp only [State.pageAllowed, State.gddrBytes_withSeqs h, State.e, he]
  rfl

theorem State.translate_withSeqs {s : State} (h : SameButSeqCounts s.dict d) (cab a : Nat) (need : Need) :
    (s.withSeqs d rs).translate cab a need = s.translate cab a need := by
  simp only [State.translate, State.leaf_withSeqs h, State.pageAllowed_withSeqs h]

theorem State.translateRun_withSeqs {s : State} (h : SameButSeqCounts s.dict d) (cab : Nat) (need : Need)
    (ps : List (Nat × Nat)) : (s.withSeqs d rs).translateRun cab need ps = s.translateRun cab need ps := by
  induction ps with
  | nil => rfl
  | cons p ps ih => simp only [State.translateRun, State.translate_withSeqs h, ih]

theorem State.hostErr_withSeqs {s : State} (h : SameButSeqCounts s.dict d) (cab a dev : Nat) :
    (s.withSeqs d rs).hostErr cab a dev = s.hostErr cab a dev := by
  have hl : (s.withSeqs d rs).leaseFenced cab = s.leaseFenced cab := by
    simp only [State.leaseFenced, State.ent_withSeqs h cab 0x4004 2 (by decide) (by decide) (by decide)]
  simp only [State.hostErr, hl]
  rfl

theorem State.populated_withSeqs {s : State} (h : SameButSeqCounts s.dict d) (a : Nat) :
    (s.withSeqs d rs).populated a = s.populated a := by
  simp only [State.populated, State.inGddr_withSeqs h]
  rfl

theorem State.linkErr_withSeqs {s : State} (h : SameButSeqCounts s.dict d) (a dev n : Nat) (need : Need) :
    (s.withSeqs d rs).linkErr a dev n need = s.linkErr a dev n need := by
  have he := State.ent_withSeqs (rs := rs) h 0 0x2A05 1 (by decide) (by decide) (by decide)
  simp only [State.linkErr, State.populated_withSeqs h, State.e, he]
  rfl

theorem State.linkErrs_withSeqs {s : State} (h : SameButSeqCounts s.dict d) (need : Need) (a : Nat)
    (ps : List (Nat × Nat)) : (s.withSeqs d rs).linkErrs need a ps = s.linkErrs need a ps := by
  induction ps generalizing a with
  | nil => rfl
  | cons p ps ih => simp only [State.linkErrs, State.linkErr_withSeqs h, ih]

theorem State.reach_withSeqs {s : State} (h : SameButSeqCounts s.dict d) (cab a n : Nat) (need : Need) :
    (s.withSeqs d rs).reach cab a n need = s.reach cab a n need := by
  simp only [State.reach, State.translateRun_withSeqs h, State.hostErrs, State.hostErr_withSeqs h,
    State.linkErrs_withSeqs h]

theorem State.storeRaw_withSeqs {s : State} (h : SameButSeqCounts s.dict d) (a : Nat) (bs : Bytes) :
    (s.withSeqs d rs).storeRaw a bs = (s.storeRaw a bs).withSeqs d rs := by
  simp only [State.storeRaw, State.inGddr_withSeqs h]
  rfl

theorem State.markDirty_withSeqs {s : State} (h : SameButSeqCounts s.dict d) (a n : Nat) :
    (s.withSeqs d rs).markDirty a n = (s.markDirty a n).withSeqs d rs := by
  have ht : ∀ x, (s.withSeqs d rs).touchedGranules x a n = s.touchedGranules x a n := fun x => by
    simp only [State.touchedGranules, State.translate_withSeqs h]
  simp only [State.markDirty, ht]
  rfl

theorem State.store_withSeqs {s : State} (h : SameButSeqCounts s.dict d) (a : Nat) (bs : Bytes) :
    (s.withSeqs d rs).store a bs = (s.store a bs).withSeqs d rs := by
  rw [State.store, State.storeRaw_withSeqs h, State.markDirty_withSeqs (by exact h), State.store]

theorem State.storePieces_withSeqs {s : State} (h : SameButSeqCounts s.dict d) (ps : List (Nat × Nat)) (bs : Bytes) :
    (s.withSeqs d rs).storePieces ps bs = (s.storePieces ps bs).withSeqs d rs := by
  induction ps generalizing s bs with
  | nil => rfl
  | cons p ps ih =>
    rw [State.storePieces, State.store_withSeqs h, ih (by rw [State.store_dict]; exact h), State.storePieces]

/-- A fold over states of one dictionary, each step of which does not depend on the resident descriptors. -/
theorem foldl_withSeqs {β : Type} {f : State → β → State} (hd : ∀ s b, (f s b).dict = s.dict)
    (hf : ∀ s b, SameButSeqCounts s.dict d → f (s.withSeqs d rs) b = (f s b).withSeqs d rs) (l : List β) {s : State}
    (h : SameButSeqCounts s.dict d) : l.foldl f (s.withSeqs d rs) = (l.foldl f s).withSeqs d rs := by
  induction l generalizing s with
  | nil => rfl
  | cons b l ih => rw [List.foldl_cons, hf s b h, ih (by rw [hd]; exact h), List.foldl_cons]

theorem State.logBitmap_withSeqs {s : State} (h : SameButSeqCounts s.dict d) (cab : Nat) :
    (s.withSeqs d rs).logBitmap cab = s.logBitmap cab := by
  have he : ∀ j < 256, (s.withSeqs d rs).ent cab 0x4008 j = s.ent cab 0x4008 j := fun j hj =>
    State.ent_withSeqs h cab 0x4008 j (by decide) hj (by decide)
  simp only [State.logBitmap, he 6 (by decide), he 3 (by decide), he 4 (by decide)]

theorem State.logWrite_withSeqs {s : State} (h : SameButSeqCounts s.dict d) (cab a n : Nat) :
    (s.withSeqs d rs).logWrite cab a n = (s.logWrite cab a n).withSeqs d rs := by
  have he : ∀ j < 256, (s.withSeqs d rs).ent cab 0x4008 j = s.ent cab 0x4008 j := fun j hj =>
    State.ent_withSeqs h cab 0x4008 j (by decide) hj (by decide)
  simp only [State.logWrite, he 0 (by decide), he 1 (by decide), he 2 (by decide)]
  split
  · rfl
  · refine foldl_withSeqs (fun s g => ?_) (fun s g h => ?_) _ h
    · split
      · split <;> rfl
      · rfl
    · rw [State.logBitmap_withSeqs h, State.translate_withSeqs h]
      split
      · split
        · rfl
        · exact State.storeRaw_withSeqs h _ _
      · rfl

/-- A write of cabinet memory goes through translation, the write tracking and the dirty log, none of which reads a resident
descriptor or a counter of the Sequence engine. -/
theorem State.putCab_withSeqs {s : State} (h : SameButSeqCounts s.dict d) (cab a : Nat) (bs : Bytes) :
    (s.withSeqs d rs).putCab cab a bs = (s.putCab cab a bs).withSeqs d rs := by
  simp only [State.putCab, State.reach_withSeqs h]
  split
  · rfl
  · rw [State.storePieces_withSeqs h, State.logWrite_withSeqs (by rw [State.storePieces_dict]; exact h)]

end
end Sys2Proof.Machine

namespace Sys2Proof.Machine

/-! ### The resident copy of a descriptor (R262) -/

theorem State.resident?_congr {s t : State} (h : t.tiers.resident = s.tiers.resident) (cab a : Nat) :
    t.resident? cab a = s.resident? cab a := by
  unfold State.resident?
  rw [h]

/-- The resident copy that is found is of the cabinet and the address that it is sought by. -/
theorem State.resident?_key {s : State} {cab a : Nat} {r : SeqDesc} (h : s.resident? cab a = some r) :
    r.cabinet = cab ∧ r.addr = a := by
  simpa using List.find?_some h

theorem State.resident?_updResident (s : State) (cab a : Nat) {f : SeqDesc → SeqDesc}
    (hf : ∀ r, (f r).cabinet = r.cabinet ∧ (f r).addr = r.addr) :
    (s.updResident cab a f).resident? cab a = (s.resident? cab a).map f :=
  find?_updWhere _ _ _ fun r hr => by
    obtain ⟨hc, ha⟩ := hf r
    rw [hc, ha]
    exact hr

theorem State.seqAt_of_resident {s : State} {cab a : Nat} {r : SeqDesc} (h : s.resident? cab a = some r) :
    s.seqAt cab a = .ok (parseSeq r.bytes) := by
  simp only [State.seqAt, h]

theorem State.seqAt_of_memory {s : State} {cab a : Nat} {b : Bytes} (h : s.resident? cab a = none)
    (hb : s.readCab cab a 64 = .ok b) : s.seqAt cab a = .ok (parseSeq b) := by
  simp only [State.seqAt, h, hb]

/-- The resident descriptor after its bytes are changed. -/
theorem State.resident?_setBytes {s : State} {cab a : Nat} {r : SeqDesc} (h : s.resident? cab a = some r) (b : Bytes) :
    (s.updResident cab a fun r => { r with bytes := b }).resident? cab a = some { r with bytes := b } := by
  rw [State.resident?_updResident, h]
  · rfl
  · exact fun _ => ⟨rfl, rfl⟩

/-- A resident descriptor has no lease to break when it is found. -/
theorem State.settleSeq_of_resident {s : State} {cab a : Nat} {r : SeqDesc} (h : s.resident? cab a = some r) :
    s.settleSeq cab a = s := by
  simp [State.settleSeq, h]

/-- Nor does one in memory that is not LOCKED. -/
theorem State.settleSeq_of_not_locked {s : State} {cab a : Nat} {b : Bytes} (hb : s.readCab cab a 64 = .ok b)
    (hl : (parseSeq b).state ≠ 2) : s.settleSeq cab a = s := by
  simp [State.settleSeq, hb, hl]

/-! ### Renewing a lease (R262, R268) -/

theorem State.renewSeq_of_not_resident {s : State} {c : Ctx} {a : Nat} (h : s.resident? c.cabinet a = none) (d : Seq) :
    s.renewSeq c a d = .error (seqState 0x12) := by
  simp only [State.renewSeq, h]

theorem State.renewSeq_of_not_owner {s : State} {c : Ctx} {d : Seq} (h : s.owns c d = false) (a : Nat) :
    s.renewSeq c a d = .error (seqState 0x12) := by
  unfold State.renewSeq
  split
  · rfl
  · rw [h]
    rfl

theorem State.touchSeq_of_error {s : State} {c : Ctx} {a : Nat} {d : Seq} {e : Err} (h : s.renewSeq c a d = .error e) :
    s.touchSeq c a d = s := by
  simp only [State.touchSeq, h]

/-- A lease renewed leaves its descriptor resident with the acquirers that wait for it, and touches no command. -/
theorem State.renewSeq_eq_ok {s t : State} {c : Ctx} {a : Nat} {d0 d : Seq} {r : SeqDesc}
    (hr : s.resident? c.cabinet a = some r) (h : s.renewSeq c a d0 = .ok (t, d)) :
    t.contract = s.contract ∧ ∃ r', t.resident? c.cabinet a = some r' ∧ r'.waiters = r.waiters := by
  simp only [State.renewSeq, hr] at h
  split at h
  · cases h
  · split at h
    · cases h
    · next w hw =>
      cases h
      exact ⟨(State.writeAll_sameRest _ _ _ _ hw).contract, _,
        State.resident?_setBytes ((State.resident?_congr (State.writeAll_resident hw) _ _).trans hr) _, rfl⟩

/-! ### The end of a Sequence command -/

/-- A command that succeeds ends with its DETAIL over the state that it made. -/
theorem completes_land_finishOk {s t : State} {who : Option Nat} {id detail : Nat} {c : Ctx} (hc : t.ctx? id = some c)
    (hf : c.finished = false) (ha : t.aheadOfCopy = none) :
    Completes (s.land who (t.finishOk id detail)) fun u =>
      Ended u id 0 detail ∧ SameBytes t u ∧ u.tiers = t.tiers ∧ u.dict = t.dict := by
  rw [completes_land (by rw [← ha]; exact State.aheadOfCopy_congr rfl)]
  exact ⟨ended_finish hc hf _ _ _, sameBytes_stored_self _ _, rfl, rfl⟩

/-- STATE_CONFLICT leaves the destinations of a command as they are (R102). -/
theorem State.spoil_stateConflict (s : State) (id : Nat) : s.spoil id stStateConflict = s := by
  unfold State.spoil
  split
  · rfl
  · have hlease : stStateConflict ≠ stHostLeaseLost := by decide
    have hpeer : stStateConflict ≠ stPeerTimeout := by decide
    have hkept : destsUndefined stStateConflict = 0 := by decide
    simp [State.scramble, hlease, hpeer, hkept]

theorem State.finishErr_seqState_snap (s : State) (id code : Nat) : (s.finishErr id (seqState code)).snap = s.snap := by
  have hst : (seqState code).status = stStateConflict := rfl
  have hrep : s.reportErr id (seqState code) = s := rfl
  simp only [State.finishErr, hst, hrep, State.spoil_stateConflict]
  rfl

section
variable {s : State} {id op a : Nat} {named : List (Nat × Nat)} {c : Ctx} {q : Queue}
  {f : Ctx → Nat → Seq → State → Except Err (State × Nat)}

/-- The reserved bytes and the alignment of DESC pass their checks. -/
theorem argsErr_aligned {r : Bytes} (hv : reservedErr r named = none) (ha : a % 64 = 0) (checks : List (Bool × Err)) :
    argsErr r named ((a % 64 != 0, errAlign 0) :: checks) = firstErr checks := by
  simp only [argsErr, hv, firstErr, ha, bne_self_eq_false, Bool.false_eq_true, if_false]

/-- A command on a descriptor in memory that is not LOCKED. -/
theorem completes_seqCmd {t : State} {detail : Nat} {b : Bytes} (h : Running s id op c q)
    (hv : reservedErr c.record named = none) (ha : arg c.record 0 8 % 64 = 0)
    (hr : s.resident? c.cabinet (arg c.record 0 8) = none) (hb : s.readCab c.cabinet (arg c.record 0 8) 64 = .ok b)
    (hl : (parseSeq b).state ≠ 2) (hf : f c (arg c.record 0 8) (parseSeq b) s = .ok (t, detail))
    (ht : t.contract = s.contract) (hw : t.aheadOfCopy = none) :
    Completes (s.seqCmd id op named f) fun u =>
      Ended u id 0 detail ∧ SameBytes t u ∧ u.tiers = t.tiers ∧ u.dict = t.dict := by
  rw [State.seqCmd, onCtx_of_running h]
  simp only [argsErr_aligned hv ha, firstErr, State.settleSeq_of_not_locked hb hl, State.seqAt_of_memory hr hb,
    State.touchSeq_of_error (State.renewSeq_of_not_resident hr _), hf]
  exact completes_land_finishOk ((State.ctx?_congr (congrArg Contract.ctxs ht) id).trans h.ctx) h.unfinished hw

/-- A command of the owner on a resident descriptor: its lease is renewed, then the command has its effect. -/
theorem completes_ownerCmd {s2 t : State} {detail : Nat} {r : SeqDesc} {d : Seq} (h : Running s id op c q)
    (hv : reservedErr c.record named = none) (ha : arg c.record 0 8 % 64 = 0)
    (hr : s.resident? c.cabinet (arg c.record 0 8) = some r)
    (hn : s.renewSeq c (arg c.record 0 8) (parseSeq r.bytes) = .ok (s2, d))
    (hf : f c (arg c.record 0 8) d s2 = .ok (t, detail)) (ht : t.contract = s2.contract) (hw : t.aheadOfCopy = none) :
    Completes (s.ownerCmd id op named f) fun u =>
      Ended u id 0 detail ∧ SameBytes t u ∧ u.tiers = t.tiers ∧ u.dict = t.dict := by
  obtain ⟨hs2, -⟩ := State.renewSeq_eq_ok hr hn
  rw [State.ownerCmd, onCtx_of_running h]
  simp only [argsErr_aligned hv ha, firstErr, State.settleSeq_of_resident hr, State.seqAt_of_resident hr, hn, hf]
  exact completes_land_finishOk ((State.ctx?_congr (by rw [ht, hs2]) id).trans h.ctx) h.unfinished hw

/-- A command of another queue than the owner's ends with code 0x12 (R266). -/
theorem completes_ownerCmd_refused {r : SeqDesc} (h : Running s id op c q) (hv : reservedErr c.record named = none)
    (ha : arg c.record 0 8 % 64 = 0) (hr : s.resident? c.cabinet (arg c.record 0 8) = some r)
    (ho : s.owns c (parseSeq r.bytes) = false) :
    Completes (s.ownerCmd id op named f) fun u => Ended u id stStateConflict 0x0512 := by
  rw [State.ownerCmd, onCtx_of_running h]
  simp only [argsErr_aligned hv ha, firstErr, State.settleSeq_of_resident hr, State.seqAt_of_resident hr,
    State.renewSeq_of_not_owner ho, completes_commit]
  exact ended_finishErr h.ctx h.unfinished _

end

/-! ### SEQ_INIT (R261, R264) -/

/-- The descriptor that SEQ_INIT leaves: UNLOCKED, nothing committed, no lease. -/
def Seq.cleared (d : Seq) : Seq :=
  { d with state := 1, committed := 0, note := 0, leaseQueue := 0, leaseEpoch := 0, leaseExpiry := 0, commits := 0 }

/-- SEQ_INIT of an UNINIT descriptor clears it. -/
theorem completes_seqInit {s t : State} {id : Nat} {c : Ctx} {q : Queue} {b : Bytes} (h : Running s id 0x4001 c q)
    (hv : reservedErr c.record [(0, 8)] = none) (ha : arg c.record 0 8 % 64 = 0)
    (hr : s.resident? c.cabinet (arg c.record 0 8) = none) (hb : s.readCab c.cabinet (arg c.record 0 8) 64 = .ok b)
    (h0 : (parseSeq b).state = 0) (he : s.seqErr c.cabinet (parseSeq b) = .ok ())
    (hw : s.writeAll c.cabinet [(arg c.record 0 8, (parseSeq b).cleared.bytes)] = .ok t)
    (hc : t.aheadOfCopy = none) :
    Completes (exec (.seqInit id) s) fun u => Ended u id 0 0 ∧ SameBytes t u := by
  have hk : check [((parseSeq b).state != 0, seqState 0x10)] = .ok () := by rw [h0]; rfl
  show Completes (execSeqInit id s) _
  rw [execSeqInit]
  refine (completes_seqCmd h hv ha hr hb (by rw [h0]; decide) ?_ (State.writeAll_sameRest _ _ _ _ hw).contract hc).imp
    fun u ⟨hend, hbytes, _⟩ => ⟨hend, hbytes⟩
  have hput : s.putSeq c.cabinet (arg c.record 0 8) (parseSeq b).cleared = .ok t := hw
  simp only [he, hk, bind, Except.bind]
  simp only [Seq.cleared] at hput
  rw [hput]
  rfl

/-! ### SEQ_ACQUIRE (R264, R267) -/

theorem Running.epochOf {s : State} {id op : Nat} {c : Ctx} {q : Queue} (h : Running s id op c q) :
    s.epochOf c = q.epoch := by
  obtain ⟨-, -, -, -, -, hq⟩ := h
  simp only [State.epochOf, hq]

/-- A descriptor LOCKED for a command's queue, for a time from now. -/
def State.locked (s : State) (c : Ctx) (d : Seq) (ms : Nat) : Seq :=
  { d with state := 2, note := clearBit d.note 0, leaseQueue := ownerHandle c, leaseEpoch := s.epochOf c
           leaseExpiry := s.leaseEnd ms }

/-- A lease given: the acquire's DETAIL, the descriptor made resident, and no command touched. -/
theorem State.lockSeq_eq_ok {s t : State} {c : Ctx} {a ms detail : Nat} {d : Seq}
    (h : s.lockSeq c a d ms = .ok (t, detail)) :
    detail = b2n (bit d.note 0) * 2 ^ 32 + d.committed ∧ t.contract = s.contract ∧
    ∃ r ∈ t.tiers.resident, r.cabinet = c.cabinet ∧ r.addr = a ∧ r.leaseMs = ms ∧
      r.bytes = (s.locked c d ms).bytes := by
  obtain ⟨_, -, h⟩ := Except.bind_eq_ok h
  obtain ⟨w, hw, h⟩ := Except.bind_eq_ok h
  cases h
  exact ⟨rfl, (State.writeAll_sameRest _ _ _ _ hw).contract, _, List.mem_append_right _ (List.mem_singleton_self _),
    rfl, rfl, rfl, rfl⟩

section
variable {s : State} {id : Nat} {c : Ctx} {q : Queue} (h : Running s id 0x4002 c q)
  (hv : reservedErr c.record [(0, 13)] = none) (ha : arg c.record 0 8 % 64 = 0) (hms : arg c.record 8 4 ≤ 3600000)
  (hwait : arg c.record 12 1 ≤ 1)
include hv ha hms hwait

/-- The arguments of a SEQ_ACQUIRE pass their checks. -/
theorem acquireArgs_ok : argsErr c.record [(0, 13)] [(arg c.record 0 8 % 64 != 0, errAlign 0),
    (3600000 < arg c.record 8 4, errRange 8), (1 < arg c.record 12 1, errRange 12)] = none := by
  rw [argsErr_aligned hv ha]
  simp [firstErr, Nat.not_lt.2 hms, Nat.not_lt.2 hwait]

include h

/-- SEQ_ACQUIRE locks an UNLOCKED sequence for its queue. -/
theorem completes_seqAcquire {t : State} {detail : Nat} {b : Bytes}
    (hr : s.resident? c.cabinet (arg c.record 0 8) = none) (hb : s.readCab c.cabinet (arg c.record 0 8) 64 = .ok b)
    (h1 : (parseSeq b).state = 1)
    (hl : s.lockSeq c (arg c.record 0 8) (parseSeq b) (arg c.record 8 4) = .ok (t, detail))
    (hw : t.aheadOfCopy = none) :
    Completes (exec (.seqAcquire id) s) fun u =>
      Ended u id 0 detail ∧ SameBytes t u ∧ u.tiers = t.tiers ∧ u.dict = t.dict := by
  obtain ⟨-, ht, -⟩ := State.lockSeq_eq_ok hl
  show Completes (execSeqAcquire id s) _
  rw [execSeqAcquire, onCtx_of_running h]
  simp only [acquireArgs_ok hv ha hms hwait, State.settleSeq_of_not_locked hb (by rw [h1]; decide),
    State.seqAt_of_memory hr hb, h1, if_true, hl]
  exact completes_land_finishOk ((State.ctx?_congr (congrArg Contract.ctxs ht) id).trans h.ctx) h.unfinished hw

/-- SEQ_ACQUIRE of a sequence that another queue has LOCKED waits for it, or is refused with code 0x11. -/
theorem execSeqAcquire_locked {r : SeqDesc} (hr : s.resident? c.cabinet (arg c.record 0 8) = some r)
    (h2 : (parseSeq r.bytes).state = 2) (ho : s.owns c (parseSeq r.bytes) = false) :
    exec (.seqAcquire id) s = if arg c.record 12 1 = 1 then s.commit (s.waitSeq c (arg c.record 0 8))
      else s.land (some id) (s.finishErr id (seqState 0x11)) := by
  show execSeqAcquire id s = _
  rw [execSeqAcquire, onCtx_of_running h]
  simp only [acquireArgs_ok hv ha hms hwait, State.settleSeq_of_resident hr, State.seqAt_of_resident hr, h2, hr,
    State.touchSeq_of_error (State.renewSeq_of_not_owner ho _)]
  simp

end

/-- The command of an acquirer that waits, under its deadline. -/
def State.waiter (s : State) (c : Ctx) : Ctx :=
  { c with waiting := true
           waitDeadline := some (s.now + s.deadlineOf c.cabinet (formOf (s.ctxEngine c) c.record)) }

theorem State.ctx?_waitSeq {s : State} {c : Ctx} (hc : s.ctx? c.id = some c) (a : Nat) :
    (s.waitSeq c a).ctx? c.id = some (s.waiter c) := by
  rw [State.waitSeq, State.ctx?_updCtx]
  · exact congrArg (Option.map _) hc
  · exact fun _ => rfl

theorem State.resident?_waitSeq {s : State} {c : Ctx} {a : Nat} {r : SeqDesc} (hr : s.resident? c.cabinet a = some r) :
    (s.waitSeq c a).resident? c.cabinet a = some { r with waiters := r.waiters ++ [c.id] } := by
  refine (State.resident?_updResident s c.cabinet a (f := fun r => { r with waiters := r.waiters ++ [c.id] })
    fun _ => ⟨rfl, rfl⟩).trans ?_
  rw [hr]
  rfl

/-- An acquirer that waits has not ended, is the last of those that wait, and stores nothing. -/
theorem completes_waitSeq {s : State} {id a : Nat} {c : Ctx} {r : SeqDesc} (hc : s.ctx? id = some c)
    (hf : c.finished = false) (hr : s.resident? c.cabinet a = some r) :
    Completes (s.commit (s.waitSeq c a)) fun u =>
      (∃ c', u.ctx? id = some c' ∧ c'.finished = false ∧ c'.waiting = true) ∧
      (∃ r', u.resident? c.cabinet a = some r' ∧ r'.waiters = r.waiters ++ [id]) ∧ SameBytes s u := by
  obtain rfl := State.ctx?_id hc
  rw [completes_commit]
  refine ⟨⟨_, (State.ctx?_stored _ _ _).trans (State.ctx?_waitSeq hc a), hf, rfl⟩,
    ⟨_, (State.resident?_congr rfl _ _).trans (State.resident?_waitSeq hr), rfl⟩, sameBytes_stored _ _ rfl⟩

/-- A refused acquirer ends with code 0x11. -/
theorem completes_seqAcquire_refused {s : State} {id : Nat} {c : Ctx} (hc : s.ctx? id = some c) (hf : c.finished = false)
    (ha : s.aheadOfCopy = none) :
    Completes (s.land (some id) (s.finishErr id (seqState 0x11))) fun u => Ended u id stStateConflict 0x0511 := by
  rw [completes_land (by rw [← ha]; exact State.aheadOfCopy_congr (State.finishErr_seqState_snap _ _ _))]
  exact ended_finishErr hc hf _

/-! ### SEQ_RELEASE and LEASE_BREAK (R264) -/

/-- The resident descriptors but one. -/
def State.otherSeqs (s : State) (r : SeqDesc) : List SeqDesc :=
  s.tiers.resident.filter fun x => !(x.cabinet == r.cabinet && x.addr == r.addr)

/-- A descriptor that is no longer among the resident ones is not found there. -/
theorem State.resident?_otherSeqs {s t : State} {r : SeqDesc} (h : t.tiers.resident = s.otherSeqs r) :
    t.resident? r.cabinet r.addr = none := by
  rw [State.resident?, h, State.otherSeqs, List.find?_eq_none]
  intro x hx
  simpa only [Bool.not_eq_true', Bool.not_eq_true] using (List.mem_filter.1 hx).2

/-- A sequence that nobody waits for is unlocked by writing its descriptor back, whatever the counters of the Sequence
engine hold. -/
theorem State.unlockSeq_withSeqs {s : State} {dict : List (Nat × Nat)} {r : SeqDesc} (hw : r.waiters = [])
    (h : SameButSeqCounts s.dict dict) (d : Seq) :
    (s.withSeqs dict s.tiers.resident).unlockSeq r d =
      (s.putCab r.cabinet r.addr d.bytes).withSeqs dict (s.otherSeqs r) := by
  rw [State.unlockSeq, hw, State.grantSeq, ← State.putCab_withSeqs h]
  rfl

theorem State.unlockSeq_eq {s : State} {r : SeqDesc} (hw : r.waiters = []) (d : Seq) :
    s.unlockSeq r d = (s.putCab r.cabinet r.addr d.bytes).withSeqs s.dict (s.otherSeqs r) :=
  State.unlockSeq_withSeqs hw (fun _ _ _ _ _ _ => rfl) d

/-- A counter of the Sequence engine that advances leaves every other index. -/
theorem sameButSeqCounts_bump (s : State) (j n : Nat) (hj : j < 256) :
    SameButSeqCounts s.dict (s.bump 0x2503 j n).dict := fun c i k hi hk hne =>
  State.ent_bumpEnt_ne s 0 0x2503 j n c i k
    (canonEntry_ne_of_index c i k 0 0x2503 j hi hk (by decide) hj hne (by decide) (by decide))

/-- A counter that has advanced, at its width. -/
theorem State.e_of_bump {s t : State} {i j w : Nat} (h : t.dict = (s.bump i j 1).dict) (hw : 8 * entrySize i j = w) :
    t.e i j = (s.e i j + 1) % 2 ^ w := by
  rw [State.e_def, State.ent_congr h, State.bump_def, State.ent_bumpEnt _ _ _ _ _ (by decide), hw]

/-- SEQ_RELEASE of the owner, with nobody waiting, writes the descriptor back UNLOCKED. -/
theorem completes_seqRelease {s s2 : State} {id : Nat} {c : Ctx} {q : Queue} {r : SeqDesc} {d : Seq}
    (h : Running s id 0x4003 c q) (hv : reservedErr c.record [(0, 8)] = none) (ha : arg c.record 0 8 % 64 = 0)
    (hr : s.resident? c.cabinet (arg c.record 0 8) = some r)
    (hn : s.renewSeq c (arg c.record 0 8) (parseSeq r.bytes) = .ok (s2, d)) (hw : r.waiters = [])
    (hc : (s2.putCab c.cabinet (arg c.record 0 8) { d with state := 1 }.bytes).aheadOfCopy = none) :
    Completes (exec (.seqRelease id) s) fun u => Ended u id 0 0 ∧ u.resident? c.cabinet (arg c.record 0 8) = none ∧
      SameBytes (s2.putCab c.cabinet (arg c.record 0 8) { d with state := 1 }.bytes) u := by
  obtain ⟨-, r2, hr2, hw2⟩ := State.renewSeq_eq_ok hr hn
  obtain ⟨hcab, haddr⟩ := State.resident?_key hr2
  have hun := State.unlockSeq_eq (s := s2) (hw2.trans hw) { d with state := 1 }
  rw [hcab, haddr] at hun
  show Completes (execSeqRelease id s) _
  rw [execSeqRelease]
  refine (completes_ownerCmd h hv ha hr hn (t := s2.unlockSeq r2 { d with state := 1 }) (detail := 0)
    (by simp only [hr2]) ?_ ?_).imp fun u ⟨hend, hbytes, htiers, _⟩ => ⟨hend, ?_, fun k => ?_⟩
  · rw [hun, State.withSeqs_contract, State.putCab_contract]
  · rw [← hc, hun]
    exact State.aheadOfCopy_congr (State.withSeqs_snap _ _ _)
  · rw [← hcab, ← haddr]
    exact State.resident?_otherSeqs (by rw [htiers, hun, State.withSeqs_resident])
  · rw [hbytes k, hun, State.withSeqs_mem]

/-- Where every started command has ended, no LOAD or APPEND stops with a lease. -/
theorem State.stopUsers_of_finished {s : State} (h : ∀ c ∈ s.contract.ctxs, c.finished = true) (r : SeqDesc) :
    s.stopUsers r = s := by
  unfold State.stopUsers
  dsimp only
  rw [List.filter_eq_nil_iff.2 fun c hc => by simp [h c hc]]
  rfl

/-- A lease that breaks while no command runs and nobody waits: its count, and its descriptor written back. -/
theorem State.breakSeq_eq {s : State} {r : SeqDesc} (hw : r.waiters = [])
    (h : ∀ c ∈ s.contract.ctxs, c.finished = true) :
    s.breakSeq r = (s.putCab r.cabinet r.addr (parseSeq r.bytes).broken.bytes).withSeqs (s.bump 0x2503 3 1).dict
      (s.otherSeqs r) := by
  rw [State.breakSeq, State.stopUsers_of_finished h]
  exact State.unlockSeq_withSeqs hw (sameButSeqCounts_bump s 3 1 (by decide)) _

/-- LEASE_BREAK of an expired lease leaves the descriptor UNLOCKED with BROKEN_LEASE, and counts it. -/
theorem completes_leaseBreak {s : State} {cab a : Nat} {r : SeqDesc} (hr : s.resident? cab a = some r)
    (hs : s.faults.safe = false) (hact : s.contract.activation ≠ 1) (h0 : field r.bytes 48 8 ≠ 0)
    (hnow : field r.bytes 48 8 ≤ s.now) (hw : r.waiters = []) (hc : ∀ c ∈ s.contract.ctxs, c.finished = true) :
    Completes (exec (.leaseBreak cab a) s) fun u => u.resident? cab a = none ∧
      u.e 0x2503 3 = (s.e 0x2503 3 + 1) % 2 ^ 64 ∧
      SameBytes (s.putCab cab a (parseSeq r.bytes).broken.bytes) u := by
  obtain ⟨rfl, rfl⟩ := State.resident?_key hr
  have hexp : s.seqExpired r = true := by simp [State.seqExpired, h0, hnow, hact]
  show Completes (execLeaseBreak r.cabinet r.addr s) _
  simp only [execLeaseBreak, hr, hs, hexp, Bool.or_true, Bool.not_true, Bool.or_self, Bool.false_eq_true, if_false,
    completes_commit, State.breakSeq_eq hw hc]
  exact ⟨State.resident?_otherSeqs (by rw [State.stored_tiers, State.withSeqs_resident]),
    State.e_of_bump (w := 64) (by rw [State.stored_dict, State.withSeqs_dict]) (by decide),
    fun k => by rw [State.stored_mem, Memory.get_canon, State.withSeqs_mem]⟩

/-! ### SEQ_LOAD (R269) -/

/-- The granules that a load used are released from staging: no command, snapshot or byte changes. -/
theorem State.consume_keeps (s : State) (cab : Nat) (reads : List (Nat × Nat)) :
    (s.consume cab reads).contract = s.contract ∧ (s.consume cab reads).snap = s.snap ∧
      (s.consume cab reads).mem = s.mem := by
  simp [State.consume]

/-- SEQ_LOAD writes the slices that it read over the blocks' runs from LANDING on. -/
theorem completes_seqLoad {s s2 t : State} {id : Nat} {c : Ctx} {q : Queue} {r : SeqDesc} {d : Seq}
    {bs : List (Nat × Nat)} {data : List Bytes} (h : Running s id 0x4004 c q)
    (hv : reservedErr c.record [(0, 24)] = none) (ha : arg c.record 0 8 % 64 = 0)
    (hr : s.resident? c.cabinet (arg c.record 0 8) = some r)
    (hn : s.renewSeq c (arg c.record 0 8) (parseSeq r.bytes) = .ok (s2, d))
    (hk : firstErr (s2.loadChecks d c.record (c.conts.headD [])) = none)
    (hbs : s2.loadSources c.cabinet d c.record (c.conts.headD []) = .ok bs)
    (hd : s2.readRuns c.cabinet (bs.flatMap fun p =>
      loadReads d (field (c.conts.headD []) 0 4) (loadLen d (c.conts.headD [])) p.1 p.2) = .ok data)
    (hw : s2.writeAll c.cabinet (splitRuns
      (loadRuns d (arg c.record 8 8) (loadLen d (c.conts.headD [])) 0 (bs.map (·.1))) data.flatten) = .ok t)
    (hc : t.aheadOfCopy = none) :
    Completes (exec (.seqLoad id) s) fun u => Ended u id 0 data.flatten.length ∧ SameBytes t u := by
  generalize hreads : (bs.flatMap fun p =>
    loadReads d (field (c.conts.headD []) 0 4) (loadLen d (c.conts.headD [])) p.1 p.2) = reads at hd
  obtain ⟨hcontract, hsnap, hmem⟩ := t.consume_keeps c.cabinet reads
  show Completes (execSeqLoad id s) _
  rw [execSeqLoad]
  refine (completes_ownerCmd h hv ha hr hn (t := t.consume c.cabinet reads) ?_ ?_ ?_).imp
    fun u ⟨hend, hbytes, _⟩ => ⟨hend, fun k => ?_⟩
  · simp only [check, hk, hbs, hreads, hd, hw, bind, Except.bind, pure, Except.pure]
  · rw [hcontract, (State.writeAll_sameRest _ _ _ _ hw).contract]
  · rw [← hc]
    exact State.aheadOfCopy_congr hsnap
  · rw [hbytes k, hmem]

/-! ### SEQ_APPEND (R270 to R272) -/

/-- What the writes of an APPEND leave: the started commands, and the resident descriptors. -/
structure SameSeqs (s t : State) : Prop where
  contract : t.contract = s.contract
  resident : t.tiers.resident = s.tiers.resident

theorem SameSeqs.refl (s : State) : SameSeqs s s := ⟨rfl, rfl⟩

theorem SameSeqs.trans {s t u : State} (h : SameSeqs s t) (k : SameSeqs t u) : SameSeqs s u :=
  ⟨k.contract.trans h.contract, k.resident.trans h.resident⟩

theorem State.writeAll_sameSeqs {s t : State} {cab : Nat} {l : List (Nat × Bytes)} (h : s.writeAll cab l = .ok t) :
    SameSeqs s t :=
  ⟨(State.writeAll_sameRest _ _ _ _ h).contract, State.writeAll_resident h⟩

theorem State.appendRecords_sameSeqs {s t : State} {cab src : Nat} {d : Seq} {ts : List ((Nat × Nat × Nat) × Nat)}
    (h : s.appendRecords cab d src ts = .ok t) : SameSeqs s t := by
  induction ts generalizing s src with
  | nil => cases h; exact SameSeqs.refl _
  | cons p ts ih =>
    obtain ⟨⟨_, t0, m⟩, addr⟩ := p
    obtain ⟨bs, -, h⟩ := Except.bind_eq_ok h
    obtain ⟨w, hw, h⟩ := Except.bind_eq_ok h
    exact (State.writeAll_sameSeqs hw).trans (ih h)

theorem State.writeSummaries_sameSeqs {s t : State} {cab : Nat} {d : Seq} {sd : Desc} {ps : List (Nat × Nat)}
    (h : s.writeSummaries cab d sd ps = .ok t) : SameSeqs s t := by
  induction ps generalizing s with
  | nil => cases h; exact SameSeqs.refl _
  | cons p ps ih =>
    obtain ⟨b, addr⟩ := p
    obtain ⟨sums, -, h⟩ := Except.bind_eq_ok h
    obtain ⟨w, hw, h⟩ := Except.bind_eq_ok h
    exact (State.writeAll_sameSeqs hw).trans (ih h)

theorem State.appendSummaries_sameSeqs {s t : State} {cab new : Nat} {d : Seq} {ts : List ((Nat × Nat × Nat) × Nat)}
    (h : s.appendSummaries cab d new ts = .ok t) : SameSeqs s t := by
  unfold State.appendSummaries at h
  split at h
  · cases h; exact SameSeqs.refl _
  · obtain ⟨b, -, h⟩ := Except.bind_eq_ok h
    exact State.writeSummaries_sameSeqs h

/-- The commit record stands in the resident copy too, and SEQ_COMMITS counts it (R272). -/
def State.commitSeq (s : State) (cab a : Nat) (d : Seq) : State :=
  (s.updResident cab a fun r => { r with bytes := d.bytes }).bump 0x2503 4 1

theorem State.commitSeq_keeps (s : State) (cab a : Nat) (d : Seq) :
    (s.commitSeq cab a d).contract = s.contract ∧ (s.commitSeq cab a d).snap = s.snap ∧
      (s.commitSeq cab a d).mem = s.mem := by
  simp [State.commitSeq, State.updResident]

theorem State.resident?_commitSeq {s : State} {cab a : Nat} {r : SeqDesc} (h : s.resident? cab a = some r) (d : Seq) :
    (s.commitSeq cab a d).resident? cab a = some { r with bytes := d.bytes } := by
  rw [← State.resident?_setBytes h d.bytes]
  exact State.resident?_congr (by rw [State.commitSeq, State.bump_def, State.bumpEnt_tiers]) _ _

/-- SEQ_APPEND writes its records, the summaries of the blocks filled, and the commit record. -/
theorem completes_seqAppend {s s2 t t1 t2 : State} {id : Nat} {c : Ctx} {q : Queue} {r : SeqDesc} {d : Seq}
    {ts : List ((Nat × Nat × Nat) × Nat)} (h : Running s id 0x4005 c q) (hold : s.appendWaits c = false)
    (hv : reservedErr c.record [(0, 20)] = none) (ha : arg c.record 0 8 % 64 = 0)
    (hr : s.resident? c.cabinet (arg c.record 0 8) = some r)
    (hn : s.renewSeq c (arg c.record 0 8) (parseSeq r.bytes) = .ok (s2, d))
    (hts : s2.appendTargets c.cabinet d (arg c.record 16 4) = .ok ts)
    (hrec : s2.appendRecords c.cabinet d (arg c.record 8 8) ts = .ok t)
    (hsum : t.appendSummaries c.cabinet d (d.committed + arg c.record 16 4) ts = .ok t1)
    (hput : t1.putSeq c.cabinet (arg c.record 0 8) (d.commit (arg c.record 16 4)) = .ok t2)
    (hc : t2.aheadOfCopy = none) :
    Completes (exec (.seqAppend id) s) fun u => Ended u id 0 (d.committed + arg c.record 16 4) ∧ SameBytes t2 u ∧
      (∃ r', u.resident? c.cabinet (arg c.record 0 8) = some r' ∧ r'.bytes = (d.commit (arg c.record 16 4)).bytes) ∧
      u.e 0x2503 4 = (t2.e 0x2503 4 + 1) % 2 ^ 64 := by
  have hkeep : SameSeqs s2 t2 := ((State.appendRecords_sameSeqs hrec).trans (State.appendSummaries_sameSeqs hsum)).trans
    (State.writeAll_sameSeqs hput)
  obtain ⟨-, r2, hr2, -⟩ := State.renewSeq_eq_ok hr hn
  obtain ⟨hcontract, hsnap, hmem⟩ := t2.commitSeq_keeps c.cabinet (arg c.record 0 8) (d.commit (arg c.record 16 4))
  have hres := State.resident?_commitSeq ((State.resident?_congr hkeep.resident _ _).trans hr2)
    (d.commit (arg c.record 16 4))
  show Completes (execSeqAppend id s) _
  simp only [execSeqAppend, h.ctx, hold, Bool.false_eq_true, if_false]
  refine (completes_ownerCmd h hv ha hr hn
    (t := t2.commitSeq c.cabinet (arg c.record 0 8) (d.commit (arg c.record 16 4))) ?_ ?_ ?_).imp
    fun u ⟨hend, hbytes, htiers, hdict⟩ => ⟨hend, fun k => ?_,
      ⟨_, (State.resident?_congr (congrArg _ htiers) _ _).trans hres, rfl⟩,
      State.e_of_bump (w := 64) hdict (by decide)⟩
  · simp only [hts, hrec, hsum, hput, bind, Except.bind, pure, Except.pure, State.commitSeq]
  · rw [hcontract, hkeep.contract]
  · rw [← hc]
    exact State.aheadOfCopy_congr hsnap
  · rw [hbytes k, hmem]

/-! ### The obligation -/

/-- Settles O30, a lemma for each command and for the break of a lease. -/
theorem sequenceCommandsComplete : Obligations.SequenceCommandsComplete := by
  refine ⟨?init, ?acquire, ?locked, ?release, ?load, ?append, ?foreign, ?leaseBreak⟩
  case init =>
    rintro s t id a c q b h hv rfl ha hr hb h0 he hw hc
    exact completes_seqInit h hv ha hr hb h0 he hw hc
  case acquire =>
    rintro s t id a ms detail c q b d h hv rfl ha rfl hms hwait hr hb rfl h1 hl hc
    obtain ⟨hdetail, -, r, hmem, hcab, haddr, hlease, hbytes⟩ := State.lockSeq_eq_ok hl
    refine ⟨?_, (completes_seqAcquire h hv ha hms hwait hr hb h1 hl hc).imp fun u ⟨hend, hsame, htiers, _⟩ =>
      ⟨hend, hsame, r, htiers ▸ hmem, hcab, haddr, hlease, ?_⟩⟩
    · rw [hdetail]
      cases bit (parseSeq b).note 0 <;> rfl
    · rw [hbytes, State.locked, h.epochOf]
      rfl
  case locked =>
    rintro s id a c q r h hv rfl ha hms hr h2 ho
    refine ⟨fun hwait => ?_, fun hwait hc => ?_⟩
    · rw [execSeqAcquire_locked h hv ha hms (by omega) hr h2 ho, if_pos hwait]
      exact completes_waitSeq h.ctx h.unfinished hr
    · rw [execSeqAcquire_locked h hv ha hms (by omega) hr h2 ho, if_neg (by omega)]
      exact completes_seqAcquire_refused h.ctx h.unfinished hc
  case release =>
    rintro s t id a c q r d h hv rfl ha hr hn hw hc
    exact completes_seqRelease h hv ha hr hn hw hc
  case load =>
    rintro s s2 t id a off len c q r d k bs data h hv rfl ha hr hn rfl rfl rfl hk hbs hd hw hc
    exact completes_seqLoad h hv ha hr hn hk hbs hd hw hc
  case append =>
    rintro s s2 t t1 t2 id a n c q r d ts h hold hv rfl ha hr hn rfl hts hrec hsum hput hc
    exact completes_seqAppend h hold hv ha hr hn hts hrec hsum hput hc
  case foreign =>
    rintro s id a op c q r i hi h hv rfl ha hr ho
    simp only [List.mem_cons, Prod.mk.injEq, List.not_mem_nil, or_false] at hi
    obtain ⟨rfl, rfl⟩ | ⟨rfl, rfl⟩ := hi
    · show Completes (execSeqRelease id s) _
      exact completes_ownerCmd_refused h hv ha hr ho
    · show Completes (execSeqLoad id s) _
      exact completes_ownerCmd_refused h hv ha hr ho
  case leaseBreak =>
    exact fun s cab a r hr hs hact h0 hnow hw hc => completes_leaseBreak hr hs hact h0 hnow hw hc

end Sys2Proof.Machine

/-! PROOFS of the transport: a packet sent and a request that enters its stream, the work requests and the end of a
revocation, and two statements that states without the block's invariants refute. -/

namespace Sys2Proof.Machine

/-! ### Started commands and connections beside an update -/

/-- A started command after any context is changed by a function that keeps its number. -/
theorem State.ctx?_updCtx_any (s : State) (i k : Nat) (f : Ctx → Ctx) (h : ∀ c, (f c).id = c.id) :
    (s.updCtx i f).ctx? k = (s.ctx? k).map fun c => if c.id == i then f c else c := by
  unfold State.ctx? State.updCtx updWhere
  exact find?_map_keep _ _ _ (by intro x; split <;> simp [h])

theorem Requested.ctx {s : State} {id op : Nat} {c : Ctx} {q : Queue} (h : Requested s id op c q) :
    s.ctx? id = some c := h.1

theorem Requested.unfinished {s : State} {id op : Nat} {c : Ctx} {q : Queue} (h : Requested s id op c q) :
    c.finished = false := by
  obtain ⟨-, -, hf, -⟩ := h
  exact hf

/-- The end of a work request leaves the ZT unit and the dictionary as they were. -/
@[simp] theorem State.finishZt_zt (s : State) (id st d : Nat) : (s.finishZt id st d).zt = s.zt := by
  unfold State.finishZt
  split <;> rfl
@[simp] theorem State.finishZt_dict (s : State) (id st d : Nat) : (s.finishZt id st d).dict = s.dict := by
  unfold State.finishZt
  split <;> rfl
@[simp] theorem State.conn?_finishZt (s : State) (id st d i : Nat) : (s.finishZt id st d).conn? i = s.conn? i :=
  State.conn?_congr (by rw [State.finishZt_zt]) i

/-- A connection found in a table to which one of a new index has been added. -/
theorem State.conn?_addConn {s : State} {k : Conn} (h : k.index ∉ s.zt.conns.map (·.index)) :
    ∃ b u, (s.addConn k).conn? k.index = some { k with cached := b, fetching := false, lastUse := u } := by
  refine State.conn?_cacheConn ?_
  have hnone : s.zt.conns.find? (fun x => x.index == k.index) = none :=
    List.find?_eq_none.2 fun x hx he => h (List.mem_map.2 ⟨x, hx, by simpa using he⟩)
  show List.find? _ (s.zt.conns ++ [k]) = some k
  simp [List.find?_append, hnone]

/-- A number picked free is not in use. -/
theorem lowestFree_not_mem {used : List Nat} {lo hi i : Nat} (h : lowestFree used lo hi = some i) : i ∉ used := by
  have hfree := List.find?_some h
  simp only [Bool.and_eq_true, Bool.not_eq_true', List.contains_eq_mem, decide_eq_false_iff_not] at hfree
  exact hfree.2

theorem pickFree_not_mem {free lo hi i : Nat} {used : List Nat} (h : pickFree free used lo hi = some i) : i ∉ used := by
  unfold pickFree at h
  split at h
  · next j hj =>
    cases h
    exact lowestFree_not_mem hj
  · exact lowestFree_not_mem h

/-! ### A packet sent (R285, R303, R310) -/

/-- A control packet sent below REKEY_PACKETS: its connection moves to the next CSN, and no command changes. -/
theorem State.sendControl_spec {s : State} {i ty : Nat} {body : Bytes} {k : Conn} (h : s.conn? i = some k)
    (hk : k.pktsUnderGen + 1 < s.e 0x2603 0) :
    (∃ f, (s.sendControl i ty body).zt.sent = f :: s.zt.sent ∧ f.conn = i ∧ f.ty = ty ∧ f.body = body) ∧
    (s.sendControl i ty body).conn? i =
      some { k with csnTx := k.csnTx + 1, pktsUnderGen := k.pktsUnderGen + 1, lastTx := s.now } ∧
    (s.sendControl i ty body).contract = s.contract := by
  have h1 := State.conn?_updConn (f := fun k => { k with csnTx := k.csnTx + 1 }) h fun _ => rfl
  obtain ⟨⟨f, hsent, hconn, hty, -, -, -, hbody⟩, hk', hc, -⟩ :=
    State.emitZt_spec (ty := ty) (fl := 0) (n := k.csnTx) (a := 0) (c := true) (b := body) h1 hk
  simp only [State.sendControl, h]
  exact ⟨⟨f, hsent, hconn, hty, hbody⟩, hk', hc⟩

/-- One packet of a queue is sent, where the window and the packet path take it. -/
theorem State.pump_open {s : State} {i : Nat} {k : Conn} {p : TxPacket} {rest : List TxPacket} (h : s.conn? i = some k)
    (hs : k.state = 3) (hq : k.sendQueue = p :: rest) (hw : (k.nxt - k.una).toNat < min k.window k.cwnd)
    (hp : PathOpen s k) (n : Nat) : s.pump i (n + 1) = (s.sendNext k p rest).pump i n := by
  have hopen : (!(k.state == 3 || k.state == 4) || decide (min k.window k.cwnd ≤ (k.nxt - k.una).toNat)) = false := by
    rw [hs, decide_eq_false (Nat.not_le.2 hw)]
    rfl
  rw [State.pump, h]
  cases hport : s.connPort k with
  | none => simp only [hq, hopen, hport, Bool.false_eq_true, if_false]
  | some port => simp only [hq, hopen, hport, hp port hport, Bool.false_eq_true, if_false]

/-- The request, or the pool write, that a packet belongs to has the packet sent under a PSN (R312). -/
def State.noteSent (s : State) (p : TxPacket) (psn : BitVec 32) : State :=
  match p.ctx with
  | some id => s.updCtx id (Ctx.sentPacket p psn)
  | none => s.updJob p.job (PoolJob.sentPacket psn)

theorem State.noteSent_keeps (s : State) (p : TxPacket) (psn : BitVec 32) :
    (s.noteSent p psn).mem = s.mem ∧ (s.noteSent p psn).dict = s.dict ∧ (s.noteSent p psn).zt.conns = s.zt.conns ∧
      (s.noteSent p psn).zt.sent = s.zt.sent := by
  unfold State.noteSent State.updJob
  split
  · exact ⟨rfl, rfl, rfl, rfl⟩
  · split <;> exact ⟨rfl, rfl, rfl, rfl⟩

/-- A packet sent leaves its request in its stream. -/
theorem State.noteSent_issued {s : State} {id : Nat} {c : Ctx} (h : s.ctx? id = some c) (p : TxPacket) (psn : BitVec 32) :
    ∃ c', (s.noteSent p psn).ctx? id = some c' ∧ c'.issued = c.issued := by
  unfold State.noteSent State.updJob
  split
  · rw [State.ctx?_updCtx_any s _ id (Ctx.sentPacket p psn) fun _ => rfl, h]
    refine ⟨_, rfl, ?_⟩
    dsimp only
    split <;> rfl
  · split <;> exact ⟨c, h, rfl⟩

/-- A packet as it stands among the unacknowledged ones after its first transmission (R304, R305). -/
def State.stamped (s : State) (k : Conn) (p : TxPacket) : TxPacket :=
  { p with psn := k.nxt, firstSent := s.now, sentAt := s.now, rto := s.startRto k }

/-- A connection whose next PSN is taken by a packet, with what waits behind it. -/
def Conn.sending (rest : List TxPacket) (q : TxPacket) (k : Conn) : Conn :=
  { k with sendQueue := rest, nxt := k.nxt + 1, tx := k.tx ++ [q] }

/-- The first packet of a queue, read from its source, goes out as its connection's next PSN. -/
theorem State.sendNext_of_payload {s : State} {k : Conn} {p : TxPacket} {wire : Bytes} (h : s.payloadOf k p = .ok wire)
    (rest : List TxPacket) :
    s.sendNext k p rest = ((s.updConn k.index (Conn.sending rest (s.stamped k p))).noteSent p k.nxt).emitZt k.index p.ty
      p.flags k.nxt 0 false wire := by
  simp only [State.sendNext, h]
  rfl

/-- A packet without payload is sent as the next PSN of its connection. -/
theorem State.sendNext_spec {s : State} {k : Conn} {p : TxPacket} {rest : List TxPacket} (h : s.conn? k.index = some k)
    (hp : p.payloadLen = 0) (hk : k.pktsUnderGen + 1 < s.e 0x2603 0) :
    (s.sendNext k p rest).mem = s.mem ∧
    (∃ f, (s.sendNext k p rest).zt.sent = f :: s.zt.sent ∧ f.conn = k.index ∧ f.ty = p.ty ∧ f.flags = p.flags ∧
      f.seqNo = k.nxt ∧ f.attempt = 0 ∧ f.body = p.body) ∧
    (∃ k', (s.sendNext k p rest).conn? k.index = some k' ∧ k'.sendQueue = rest ∧ k'.nxt = k.nxt + 1 ∧
      k'.state = k.state) ∧
    (∀ id c, s.ctx? id = some c → ∃ c', (s.sendNext k p rest).ctx? id = some c' ∧ c'.issued = c.issued) := by
  rw [State.sendNext_of_payload (show s.payloadOf k p = .ok p.body by rw [State.payloadOf, if_pos hp])]
  have hconn := State.conn?_updConn (f := Conn.sending rest (s.stamped k p)) h fun _ => rfl
  obtain ⟨hmem, hdict, hconns, hsent⟩ :=
    (s.updConn k.index (Conn.sending rest (s.stamped k p))).noteSent_keeps p k.nxt
  obtain ⟨hframe, hk', hctr, -⟩ := State.emitZt_spec (ty := p.ty) (fl := p.flags) (n := k.nxt) (a := 0) (c := false)
    (b := p.body) ((State.conn?_congr hconns _).trans hconn)
    (by rw [State.e_def, State.ent_congr hdict]; exact hk)
  refine ⟨by rw [State.emitZt_mem, hmem, State.updConn_mem], by rw [hsent] at hframe; exact hframe,
    ⟨_, hk', rfl, rfl, rfl⟩, fun id c hc => ?_⟩
  obtain ⟨c', hc', hi⟩ := State.noteSent_issued (s := s.updConn k.index (Conn.sending rest (s.stamped k p))) hc p k.nxt
  exact ⟨c', (State.ctx?_congr (by rw [hctr]) id).trans hc', hi⟩

/-! ### A data request enters its stream (R303, R308, R310) -/

/-- A connection with packets at the end of its queue. -/
def Conn.queued (ps : List TxPacket) (k : Conn) : Conn := { k with sendQueue := k.sendQueue ++ ps }

/-- The state in which a request has entered its connection's stream and nothing has been sent of it yet. -/
def State.enterStream (s : State) (id : Nat) (k : Conn) (ps : List TxPacket) : State :=
  ((s.updCtx id Ctx.issue).cacheConn k.index).updConn k.index (Conn.queued ps)

/-- What the sender reads of a connection besides its queue: where it sends, its window, and its key generation's use. -/
structure Conn.SameSender (k k' : Conn) : Prop where
  index : k'.index = k.index
  state : k'.state = k.state
  window : min k'.window k'.cwnd = min k.window k.cwnd
  nxt : k'.nxt = k.nxt
  una : k'.una = k.una
  subscriber : k'.subscriber = k.subscriber
  service : k'.service = k.service
  pkts : k'.pktsUnderGen = k.pktsUnderGen

theorem State.conn?_enterStream {s : State} {k : Conn} (h : s.conn? k.index = some k) (id : Nat) (ps : List TxPacket) :
    ∃ k', (s.enterStream id k ps).conn? k.index = some k' ∧ k'.sendQueue = k.sendQueue ++ ps ∧ k.SameSender k' := by
  obtain ⟨b, u, hc⟩ := State.conn?_cacheConn (s := s.updCtx id Ctx.issue) h
  exact ⟨_, State.conn?_updConn (f := Conn.queued ps) hc fun _ => rfl, rfl, ⟨rfl, rfl, rfl, rfl, rfl, rfl, rfl, rfl⟩⟩

/-- The packet path takes another packet of a connection as it did before a request entered the stream. -/
theorem PathOpen.enterStream {s : State} {k k' : Conn} (h : PathOpen s k) (hk : k.SameSender k') (id : Nat)
    (ps : List TxPacket) : PathOpen (s.enterStream id k ps) k' := fun port hport => by
  rw [hk.subscriber, hk.service, State.queueFull_congr (s := s) (t := s.enterStream id k ps) rfl rfl]
  exact h port ((State.connPort_congr rfl hk.subscriber hk.index).symm.trans hport)

theorem State.ctx?_enterStream {s : State} {id : Nat} {c : Ctx} (h : s.ctx? id = some c) (k : Conn) (ps : List TxPacket) :
    (s.enterStream id k ps).ctx? id = some c.issue := by
  have hu := State.ctx?_updCtx s id Ctx.issue fun _ => rfl
  rw [h] at hu
  exact hu

/-- A request that has entered its stream is sent as far as the window and the packet path take it. -/
theorem streams_enterStream {s : State} {id : Nat} {c : Ctx} {k : Conn} (hc : s.ctx? id = some c)
    (hk : s.conn? k.index = some k) (hs : k.state = 3) (ps : List TxPacket) :
    Streams s (s.stored ((s.enterStream id k ps).runSender k.index)) id k ps := by
  obtain ⟨k1, hconn, hq1, same⟩ := State.conn?_enterStream hk id ps
  have hctx := State.ctx?_enterStream hc k ps
  refine ⟨fun hfull => ?_, fun p hp hlen hq hopen hpath hgen => ?_⟩
  · have hrun : (s.enterStream id k ps).runSender k.index = s.enterStream id k ps := by
      rw [State.runSender, State.pump_full hconn (by rw [same.window, same.nxt, same.una]; exact hfull),
        State.tryClose_open hconn (by rw [same.state, hs]; decide)]
    rw [hrun]
    exact ⟨sameBytes_stored _ _ rfl, ⟨_, hctx, rfl⟩, rfl, k1, hconn, hq1, same.nxt⟩
  · rw [hq, hp, List.nil_append] at hq1
    have hpump := State.pump_open hconn (same.state.trans hs) hq1
      (by rw [same.window, same.nxt, same.una]; exact hopen) (hpath.enterStream same id ps) 511
    obtain ⟨hmem, hframe, ⟨k2, hk2, hq2, hnxt, hs2⟩, hissued⟩ := State.sendNext_spec (rest := [])
      (by rw [same.index]; exact hconn) hlen (by rw [same.pkts]; exact hgen)
    rw [same.index, same.nxt] at *
    have hrun : (s.enterStream id k ps).runSender k.index = (s.enterStream id k ps).sendNext k1 p [] := by
      rw [State.runSender, hpump, State.pump_empty hk2 hq2, State.tryClose_open hk2 (by rw [hs2, same.state, hs]; decide)]
    rw [hrun]
    obtain ⟨c', hc', hi'⟩ := hissued id _ hctx
    exact ⟨sameBytes_stored _ _ hmem, ⟨c', hc', hi'⟩, ⟨k2, hk2, hq2, hnxt⟩, hframe⟩

section
variable {s : State} {id op flags : Nat} {named : Bytes → List (Nat × Nat)} {checks : Bytes → List (Bool × Err)}
  {zt2 : Bytes → Bool} {packets : Conn → Bytes → List TxPacket} {c : Ctx} {q : Queue} {k : Conn}

theorem onConn_of_cached {refuse : Option Conn → Option Err} (hk : s.connOf c.cabinet (field c.record 8 4) = some k)
    (hr : refuse (some k) = none) (hc : k.cached = true) (f : Conn → Result) : s.onConn c refuse f = f k := by
  simp only [State.onConn, hk, hr, hc, if_true]

theorem onConn_of_refused {refuse : Option Conn → Option Err} {e : Err}
    (hr : refuse (s.connOf c.cabinet (field c.record 8 4)) = some e) (f : Conn → Result) :
    s.onConn c refuse f = s.commit (s.finishErr c.id e) := by
  simp only [State.onConn, hr]

/-- A data request that passes the checks of its fields goes on with its connection. -/
theorem dataRequest_of_checked (h : Requested s id op c q) (hi : c.issued = false)
    (hv : workReserved c.record flags (named c.record) = none) (hchk : firstErr (checks c.record) = none) :
    s.dataRequest id op flags named checks zt2 packets = s.onConn c dataRefusal fun k =>
      if k.state != 3 || s.behind c then s.idle
      else if k.version = 1 && zt2 c.record then s.commit (s.finishErr id (errField (0x8000 + (if op = 5 then 0 else 1))))
      else s.commit (((s.updCtx id Ctx.issue).cacheConn k.index).queueZt k.index (packets k c.record)) := by
  rw [State.dataRequest, onCtx_of_requested h]
  simp only [hi, hv, hchk, Bool.false_eq_true, if_false]

/-- A data request whose connection is open to it enters its stream. -/
theorem completes_dataRequest (h : Requested s id op c q) (ho : StreamOpen s c k flags (named c.record))
    (hchk : firstErr (checks c.record) = none) (hz : zt2 c.record = true → k.version ≠ 1) :
    Completes (s.dataRequest id op flags named checks zt2 packets) fun u => Streams s u id k (packets k c.record) := by
  obtain ⟨hi, hv, hk, hs, hcached, hbehind⟩ := ho
  obtain ⟨hconn, hindex, -⟩ := State.connOf_conn hk
  have hzt : (decide (k.version = 1) && zt2 c.record) = false := by
    cases hb : zt2 c.record with
    | false => exact Bool.and_false _
    | true => rw [decide_eq_false (hz hb), Bool.false_and]
  rw [dataRequest_of_checked h hi hv hchk, onConn_of_cached hk (by simp [dataRefusal, hs]) hcached]
  simp only [hs, hbehind, hzt, bne_self_eq_false, Bool.or_self, Bool.false_eq_true, if_false, completes_commit]
  exact streams_enterStream h.ctx (by rw [hindex]; exact hconn) hs (packets k c.record)

/-- A data request whose connection refuses it ends with the refusal (R313). -/
theorem completes_dataRequest_refused {e : Err} (h : Requested s id op c q) (hi : c.issued = false)
    (hv : workReserved c.record flags (named c.record) = none) (hchk : firstErr (checks c.record) = none)
    (he : dataRefusal (s.connOf c.cabinet (field c.record 8 4)) = some e) :
    Completes (s.dataRequest id op flags named checks zt2 packets) fun u => Ended u id e.status e.detail := by
  rw [dataRequest_of_checked h hi hv hchk, onConn_of_refused he, State.ctx?_id h.ctx, completes_commit]
  exact ended_finishErr h.ctx h.unfinished e

/-- A data request waits while its connection is not ESTABLISHED (R313). -/
theorem completes_dataRequest_waits (h : Requested s id op c q) (hi : c.issued = false)
    (hv : workReserved c.record flags (named c.record) = none) (hchk : firstErr (checks c.record) = none)
    (hk : s.connOf c.cabinet (field c.record 8 4) = some k) (hs : k.state = 2) (hc : k.cached = true) :
    Completes (s.dataRequest id op flags named checks zt2 packets) fun u => u.ctx? id = some c := by
  rw [dataRequest_of_checked h hi hv hchk, onConn_of_cached hk (by simp [dataRefusal, hs]) hc]
  simp only [hs]
  exact ⟨s, rfl, h.ctx⟩

end

/-- A length from 1 to 2 ^ 30 passes its check (R309). -/
theorem lengthChecked {r : Bytes} (h0 : 0 < field r 40 4) (h1 : field r 40 4 ≤ 2 ^ 30) :
    firstErr [(decide (field r 40 4 = 0) || decide (2 ^ 30 < field r 40 4), errRange 0x8028)] = none := by
  simp only [firstErr, outside_eq_false h0 h1, Bool.false_eq_true, if_false]

/-- An operation from 1 to 6 is one that a remote object may be signalled with (R308). -/
theorem remoteOpBad_eq_false {r : Bytes} (h1 : 1 ≤ field r 3 1) (h6 : field r 3 1 ≤ 6) : remoteOpBad r = false :=
  outside_eq_false h1 h6

theorem completes_write {s : State} {id : Nat} {c : Ctx} {q : Queue} {k : Conn} (h : Requested s id 0x01 c q)
    (ho : StreamOpen s c k 8
      ([(8, 4), (20, 24)] ++ (if bit (field c.record 1 1) 3 then [(3, 1), (44, 16)] else [])))
    (h0 : 0 < field c.record 40 4) (h1 : field c.record 40 4 ≤ 2 ^ 30)
    (hsig : bit (field c.record 1 1) 3 = true → k.version ≠ 1 ∧ 1 ≤ field c.record 3 1 ∧ field c.record 3 1 ≤ 6) :
    Completes (exec (.write id) s) fun u => Streams s u id k (writePackets k.mtu (field c.record 20 4)
      (field c.record 32 8) (field c.record 24 8) (field c.record 40 4)
      (if bit (field c.record 1 1) 3 then
        slice c.record 44 4 ++ slice c.record 56 4 ++ slice c.record 3 1 ++ zeros 7 ++ slice c.record 48 8 else [])
      (some id)) := by
  have hop : (bit (field c.record 1 1) 3 && remoteOpBad c.record) = false := by
    cases hb : bit (field c.record 1 1) 3 with
    | false => rfl
    | true =>
      obtain ⟨-, hlo, hhi⟩ := hsig hb
      exact remoteOpBad_eq_false hlo hhi
  show Completes (execWrite id s) _
  rw [execWrite]
  refine completes_dataRequest h ho ?_ fun hb => (hsig hb).1
  simp only [firstErr, outside_eq_false h0 h1, hop, Bool.false_eq_true, if_false]

theorem completes_read {s : State} {id : Nat} {c : Ctx} {q : Queue} {k : Conn} (h : Requested s id 0x02 c q)
    (ho : StreamOpen s c k 0 [(8, 4), (20, 24)]) (h0 : 0 < field c.record 40 4) (h1 : field c.record 40 4 ≤ 2 ^ 30) :
    Completes (exec (.read id) s) fun u => Streams s u id k
      [txPacket 0x02 0 (slice c.record 32 8 ++ slice c.record 20 4 ++ slice c.record 40 4) 0 0 (some id)] := by
  show Completes (execRead id s) _
  rw [execRead]
  exact completes_dataRequest h ho (lengthChecked h0 h1) fun hb => absurd hb Bool.false_ne_true

/-- An atomic on memory at a word, or on a sync object, passes its check. -/
theorem atomicChecked {r : Bytes} (h : bit (field r 1 1) 4 = false → field r 32 8 % 8 = 0) :
    firstErr (atomicChecks r) = none := by
  have hword : (!syncTarget r && field r 32 8 % 8 != 0) = false := by
    cases hb : syncTarget r with
    | true => rfl
    | false => simp [h hb]
  simp only [atomicChecks, firstErr, hword, Bool.false_eq_true, if_false]

/-- FETCH_ADD and CMP_SWAP send their ATOMIC_REQ (R309, R316). -/
theorem completes_atomic {s : State} {id op : Nat} {i : Instr} {c : Ctx} {q : Queue} {k : Conn}
    (hi : (i, op) ∈ [(Instr.fetchAdd id, 3), (.cmpSwap id, 4)]) (h : Requested s id op c q)
    (ho : StreamOpen s c k 16 [(8, 4), (20, 4), (48, if op = 3 then 8 else 16),
      (if bit (field c.record 1 1) 4 then (44, 4) else (32, 8))])
    (hword : bit (field c.record 1 1) 4 = false → field c.record 32 8 % 8 = 0)
    (hz : bit (field c.record 1 1) 4 = true → k.version ≠ 1) :
    Completes (exec i s) fun u => Streams s u id k [atomicPacket id (op - 2) (syncTarget c.record) c.record] := by
  simp only [List.mem_cons, Prod.mk.injEq, List.not_mem_nil, or_false] at hi
  obtain ⟨rfl, rfl⟩ | ⟨rfl, rfl⟩ := hi
  · show Completes (execFetchAdd id s) _
    rw [execFetchAdd]
    exact completes_dataRequest h ho (atomicChecked hword) hz
  · show Completes (execCmpSwap id s) _
    rw [execCmpSwap]
    exact completes_dataRequest h ho (atomicChecked hword) hz

theorem atomicPacket_signal (id : Nat) (r : Bytes) : atomicPacket id 3 true r = txPacket 0x03 0
    (slice r 44 4 ++ zeros 4 ++ slice r 20 4 ++ [3] ++ slice r 3 1 ++ [1, 0] ++ slice r 48 16) 0 0 (some id) := by
  have hop : toLe 1 3 = [3] := by decide
  have hsync : toLe 1 (b2n true) = [1] := by decide
  simp [atomicPacket, hop, hsync]

theorem completes_signal {s : State} {id : Nat} {c : Ctx} {q : Queue} {k : Conn} (h : Requested s id 0x05 c q)
    (ho : StreamOpen s c k 0 [(3, 1), (8, 4), (20, 4), (44, 12)]) (hz : k.version ≠ 1) (h1 : 1 ≤ field c.record 3 1)
    (h6 : field c.record 3 1 ≤ 6) :
    Completes (exec (.signal id) s) fun u => Streams s u id k [txPacket 0x03 0 (slice c.record 44 4 ++ zeros 4 ++
      slice c.record 20 4 ++ [3] ++ slice c.record 3 1 ++ [1, 0] ++ slice c.record 48 16) 0 0 (some id)] := by
  rw [← atomicPacket_signal]
  show Completes (execSignal id s) _
  rw [execSignal]
  refine completes_dataRequest h ho ?_ fun _ => hz
  simp only [firstErr, remoteOpBad_eq_false h1 h6, Bool.false_eq_true, if_false]

theorem completes_wait {s : State} {id : Nat} {c : Ctx} {q : Queue} (h : Requested s id 0x06 c q)
    (hv : workReserved c.record 0 [(48, 8)] = none) :
    Completes (exec (.wait id) s) fun u => Ended u id 0 0 ∧ SameBytes s u := by
  show Completes (execWait id s) _
  rw [execWait, onCtx_of_requested h]
  simp only [hv, completes_commit]
  exact ⟨ended_finishZt h.ctx h.unfinished _ _, sameBytes_stored _ _ (State.finishZt_mem _ _ _ _)⟩

/-! ### Connections (R292, R293, R295, R297) -/

/-- The end of a CONN_CREATE, with the connection that it made or with the reason that it made none (R295). -/
def State.endCreate (s : State) (id : Nat) (c : Ctx) (b : Bytes) : State :=
  match s.createConn c b with
  | .error e => s.finishErr id e
  | .ok (t, i) => t.finishZt id stOk i

theorem State.endCreate_of_ok {s t : State} {c : Ctx} {b : Bytes} {i : Nat} (h : s.createConn c b = .ok (t, i)) (id : Nat) :
    s.endCreate id c b = t.finishZt id 0 i := by
  unfold State.endCreate
  simp only [h, stOk]

theorem State.endCreate_of_error {s : State} {c : Ctx} {b : Bytes} {e : Err} (h : s.createConn c b = .error e) (id : Nat) :
    s.endCreate id c b = s.finishErr id e := by
  unfold State.endCreate
  simp only [h]

/-- CONN_CREATE after its checks: its end, and the SECRET zeroed whatever that is. -/
theorem execConnCreate_eq {s : State} {id : Nat} {c : Ctx} {q : Queue} {b : Bytes} (h : Requested s id 0x10 c q)
    (hact : s.contract.activation ≠ 1) (hv : workReserved c.record 0 [(24, 8)] = none)
    (ha : field c.record 24 8 % 64 = 0) (hb : s.readCab c.cabinet (field c.record 24 8) 128 = .ok b) :
    exec (.connCreate id) s =
      s.land (some id) ((s.endCreate id c b).putCab c.cabinet (field c.record 24 8 + 64) (zeros 32)) := by
  show execConnCreate id s = _
  rw [execConnCreate, onCtx_of_requested h]
  simp only [hact, hv, ha, hb, if_false, bne_self_eq_false, Bool.false_eq_true]
  rfl

/-- CONNECT sent below REKEY_PACKETS leaves its connection's stream, and every command. -/
theorem State.sendConnect_keeps {s : State} {i : Nat} {k : Conn} (h : s.conn? i = some k)
    (hk : k.pktsUnderGen + 1 < s.e 0x2603 0) :
    (∃ t csn n t', (s.sendConnect i).conn? i =
      some { k with lastConnect := t, csnTx := csn, pktsUnderGen := n, lastTx := t' }) ∧
    (s.sendConnect i).contract = s.contract := by
  have h1 := State.conn?_updConn (f := fun k => { k with lastConnect := s.now }) h fun _ => rfl
  simp only [State.sendConnect, h]
  obtain ⟨-, hk', hc⟩ := State.sendControl_spec (ty := 0x20)
    (body := toLe 1 k.verMin ++ toLe 1 k.verMax ++ toLe 2 k.mtu ++ zeros 4) h1 hk
  exact ⟨⟨_, _, _, _, hk'⟩, hc⟩

/-- A connection that is made is found, as its descriptor gives it, and no command changes (R295). -/
theorem State.createConn_eq_ok {s t : State} {c : Ctx} {b : Bytes} {i : Nat} (h : s.createConn c b = .ok (t, i))
    (hrekey : 1 < s.e 0x2603 0) :
    t.contract = s.contract ∧ ∃ k, t.conn? i = some k ∧ k.cabinet = c.cabinet ∧
      k.state = (if field b 4 1 = 1 then 1 else 2) ∧ k.secret = slice b 64 32 ∧ k.peerConn = field b 0 4 ∧
      k.mtu = field b 8 2 ∧ k.nxt = 0 ∧ k.expected = 0 := by
  unfold State.createConn at h
  dsimp only at h
  split at h
  · cases h
  split at h
  · cases h
  split at h
  · cases h
  split at h
  · cases h
  · next j hj =>
    cases h
    obtain ⟨cached, use, hk⟩ := State.conn?_addConn (s := s.drawn) (k := s.newConn i c.cabinet b) (pickFree_not_mem hj)
    split
    · obtain ⟨⟨_, _, _, _, hk'⟩, hc⟩ := State.sendConnect_keeps hk hrekey
      exact ⟨hc, _, hk', rfl, rfl, rfl, rfl, rfl, rfl, rfl⟩
    · exact ⟨rfl, _, hk, rfl, rfl, rfl, rfl, rfl, rfl, rfl⟩

theorem completes_connCreate {s t : State} {id i : Nat} {c : Ctx} {q : Queue} {b : Bytes} (h : Requested s id 0x10 c q)
    (hact : s.contract.activation ≠ 1) (hv : workReserved c.record 0 [(24, 8)] = none)
    (ha : field c.record 24 8 % 64 = 0) (hb : s.readCab c.cabinet (field c.record 24 8) 128 = .ok b)
    (hmade : s.createConn c b = .ok (t, i)) (hrekey : 1 < s.e 0x2603 0)
    (hahead : ((t.finishZt id 0 i).putCab c.cabinet (field c.record 24 8 + 64) (zeros 32)).aheadOfCopy = none) :
    Completes (exec (.connCreate id) s) fun u => Ended u id 0 i ∧
      SameBytes ((t.finishZt id 0 i).putCab c.cabinet (field c.record 24 8 + 64) (zeros 32)) u ∧
      ∃ k, u.conn? i = some k ∧ k.cabinet = c.cabinet ∧ k.state = (if field b 4 1 = 1 then 1 else 2) ∧
        k.secret = slice b 64 32 ∧ k.peerConn = field b 0 4 ∧ k.mtu = field b 8 2 ∧ k.nxt = 0 ∧ k.expected = 0 := by
  obtain ⟨hcontract, k, hk, hfacts⟩ := State.createConn_eq_ok hmade hrekey
  obtain ⟨d, hd, hend⟩ := ended_finishZt (s := s) (t := t) ((State.ctx?_congr (by rw [hcontract]) id).trans h.ctx)
    h.unfinished 0 i
  rw [execConnCreate_eq h hact hv ha hb, State.endCreate_of_ok hmade]
  refine (completes_land hahead _).2 ⟨⟨d, ?_, hend⟩, sameBytes_stored_self _ _, k, ?_, hfacts⟩
  · rw [← hd]
    exact State.ctx?_congr (by rw [State.stored_contract, State.putCab_contract, State.stored_contract]) id
  · rw [← hk, State.conn?_stored, ← State.conn?_finishZt t id 0 i i]
    exact State.conn?_congr (by rw [State.putCab_zt]) i

theorem completes_connCreate_refused {s : State} {id : Nat} {c : Ctx} {q : Queue} {b : Bytes} {e : Err}
    (h : Requested s id 0x10 c q) (hact : s.contract.activation ≠ 1)
    (hv : workReserved c.record 0 [(24, 8)] = none) (ha : field c.record 24 8 % 64 = 0)
    (hb : s.readCab c.cabinet (field c.record 24 8) 128 = .ok b) (hfail : s.createConn c b = .error e)
    (hahead : ((s.finishErr id e).putCab c.cabinet (field c.record 24 8 + 64) (zeros 32)).aheadOfCopy = none) :
    Completes (exec (.connCreate id) s) fun u => Ended u id e.status e.detail ∧
      SameBytes ((s.finishErr id e).putCab c.cabinet (field c.record 24 8 + 64) (zeros 32)) u := by
  obtain ⟨d, hd, hend⟩ := ended_finishErr (s := s) h.ctx h.unfinished e
  rw [execConnCreate_eq h hact hv ha hb, State.endCreate_of_error hfail]
  refine (completes_land hahead _).2 ⟨⟨d, ?_, hend⟩, sameBytes_stored_self _ _⟩
  rw [← hd]
  exact State.ctx?_congr (by rw [State.stored_contract, State.putCab_contract, State.stored_contract]) id

/-- A connection in CLOSING with nothing to send: its first CLOSE goes out once everything sent is acknowledged (R297). -/
theorem State.tryClose_spec {s : State} {i : Nat} {k : Conn} (h : s.conn? i = some k) (hs : k.state = 4)
    (hq : k.sendQueue = []) (hk : k.pktsUnderGen + 1 < s.e 0x2603 0) :
    (s.tryClose i).contract = s.contract ∧ (∃ k', (s.tryClose i).conn? i = some k' ∧ k'.state = 4) ∧
    (k.tx ≠ [] → (s.tryClose i).zt.sent = s.zt.sent) ∧
    (k.tx = [] → k.firstClose = none → ∃ f, (s.tryClose i).zt.sent = f :: s.zt.sent ∧ f.conn = i ∧ f.ty = 0x22 ∧
      f.body = toLe 4 k.nxt.toNat ++ zeros 4) := by
  unfold State.tryClose
  simp only [h]
  split
  · next hcond =>
    have htx : k.tx = [] := by
      simp only [Bool.and_eq_true, List.isEmpty_iff] at hcond
      obtain ⟨⟨⟨-, htx⟩, -⟩, -⟩ := hcond
      exact htx
    have h1 := State.conn?_updConn (f := fun k =>
      { k with firstClose := some s.now, lastConnect := s.now, closeEvery := s.e 0x2602 2 }) h fun _ => rfl
    obtain ⟨hframe, hk', hc⟩ := State.sendControl_spec (ty := 0x22) (body := toLe 4 k.nxt.toNat ++ zeros 4) h1 hk
    exact ⟨hc, ⟨_, hk', hs⟩, fun hne => absurd htx hne, fun _ _ => hframe⟩
  · next hcond =>
    refine ⟨rfl, ⟨k, h, hs⟩, fun _ => rfl, fun htx hfirst => absurd ?_ hcond⟩
    simp [hs, htx, hq, hfirst]

/-- CONN_CLOSE (R295, R297). -/
theorem completes_connClose {s : State} {id : Nat} {c : Ctx} {q : Queue} {k : Conn} (h : Requested s id 0x11 c q)
    (hv : workReserved c.record 0 [(8, 4)] = none) (hk : s.connOf c.cabinet (field c.record 8 4) = some k)
    (hs : k.state = 3) (hcached : k.cached = true) (hq : k.sendQueue = []) (hgen : k.pktsUnderGen + 1 < s.e 0x2603 0) :
    Completes (exec (.connClose id) s) fun u => Ended u id 0 0 ∧ SameBytes s u ∧
      (∃ k', u.conn? k.index = some k' ∧ k'.state = 4) ∧ (k.tx ≠ [] → u.zt.sent = s.zt.sent) ∧
      (k.tx = [] → k.firstClose = none → ∃ f, u.zt.sent = f :: s.zt.sent ∧ f.conn = k.index ∧ f.ty = 0x22 ∧
        f.body = toLe 4 k.nxt.toNat ++ zeros 4) := by
  obtain ⟨hconn, hindex, -⟩ := State.connOf_conn hk
  rw [← hindex] at hconn
  have h1 := State.conn?_updConn (f := fun k => { k with state := 4 }) hconn fun _ => rfl
  obtain ⟨hcontract, ⟨k', hk', hs'⟩, hkept, hclose⟩ := State.tryClose_spec h1 rfl hq hgen
  have hrun : (s.updConn k.index fun k => { k with state := 4 }).runSender k.index =
      (s.updConn k.index fun k => { k with state := 4 }).tryClose k.index := by
    rw [State.runSender, State.pump_empty h1 hq]
  show Completes (execConnClose id s) _
  rw [execConnClose, onCtx_of_requested h]
  simp only [hv]
  rw [onConn_of_cached hk (by simp [hs]) hcached, completes_commit, hrun]
  refine ⟨ended_finishZt ((State.ctx?_congr (by rw [hcontract]; rfl) id).trans h.ctx) h.unfinished _ _,
    sameBytes_stored _ _ (by rw [State.finishZt_mem, State.tryClose_mem, State.updConn_mem]),
    ⟨k', by rw [State.conn?_stored, State.conn?_finishZt, hk'], hs'⟩, ?_, ?_⟩
  · rw [State.stored_zt, State.finishZt_zt]
    exact hkept
  · rw [State.stored_zt, State.finishZt_zt]
    exact hclose

/-- CONN_DESTROY (R295). -/
theorem completes_connDestroy {s : State} {id : Nat} {c : Ctx} {q : Queue} {k : Conn} (h : Requested s id 0x12 c q)
    (hv : workReserved c.record 0 [(8, 4)] = none) (hk : s.connOf c.cabinet (field c.record 8 4) = some k)
    (hcached : k.cached = true) (hjobs : s.zt.jobs = []) :
    Completes (exec (.connDestroy id) s) fun u => Ended u id 0 0 ∧ u.conn? k.index = none ∧ SameBytes s u ∧
      ∀ j, j ≠ k.index → u.conn? j = s.conn? j := by
  show Completes (execConnDestroy id s) _
  rw [execConnDestroy, onCtx_of_requested h]
  simp only [hv]
  rw [onConn_of_cached hk rfl hcached, completes_commit, State.settleJobs_nil (by rw [State.finishZt_zt]; exact hjobs)]
  refine ⟨ended_finishZt (t := s.freeConn k.index) h.ctx h.unfinished _ _, ?_,
    sameBytes_stored _ _ (State.finishZt_mem _ _ _ _), fun j hj => ?_⟩
  · rw [State.conn?_stored, State.conn?_finishZt]
    exact List.find?_eq_none.2 fun x hx => by simpa using (List.mem_filter.1 hx).2
  · rw [State.conn?_stored, State.conn?_finishZt]
    show List.find? _ (List.filter _ _) = _
    rw [List.find?_filter, State.conn?]
    congr 1
    funext x
    by_cases hx : x.index = j <;> simp [hx, hj]

/-- CONN_REKEY (R293, R298). -/
theorem completes_connRekey {s : State} {id : Nat} {c : Ctx} {q : Queue} {k : Conn} (h : Requested s id 0x13 c q)
    (hv : workReserved c.record 0 [(8, 4)] = none) (hk : s.connOf c.cabinet (field c.record 8 4) = some k)
    (hcached : k.cached = true) :
    (k.version = 1 → Completes (exec (.connRekey id) s) fun u => Ended u id stBadField 0x8000) ∧
    (k.version ≠ 1 → Completes (exec (.connRekey id) s) fun u => Ended u id 0 (k.genTx + 1) ∧ SameBytes s u ∧
      u.conn? k.index = some { k with genTx := k.genTx + 1, pktsUnderGen := 0 } ∧
      u.e 0x2603 2 = (s.e 0x2603 2 + 1) % 2 ^ 64) := by
  obtain ⟨hconn, hindex, -⟩ := State.connOf_conn hk
  rw [← hindex] at hconn
  have hrun : exec (.connRekey id) s = if k.version = 1 then s.commit (s.finishErr id (errField 0x8000))
      else s.commit (((s.updConn k.index fun x => { x with genTx := k.genTx + 1, pktsUnderGen := 0 }).bump 0x2603 2
        1).finishZt id stOk (k.genTx + 1)) := by
    show execConnRekey id s = _
    rw [execConnRekey, onCtx_of_requested h]
    simp only [hv]
    rw [onConn_of_cached hk rfl hcached]
  refine ⟨fun h1 => ?_, fun h1 => ?_⟩
  · rw [hrun, if_pos h1, completes_commit]
    exact ended_finishErr h.ctx h.unfinished _
  · rw [hrun, if_neg h1, completes_commit]
    refine ⟨ended_finishZt ((State.ctx?_congr (by rw [State.bump_def, State.bumpEnt_contract]; rfl) id).trans h.ctx)
      h.unfinished _ _, sameBytes_stored _ _ (by rw [State.finishZt_mem, State.bump_def, State.bumpEnt_mem]; rfl), ?_,
      State.e_of_bump (s := s) (w := 64) ?_ (by decide)⟩
    · rw [State.conn?_stored, State.conn?_finishZt, State.bump_conn?]
      exact State.conn?_updConn (f := fun x => { x with genTx := k.genTx + 1, pktsUnderGen := 0 }) hconn fun _ => rfl
    · rw [State.stored_dict, State.finishZt_dict]
      rfl

/-! ### Regions (R321, R322, R324) -/

/-- TAG skips 0 (R321). -/
theorem State.nextTag_ne_zero (s : State) (i : Nat) : s.nextTag i ≠ 0 := by
  unfold State.nextTag
  dsimp only
  split
  · exact Nat.one_ne_zero
  · assumption

/-- REG (R321, R322). -/
theorem completes_reg {s : State} {id i : Nat} {c : Ctx} {q : Queue} (h : Requested s id 0x20 c q)
    (hv : workReserved c.record 0 [(8, 4), (24, 8), (48, 16)] = none) (he : s.regErr c = none)
    (hi : pickFree s.freeValue (s.zt.regions.map (·.index)) 0 262144 = some i) :
    Completes (exec (.reg id) s) fun u => Ended u id 0 (s.nextTag i * 2 ^ 18 + i) ∧ SameBytes s u ∧
      u.region? i = some
        { index := i, tag := s.nextTag i, cabinet := c.cabinet, isClosing := false, base := field c.record 24 8
          len := field c.record 48 8, rights := field c.record 56 8
          bound := if field c.record 8 4 = 0xFFFFFFFF then none else some (field c.record 8 4)
          inFlight := 0, revokeCtx := none } := by
  have hnone : s.zt.regions.find? (fun r => r.index == i) = none :=
    List.find?_eq_none.2 fun r hr hx => pickFree_not_mem hi (List.mem_map.2 ⟨r, hr, by simpa using hx⟩)
  show Completes (execReg id s) _
  rw [execReg, onCtx_of_requested h]
  simp only [hv, he, hi, completes_commit]
  refine ⟨ended_finishZt ?_ h.unfinished _ _, sameBytes_stored _ _ (State.finishZt_mem _ _ _ _), ?_⟩
  · exact h.ctx
  · rw [State.region?, State.stored_zt, State.finishZt_zt, List.find?_append, hnone, Option.none_or]
    simp

/-- A region after it is changed by a function that keeps its index. -/
theorem State.region?_updRegion (s : State) (i : Nat) {f : ZtRegion → ZtRegion} (hf : ∀ r, (f r).index = r.index) :
    (s.updRegion i f).region? i = (s.region? i).map f :=
  find?_updWhere _ _ _ fun r hr => by rw [hf]; exact hr

/-- REVOKE (R313, R324). -/
theorem completes_revoke {s : State} {id : Nat} {c : Ctx} {q : Queue} {r : ZtRegion} (h : Requested s id 0x21 c q)
    (hv : workReserved c.record 0 [(20, 4)] = none) (hr : s.region? (rkeyIndex (field c.record 20 4)) = some r)
    (hw : r.revokeCtx = none) :
    (r.tag = rkeyTag (field c.record 20 4) → r.cabinet = c.cabinet → r.isClosing = false →
      Completes (exec (.revoke id) s) fun u => SameBytes s u ∧ u.ctx? id = some c ∧
        u.region? (rkeyIndex (field c.record 20 4)) = some { r with isClosing := true, revokeCtx := some id }) ∧
    (r.tag ≠ rkeyTag (field c.record 20 4) ∨ r.isClosing = true →
      Completes (exec (.revoke id) s) fun u => Ended u id stStateConflict 0x0521) := by
  have hrun : exec (.revoke id) s =
      if r.tag != rkeyTag (field c.record 20 4) || r.cabinet != c.cabinet || r.isClosing then
        s.commit (s.finishErr id (errState 5 0x21))
      else s.quiet (s.updRegion r.index fun r => { r with isClosing := true, revokeCtx := some id }) := by
    show execRevoke id s = _
    rw [execRevoke, onCtx_of_requested h]
    simp only [hv, hr, hw, reduceCtorEq, if_false]
  refine ⟨fun htag hcab hopen => ?_, fun hbad => ?_⟩
  · have hindex : r.index = rkeyIndex (field c.record 20 4) := by simpa using List.find?_some hr
    rw [hrun, if_neg (by simp [htag, hcab, hopen]), completes_quiet, hindex]
    refine ⟨sameBytes_of_mem _ _ rfl, h.ctx, ?_⟩
    exact (State.region?_updRegion s _ (f := fun r => { r with isClosing := true, revokeCtx := some id })
      fun _ => rfl).trans (by rw [hr, Option.map_some, hindex])
  · rw [hrun, if_pos (by obtain htag | hclosing := hbad <;> simp [*]), completes_commit]
    exact ended_finishErr h.ctx h.unfinished _

/-- The end of a revocation: the region is FREE and its REVOKE ends (R324). -/
theorem completes_regionDrained {s : State} {i id : Nat} {r : ZtRegion} {c : Ctx} (hr : s.region? i = some r)
    (hclosing : r.isClosing = true) (hdrained : r.inFlight = 0) (hruns : s.ztRuns = true)
    (hw : r.revokeCtx = some id) (hc : s.ctx? id = some c) (hf : c.finished = false) :
    Completes (exec (.regionDrained i) s) fun u => u.region? i = none ∧ Ended u id 0 0 ∧ SameBytes s u := by
  show Completes (execRegionDrained i s) _
  simp only [execRegionDrained, hr, hclosing, hdrained, hruns, hw, Bool.not_true, bne_self_eq_false, Bool.or_self,
    Bool.false_eq_true, if_false, completes_quiet]
  refine ⟨?_, ended_finishZt (s := s) ?_ hf 0 0, sameBytes_of_mem _ _ rfl⟩
  · rw [State.region?, State.unstored_zt, State.finishZt_zt]
    exact List.find?_eq_none.2 fun x hx => by simpa using (List.mem_filter.1 hx).2
  · exact hc

/-- A READ of a connection that it may not use, or not yet (R313). -/
theorem completes_read_unopened {s : State} {id : Nat} {c : Ctx} {q : Queue} (h : Requested s id 0x02 c q)
    (hi : c.issued = false) (hv : workReserved c.record 0 [(8, 4), (20, 24)] = none) (h0 : 0 < field c.record 40 4)
    (h1 : field c.record 40 4 ≤ 2 ^ 30) :
    (∀ e, dataRefusal (s.connOf c.cabinet (field c.record 8 4)) = some e →
      Completes (exec (.read id) s) fun u => Ended u id e.status e.detail) ∧
    (∀ k, s.connOf c.cabinet (field c.record 8 4) = some k → k.state = 2 → k.cached = true →
      Completes (exec (.read id) s) fun u => u.ctx? id = some c) := by
  have hchk := lengthChecked h0 h1
  show (∀ e, _ → Completes (execRead id s) _) ∧ ∀ k, _ → _ → _ → Completes (execRead id s) _
  rw [execRead]
  exact ⟨fun e he => completes_dataRequest_refused h hi hv hchk he,
    fun k hk hs hc => completes_dataRequest_waits h hi hv hchk hk hs hc⟩

/-- Settles O32, a lemma for each command: what its checks pass, what it makes of its connection or region, and its end. -/
theorem workRequestsComplete : Obligations.WorkRequestsComplete := by
  refine ⟨?write, ?read, ?atomic, ?signal, ?unopened, ?wait, ?create, ?createRefused, ?close, ?destroy, ?rekey, ?reg,
    ?revoke, ?drained⟩
  case write =>
    rintro s id c q k r ext h rfl ho h0 h1 hsig rfl
    exact completes_write h ho h0 h1 hsig
  case read =>
    rintro s id c q k r h rfl ho h0 h1
    exact completes_read h ho h0 h1
  case atomic =>
    rintro s id op i c q k r hi h rfl ho hword hz
    exact completes_atomic hi h ho hword hz
  case signal =>
    rintro s id c q k r h rfl ho hz h1 h6
    exact completes_signal h ho hz h1 h6
  case unopened =>
    intro s id c q h hi hv h0 h1
    obtain ⟨hrefused, hwaits⟩ := completes_read_unopened h hi hv h0 h1
    refine ⟨fun hk => ?_, fun k hk => ⟨fun hs => ?_, fun hs => ?_, hwaits k hk⟩⟩
    · exact hrefused (errState 5 0x20) (by rw [hk]; rfl)
    · refine hrefused (errState 5 0x20) ?_
      obtain hs | hs | hs := hs <;> simp [dataRefusal, hk, hs]
    · exact hrefused (errPlain stPeerTimeout) (by simp [dataRefusal, hk, hs])
  case wait => exact fun s id c q h hv => completes_wait h hv
  case create =>
    rintro s t id a i c q b h hact hv rfl ha hb hmade hrekey hahead
    exact completes_connCreate h hact hv ha hb hmade hrekey hahead
  case createRefused =>
    rintro s id a c q b e h hact hv rfl ha hb hfail hahead
    exact completes_connCreate_refused h hact hv ha hb hfail hahead
  case close => exact fun s id c q k h hv hk hs hc hq hgen => completes_connClose h hv hk hs hc hq hgen
  case destroy => exact fun s id c q k h hv hk hc hjobs => completes_connDestroy h hv hk hc hjobs
  case rekey => exact fun s id c q k h hv hk hc => completes_connRekey h hv hk hc
  case reg =>
    intro s id i c q h hv he hi
    exact (completes_reg h hv he hi).imp fun u ⟨hend, hbytes, hregion⟩ =>
      ⟨hend, hbytes, s.nextTag_ne_zero i, _, hregion, rfl, rfl, rfl, rfl, rfl, rfl, rfl⟩
  case revoke =>
    rintro s id key c q r h hv rfl hr hw
    exact completes_revoke h hv hr hw
  case drained =>
    exact fun s i id r c hr hclosing hdrained hruns hw hc hf => completes_regionDrained hr hclosing hdrained hruns hw hc hf

end Sys2Proof.Machine

namespace Sys2Proof.Machine

/-! ### A connection that stands twice in the table (R301, R306) -/

/-- A packet that is held for connection 9, one cell of the reorder half. -/
def heldPacket : RxPacket := { psn := 5, ty := 1, flags := 0, body := [], checked := none }

/-- Connection 9: ZT 2, ESTABLISHED, cached, with PSN 0 expected and PSN 5 held. -/
def holdingConn : Conn :=
  { (default : Conn) with
    index := 9, state := 3, version := 2, cached := true, reorder := [heldPacket] }

/-- The packet with PSN 6 of its peer, authenticated. -/
def aheadPacket : ZtIn :=
  { conn := 9, srcConn := 0, srcIp := [], version := 2, flags := 0, keyGen := 0, seqNo := 6, attempt := 0, auth := true
    body := [] }

/-- A state whose table lists connection 9 twice, the second time with no packet held; the reorder half has two cells. -/
def listedTwice : State :=
  { State.reset with
    transform := { State.reset.transform with benchTransport := 1024 }
    zt := { State.reset.zt with conns := [holdingConn, { holdingConn with reorder := [] }] } }

/-- How many packets a connection holds in the state that a command answers. -/
def heldAfter (o : Result) (i : Nat) : Option Nat :=
  match o with
  | .next u => (u.conn? i).map fun k => k.reorder.length
  | _ => none

/-- A cell is free before the packet arrives. -/
theorem listedTwice_room :
    listedTwice.reorderCells + cellsOf (36 + aheadPacket.body.length) ≤ listedTwice.halfCells := by decide

theorem listedTwice_arrives : Arrives listedTwice 0x01 aheadPacket holdingConn :=
  ⟨rfl, rfl, rfl, fun _ h => absurd h List.not_mem_nil, by decide, by decide, rfl, by decide, rfl⟩

/-- Both entries take the received connection's place, its held packet counts twice, and the new packet is dropped. -/
theorem listedTwice_heldAfter : heldAfter (exec (.writePacket aheadPacket) listedTwice) 9 = some 1 := by decide +kernel

/-- Refutes O33: nothing in it says that the table lists a connection once.  A packet ahead of its stream that finds a free
cell of the reorder half is not held when its connection is listed twice: the connection's update writes both entries before
the cells are counted. -/
theorem not_receivedPacketsComplete : ¬ Obligations.ReceivedPacketsComplete := by
  rintro ⟨-, -, hstream, -⟩
  obtain ⟨-, -, hahead⟩ := hstream listedTwice aheadPacket holdingConn (.writePacket aheadPacket) 0x01 (by simp)
    listedTwice_arrives (.inl rfl)
  obtain ⟨hheld, -⟩ := hahead (by decide) (by decide) (by decide)
  obtain ⟨u, hu, -, k', hk, -, hreorder⟩ := hheld listedTwice_room
  have hafter := listedTwice_heldAfter
  have hconn : u.conn? 9 = some k' := hk
  rw [hu, heldAfter, hconn, Option.map_some, hreorder] at hafter
  exact absurd hafter (by decide)

/-! ### A counter that holds more than its width (R302) -/

/-- Connection 9, its context being fetched. -/
def fetchingConn : Conn := { (default : Conn) with index := 9, fetching := true }

/-- A fetch from a fenced backing store with no packet waiting; the count of dropped packets holds 2 ^ 64. -/
def overfullCount : State :=
  { State.reset with
    dict := [(0x260106, 2 ^ 64), (0x400402, 2)]
    tiers := { State.reset.tiers with backingInGddr := false }
    zt := { State.reset.zt with conns := [fetchingConn] } }

/-- The count of packets dropped from the miss bench in the state that a command answers. -/
def missDrops (o : Result) : Nat :=
  match o with
  | .next u => u.e 0x2601 6
  | _ => 0

/-- A failed fetch that drops no packet leaves the count as it was. -/
theorem overfullCount_missDrops : missDrops (exec (.contextFetch 9) overfullCount) = 2 ^ 64 := by decide +kernel

/-- Refutes O34: nothing in it says that an entry of the dictionary is below 2 to its width.  A failed fetch with no packet in
the miss bench does not touch the count of drops, where the statement gives it modulo 2 ^ 64. -/
theorem not_connectionTimersComplete : ¬ Obligations.ConnectionTimersComplete := by
  rintro ⟨-, hconn, -⟩
  obtain ⟨-, -, -, -, hfetch⟩ := hconn overfullCount 9 fetchingConn rfl rfl rfl
  obtain ⟨-, hfenced⟩ := hfetch rfl (by decide)
  obtain ⟨u, hu, -, hcount, -⟩ := hfenced rfl (by decide +kernel)
  have hafter := overfullCount_missDrops
  rw [hu, missDrops, hcount] at hafter
  exact absurd hafter (by decide +kernel)

end Sys2Proof.Machine

/-! PROOFS of the groups: what a group message on its way can change, a data operation at its group, the commands and
messages of the formation, and the obligation on them. -/

namespace Sys2Proof.Machine

/-! ### Groups in the table of slots -/

theorem State.group?_congr {s t : State} (h : t.coll.groups = s.coll.groups) (i : Nat) : t.group? i = s.group? i := by
  unfold State.group?
  rw [h]

@[simp] theorem State.group?_putCab (s : State) (c a : Nat) (bs : Bytes) (i : Nat) :
    (s.putCab c a bs).group? i = s.group? i := State.group?_congr (by rw [State.putCab_coll]) i

/-- A group after it is replaced. -/
theorem State.group?_updGroup {s : State} {i : Nat} {g : Group} (h : s.group? i = some g) {f : Group → Group}
    (hf : ∀ x, (f x).slot = x.slot) : (s.updGroup i f).group? i = some (f g) := by
  have hfound := find?_updWhere (fun x : Group => x.slot == i) f s.coll.groups fun x hx => by simpa [hf] using hx
  rw [show s.coll.groups.find? (fun x => x.slot == i) = some g from h] at hfound
  exact hfound

@[simp] theorem State.updGroup_contract (s : State) (i : Nat) (f : Group → Group) :
    (s.updGroup i f).contract = s.contract := rfl

/-- No group is left in a slot that becomes FREE (R342). -/
theorem State.group?_leaveGroup (s : State) (i : Nat) : (s.leaveGroup i).group? i = none := by
  have hset : ∀ t : State, (t.dropSet i).group? i = t.group? i := fun t =>
    State.group?_congr (by unfold State.dropSet; split <;> rfl) i
  rw [State.leaveGroup, hset]
  unfold State.freeGroup
  split
  · assumption
  · exact List.find?_eq_none.2 fun x hx => by simpa using (List.mem_filter.1 hx).2

/-- A slot that becomes FREE leaves queues, objects and started commands alone. -/
@[simp] theorem State.leaveGroup_contract (s : State) (i : Nat) : (s.leaveGroup i).contract = s.contract := by
  have hset : ∀ t : State, (t.dropSet i).contract = t.contract := fun t => by unfold State.dropSet; split <;> rfl
  rw [State.leaveGroup, hset]
  unfold State.freeGroup
  split
  · rfl
  · next g _ =>
    have hcut : (g.others.foldl (fun (s : State) m => s.cutConn (g.conn m)) s).contract = s.contract :=
      foldl_keeps State.contract _ _ _ fun _ _ => rfl
    dsimp only
    split
    · exact hcut
    · exact hcut

/-- A command that has ended has ended in every state with the same started commands. -/
theorem Ended.congr {t u : State} {id st d : Nat} (h : Ended t id st d) (hc : u.contract.ctxs = t.contract.ctxs) :
    Ended u id st d := by
  obtain ⟨c, hid, hend⟩ := h
  exact ⟨c, (State.ctx?_congr hc id).trans hid, hend⟩

/-! ### The end of a GROUP_JOIN (R333) -/

theorem State.endJoin_of_ctx {s : State} {slot id : Nat} {g : Group} (hg : s.group? slot = some g)
    (hj : g.joinCtx = some id) (st d : Nat) :
    s.endJoin slot st d = ((s.finish id st d []).updGroup slot fun g => { g with joinCtx := none }).putCab g.cabinet
      (g.descAddr + 48) (zeros 32) := by
  simp only [State.endJoin, hg, hj]

/-- Its group keeps all but the command that waits. -/
theorem State.group?_endJoin {s : State} {slot : Nat} {g : Group} (hg : s.group? slot = some g) (st d : Nat) :
    (s.endJoin slot st d).group? slot = some { g with joinCtx := none } := by
  cases hj : g.joinCtx with
  | none =>
    have hsame : s.endJoin slot st d = s := by simp only [State.endJoin, hg, hj]
    rw [hsame, hg, ← hj]
  | some id =>
    rw [State.endJoin_of_ctx hg hj, State.group?_putCab]
    exact State.group?_updGroup (s := s.finish id st d []) (f := fun g => { g with joinCtx := none }) hg fun _ => rfl

theorem ended_endJoin {s : State} {slot id : Nat} {g : Group} {c : Ctx} (hg : s.group? slot = some g)
    (hj : g.joinCtx = some id) (hc : s.ctx? id = some c) (hf : c.finished = false) (st d : Nat) :
    Ended (s.endJoin slot st d) id st d := by
  rw [State.endJoin_of_ctx hg hj]
  exact (ended_finish (s := s) hc hf st d []).congr (by rw [State.putCab_contract]; rfl)

/-- A GROUP_JOIN that ends with an error takes its group with it: the slot is FREE (R341, R342). -/
theorem completes_endJoin_leave {s t : State} {slot st d : Nat} {g : Group} {who : Option Nat}
    (hg : t.group? slot = some g) (ha : ((t.endJoin slot st d).leaveGroup slot).aheadOfCopy = none) :
    Completes (s.land who ((t.endJoin slot st d).leaveGroup slot)) fun u => u.group? slot = none ∧
      ∀ id c, g.joinCtx = some id → t.ctx? id = some c → c.finished = false → Ended u id st d :=
  (completes_land ha _).2 ⟨State.group?_leaveGroup _ _, fun _ _ hj hc hf =>
    (ended_endJoin hg hj hc hf st d).congr (by rw [State.stored_contract, State.leaveGroup_contract])⟩

/-! ### Messages of the formation (R341) -/

/-- A message that counts reaches its group (R354). -/
theorem onMessage_of_heard {s : State} {m : GroupIn} {g : Group} (h : Heard s m g) (f : Group → Result) :
    s.onMessage m f = f g := by
  obtain ⟨hsafe, hg, hid, hmember, hself, hepoch⟩ := h
  have hcounts : (g.groupId != m.groupId || decide (g.members.length ≤ m.sender) || m.sender == g.self) = false := by
    simp [hid, hmember, hself]
  simp only [State.onMessage, hsafe, hg, hcounts, Nat.not_lt.2 hepoch, Bool.false_eq_true, if_false]

/-- REFUSE (R341). -/
theorem completes_refuse {s : State} {m : GroupIn} {g : Group} (h : Heard s m g) (hs : g.state = 1)
    (ha : ((s.endJoin m.slot stStateConflict (5 * 256 + field m.body 0 1)).leaveGroup m.slot).aheadOfCopy = none) :
    Completes (exec (.refuse m) s) fun u => u.group? m.slot = none ∧
      ∀ id c, g.joinCtx = some id → s.ctx? id = some c → c.finished = false →
        Ended u id stStateConflict (5 * 256 + field m.body 0 1) := by
  show Completes (execRefuse m s) _
  rw [execRefuse, onMessage_of_heard h]
  simp only [hs, bne_self_eq_false, Bool.false_eq_true, if_false]
  obtain ⟨-, hg, -⟩ := h
  exact completes_endJoin_leave hg ha

/-- FORM_TIMEOUT at the acting steward, which knows who has not joined (R341). -/
theorem completes_formTimeout {s : State} {slot n : Nat} {g : Group} (hg : s.group? slot = some g) (hs : g.state = 1)
    (hsafe : s.faults.safe = false) (hlimit : g.joinStart + g.formLimit ≤ s.now)
    (hsteward : g.actingSteward = some g.self) (hn : (g.members.findIdx? fun m => !m.joined) = some n)
    (ha : ((s.drawn.endJoin slot stPeerTimeout (lossDetail 6 n)).leaveGroup slot).aheadOfCopy = none) :
    Completes (exec (.formTimeout slot) s) fun u => u.group? slot = none ∧
      ∀ id c, g.joinCtx = some id → s.ctx? id = some c → c.finished = false →
        Ended u id stPeerTimeout (lossDetail 6 n) := by
  have hdue : (g.state != 1 || s.faults.safe || decide (s.now < g.joinStart + g.formLimit)) = false := by
    simp [hs, hsafe, hlimit]
  show Completes (execFormTimeout slot s) _
  simp only [execFormTimeout, hg, hdue, hsteward, hn, Bool.false_eq_true, if_false, if_true, Option.getD_some]
  exact completes_endJoin_leave (t := s.drawn) hg ha

/-- The first VIEW applied: the group is ACTIVE under its epoch and ranks, and its GROUP_JOIN has ended (R341, R342). -/
theorem State.applyView_spec {s : State} {slot : Nat} {g : Group} (hg : s.group? slot = some g) (epoch : Nat)
    (ranks : List Nat) :
    (s.applyView slot epoch ranks).group? slot =
      some { g with state := 2, epoch := epoch, rankMap := ranks, joinCtx := none } ∧
    ∀ id c, g.joinCtx = some id → s.ctx? id = some c → c.finished = false →
      Ended (s.applyView slot epoch ranks) id 0
        (g.self * 2 ^ 32 + ((ranks.findIdx? fun x => x == g.self).getD 0xFFFF) * 2 ^ 16 + g.slot) := by
  have hview := State.group?_updGroup (f := fun g => { g with state := 2, epoch := epoch, rankMap := ranks }) hg
    fun _ => rfl
  have hsignal : ((s.updGroup slot fun g => { g with state := 2, epoch := epoch, rankMap := ranks }).signalView
      { g with state := 2, epoch := epoch, rankMap := ranks }).group? slot =
      some { g with state := 2, epoch := epoch, rankMap := ranks } :=
    (State.group?_congr (by simp only [State.signalView, State.signalHandle_coll]) slot).trans hview
  simp only [State.applyView, hview]
  refine ⟨State.group?_endJoin hsignal _ _, fun id c hj hc hf => ended_endJoin hsignal hj ?_ hf _ _⟩
  exact (State.ctx?_congr (by simp only [State.signalView, State.signalHandle_ctxs, State.updGroup_contract]) id).trans hc

/-- VIEW (R341, R342). -/
theorem completes_view {s : State} {m : GroupIn} {g : Group} {ranks : List Nat} (h : Heard s m g) (hs : g.state = 1)
    (hranks : ranks = (List.range g.ranks).map (fun r => lookupD ((List.range (field m.body 4 2)).map fun i =>
      (field m.body (6 + 4 * i) 2, field m.body (8 + 4 * i) 2)) r (g.memberAt r)))
    (ha : (s.applyView m.slot (field m.body 0 4) ranks).aheadOfCopy = none) :
    Completes (exec (.view m) s) fun u =>
      (∃ g', u.group? m.slot = some g' ∧ g'.state = 2 ∧ g'.epoch = field m.body 0 4 ∧ g'.rankMap = ranks) ∧
      (∀ id c, g.joinCtx = some id → s.ctx? id = some c → c.finished = false →
        Ended u id 0 (g.self * 2 ^ 32 + ((ranks.findIdx? fun x => x == g.self).getD 0xFFFF) * 2 ^ 16 + g.slot)) ∧
      SameBytes (s.applyView m.slot (field m.body 0 4) ranks) u := by
  show Completes (execView m s) _
  rw [execView, onMessage_of_heard h]
  simp only [hs, bne_self_eq_false, Bool.false_eq_true, if_false, ← hranks]
  obtain ⟨-, hg, -⟩ := h
  obtain ⟨hview, hend⟩ := State.applyView_spec hg (field m.body 0 4) ranks
  exact (completes_land ha _).2 ⟨⟨_, hview, rfl, rfl, rfl⟩, fun id c hj hc hf => (hend id c hj hc hf).congr rfl,
    sameBytes_stored_self _ _⟩

/-! ### What the sender of ZT leaves of the groups -/

theorem State.scramblePiece_coll (s : State) (b : Bool) (d n : Nat) : (s.scramblePiece b d n).coll = s.coll := by
  unfold State.scramblePiece
  split
  · rfl
  · exact State.store_coll _ _ _

theorem State.scrambleRun_coll (s : State) (cab : Nat) (b : Bool) (a n : Nat) :
    (s.scrambleRun cab b a n).coll = s.coll := by
  refine foldl_keeps State.coll _ _ _ fun s p => ?_
  split
  · rfl
  · rw [State.logWrite_coll, State.scramblePiece_coll]

theorem State.spoil_coll (s : State) (id st : Nat) : (s.spoil id st).coll = s.coll := by
  unfold State.spoil
  split
  · rfl
  · unfold State.scramble
    extract_lets inPlace k t
    split
    · rfl
    · exact foldl_keeps State.coll _ _ _ fun s p => State.scrambleRun_coll _ _ _ _ _

theorem State.reportErr_coll (s : State) (id : Nat) (e : Err) : (s.reportErr id e).coll = s.coll := by
  unfold State.reportErr
  split
  · exact State.reportUe_coll _ _ _
  · split
    · exact State.note_coll _ _ _ _ _ _
    · split
      · exact State.note_coll _ _ _ _ _ _
      · rfl

/-- A command that ends with an error leaves the groups alone. -/
@[simp] theorem State.finishErr_coll (s : State) (id : Nat) (e : Err) : (s.finishErr id e).coll = s.coll := by
  show ((((s.reportErr id e).dropReads id).spoil id e.status)).coll = s.coll
  rw [State.spoil_coll]
  exact State.reportErr_coll s id e

@[simp] theorem State.updConn_coll (s : State) (i : Nat) (f : Conn → Conn) : (s.updConn i f).coll = s.coll := rfl

@[simp] theorem State.updJob_coll (s : State) (i : Option Nat) (f : PoolJob → PoolJob) : (s.updJob i f).coll = s.coll := by
  unfold State.updJob; split <;> rfl

@[simp] theorem State.sendFrame_coll (s : State) (p u v : Nat) (b : Bytes) : (s.sendFrame p u v b).coll = s.coll := by
  unfold State.sendFrame State.enqueue; split <;> rfl

@[simp] theorem State.failConn_coll (s : State) (i : Nat) : (s.failConn i).coll = s.coll := by
  unfold State.failConn
  simp only
  rw [foldl_keeps State.coll _ _ _ fun s c => by simp]
  simp

@[simp] theorem State.noteSent_coll (s : State) (p : TxPacket) (psn : BitVec 32) : (s.noteSent p psn).coll = s.coll := by
  unfold State.noteSent; split <;> simp

/-! ### A packet handed to the packet path -/

/-- A connection after any connection is changed by a function that keeps its number. -/
theorem State.conn?_updConn_any (s : State) (i j : Nat) {f : Conn → Conn} (h : ∀ k, (f k).index = k.index) :
    (s.updConn i f).conn? j = (s.conn? j).map fun k => if k.index == i then f k else k := by
  unfold State.conn? State.updConn updWhere
  exact find?_map_keep _ _ _ (by intro x; split <;> simp [h])

/-- Nothing that waits on a connection belongs to a command or is read from memory: what groups send (R353). -/
def Conn.plain (k : Conn) : Prop := ∀ p ∈ k.sendQueue, p.ctx = none ∧ p.payloadLen = 0

/-- What sending on connection i can do to a state: memory and the counters of the collectives stay, connections keep their
version and send nothing new, and commands end only where a connection of ZT 1 fails (R298). -/
structure Transmits (i : Nat) (s t : State) : Prop where
  mem : t.mem = s.mem
  ent : ∀ j < 256, t.ent 0 0x2720 j = s.ent 0 0x2720 j
  conn : ∀ j k', t.conn? j = some k' → ∃ k, s.conn? j = some k ∧ k'.version = k.version ∧ (k.plain → k'.plain)
  contract : (∀ k, s.conn? i = some k → k.version ≠ 1) → t.contract = s.contract

theorem Transmits.refl (i : Nat) (s : State) : Transmits i s s :=
  ⟨rfl, fun _ _ => rfl, fun _ k h => ⟨k, h, rfl, id⟩, fun _ => rfl⟩

theorem Transmits.trans {i : Nat} {s t u : State} (h : Transmits i s t) (h' : Transmits i t u) : Transmits i s u where
  mem := h'.mem.trans h.mem
  ent j hj := (h'.ent j hj).trans (h.ent j hj)
  conn j k'' hk'' := by
    obtain ⟨k', hk', hv', hp'⟩ := h'.conn j k'' hk''
    obtain ⟨k, hk, hv, hp⟩ := h.conn j k' hk'
    exact ⟨k, hk, hv'.trans hv, hp' ∘ hp⟩
  contract hversion := by
    rw [h'.contract fun k' hk' => ?_, h.contract hversion]
    obtain ⟨k, hk, hv, -⟩ := h.conn i k' hk'
    rw [hv]
    exact hversion k hk

/-- A step that changes no connection, no memory and no command, and no counter of the collectives. -/
theorem Transmits.of_eq {i : Nat} {s t : State} (hmem : t.mem = s.mem) (hconns : t.zt.conns = s.zt.conns)
    (hcontract : t.contract = s.contract) (hent : ∀ j < 256, t.ent 0 0x2720 j = s.ent 0 0x2720 j) : Transmits i s t :=
  ⟨hmem, hent, fun j k h => ⟨k, (State.conn?_congr hconns j) ▸ h, rfl, id⟩, fun _ => hcontract⟩

theorem Transmits.updConn {f : Conn → Conn} (i : Nat) (s : State) (hi : ∀ k, (f k).index = k.index)
    (hv : ∀ k, (f k).version = k.version) (hp : ∀ k, k.plain → (f k).plain) : Transmits i s (s.updConn i f) where
  mem := rfl
  ent _ _ := rfl
  conn j k' h := by
    rw [State.conn?_updConn_any s i j hi, Option.map_eq_some_iff] at h
    obtain ⟨k, hk, rfl⟩ := h
    refine ⟨k, hk, ?_⟩
    split
    · exact ⟨hv k, hp k⟩
    · exact ⟨rfl, id⟩
  contract _ := rfl

/-- The counters of ZT are none of the collectives'. -/
theorem Transmits.bump (i : Nat) (s : State) {idx sub n : Nat} (hidx : idx = 0x2603 ∨ idx = 0x2605) (hsub : sub < 256) :
    Transmits i s (s.bump idx sub n) :=
  .of_eq (by simp) (by simp) (by simp) fun j hj => State.ent_bumpEnt_ne _ _ _ _ _ _ _ _
    (canonEntry_ne_of_index _ _ _ _ _ _ (by decide) hj (by omega) hsub (by omega) (by omega) (by omega))

/-- A connection of ZT 1 that fails (R298, R305). -/
theorem Transmits.failConn {i : Nat} {s : State} {k : Conn} (h : s.conn? i = some k) (hv : k.version = 1) :
    Transmits i s (s.failConn i) := by
  have hfail : Transmits i s
      ((s.updConn i fun k => { k with state := 6, tx := [], sendQueue := [] }).bump 0x2605 5 1) := by
    refine Transmits.trans ?_ (.bump i _ (.inr rfl) (by decide))
    exact .updConn i s (fun _ => rfl) (fun _ => rfl) fun _ _ p hp => absurd hp List.not_mem_nil
  have hmem : (s.failConn i).mem = _ := foldl_keeps State.mem _ _ _ fun _ _ => rfl
  have hdict : (s.failConn i).dict = _ := foldl_keeps State.dict _ _ _ fun _ _ => rfl
  have hzt : (s.failConn i).zt = _ := foldl_keeps State.zt _ _ _ fun _ _ => rfl
  refine ⟨hmem.trans hfail.mem, fun j hj => (State.ent_congr hdict _ _ _).trans (hfail.ent j hj), fun j k' hk' => ?_,
    fun hversion => absurd hv (hversion k h)⟩
  exact hfail.conn j k' ((State.conn?_congr (congrArg _ hzt) j) ▸ hk')

/-- A packet sent is handed to the packet path, and counted under its key generation (R285, R293, R298). -/
theorem State.emitZt_transmits (s : State) (i ty fl : Nat) (n : BitVec 32) (a : Nat) (c : Bool) (b : Bytes) :
    Transmits i s (s.emitZt i ty fl n a c b) := by
  unfold State.emitZt
  split
  · exact .refl i s
  · next k hk =>
    extract_lets version h dg f z s1 s2 s3 m
    have hframe : Transmits i s1 s2 ∧ s2.zt = s1.zt := by
      simp only [s2]
      split
      · exact ⟨.refl i s1, rfl⟩
      · exact ⟨.of_eq (by simp) (by simp) (by simp) fun _ _ => State.ent_congr (by simp) _ _ _, by simp⟩
    have hcount : Transmits i s2 s3 ∧ s3.zt = s2.zt := by
      simp only [s3]
      split
      · exact ⟨.refl i s2, rfl⟩
      · exact ⟨.bump i s2 (.inr rfl) (by decide), by simp⟩
    have hnoted : Transmits i s s1 := .of_eq rfl rfl rfl fun _ _ => rfl
    have hsent : Transmits i s s3 := hnoted.trans (hframe.1.trans hcount.1)
    have hconn : s3.conn? i = some k := (State.conn?_congr (by rw [hcount.2, hframe.2]) i).trans hk
    split
    · exact hsent.trans (.updConn i s3 (fun _ => rfl) (fun _ => rfl) fun _ => id)
    · split
      · next hversion =>
        have hstamped := State.conn?_updConn (f := fun k => { k with pktsUnderGen := m, lastTx := s.now }) hconn fun _ => rfl
        refine Transmits.trans ?_ (.failConn hstamped hversion)
        exact hsent.trans (.updConn i s3 (fun _ => rfl) (fun _ => rfl) fun _ => id)
      · refine Transmits.trans ?_ (.bump i _ (.inl rfl) (by decide))
        exact hsent.trans (.updConn i s3 (fun _ => rfl) (fun _ => rfl) fun _ => id)

theorem State.sendControl_transmits (s : State) (i ty : Nat) (b : Bytes) : Transmits i s (s.sendControl i ty b) := by
  unfold State.sendControl
  split
  · exact .refl i s
  · refine Transmits.trans ?_ (State.emitZt_transmits _ _ _ _ _ _ _ _)
    exact .updConn i s (fun _ => rfl) (fun _ => rfl) fun _ => id

theorem State.tryClose_transmits (s : State) (i : Nat) : Transmits i s (s.tryClose i) := by
  unfold State.tryClose
  split
  · exact .refl i s
  · split
    · refine Transmits.trans ?_ (State.sendControl_transmits _ _ _ _)
      exact .updConn i s (fun _ => rfl) (fun _ => rfl) fun _ => id
    · exact .refl i s

/-- A packet of no command that carries its own bytes is sent as the next PSN. -/
theorem State.sendNext_transmits {s : State} {k : Conn} {p : TxPacket} {rest : List TxPacket}
    (hq : k.sendQueue = p :: rest) (hk : k.plain) : Transmits k.index s (s.sendNext k p rest) := by
  obtain ⟨hctx, hlen⟩ := hk p (by rw [hq]; exact List.mem_cons_self)
  have hrest : ∀ x ∈ rest, x.ctx = none ∧ x.payloadLen = 0 := fun x hx => hk x (by rw [hq]; exact List.mem_cons_of_mem _ hx)
  rw [State.sendNext_of_payload (show s.payloadOf k p = .ok p.body by rw [State.payloadOf, if_pos hlen])]
  have hqueue : Transmits k.index s (s.updConn k.index (Conn.sending rest (s.stamped k p))) :=
    .updConn k.index s (fun _ => rfl) (fun _ => rfl) fun _ _ => hrest
  have hjob : ∀ t : State, Transmits k.index t (t.noteSent p k.nxt) := fun t => by
    unfold State.noteSent State.updJob
    rw [hctx]
    dsimp only
    split <;> exact .of_eq rfl rfl rfl fun _ _ => rfl
  exact (hqueue.trans (hjob _)).trans (State.emitZt_transmits _ _ _ _ _ _ _ _)

theorem State.pump_transmits (n i : Nat) {s : State} (hplain : ∀ k, s.conn? i = some k → k.plain) :
    Transmits i s (s.pump i n) := by
  induction n generalizing s with
  | zero => exact .refl i s
  | succ n ih =>
    unfold State.pump
    split
    · exact .refl i s
    · next k hk =>
      split
      · exact .refl i s
      · next p rest hq =>
        have hsent : Transmits i s (s.sendNext k p rest) :=
          State.conn?_index hk ▸ State.sendNext_transmits hq (hplain k hk)
        have hrest : Transmits i s ((s.sendNext k p rest).pump i n) := hsent.trans (ih fun k' hk' => by
          obtain ⟨k0, hk0, -, hp⟩ := hsent.conn i k' hk'
          exact hp (hplain k0 hk0))
        split
        · exact .refl i s
        · split
          · split
            · exact .refl i s
            · exact hrest
          · exact hrest

/-- Packets of no command join a queue of such packets, and the sender runs. -/
theorem State.queueZt_transmits {s : State} {i : Nat} {ps : List TxPacket} (hps : ∀ p ∈ ps, p.ctx = none ∧ p.payloadLen = 0)
    (hplain : ∀ k, s.conn? i = some k → k.plain) : Transmits i s (s.queueZt i ps) := by
  have hqueue : Transmits i s (s.updConn i fun k => { k with sendQueue := k.sendQueue ++ ps }) :=
    .updConn i s (fun _ => rfl) (fun _ => rfl) fun k hk p hp => (List.mem_append.1 hp).elim (hk p) (hps p)
  refine (hqueue.trans (State.pump_transmits 512 i fun k' hk' => ?_)).trans (State.tryClose_transmits _ _)
  obtain ⟨k, hk, -, hp⟩ := hqueue.conn i k' hk'
  exact hp (hplain k hk)

/-! ### Sending leaves the groups alone, whatever waits on a connection -/

@[simp] theorem State.emitZt_coll (s : State) (i ty fl : Nat) (n : BitVec 32) (a : Nat) (c : Bool) (b : Bytes) :
    (s.emitZt i ty fl n a c b).coll = s.coll := by
  unfold State.emitZt
  split
  · rfl
  · extract_lets version h dg f z s1 s2 s3 m
    have hframe : s2.coll = s.coll := by
      simp only [s2]
      split
      · rfl
      · exact State.sendFrame_coll _ _ _ _ _
    have hsent : s3.coll = s.coll := by
      simp only [s3]
      split
      · exact hframe
      · rw [State.bump_def, State.bumpEnt_coll, hframe]
    split
    · exact hsent
    · split
      · rw [State.failConn_coll]; exact hsent
      · rw [State.bump_def, State.bumpEnt_coll]; exact hsent

@[simp] theorem State.sendControl_coll (s : State) (i ty : Nat) (b : Bytes) : (s.sendControl i ty b).coll = s.coll := by
  unfold State.sendControl; split <;> simp

@[simp] theorem State.tryClose_coll (s : State) (i : Nat) : (s.tryClose i).coll = s.coll := by
  unfold State.tryClose
  split
  · rfl
  · split <;> simp

@[simp] theorem State.sendNext_coll (s : State) (k : Conn) (p : TxPacket) (rest : List TxPacket) :
    (s.sendNext k p rest).coll = s.coll := by
  cases hp : s.payloadOf k p with
  | ok wire => rw [State.sendNext_of_payload hp]; simp
  | error e =>
    simp only [State.sendNext, hp]
    split <;> split <;> simp

@[simp] theorem State.pump_coll (s : State) (i n : Nat) : (s.pump i n).coll = s.coll := by
  induction n generalizing s with
  | zero => rfl
  | succ n ih =>
    unfold State.pump
    split
    · rfl
    · split
      · rfl
      · split
        · rfl
        · split
          · split
            · rfl
            · rw [ih, State.sendNext_coll]
          · exact (ih _).trans (State.sendNext_coll _ _ _ _)

@[simp] theorem State.queueZt_coll (s : State) (i : Nat) (ps : List TxPacket) : (s.queueZt i ps).coll = s.coll := by
  simp [State.queueZt, State.runSender]

/-! ### A group message on its way (R353) -/

/-- The packets of a group message belong to no command until they are given one. -/
theorem groupPackets_plain (mtu channel : Nat) (msg : Bytes) :
    ∀ p ∈ (groupPackets mtu channel msg).map fun p => { p with ctx := none }, p.ctx = none ∧ p.payloadLen = 0 := by
  intro p hp
  obtain ⟨x, hx, rfl⟩ := List.mem_map.1 hp
  obtain ⟨i, -, rfl⟩ := List.mem_map.1 hx
  exact ⟨rfl, rfl⟩

/-- A group message is noted as sent before its packets join their connection's queue. -/
def State.outboxed (s : State) (m : GroupMsg) : State := { s with coll := { s.coll with outbox := m :: s.coll.outbox } }

/-- The bytes of a group message under the header of its channel (R353, R394). -/
def Group.messageBytes (g : Group) (m : GroupMsg) : Bytes := (if m.channel = 0 then g.header m else g.snapHeader m) ++ m.body

theorem State.sendMember_of_conn {s : State} {slot member : Nat} {g : Group} {k : Conn} (hg : s.group? slot = some g)
    (hk : s.conn? (g.conn member) = some k) (ctx : Option Nat) (m : GroupMsg) :
    s.sendMember slot member ctx m = (s.outboxed { m with member := member }).queueZt (g.conn member)
      ((groupPackets k.mtu m.channel (g.messageBytes m)).map fun p => { p with ctx := ctx }) := by
  simp only [State.sendMember, hg, hk, State.conn?_index hk]
  rfl

theorem State.sendMember_of_none {s : State} {slot member : Nat} {g : Group} (hg : s.group? slot = some g)
    (hk : s.conn? (g.conn member) = none) (ctx : Option Nat) (m : GroupMsg) : s.sendMember slot member ctx m = s := by
  simp only [State.sendMember, hg, hk]

/-- A group message leaves the groups as they are. -/
theorem State.sendMember_groups (s : State) (slot member : Nat) (ctx : Option Nat) (m : GroupMsg) :
    (s.sendMember slot member ctx m).coll.groups = s.coll.groups := by
  cases hg : s.group? slot with
  | none => simp only [State.sendMember, hg]
  | some g =>
    cases hk : s.conn? (g.conn member) with
    | none => rw [State.sendMember_of_none hg hk]
    | some k => rw [State.sendMember_of_conn hg hk, State.queueZt_coll]; rfl

theorem State.sendMember_transmits {s : State} {slot member : Nat} {g : Group} (hg : s.group? slot = some g)
    (hplain : ∀ k, s.conn? (g.conn member) = some k → k.plain) (m : GroupMsg) :
    Transmits (g.conn member) s (s.sendMember slot member none m) := by
  cases hk : s.conn? (g.conn member) with
  | none => rw [State.sendMember_of_none hg hk]; exact .refl _ s
  | some k =>
    rw [State.sendMember_of_conn hg hk]
    refine Transmits.trans ?_ (State.queueZt_transmits (groupPackets_plain _ _ _) hplain)
    exact .of_eq rfl rfl rfl fun _ _ => rfl

/-- Messages of no command to the members of a group, over connections of ZT 2 on which no command waits, end no command. -/
theorem State.sendMembers_contract {s : State} {slot : Nat} {g : Group} (ms : List Nat) (hg : s.group? slot = some g)
    (hconns : ∀ j k, s.conn? (g.conn j) = some k → k.plain ∧ k.version ≠ 1) (m : GroupMsg) :
    (s.sendMembers slot ms none m).contract = s.contract := by
  induction ms generalizing s with
  | nil => rfl
  | cons x ms ih =>
    have hsent := State.sendMember_transmits hg (fun k hk => (hconns x k hk).1) m (member := x)
    refine (ih ((State.group?_congr (State.sendMember_groups _ _ _ _ _) slot).trans hg) fun j k' hk' => ?_).trans
      (hsent.contract fun k hk => (hconns x k hk).2)
    obtain ⟨k, hk, hv, hp⟩ := hsent.conn _ k' hk'
    obtain ⟨hplain, hversion⟩ := hconns j k hk
    exact ⟨hp hplain, hv ▸ hversion⟩

/-! ### JOIN at the acting steward (R338, R341) -/

/-- The group with a member that has joined, as the steward sees it. -/
def Group.takesJoin (member : Nat) (g : Group) : Group := g.updMember member fun m => { m with joined := true }

theorem Group.takesJoin_joined (g : Group) {i : Nat} (h : i < g.members.length) :
    ((g.takesJoin i).members.getD i default).joined = true := by
  simp [Group.takesJoin, Group.updMember, updAt, h]

theorem Group.takesJoin_other (g : Group) {i j : Nat} (h : i ≠ j) :
    (g.takesJoin i).members.getD j default = g.members.getD j default := by
  simp only [Group.takesJoin, Group.updMember, updAt, List.getD_eq_getElem?_getD]
  split
  · rfl
  · rw [List.getElem?_set_ne h]

theorem Group.takesJoin_length (g : Group) (i : Nat) : (g.takesJoin i).members.length = g.members.length := by
  simp only [Group.takesJoin, Group.updMember, updAt]
  split
  · rfl
  · exact List.length_set

/-- No VIEW goes out while a member is missing (R341). -/
theorem State.formed_of_missing {s : State} {slot n : Nat} {g : Group} (hg : s.group? slot = some g)
    (hn : n < g.members.length) (hmissing : (g.members.getD n default).joined = false) : s.formed slot = s := by
  have hall : g.members.all (·.joined) = false := by
    rw [List.all_eq_false]
    refine ⟨g.members.getD n default, ?_, by rw [hmissing]; decide⟩
    rw [List.getD_eq_getElem?_getD, List.getElem?_eq_getElem hn, Option.getD_some]
    exact List.getElem_mem hn
  simp only [State.formed, hg, hall, Bool.not_false, Bool.or_true, if_true]

/-- A member joins while another is missing. -/
theorem State.takeJoin_of_missing {s : State} {slot member n : Nat} {g : Group} (hg : s.group? slot = some g)
    (hn : n < g.members.length) (hne : n ≠ member) (hmissing : (g.members.getD n default).joined = false) :
    s.takeJoin slot member = s.updGroup slot (Group.takesJoin member) := by
  refine State.formed_of_missing (State.group?_updGroup (f := Group.takesJoin member) hg fun _ => rfl)
    ((g.takesJoin_length member).symm ▸ hn) ?_
  rw [Group.takesJoin_other g hne.symm, hmissing]

/-- JOIN of a member whose facts are the steward's, while another member is still missing (R341). -/
theorem completes_join {s : State} {m : GroupIn} {g : Group} {n : Nat} (h : Heard s m g) (hs : g.state = 1)
    (hsteward : g.actingSteward = some g.self) (hfacts : m.body.drop 48 = s.joinFacts g) (hn : n < g.members.length)
    (hne : n ≠ m.sender) (hmissing : (g.members.getD n default).joined = false) :
    Completes (exec (.join m) s) fun u => SameBytes s u ∧ u.zt = s.zt ∧
      ∃ g', u.group? m.slot = some g' ∧ g'.state = 1 ∧ (g'.members.getD m.sender default).joined = true := by
  have hforming : (g.state != 1 || g.actingSteward != some g.self) = false := by simp [hs, hsteward]
  show Completes (execJoin m s) _
  rw [execJoin, onMessage_of_heard h]
  obtain ⟨-, hg, -, hmember, -⟩ := h
  simp only [hforming, hfacts, bne_self_eq_false, Bool.false_eq_true, if_false, Bool.and_false, if_true,
    State.takeJoin_of_missing hg hn hne hmissing, completes_commit]
  exact ⟨sameBytes_stored _ _ rfl, rfl, _, State.group?_updGroup (f := Group.takesJoin m.sender) hg fun _ => rfl, hs,
    g.takesJoin_joined hmember⟩

/-- JOIN of a member whose firmware release or format policy is not the steward's, in the mode that asks for it (R338). -/
theorem completes_join_refused {s : State} {m : GroupIn} {g : Group} {k : Conn} (h : Heard s m g) (hs : g.state = 1)
    (hsteward : g.actingSteward = some g.self) (hmode : (m.body.drop 48).take 1 = toLe 1 g.mode) (hm : g.mode = 1)
    (hfacts : m.body.drop 48 ≠ s.joinFacts g) (hk : s.conn? (g.conn m.sender) = some k) (hq : k.sendQueue = []) :
    Completes (exec (.join m) s) fun u => SentTo s u m.sender 0x03 (toLe 1 0x31) ∧
      u.e 0x2720 5 = (s.e 0x2720 5 + 1) % 2 ^ 64 ∧ SameBytes s u := by
  have hforming : (g.state != 1 || g.actingSteward != some g.self) = false := by simp [hs, hsteward]
  have htake : (s.joinFacts g).take 1 = toLe 1 g.mode := rfl
  have hplain : ∀ k', s.conn? (g.conn m.sender) = some k' → k'.plain := fun k' hk' p hp => by
    rw [hk] at hk'
    cases hk'
    rw [hq] at hp
    exact absurd hp List.not_mem_nil
  show Completes (execJoin m s) _
  rw [execJoin, onMessage_of_heard h]
  obtain ⟨-, hg, -⟩ := h
  have hsent := State.sendMember_transmits hg hplain (g.message 0x03 (toLe 1 0x31))
  have hcoll : (s.sendMember m.slot m.sender none (g.message 0x03 (toLe 1 0x31))).coll =
      (s.outboxed { g.message 0x03 (toLe 1 0x31) with member := m.sender }).coll := by
    rw [State.sendMember_of_conn hg hk, State.queueZt_coll]
  simp only [hforming, hmode, htake, hm, bne_self_eq_false, Bool.false_eq_true, if_false, decide_true, Bool.true_and,
    bne_iff_ne, ne_eq, hfacts, not_false_eq_true, if_true, Nat.reduceEqDiff, completes_commit]
  refine ⟨⟨{ g.message 0x03 (toLe 1 0x31) with member := m.sender }, ?_, rfl, rfl, rfl⟩, ?_, sameBytes_stored _ _ ?_⟩
  · rw [State.stored_coll, State.bump_def, State.bumpEnt_coll, hcoll]
    rfl
  · rw [State.e_of_bump (w := 64) (State.stored_dict _ _) (by decide)]
    rw [State.e_def, hsent.ent 5 (by decide)]
  · rw [State.bump_def, State.bumpEnt_mem, hsent.mem]

/-! ### GROUP_LEAVE (R334, R342, R343) -/

section
variable {s : State} {id : Nat} {c : Ctx} {q : Queue}

/-- A GROUP_LEAVE whose reserved bytes are zero and whose slot is below 64 passes its checks. -/
theorem leaveArgs_pass (hv : reservedErr c.record [(0, 1)] = none) (hslot : arg c.record 0 1 < 64) :
    argsErr c.record [(0, 1)] [(decide (63 < arg c.record 0 1), errRange 0)] = none := by
  simp only [argsErr, hv, firstErr, decide_eq_false (show ¬ 63 < arg c.record 0 1 by omega), Bool.false_eq_true, if_false]

/-- GROUP_LEAVE of a slot that is FREE. -/
theorem completes_groupLeave_refused (h : Running s id 0x2002 c q) (hv : reservedErr c.record [(0, 1)] = none)
    (hslot : arg c.record 0 1 < 64) (hg : s.group? (arg c.record 0 1) = none) :
    Completes (exec (.groupLeave id) s) fun u => Ended u id stStateConflict 0x0533 := by
  show Completes (execGroupLeave id s) _
  rw [execGroupLeave, onCtx_of_running h]
  simp only [leaveArgs_pass hv hslot, hg, completes_commit]
  exact ended_finishErr h.ctx h.unfinished (errState 5 0x33)

/-- GROUP_LEAVE of a group that runs no collective: LEAVE goes to the other members, and the slot is FREE. -/
theorem completes_groupLeave {g : Group} (h : Running s id 0x2002 c q) (hv : reservedErr c.record [(0, 1)] = none)
    (hslot : arg c.record 0 1 < 64) (hg : s.group? (arg c.record 0 1) = some g) (hcab : g.cabinet = c.cabinet)
    (hs : 2 ≤ g.state) (hop : g.op = none) (hidle : g.idleOn s) :
    Completes (exec (.groupLeave id) s) fun u => Ended u id 0 0 ∧ u.group? (arg c.record 0 1) = none := by
  have hmember : (g.cabinet != c.cabinet || decide (g.state < 2)) = false := by simp [hcab, Nat.not_lt.2 hs]
  have hended : s.endOpExpelled (arg c.record 0 1) = s := by simp only [State.endOpExpelled, State.failColl, hg, hop]
  have hsent : (s.sendMembers (arg c.record 0 1) g.others none (g.message 0x25 [])).contract = s.contract := by
    refine State.sendMembers_contract _ hg (fun j k hk => ?_) _
    obtain ⟨hq, hversion⟩ := hidle j k hk
    exact ⟨fun p hp => absurd (hq ▸ hp) List.not_mem_nil, hversion⟩
  show Completes (execGroupLeave id s) _
  rw [execGroupLeave, onCtx_of_running h]
  simp only [leaveArgs_pass hv hslot, hg, hmember, hended, Bool.false_eq_true, if_false, completes_commit]
  refine ⟨ended_finish ((State.ctx?_congr ?_ id).trans h.ctx) h.unfinished _ _ _, State.group?_leaveGroup _ _⟩
  rw [State.leaveGroup_contract, hsent]

end

/-! ### A data operation meets its group (R337, R338) -/

/-- The five data operations, one meaning. -/
theorem exec_collective {id op : Nat} {i : Instr} (h : (i, op) ∈ [(Instr.allReduce id, 0x2010),
    (.reduceScatter id, 0x2011), (.allGather id, 0x2012), (.broadcast id, 0x2013), (.allToAll id, 0x2014)]) (s : State) :
    exec i s = s.collective id op := by
  simp only [List.mem_cons, Prod.mk.injEq, List.not_mem_nil, or_false] at h
  obtain ⟨rfl, rfl⟩ | ⟨rfl, rfl⟩ | ⟨rfl, rfl⟩ | ⟨rfl, rfl⟩ | ⟨rfl, rfl⟩ := h <;> rfl

section
variable {s : State} {id op : Nat} {c : Ctx} {q : Queue} {x : XCmd} {g : Group}

/-- Refused with the code of R338, a data operation has ended. -/
theorem completes_collective_refused {e : Err} (h : Running s id op c q) (hx : s.collBegin c = .ok x)
    (he : Group.refuses (s.group? (field x.ob 16 1)) c = some e) :
    Completes (s.collective id op) fun u => Ended u id e.status e.detail := by
  rw [State.collective, onCtx_of_running h]
  simp only [hx, he, completes_commit]
  exact ended_finishErr h.ctx h.unfinished e

/-- A mask of some axes that the group has passes its check. -/
theorem axesMask_pass {mask axes : Nat} (h0 : mask ≠ 0) (haxes : mask < 2 ^ axes) :
    (decide (mask = 0) || decide (2 ^ axes ≤ mask)) = false := by
  rw [decide_eq_false h0, decide_eq_false (Nat.not_le.2 haxes)]
  rfl

/-- A data operation that its group admits waits while the group recovers (R367). -/
theorem collective_of_recovering (h : Running s id op c q) (hx : s.collBegin c = .ok x)
    (hg : s.group? (field x.ob 16 1) = some g) (hadmit : Group.refuses (some g) c = none) (h0 : field x.ob 17 1 ≠ 0)
    (haxes : field x.ob 17 1 < 2 ^ g.axes) (hs : g.state = 3) : s.collective id op = s.idle := by
  rw [State.collective, onCtx_of_running h]
  simp only [hx, hg, hadmit, axesMask_pass h0 haxes, hs, decide_true, Bool.true_or, Bool.false_eq_true, if_false, if_true]

theorem refuses_of_foreign (h : g.cabinet ≠ c.cabinet ∨ g.state < 2) :
    Group.refuses (some g) c = some (errState 5 0x33) := by
  have hforeign : (g.cabinet != c.cabinet || decide (g.state < 2)) = true := by simpa using h
  simp only [Group.refuses, hforeign, if_true]

theorem refuses_of_member (hcab : g.cabinet = c.cabinet) (hs : 2 ≤ g.state) :
    Group.refuses (some g) c =
      if g.queue != c.queue then some (errState 5 0x35)
      else if g.state = 4 then some { status := stPeerTimeout, detail := lossDetail 4 g.failRank }
      else none := by
  have hmember : (g.cabinet != c.cabinet || decide (g.state < 2)) = false := by simp [hcab, Nat.not_lt.2 hs]
  simp only [Group.refuses, hmember, Bool.false_eq_true, if_false]

/-- A group that a data operation on the axes of a mask finds open to it and without another operation (R337, R338). -/
structure Group.FreeFor (g : Group) (c : Ctx) (mask : Nat) : Prop where
  admits : Group.refuses (some g) c = none
  nonzero : mask ≠ 0
  axes : mask < 2 ^ g.axes
  idle : (decide (g.state = 3) || g.op.isSome || (g.rankOf g.self).isNone) = false

/-- An ACTIVE group that runs no operation is free for its queue, at a member with a rank. -/
theorem Group.freeFor_of_active {mask : Nat} (hcab : g.cabinet = c.cabinet) (hactive : g.state = 2) (hq : g.queue = c.queue)
    (h0 : mask ≠ 0) (haxes : mask < 2 ^ g.axes) (hop : g.op = none) (hrank : (g.rankOf g.self).isSome = true) :
    g.FreeFor c mask where
  admits := by simp [refuses_of_member hcab (Nat.le_of_eq hactive.symm), hq, hactive]
  nonzero := h0
  axes := haxes
  idle := by
    obtain ⟨r, hr⟩ := Option.isSome_iff_exists.1 hrank
    simp [hactive, hop, hr]

/-- The operation that begins (R337). -/
def State.newOp (s : State) (ctx opSeq : Nat) : CollOp :=
  { ctx := ctx, opSeq := opSeq, received := [], rootVals := [], gathered := [], counts := [0, 0, 0, 0, 0, 0]
    dstDone := false, held := false, limitLeft := s.e 0x2701 1, limitFrom := some s.now }

theorem State.group?_beginOp {slot : Nat} (hg : s.group? slot = some g) (ctx opSeq : Nat) :
    (s.beginOp slot ctx opSeq).group? slot = some { g with opSeq := opSeq, op := some (s.newOp ctx opSeq) } :=
  State.group?_updGroup (f := fun g => { g with opSeq := opSeq, op := some (s.newOp ctx opSeq) }) hg fun _ => rfl

/-- A collective that ends with an error it sends no word of has ended. -/
theorem ended_failColl {slot : Nat} {k : CollOp} (hg : s.group? slot = some g) (hop : g.op = some k)
    (hc : s.ctx? k.ctx = some c) (hf : c.finished = false) (st d : Nat) :
    Ended (s.failColl slot st d false) k.ctx st d := by
  simp only [State.failColl, hg, hop, Bool.false_eq_true, if_false]
  refine (ended_finish (s := s) (c := c) ?_ hf st d (g.area k)).congr rfl
  exact (State.ctx?_congr (by rw [State.spoil_contract]; rfl) _).trans hc

/-- An OP_SEQ that a peer has abandoned ends at once (R356). -/
theorem completes_collective_abandoned {r : Nat} (h : Running s id op c q) (hx : s.collBegin c = .ok x)
    (hg : s.group? (field x.ob 16 1) = some g) (hfree : g.FreeFor c (field x.ob 17 1))
    (hr : g.abandoned.find? (fun a => a.1 == g.opSeq + 1) = some (g.opSeq + 1, r)) :
    Completes (s.collective id op) fun u => Ended u id stPeerTimeout (lossDetail 3 r) := by
  rw [State.collective, onCtx_of_running h]
  simp only [hx, hg, hfree.admits, axesMask_pass hfree.nonzero hfree.axes, hfree.idle, hr, Bool.false_eq_true, if_false,
    completes_commit]
  refine (ended_failColl (s := s.beginOp _ id (g.opSeq + 1)) (State.group?_beginOp hg id (g.opSeq + 1)) rfl h.ctx
    h.unfinished stPeerTimeout (lossDetail 3 r)).congr ?_
  rw [State.stored_contract, State.bump_def, State.bumpEnt_contract]

theorem State.collStep_of_ok {t t2 : State} {slot : Nat} {r : Except Err State} (hr : r = .ok t)
    (ht : t.progressColl slot = .ok t2) : s.collStep slot r = t2.settleColl slot := by
  subst hr
  simp only [State.collStep, bind, Except.bind, ht]

/-- The end of a collective writes nothing: its DST stands already. -/
theorem State.settleColl_mem (s : State) (slot : Nat) : (s.settleColl slot).mem = s.mem := by
  unfold State.settleColl
  split
  · rfl
  · split
    · rfl
    · split <;> rfl

/-- A data operation begins with the next OP_SEQ of its group, and what is complete goes on (R337, R346, R347). -/
theorem completes_collective_begins {t t2 : State} {k : CollCmd} (h : Running s id op c q) (hx : s.collBegin c = .ok x)
    (hg : s.group? (field x.ob 16 1) = some g) (hfree : g.FreeFor c (field x.ob 17 1))
    (hr : g.abandoned.find? (fun a => a.1 == g.opSeq + 1) = none) (hk : collTensors c g x = .ok k)
    (ht : (s.beginOp (field x.ob 16 1) id (g.opSeq + 1)).enterOp k (g.opSeq + 1) = .ok t)
    (ht2 : t.progressColl (field x.ob 16 1) = .ok t2) (ha : (t2.settleColl (field x.ob 16 1)).aheadOfCopy = none) :
    Completes (s.collective id op) fun u => SameBytes t2 u ∧ u.coll = (t2.settleColl (field x.ob 16 1)).coll ∧
      u.zt = (t2.settleColl (field x.ob 16 1)).zt ∧ u.transform = (t2.settleColl (field x.ob 16 1)).transform := by
  have hstep : (s.beginOp (field x.ob 16 1) id (g.opSeq + 1)).collStep (field x.ob 16 1) (collTensors c g x >>= fun k =>
      (s.beginOp (field x.ob 16 1) id (g.opSeq + 1)).enterOp k (g.opSeq + 1)) = t2.settleColl (field x.ob 16 1) :=
    State.collStep_of_ok (by rw [hk]; exact ht) ht2
  rw [State.collective, onCtx_of_running h]
  simp only [hx, hg, hfree.admits, axesMask_pass hfree.nonzero hfree.axes, hfree.idle, hr, hstep, Bool.false_eq_true,
    if_false, completes_land ha]
  exact ⟨sameBytes_stored _ _ (State.settleColl_mem _ _), rfl, rfl, rfl⟩

end

/-! ### A read of cabinet memory is no matter of the groups -/

section
variable (s : State) (slot : Nat) (f : Group → Group)

theorem State.translateRun_updGroup (cab : Nat) (need : Need) (ps : List (Nat × Nat)) :
    (s.updGroup slot f).translateRun cab need ps = s.translateRun cab need ps := by
  induction ps with
  | nil => rfl
  | cons p ps ih =>
    have htranslate : (s.updGroup slot f).translate cab p.1 need = s.translate cab p.1 need := rfl
    simp only [State.translateRun, htranslate, ih]

theorem State.linkErrs_updGroup (need : Need) (a : Nat) (ps : List (Nat × Nat)) :
    (s.updGroup slot f).linkErrs need a ps = s.linkErrs need a ps := by
  induction ps generalizing a with
  | nil => rfl
  | cons p ps ih =>
    have hlink : (s.updGroup slot f).linkErr a p.1 p.2 need = s.linkErr a p.1 p.2 need := rfl
    simp only [State.linkErrs, hlink, ih]

theorem State.readCab_updGroup (cab a n : Nat) : (s.updGroup slot f).readCab cab a n = s.readCab cab a n := by
  have hhost : ∀ ps, (s.updGroup slot f).hostErrs cab a ps = s.hostErrs cab a ps := fun _ => rfl
  have hbad : ∀ ps, (s.updGroup slot f).badPiece ps = s.badPiece ps := fun _ => rfl
  have hread : ∀ ps, (s.updGroup slot f).readPieces ps = s.readPieces ps := fun _ => rfl
  simp only [State.readCab, State.reach, State.translateRun_updGroup, State.linkErrs_updGroup, hhost, hbad, hread]

theorem State.reader_updGroup (c : Ctx) : (s.updGroup slot f).reader c = s.reader c := by
  funext a n
  simp only [State.reader, State.readCab_updGroup]

theorem State.collBegin_updGroup (c : Ctx) : (s.updGroup slot f).collBegin c = s.collBegin c := by
  simp only [State.collBegin, State.reader_updGroup]

end

/-! ### A member that waits for the root of a BROADCAST (R347) -/

/-- A descriptor that may not be missing is there. -/
theorem XCmd.descOpt_isSome {x : XCmd} {off : Nat} {d : Option Desc} (h : x.descOpt off false = .ok d) :
    d.isSome = true := by
  unfold XCmd.descOpt at h
  split at h
  · cases h
  · obtain ⟨d', -, h⟩ := Except.bind_eq_ok h
    cases h
    rfl

/-- A member of a BROADCAST that is not its root has DST (R336). -/
theorem collTensors_broadcast {c : Ctx} {g : Group} {x : XCmd} {k : CollCmd} (h : collTensors c g x = .ok k)
    (hop : recOpcode c.record = 0x2013) (hidx : k.idx ≠ k.root) : k.op = 0x2013 ∧ k.dst.isSome = true := by
  unfold collTensors at h
  dsimp only at h
  obtain ⟨-, -, h⟩ := Except.bind_eq_ok h
  obtain ⟨src, -, h⟩ := Except.bind_eq_ok h
  obtain ⟨dst, hdst, h⟩ := Except.bind_eq_ok h
  obtain ⟨-, -, h⟩ := Except.bind_eq_ok h
  obtain ⟨-, -, h⟩ := Except.bind_eq_ok h
  cases h
  refine ⟨hop, XCmd.descOpt_isSome (x := x) (off := 32) ?_⟩
  rw [← hdst, hop]
  dsimp only at hidx
  congr 1
  simp [hidx]

/-- DST of a BROADCAST away from its root is one part, which is missing until it is gathered. -/
theorem CollCmd.missingParts_broadcast {k : CollCmd} {op : CollOp} (hop : k.op = 0x2013) (hidx : k.idx ≠ k.root)
    (hdst : k.dst.isSome = true) (hnone : op.gathered = []) : k.missingParts op ≠ [] := by
  obtain ⟨d, hd⟩ := Option.isSome_iff_exists.1 hdst
  have hparts : k.parts = [(0, d.blocks)] := by simp [CollCmd.parts, hd, hop, hidx]
  have hcount : 0 < chunkCount d.blocks := Nat.lt_of_lt_of_le Nat.zero_lt_one (Nat.le_max_left _ _)
  refine List.ne_nil_of_mem (a := (0, 0)) ?_
  simp [CollCmd.missingParts, hparts, hnone, hcount]

/-- Nothing of a copied operation goes on while a part of DST is missing. -/
theorem State.progressColl_of_missing {s : State} {slot : Nat} {g : Group} {op : CollOp} {k : CollCmd}
    (hg : s.group? slot = some g) (hop : g.op = some op) (hcoll : s.collOf g = some (op, k))
    (hred : isReduction k.op = false) (hmissing : k.missingParts op ≠ []) : s.progressColl slot = .ok s := by
  have hempty : (k.missingParts op).isEmpty = false := by simpa using hmissing
  simp only [State.progressColl, hg, hcoll, hred, pure_bind, hop, hempty, Bool.not_false, Bool.or_true, if_true]
  rfl

/-- A collective whose DST is not written goes on. -/
theorem State.settleColl_of_missing {s : State} {slot : Nat} {g : Group} {op : CollOp} (hg : s.group? slot = some g)
    (hop : g.op = some op) (hdst : op.dstDone = false) : s.settleColl slot = s := by
  simp only [State.settleColl, hg, hop, hdst, Bool.not_false, Bool.true_or, if_true]

/-- BROADCAST at a member that is not the root: it begins, sends nothing and waits (R337, R347). -/
theorem completes_broadcast_waits {s : State} {id : Nat} {c : Ctx} {q : Queue} {x : XCmd} {g : Group} {k : CollCmd}
    (h : Running s id 0x2013 c q) (hx : s.collBegin c = .ok x) (hg : s.group? (field x.ob 16 1) = some g)
    (hfree : g.FreeFor c (field x.ob 17 1)) (hnone : g.abandoned = []) (hk : collTensors c g x = .ok k)
    (hsrc : k.src = none) (hidx : k.idx ≠ k.root) (ha : s.aheadOfCopy = none) :
    Completes (s.collective id 0x2013) fun u => SameBytes s u ∧ u.zt = s.zt ∧ ∃ g', u.group? (field x.ob 16 1) = some g' ∧
      g'.opSeq = g.opSeq + 1 ∧ ∃ op, g'.op = some op ∧ op.ctx = id ∧ op.opSeq = g.opSeq + 1 ∧ op.dstDone = false := by
  have hrec : recOpcode c.record = 0x2013 := by
    obtain ⟨-, hop, -⟩ := h
    simp only [isCommand, Bool.and_eq_true, beq_iff_eq] at hop
    obtain ⟨⟨⟨hrec, -⟩, -⟩, -⟩ := hop
    exact hrec
  obtain ⟨hop, hdst⟩ := collTensors_broadcast hk hrec hidx
  have hbegun := State.group?_beginOp hg id (g.opSeq + 1)
  have hcoll : (s.beginOp (field x.ob 16 1) id (g.opSeq + 1)).collOf
      { g with opSeq := g.opSeq + 1, op := some (s.newOp id (g.opSeq + 1)) } = some (s.newOp id (g.opSeq + 1), k) := by
    have hctx : (s.beginOp (field x.ob 16 1) id (g.opSeq + 1)).ctx? (s.newOp id (g.opSeq + 1)).ctx = some c := h.ctx
    have hbegin : (s.beginOp (field x.ob 16 1) id (g.opSeq + 1)).collBegin c = .ok x := by
      rw [State.beginOp, State.collBegin_updGroup, hx]
    have htensors : collTensors c { g with opSeq := g.opSeq + 1, op := some (s.newOp id (g.opSeq + 1)) } x = .ok k := hk
    simp only [State.collOf, hctx, hbegin, bind, Except.bind, htensors]
  have henter : (s.beginOp (field x.ob 16 1) id (g.opSeq + 1)).enterOp k (g.opSeq + 1) =
      .ok (s.beginOp (field x.ob 16 1) id (g.opSeq + 1)) := by
    simp only [State.enterOp, hsrc]
    rfl
  have hprogress := State.progressColl_of_missing hbegun rfl hcoll (by rw [hop]; rfl)
    (CollCmd.missingParts_broadcast hop hidx hdst rfl)
  have hsettle := State.settleColl_of_missing hbegun rfl rfl
  refine (completes_collective_begins h hx hg hfree (by rw [hnone]; rfl) hk henter hprogress
    (by rw [hsettle, ← ha]; exact State.aheadOfCopy_congr rfl)).imp fun u ⟨hbytes, hu, hzt, _⟩ => ?_
  rw [hsettle] at hu hzt
  exact ⟨hbytes, hzt, _, (State.group?_congr (by rw [hu]) _).trans hbegun, rfl, _, rfl, rfl, rfl, rfl⟩

/-! ### GROUP_JOIN (R331 to R333, R339, R340) -/

theorem length_chunksOf {α : Type} (n k : Nat) (l : List α) : (chunksOf n k l).length = k := by
  induction k generalizing l with
  | zero => rfl
  | succ k ih => simp [chunksOf, ih]

@[simp] theorem State.connectMember_coll (s : State) (k : Conn) : (s.connectMember k).coll = s.coll := by
  unfold State.connectMember
  dsimp only
  split
  · rw [State.sendControl_coll]; rfl
  · rfl

/-- While a member but this one is missing, a GROUP_JOIN that begins leaves its group in FORMING. -/
theorem State.startJoin_forms {s : State} {g : Group} {n : Nat} (hfree : s.group? g.slot = none) (hn : n < g.members.length)
    (hne : n ≠ g.self) (hmissing : (g.members.getD n default).joined = false) (id : Nat) :
    ∃ g' ∈ (s.startJoin g id).coll.groups, g'.joinCtx = g.joinCtx ∧ g'.state = g.state ∧ g'.cabinet = g.cabinet ∧
      g'.queue = g.queue := by
  unfold State.startJoin
  extract_lets z s1 s2
  have hgroups : s2.coll.groups = s.coll.groups ++ [g] :=
    congrArg Coll.groups (foldl_keeps State.coll _ _ _ State.connectMember_coll)
  have hmem : g ∈ s2.coll.groups := by rw [hgroups]; exact List.mem_append_right _ List.mem_cons_self
  split
  · exact ⟨g, hmem, rfl, rfl, rfl, rfl⟩
  · split
    · have hg : s2.group? g.slot = some g := by
        have hnone : s.coll.groups.find? (fun x => x.slot == g.slot) = none := hfree
        rw [State.group?, hgroups, List.find?_append, hnone]
        simp
      have hjoined := State.group?_updGroup (f := Group.takesJoin g.self) hg fun _ => rfl
      rw [State.takeJoin_of_missing hg hn hne hmissing]
      exact ⟨g.takesJoin g.self, List.mem_of_find?_eq_some hjoined, rfl, rfl, rfl, rfl⟩
    · rw [State.sendMember_groups]
      exact ⟨g, hmem, rfl, rfl, rfl, rfl⟩

/-- Checks that pass found nothing. -/
theorem check_passed {l : List (Bool × Err)} {u : Unit} (h : check l = .ok u) {p : Bool × Err} (hp : p ∈ l) :
    p.1 = false := by
  have hnone : firstErr l = none := by
    unfold check at h
    split at h
    · assumption
    · cases h
  clear h
  induction l with
  | nil => exact absurd hp List.not_mem_nil
  | cons a l ih =>
    obtain ⟨bad, e⟩ := a
    cases bad with
    | true => cases hnone
    | false =>
      obtain rfl | hl := List.mem_cons.1 hp
      · rfl
      · exact ih hl hnone

/-- A group descriptor in range describes two members at least (R331). -/
theorem two_le_of_groupDesc {b : Bytes} (h : groupDescBad b = false) :
    2 ≤ prodNat (((List.range 6).map fun i => field b (16 + 2 * i) 2).take (field b 9 1)) + field b 14 2 := by
  unfold groupDescBad at h
  simp only [Bool.or_eq_false_iff, decide_eq_false_iff_not] at h
  obtain ⟨⟨-, hfew⟩, -⟩ := h
  omega

/-- No member of a group that has just been described has joined (R341). -/
theorem State.newGroup_joined (s : State) (c : Ctx) (addr : Nat) (b table : Bytes) (self : Nat) {n : Nat}
    (hn : n < (s.newGroup c addr b table self).members.length) :
    ((s.newGroup c addr b table self).members.getD n default).joined = false := by
  rw [List.getD_eq_getElem?_getD, List.getElem?_eq_getElem hn, Option.getD_some]
  obtain ⟨e, -, he⟩ := List.mem_map.1 (List.getElem_mem hn)
  rw [← he]
  rfl

theorem State.newGroup_length (s : State) (c : Ctx) (addr : Nat) (b table : Bytes) (self : Nat) :
    (s.newGroup c addr b table self).members.length =
      prodNat (((List.range 6).map fun i => field b (16 + 2 * i) 2).take (field b 9 1)) + field b 14 2 := by
  simp only [State.newGroup, List.length_map, length_chunksOf]

/-- A GROUP_JOIN that passes its checks begins with the group of its descriptor: in a slot that was FREE, with every member
missing, of which there are two at least (R328, R331). -/
theorem State.joinGroup_eq_ok {s t : State} {c : Ctx} (h : s.joinGroup c = .ok t) :
    ∃ g : Group, t = s.startJoin g c.id ∧ s.group? g.slot = none ∧ g.joinCtx = some c.id ∧ g.state = 1 ∧
      g.cabinet = c.cabinet ∧ g.queue = c.queue ∧ 2 ≤ g.members.length ∧
      ∀ n < g.members.length, (g.members.getD n default).joined = false := by
  unfold State.joinGroup at h
  dsimp only at h
  split at h
  · cases h
  obtain ⟨-, -, h⟩ := Except.bind_eq_ok h
  obtain ⟨b, -, h⟩ := Except.bind_eq_ok h
  obtain ⟨⟨⟩, hdesc, h⟩ := Except.bind_eq_ok h
  split at h
  · cases h
  obtain ⟨table, -, h⟩ := Except.bind_eq_ok h
  obtain ⟨⟨⟩, hslot, h⟩ := Except.bind_eq_ok h
  cases h
  have hgroup := check_passed hslot (List.mem_cons_of_mem _ List.mem_cons_self)
  have hdescOk := check_passed hdesc List.mem_cons_self
  rw [Bool.or_eq_false_iff] at hdescOk
  refine ⟨_, rfl, Option.isNone_iff_eq_none.1 (Option.isSome_eq_false_iff.1 hgroup), rfl, rfl, rfl, rfl,
    ?_, fun _ hn => s.newGroup_joined _ _ _ _ _ hn⟩
  rw [State.newGroup_length]
  exact two_le_of_groupDesc hdescOk.1

theorem State.joinGroup_forms {s t : State} {c : Ctx} (h : s.joinGroup c = .ok t) :
    ∃ g ∈ t.coll.groups, g.joinCtx = some c.id ∧ g.state = 1 ∧ g.cabinet = c.cabinet ∧ g.queue = c.queue := by
  obtain ⟨g, rfl, hfree, hjoin, hstate, hcab, hqueue, htwo, hmissing⟩ := State.joinGroup_eq_ok h
  obtain ⟨n, hn, hne⟩ : ∃ n < g.members.length, n ≠ g.self :=
    if h0 : g.self = 0 then ⟨1, by omega, by omega⟩ else ⟨0, by omega, Ne.symm h0⟩
  obtain ⟨g', hg', hjoin', hstate', hcab', hqueue'⟩ := State.startJoin_forms hfree hn hne (hmissing n hn) c.id
  exact ⟨g', hg', hjoin'.trans hjoin, hstate'.trans hstate, hcab'.trans hcab, hqueue'.trans hqueue⟩

section
variable {s : State} {id : Nat} {c : Ctx} {q : Queue}

/-- GROUP_JOIN that passes its checks. -/
theorem completes_groupJoin {t : State} (h : Running s id 0x2001 c q) (ht : s.joinGroup c = .ok t)
    (ha : t.aheadOfCopy = none) :
    Completes (exec (.groupJoin id) s) fun u => SameBytes t u ∧ u.coll = t.coll ∧ u.zt = t.zt ∧
      (∃ g ∈ u.coll.groups, g.joinCtx = some id ∧ g.state = 1 ∧ g.cabinet = c.cabinet ∧ g.queue = c.queue) := by
  show Completes (execGroupJoin id s) _
  rw [execGroupJoin, onCtx_of_running h]
  simp only [ht, completes_land ha]
  have hforms := State.joinGroup_forms ht
  rw [State.ctx?_id h.ctx] at hforms
  exact ⟨sameBytes_stored_self _ _, rfl, rfl, hforms⟩

/-- GROUP_JOIN that fails a check: its secret is zeroed (R333). -/
theorem completes_groupJoin_refused {e : Err} (h : Running s id 0x2001 c q) (he : s.joinGroup c = .error e)
    (haligned : arg c.record 0 8 % 64 = 0)
    (ha : (((s.finishErr id e).bump 0x2720 5 (b2n (e.status = stStateConflict))).putCab c.cabinet (arg c.record 0 8 + 48)
      (zeros 32)).aheadOfCopy = none) :
    Completes (exec (.groupJoin id) s) fun u => Ended u id e.status e.detail ∧
      SameBytes (((s.finishErr id e).bump 0x2720 5 (b2n (e.status = stStateConflict))).putCab c.cabinet
        (arg c.record 0 8 + 48) (zeros 32)) u := by
  show Completes (execGroupJoin id s) _
  rw [execGroupJoin, onCtx_of_running h]
  simp only [he, haligned, if_true, completes_land ha]
  refine ⟨(ended_finishErr (s := s) h.ctx h.unfinished e).congr ?_, sameBytes_stored_self _ _⟩
  rw [State.stored_contract, State.putCab_contract, State.bump_def, State.bumpEnt_contract, State.stored_contract]

end

/-! ### The obligation -/

/-- What a data operation meets at its group, case by case (R338). -/
theorem completes_collective_cases {s : State} {id op : Nat} {c : Ctx} {q : Queue} {x : XCmd} {g : Group}
    (h : Running s id op c q) (hx : s.collBegin c = .ok x) (hg : s.group? (field x.ob 16 1) = some g) :
    (g.cabinet ≠ c.cabinet ∨ g.state < 2 →
      Completes (s.collective id op) fun u => Ended u id stStateConflict 0x0533) ∧
    (g.cabinet = c.cabinet → 2 ≤ g.state → g.queue ≠ c.queue →
      Completes (s.collective id op) fun u => Ended u id stStateConflict 0x0535) ∧
    (g.cabinet = c.cabinet → 2 ≤ g.state → g.queue = c.queue → field x.ob 17 1 ≠ 0 → field x.ob 17 1 < 2 ^ g.axes →
      (g.state = 4 → Completes (s.collective id op) fun u => Ended u id stPeerTimeout (lossDetail 4 g.failRank)) ∧
      (g.state = 3 → Completes (s.collective id op) fun u => u = s)) := by
  have hrefused : ∀ e, Group.refuses (some g) c = some e →
      Completes (s.collective id op) fun u => Ended u id e.status e.detail := fun e he =>
    completes_collective_refused h hx (by rw [hg]; exact he)
  refine ⟨fun hforeign => hrefused _ (refuses_of_foreign hforeign), fun hcab hs hq => ?_, fun hcab hs hq h0 haxes => ?_⟩
  · exact hrefused (errState 5 0x35) (by simp [refuses_of_member hcab hs, hq])
  · refine ⟨fun h4 => ?_, fun h3 => ?_⟩
    · exact hrefused { status := stPeerTimeout, detail := lossDetail 4 g.failRank }
        (by simp [refuses_of_member hcab hs, hq, h4])
    · rw [collective_of_recovering h hx hg (by simp [refuses_of_member hcab hs, hq, h3]) h0 haxes h3, State.idle,
        completes_next]

/-- Settles O35: each command and message of the formation by its own lemma.  That a FAILED group ends a data operation with
PEER_TIMEOUT also after FAIL_VIEW is the model's choice (notes/assumptions/44.md), and so is code 0x33 for a GROUP_LEAVE of a
slot that holds no group (notes/assumptions/45.md). -/
theorem groupCommandsComplete : Obligations.GroupCommandsComplete := by
  unfold Obligations.GroupCommandsComplete
  refine ⟨?join, ?joinRefused, ?leave, ?collective, ?broadcast, ?joinMsg, ?view, ?refuse, ?formTimeout⟩
  case join => exact fun s t id c q h ht ha => completes_groupJoin h ht ha
  case joinRefused => exact fun s id c q e h he haligned _ _ _ ha => completes_groupJoin_refused h he haligned ha
  case leave =>
    rintro s id slot c q h hv rfl hslot
    exact ⟨completes_groupLeave_refused h hv hslot, fun g hg hcab hs hop hidle =>
      completes_groupLeave h hv hslot hg hcab hs hop hidle⟩
  case collective =>
    rintro s id op slot i c q x hi h hx rfl
    rw [exec_collective hi]
    refine ⟨fun hg => completes_collective_refused h hx (by rw [hg]; rfl), fun g hg => ?_⟩
    obtain ⟨hforeign, hqueue, hmember⟩ := completes_collective_cases h hx hg
    refine ⟨hforeign, hqueue, fun hcab hs hq h0 haxes => ?_⟩
    obtain ⟨hfailed, hrecovers⟩ := hmember hcab hs hq h0 haxes
    refine ⟨hfailed, hrecovers, fun hactive hop hrank => ?_⟩
    have hfree := Group.freeFor_of_active hcab hactive hq h0 haxes hop hrank
    exact ⟨fun r hr => completes_collective_abandoned h hx hg hfree hr, fun k t t2 hr hk ht ht2 ha =>
      completes_collective_begins h hx hg hfree hr hk ht ht2 ha⟩
  case broadcast =>
    rintro s id slot c q x g k h hx rfl h0 haxes hg hcab hactive hq hop hrank hnone hk hsrc hidx ha
    have hfree := Group.freeFor_of_active hcab hactive hq h0 haxes hop hrank
    exact completes_broadcast_waits h hx hg hfree hnone hk hsrc hidx ha
  case joinMsg =>
    exact fun s m g h hs hsteward =>
      ⟨fun n hfacts hn hne hmissing => completes_join h hs hsteward hfacts hn hne hmissing,
        fun k hmode hm hfacts hk hq => completes_join_refused h hs hsteward hmode hm hfacts hk hq⟩
  case view => exact fun s m g ranks h hs hranks ha => completes_view h hs hranks ha
  case refuse => exact fun s m g h hs ha => completes_refuse h hs ha
  case formTimeout =>
    exact fun s slot n g hg hs hsafe hlimit hsteward hn ha => completes_formTimeout hg hs hsafe hlimit hsteward hn ha

end Sys2Proof.Machine

/-! PROOFS of the packet path: the count of bytes that a port has sent, and the obligation on the path's events. -/

namespace Sys2Proof.Machine

/-! ### A counter that holds more than its width (R442) -/

/-- A frame of no bytes waits for EP1. -/
def emptyFrameQueue : SvcQueue :=
  { port := 1, subscriber := 0, service := 0, frames := [default], deficit := 0, credited := false }

/-- A state past stage B2 with that frame queued; the count of bytes sent on EP1 holds 2 ^ 64. -/
def overfullTxBytes : State :=
  { State.reset with
    dict := [(0x100300, 3), (0x290901, 2 ^ 64)]
    packet := { State.reset.packet with queues := [emptyFrameQueue] } }

/-- The schedule of EP1 sends the frame next: no record gives it a shaper or a round of its own (R442). -/
theorem overfullTxBytes_nextToSend : overfullTxBytes.nextToSend 1 =
    some (emptyFrameQueue, [], [{ port := 1, subscriber := 0, deficit := 1023, credited := true }]) := by decide +kernel

/-- The bytes sent on a port in the state that a command answers. -/
def txBytesAfter (o : Result) (port : Nat) : Nat :=
  match o with
  | .next u => u.e 0x2909 port
  | _ => 0

/-- A frame of no bytes that leaves its port leaves the count as it was. -/
theorem overfullTxBytes_txBytesAfter : txBytesAfter (exec (.portDequeue 1) overfullTxBytes) 1 = 2 ^ 64 := by decide +kernel

/-- Refutes O39: nothing in it says that an entry of the dictionary is below 2 to its width, nor that a queued frame has
bytes.  A dequeued frame of no bytes does not touch its port's count of bytes, where the statement gives it modulo 2 ^ 64. -/
theorem not_packetPathComplete : ¬ Obligations.PacketPathComplete := by
  rintro ⟨-, -, -, -, hdequeue, -⟩
  obtain ⟨u, hu, -, hcount, -⟩ := hdequeue overfullTxBytes 1 emptyFrameQueue _ _ default [] (by decide) (by decide)
    overfullTxBytes_nextToSend rfl
  have hafter := overfullTxBytes_txBytesAfter
  rw [hu, txBytesAfter, hcount] at hafter
  exact absurd hafter (by decide +kernel)

end Sys2Proof.Machine

/-! PROOFS of the rule set: what the answer to an act leaves, the effects of the rule set's commands and of TM_APPLY, and the
obligation on them. -/

namespace Sys2Proof.Machine

/-! ### An act that is answered -/

/-- No activation drains while an act is granted (R450). -/
theorem Granted.activation_ne {s : State} {r : ActReq} {idx sub : Nat} (h : Granted s r idx sub) :
    s.contract.activation ≠ 1 := by
  obtain ⟨-, hact, -⟩ := h
  exact hact

/-- An answer leaves the packet path. -/
theorem State.respond_packet (s : State) (r : ActReq) (op idx sub code : Nat) (p : Bytes) :
    (s.respond r op idx sub code p).packet = s.packet := by
  have hcount : (s.countAnswer code).packet = s.packet := by unfold State.countAnswer; split <;> simp
  unfold State.respond State.mailAnswer
  split
  · rfl
  · dsimp only
    split
    · rw [State.raiseEvent_packet, State.setFn_packet]
      exact hcount
    · exact hcount

/-- The dictionary server's answer is all that u adds to t: every byte, the packet path, and every entry but the server's
own (index 0x1006) are as in t. -/
def AnsweredOver (t u : State) : Prop :=
  SameBytes t u ∧ u.packet = t.packet ∧ ∀ i j, i < 65536 → j < 256 → i ≠ 0x1006 → u.e i j = t.e i j

theorem AnsweredOver.sameBytes {s t u : State} (h : AnsweredOver t u) (hm : t.mem = s.mem) : SameBytes s u := by
  obtain ⟨hbytes, -⟩ := h
  exact fun a => by rw [hbytes a, hm]

theorem AnsweredOver.packet {t u : State} (h : AnsweredOver t u) : u.packet = t.packet := by
  obtain ⟨-, hpacket, -⟩ := h
  exact hpacket

theorem AnsweredOver.e_eq {t u : State} (h : AnsweredOver t u) {i j : Nat} (hi : i < 65536) (hj : j < 256)
    (hne : i ≠ 0x1006) : u.e i j = t.e i j := by
  obtain ⟨-, -, he⟩ := h
  exact he i j hi hj hne

/-- The entries of the rule set. -/
theorem AnsweredOver.e_rule {t u : State} (h : AnsweredOver t u) {j : Nat} (hj : j < 256) : u.e 0x2901 j = t.e 0x2901 j :=
  h.e_eq (by decide) hj (by decide)

theorem answeredOver_respond (s t : State) (r : ActReq) (op idx sub code : Nat) (p : Bytes) :
    AnsweredOver t (s.stored (t.respond r op idx sub code p)) := by
  obtain ⟨hmem, -⟩ := State.respond_rest t r op idx sub code p
  exact ⟨fun a => (sameBytes_stored_self s _ a).trans (by rw [hmem]), State.respond_packet t r op idx sub code p,
    fun i j hi hj hne => State.ent_respond t r op idx sub code p 0 i j hi hj hne⟩

/-- An act's effect is done and leaves t, or is refused for the state of its object, which leaves the state (R629). -/
def EffectLeaves (eff : ActEffect) (r : ActReq) (s t : State) : Prop :=
  eff r s = .ok (t, false) ∨ t = s ∧ ∃ reason required, eff r s = .error (.state reason required)

/-- A granted write is answered over what its effect leaves. -/
theorem answeredOver_serveWrite {s t : State} {r : ActReq} {idx sub : Nat} {eff : ActEffect} (h : Granted s r idx sub)
    (he : EffectLeaves eff r s t) : AnsweredOver t (s.stored (s.serveWrite r idx sub eff)) := by
  obtain ⟨-, -, hcode, hrange⟩ := h
  have hjudge : s.judge r 2 idx sub = (0, (s.judge r 2 idx sub).2) := by rw [← hcode]
  unfold State.serveWrite State.tryWrite
  rw [hjudge]
  rcases he with he | ⟨rfl, reason, required, he⟩
  · simp only [he, hrange, Bool.not_true, Bool.false_eq_true, if_false]
    exact answeredOver_respond ..
  · simp only [he]
    exact answeredOver_respond ..

/-- A granted act that a draining activation refuses (R450) is answered over what its effect leaves. -/
theorem completes_actOpen {s t : State} {r : ActReq} {idx sub : Nat} {eff : ActEffect} (h : Granted s r idx sub)
    (he : EffectLeaves eff r s t) : Completes (s.actOpen r idx sub eff) (AnsweredOver t) := by
  have ⟨hreached, _⟩ := h
  rw [State.actOpen, hreached, if_neg Bool.false_ne_true, completes_commit]
  exact answeredOver_serveWrite h he

/-- A granted act that is done is answered over what its effect leaves. -/
theorem completes_act {s t : State} {r : ActReq} {idx sub : Nat} {eff : ActEffect} (h : Granted s r idx sub)
    (he : eff r s = .ok (t, false)) : Completes (s.act r idx sub eff) (AnsweredOver t) := by
  rw [State.act_of_granted h he, completes_commit]
  exact answeredOver_respond ..

/-! ### The rule set (R424, R426, R427) -/

/-- The widths of RULE_VERSION, RULE_STAGE_RESULT, COMMIT_STATE and TM_APPLY_RESULT. -/
theorem entrySize_ruleEntries : entrySize 0x2901 0 = 2 ∧ entrySize 0x2901 6 = 8 ∧ entrySize 0x2901 7 = 1 ∧
    entrySize 0x2907 3 = 8 := by decide

/-- The result of a batch with no record at fault. -/
theorem stageResult_done : stageResult 0xFFFFFFFF 0 % 2 ^ (8 * 8) = 0xFFFFFFFF := by simp [stageResult]

/-- A batch that fails changes its result and nothing else of the rule set (R424). -/
theorem actRuleStage_of_error {s : State} {bs : Bytes} {i reason : Nat} (ha : s.contract.activation ≠ 1)
    (hread : s.readCab 0 (s.e 0x2901 1) (160 * s.e 0x2901 2) = .ok bs)
    (happly : s.applyRules s.packet.shadow 0 (chunksOf 160 (s.e 0x2901 2) bs) = .error (i, reason)) (r : ActReq) :
    ∃ t, actRuleStage r s = .ok (t, false) ∧ t.mem = s.mem ∧ t.packet = s.packet ∧
      t.e 0x2901 6 = stageResult i reason % 2 ^ 64 ∧ t.e 0x2901 7 = s.e 0x2901 7 := by
  obtain ⟨-, hsize, -⟩ := entrySize_ruleEntries
  unfold actRuleStage
  simp only [ha, hread, happly, if_false]
  refine ⟨_, rfl, rfl, rfl, ?_, ?_⟩
  · rw [State.e_def, State.put_def, State.ent_putEnt, hsize]
  · exact State.ent_putEnt_ne _ _ _ _ _ _ _ _ (by decide)

/-- A batch that passes becomes the shadow (R424). -/
theorem actRuleStage_of_ok {s : State} {bs : Bytes} {rules : RuleSet} (ha : s.contract.activation ≠ 1)
    (hread : s.readCab 0 (s.e 0x2901 1) (160 * s.e 0x2901 2) = .ok bs)
    (happly : s.applyRules s.packet.shadow 0 (chunksOf 160 (s.e 0x2901 2) bs) = .ok rules) (r : ActReq) :
    ∃ t, actRuleStage r s = .ok (t, false) ∧ t.mem = s.mem ∧ t.packet.shadow = rules ∧
      t.packet.committed = s.packet.committed ∧ t.e 0x2901 6 = 0xFFFFFFFF ∧ t.e 0x2901 0 = s.e 0x2901 0 ∧
      t.e 0x2901 7 = if s.e 0x2901 7 = 0 then 1 else s.e 0x2901 7 := by
  obtain ⟨-, hresult, hstate, -⟩ := entrySize_ruleEntries
  unfold actRuleStage
  simp only [ha, hread, happly, if_false]
  refine ⟨_, rfl, ?_, rfl, rfl, ?_, ?_, ?_⟩
  · split <;> rfl
  all_goals
    split <;> simp (disch := decide) [State.ent_eq, entIn_putEnt_ne, hresult, hstate, stageResult]

/-- A commit that no version's drain holds back (R426, R427). -/
theorem actRuleCommit_of_ready {s : State} (ha : s.contract.activation ≠ 1) (hs : s.e 0x2901 7 ≠ 2) (r : ActReq) :
    ∃ t, actRuleCommit r s = .ok (t, false) ∧ t.mem = s.mem ∧ t.e 0x2901 0 = (s.e 0x2901 0 + 1) % 2 ^ 16 ∧
      t.e 0x2901 7 = 2 ∧ t.packet.committed = s.packet.shadow ∧ t.packet.previous = some s.packet.committed ∧
      t.packet.shadow = s.packet.shadow ∧ t.packet.queues = s.packet.queues ∧ t.packet.frags = s.packet.frags := by
  obtain ⟨hversion, -, hstate, -⟩ := entrySize_ruleEntries
  unfold actRuleCommit
  simp only [ha, hs, if_false]
  refine ⟨_, rfl, rfl, ?_, ?_, rfl, rfl, rfl, rfl, rfl⟩
  all_goals simp (disch := decide) [State.ent_eq, entIn_putEnt_ne, hversion, hstate]

/-- A commit while a version drains is refused (R427). -/
theorem actRuleCommit_of_draining {s : State} (ha : s.contract.activation ≠ 1) (hs : s.e 0x2901 7 = 2) (r : ActReq) :
    actRuleCommit r s = .error (.state 2 0) := by
  simp only [actRuleCommit, ha, hs, if_false, if_true]

/-- The shadow is the committed rule set again (R427). -/
theorem actRuleDiscard_eq (s : State) (r : ActReq) :
    ∃ t, actRuleDiscard r s = .ok (t, false) ∧ t.mem = s.mem ∧ t.packet.shadow = s.packet.committed ∧
      t.packet.committed = s.packet.committed ∧ t.e 0x2901 0 = s.e 0x2901 0 ∧
      t.e 0x2901 7 = if s.e 0x2901 7 = 1 then 0 else s.e 0x2901 7 := by
  obtain ⟨-, -, hstate, -⟩ := entrySize_ruleEntries
  refine ⟨_, rfl, ?_, rfl, rfl, ?_, ?_⟩
  · dsimp only
    split <;> rfl
  all_goals split <;> simp (disch := decide) [State.ent_eq, entIn_putEnt_ne, hstate]

/-! ### Traffic-manager records (R437 to R439) -/

/-- A record of a batch stores nothing in device memory. -/
theorem State.applyTm_mem {s t : State} {b : Bytes} (h : s.applyTm b = .ok t) : t.mem = s.mem := by
  unfold State.applyTm at h
  split at h
  · split at h
    · cases h
    · dsimp only at h
      split at h
      · cases h
      · cases h
        rfl
  · split at h
    · split at h
      · cases h
      · cases h
        rfl
    · cases h

/-- A batch stores nothing in device memory. -/
theorem State.applyTms_mem {s t : State} {i : Nat} {l : List Bytes} (h : s.applyTms i l = .ok t) : t.mem = s.mem := by
  induction l generalizing s i with
  | nil =>
    cases h
    rfl
  | cons b l ih =>
    rw [State.applyTms] at h
    split at h
    · cases h
    · next hb => exact (ih h).trans (State.applyTm_mem hb)

/-- An ENABLED subscriber record replaces the one of its number, whatever is queued (R439). -/
theorem State.putSubscriber_of_enabled (s : State) {x : Subscriber} (h : x.enabled = true) :
    s.putSubscriber x = { s with packet := { s.packet with
      subscribers := s.packet.subscribers.filter (fun y => y.id != x.id) ++ [x] } } := by
  unfold State.putSubscriber
  split
  · simp [h]
  · rfl

/-- The subscribers after one is replaced. -/
theorem State.subscriber?_putSubscriber (s : State) {x : Subscriber} (h : x.enabled = true) (i : Nat) :
    (s.putSubscriber x).subscriber? i = if i = x.id then some x else s.subscriber? i := by
  rw [State.putSubscriber_of_enabled s h, State.subscriber?, List.find?_append]
  split
  · next hi =>
    rw [hi, List.find?_eq_none.2 fun y hy => by simpa using (List.mem_filter.1 hy).2]
    simp
  · next hi =>
    rw [List.find?_filter, State.subscriber?, List.find?_singleton, if_neg (by simpa using Ne.symm hi), Option.or_none]
    congr 1
    funext y
    by_cases hy : y.id = i
    · simp [hy, hi]
    · simp [hy]

/-- A new ENABLED subscriber whose cabinet has a share left is accepted (R437). -/
theorem State.applyTm_of_subscriber {s : State} {b : Bytes} {x : Subscriber} (hp : parseSubscriber b = .ok x)
    (hop : field b 0 1 = 1) (hroom : s.subscribersOf x.cabinet < s.share x.cabinet 5) :
    s.applyTm b = .ok (s.putSubscriber x) := by
  simp [State.applyTm, hop, hp, hroom]

/-- TM_APPLY of a batch that fails changes its result and nothing else (R439). -/
theorem actTmApply_of_error {s : State} {bs : Bytes} {i reason : Nat} (ha : s.contract.activation ≠ 1)
    (hread : s.readCab 0 (s.e 0x2907 0) (128 * s.e 0x2907 1) = .ok bs)
    (happly : s.applyTms 0 (chunksOf 128 (s.e 0x2907 1) bs) = .error (i, reason)) (r : ActReq) :
    actTmApply r s = .ok (s.put 0x2907 3 (stageResult i reason), false) := by
  simp only [actTmApply, ha, hread, happly, if_false]

/-- TM_APPLY of a batch that passes (R439). -/
theorem actTmApply_of_ok {s t : State} {bs : Bytes} (ha : s.contract.activation ≠ 1)
    (hread : s.readCab 0 (s.e 0x2907 0) (128 * s.e 0x2907 1) = .ok bs)
    (happly : s.applyTms 0 (chunksOf 128 (s.e 0x2907 1) bs) = .ok t) (r : ActReq) :
    actTmApply r s = .ok (t.put 0x2907 3 (stageResult 0xFFFFFFFF 0), false) := by
  simp only [actTmApply, ha, hread, happly, if_false]

/-! ### The commands (R424, R426, R427, R439) -/

/-- RULE_STAGE (R424). -/
theorem completes_ruleStage {s : State} {r : ActReq} {bs : Bytes} (h : Granted s r 0x2901 3)
    (hread : s.readCab 0 (s.e 0x2901 1) (160 * s.e 0x2901 2) = .ok bs) :
    (∀ i reason, s.applyRules s.packet.shadow 0 (chunksOf 160 (s.e 0x2901 2) bs) = .error (i, reason) →
      Completes (exec (.ruleStage r) s) fun u => SameBytes s u ∧ u.packet = s.packet ∧
        u.e 0x2901 6 = stageResult i reason % 2 ^ 64 ∧ u.e 0x2901 7 = s.e 0x2901 7) ∧
    (∀ rules, s.applyRules s.packet.shadow 0 (chunksOf 160 (s.e 0x2901 2) bs) = .ok rules →
      Completes (exec (.ruleStage r) s) fun u => SameBytes s u ∧ u.packet.shadow = rules ∧
        u.packet.committed = s.packet.committed ∧ u.e 0x2901 6 = 0xFFFFFFFF ∧ u.e 0x2901 0 = s.e 0x2901 0 ∧
        u.e 0x2901 7 = if s.e 0x2901 7 = 0 then 1 else s.e 0x2901 7) := by
  refine ⟨fun i reason happly => ?_, fun rules happly => ?_⟩
  · obtain ⟨t, ht, hmem, hpacket, hresult, hstate⟩ := actRuleStage_of_error h.activation_ne hread happly r
    refine (completes_actOpen h (.inl ht)).imp fun u hu => ?_
    rw [hu.packet, hu.e_rule (by decide), hu.e_rule (by decide)]
    exact ⟨hu.sameBytes hmem, hpacket, hresult, hstate⟩
  · obtain ⟨t, ht, hmem, hshadow, hcommitted, hresult, hversion, hstate⟩ := actRuleStage_of_ok h.activation_ne hread happly r
    refine (completes_actOpen h (.inl ht)).imp fun u hu => ?_
    rw [hu.packet, hu.e_rule (by decide), hu.e_rule (by decide), hu.e_rule (by decide)]
    exact ⟨hu.sameBytes hmem, hshadow, hcommitted, hresult, hversion, hstate⟩

/-- RULE_COMMIT (R426, R427). -/
theorem completes_ruleCommit {s : State} {r : ActReq} (h : Granted s r 0x2901 4) :
    (s.e 0x2901 7 ≠ 2 → Completes (exec (.ruleCommit r) s) fun u => SameBytes s u ∧
      u.e 0x2901 0 = (s.e 0x2901 0 + 1) % 2 ^ 16 ∧ u.e 0x2901 7 = 2 ∧ u.packet.committed = s.packet.shadow ∧
      u.packet.previous = some s.packet.committed ∧ u.packet.shadow = s.packet.shadow ∧ u.packet.queues = s.packet.queues ∧
      u.packet.frags = s.packet.frags) ∧
    (s.e 0x2901 7 = 2 → Completes (exec (.ruleCommit r) s) fun u => SameBytes s u ∧ u.packet = s.packet ∧
      u.e 0x2901 0 = s.e 0x2901 0 ∧ u.e 0x2901 7 = 2) := by
  refine ⟨fun hs => ?_, fun hs => ?_⟩
  · obtain ⟨t, ht, hmem, hversion, hstate, hparts⟩ := actRuleCommit_of_ready h.activation_ne hs r
    refine (completes_actOpen h (.inl ht)).imp fun u hu => ?_
    rw [hu.packet, hu.e_rule (by decide), hu.e_rule (by decide)]
    exact ⟨hu.sameBytes hmem, hversion, hstate, hparts⟩
  · refine (completes_actOpen h (.inr ⟨rfl, _, _, actRuleCommit_of_draining h.activation_ne hs r⟩)).imp fun u hu => ?_
    rw [hu.packet, hu.e_rule (by decide), hu.e_rule (by decide)]
    exact ⟨hu.sameBytes rfl, rfl, rfl, hs⟩

/-- RULE_DISCARD (R427). -/
theorem completes_ruleDiscard {s : State} {r : ActReq} (h : Granted s r 0x2901 5) :
    Completes (exec (.ruleDiscard r) s) fun u => SameBytes s u ∧ u.packet.shadow = s.packet.committed ∧
      u.packet.committed = s.packet.committed ∧ u.e 0x2901 0 = s.e 0x2901 0 ∧
      u.e 0x2901 7 = if s.e 0x2901 7 = 1 then 0 else s.e 0x2901 7 := by
  obtain ⟨t, ht, hmem, hshadow, hcommitted, hversion, hstate⟩ := actRuleDiscard_eq s r
  refine (completes_act h ht).imp fun u hu => ?_
  rw [hu.packet, hu.e_rule (by decide), hu.e_rule (by decide)]
  exact ⟨hu.sameBytes hmem, hshadow, hcommitted, hversion, hstate⟩

/-- VERSION_DRAINED ends the draining (R427). -/
theorem completes_versionDrained {s : State} (hs : s.e 0x2901 7 = 2) :
    Completes (exec .versionDrained s) fun u => u.mem = s.mem ∧ u.packet.previous = none ∧
      u.packet.committed = s.packet.committed ∧ u.packet.shadow = s.packet.shadow ∧
      u.e 0x2901 7 = (if s.packet.stagedMeanwhile = true then 1 else 0) := by
  obtain ⟨-, -, hstate, -⟩ := entrySize_ruleEntries
  show Completes (execVersionDrained s) _
  rw [execVersionDrained, if_pos hs, completes_quiet]
  refine ⟨rfl, rfl, rfl, rfl, ?_⟩
  split <;> simp [State.ent_eq, hstate]

/-- VERSION_DRAINED while no version drains: its condition does not hold (notes/assumptions/6.md). -/
theorem exec_versionDrained_of_settled {s : State} (hs : s.e 0x2901 7 ≠ 2) : exec .versionDrained s = .next s :=
  if_neg hs

/-- TM_APPLY (R437 to R439). -/
theorem completes_tmApply {s : State} {r : ActReq} {bs : Bytes} (h : Granted s r 0x2907 2)
    (hread : s.readCab 0 (s.e 0x2907 0) (128 * s.e 0x2907 1) = .ok bs) :
    (∀ i reason, s.applyTms 0 (chunksOf 128 (s.e 0x2907 1) bs) = .error (i, reason) →
      Completes (exec (.tmApply r) s) fun u => SameBytes s u ∧ u.packet = s.packet ∧
        u.e 0x2907 3 = stageResult i reason % 2 ^ 64) ∧
    (∀ t, s.applyTms 0 (chunksOf 128 (s.e 0x2907 1) bs) = .ok t →
      Completes (exec (.tmApply r) s) fun u => SameBytes s u ∧ u.packet = t.packet ∧ u.e 0x2907 3 = 0xFFFFFFFF) := by
  obtain ⟨-, -, -, hsize⟩ := entrySize_ruleEntries
  refine ⟨fun i reason happly => ?_, fun t happly => ?_⟩
  · refine (completes_actOpen h (.inl (actTmApply_of_error h.activation_ne hread happly r))).imp fun u hu =>
      ⟨hu.sameBytes (State.putEnt_mem ..), hu.packet.trans (State.putEnt_packet ..), ?_⟩
    rw [hu.e_eq (by decide) (by decide) (by decide), State.e_def, State.put_def, State.ent_putEnt, hsize]
  · refine (completes_actOpen h (.inl (actTmApply_of_ok h.activation_ne hread happly r))).imp fun u hu =>
      ⟨hu.sameBytes ((State.putEnt_mem ..).trans (State.applyTms_mem happly)), hu.packet.trans (State.putEnt_packet ..), ?_⟩
    rw [hu.e_eq (by decide) (by decide) (by decide), State.e_def, State.put_def, State.ent_putEnt, hsize, stageResult_done]

/-- Settles O40, a lemma for each command.  That a VERSION_DRAINED of a version that does not drain leaves the state is the
model's choice (notes/assumptions/6.md). -/
theorem ruleCommandsComplete : Obligations.RuleCommandsComplete := by
  unfold Obligations.RuleCommandsComplete
  refine ⟨?stage, ?commit, ?discard, ?drained, ?tmApply, ?subscriber⟩
  case stage =>
    intro s r bs h hread
    obtain ⟨hfails, hpasses⟩ := completes_ruleStage h hread
    refine ⟨hfails, fun rules happly => (hpasses rules happly).imp ?_⟩
    rintro u ⟨hbytes, hshadow, hcommitted, hresult, hversion, hstate⟩
    exact ⟨hbytes, hshadow, hcommitted, hresult, hversion, fun h0 => hstate.trans (if_pos h0),
      fun h0 => hstate.trans (if_neg h0)⟩
  case commit => exact fun s r h => completes_ruleCommit h
  case discard =>
    refine fun s r h => (completes_ruleDiscard h).imp ?_
    rintro u ⟨hbytes, hshadow, hcommitted, hversion, hstate⟩
    exact ⟨hbytes, hshadow, hcommitted, hversion, fun h1 => hstate.trans (if_pos h1), fun h1 => hstate.trans (if_neg h1)⟩
  case drained =>
    exact fun s => ⟨completes_versionDrained, fun hs => ⟨s, exec_versionDrained_of_settled hs, rfl⟩⟩
  case tmApply => exact fun s r bs h hread => completes_tmApply h hread
  case subscriber =>
    intro s b x hp hop henabled hroom
    refine ⟨s.putSubscriber x, by rw [State.applyTms, State.applyTm_of_subscriber hp hop hroom]; rfl, ?_, ?_, fun i hi => ?_⟩
    · rw [State.subscriber?_putSubscriber s henabled, if_pos rfl]
    · rw [State.putSubscriber_of_enabled s henabled]
    · rw [State.subscriber?_putSubscriber s henabled, if_neg hi]

end Sys2Proof.Machine
